-- ==== Sys2Proof/Word.lean ====
section
/-!
DEFINITION. The plain words of the model: bytes, register words, wide counters, and the sparse
store used wherever the hardware holds a large array (memory, side bands, accumulators, tables).
-/

namespace Sys2Proof

/-- One byte of memory. -/
abbrev Byte := BitVec 8

/-- One 32-bit register word, and one fp32 value by its bit pattern. -/
abbrev Word := BitVec 32

/-- A 64-bit counter or parameter register. -/
abbrev DWord := BitVec 64

/-- A sparse array: pairs of an index and a value, indices strictly rising, no pair holding the
value an unlisted index reads as. -/
abbrev Store (β : Type) := List (Nat × β)

/-- A real number `m * 2 ^ e`, exact. -/
structure Dy where
  /-- The signed significand. -/
  m : Int
  /-- The exponent of two. -/
  e : Int
  deriving DecidableEq, Repr

/-- A decoded floating-point value (02 R28): a NaN, an infinity, or a finite value with its sign
kept apart so that a zero keeps it (R32). -/
inductive Num where
  /-- Any NaN; payloads are not kept (R38). -/
  | nan
  /-- An infinity of the sign given. -/
  | inf (neg : Bool)
  /-- The value `± m * 2 ^ e`. -/
  | fin (neg : Bool) (m : Nat) (e : Int)
  deriving DecidableEq, Repr

/-- What the codes with an all-ones exponent mean (02 Tables 2-1 and 2-2). -/
inductive Special where
  /-- Infinity with a zero fraction, NaN otherwise. -/
  | ieee
  /-- Only the all-ones code is NaN; there is no infinity. -/
  | e4m3
  /-- Every code is finite. -/
  | none
  deriving DecidableEq, Repr

/-- A floating-point format: its field widths, its bias and its special codes. -/
structure FltFmt where
  /-- Exponent bits. -/
  ebits : Nat
  /-- Fraction bits. -/
  fbits : Nat
  /-- Exponent bias. -/
  bias : Nat
  /-- Special codes. -/
  sp : Special
  deriving DecidableEq, Repr

/-- The two rounding modes of a narrowing conversion (02 R41, R42). -/
inductive Rounding where
  /-- To nearest, ties to even. -/
  | rne
  /-- Stochastic, with a 16-bit draw of the keyed generator. -/
  | sr (draw : Nat)
  deriving DecidableEq, Repr

/-- An element of a wide accumulator (02 R44, R45), W320 or W192 by the tile that holds it. -/
structure WideElt where
  /-- The integer `V`. -/
  v : Int := 0
  /-- A NaN has been added. -/
  nan : Bool := false
  /-- A +infinity has been added. -/
  pinf : Bool := false
  /-- A -infinity has been added. -/
  ninf : Bool := false
  /-- An addend outside the window has been refused (W192 only). -/
  oow : Bool := false
  /-- `V` would have left its range. -/
  ovf : Bool := false
  deriving DecidableEq, Repr

end Sys2Proof
end

