-- ==== Sys2Proof/Syntax.lean ====
section
/-!
DEFINITION. The commands: one constructor for each row of the opcode table. A command is an access by a
requester (its operand `ini` is the requester's number of 12 Table 12-7), a move of an engine, a controller or a
transport, an arrival from outside, or an event that an outside fact causes (log 1). Operands that only an outside
fact fixes, such as the words found in error by a read (log 7), stand in the command; where such an operand has a default,
leaving it out says that nothing of the kind is met.
-/

namespace Sys2Proof

/-! ## Operands -/

/-- A requester of the control plane (12 Table 12-7): 0-15 host cores, 16 debug port, 17 Deckle, 18 fabric ring
engine, 19 management DMA, 20 flash transfer engine. -/
abbrev Ini := Fin 21
/-- A core position (01 R15). -/
abbrev CoreNo := Fin 4096
/-- A queue of a core (04 R97). -/
abbrev QueueNo := Fin 4
/-- A tile island (01 Table 1-1). -/
abbrev TileNo := Fin 64
/-- A job (06 R166). -/
abbrev JobNo := Fin 32
/-- A fabric port (10 R286). -/
abbrev PortNo := Fin 16
/-- A stack (12 R356). -/
abbrev StackNo := Fin 8
/-- A page or shared object in the Vat: job * 2^23 + virtual page, 2^28 + shared object id, or 2^29
and above for a released page still in the Vat (the model's own numbering). -/
abbrev ObjKey := Nat

/-- A fabric frame: its sixteen header words and its payload bytes (10 R292, R293). -/
structure Machine.Frame where
  hdr : List Word := []
  pay : List Byte := []
  deriving DecidableEq, Repr

/-- A codeword as it is sent: its 20-bit block control and its ten units of 64 B (10 R288). -/
structure Machine.Codeword where
  ctl : BitVec 20 := 0
  units : List (List Byte) := []
  deriving DecidableEq, Repr

/-- Whose next sheet a circuit is to carry (07 R221): that of a page object's granted transfer, of a COPY of queue `q` of core
`n` (4: the injected one), or of a port engine. -/
inductive Machine.Carrier where
  | page (k : ObjKey)
  | copy (n : CoreNo) (q : Fin 5)
  | port (p : PortNo)
  deriving DecidableEq, Repr

/-! ## The commands -/

/-- One command of the opcode table. -/
inductive Instr where
  /-- REGISTER_WRITE (R10): A write to a register field that has no behaviour of its own sets the field, or its
  shadow for a CS field, according to its access code. -/
  | registerWrite (ini : Ini) (page : Fin 16384) (o : Fin 4096) (size : Nat) (v : Word)
  /-- BLK_COMMIT (R365): A write of 1 to BLK_COMMIT copies every shadow of the page into its active copy, unless
  the block refuses the commit. -/
  | blkCommit (ini : Ini) (page : Fin 16384)
  /-- MBOX_SEL (R368): A write to MBOX_SEL discards any snapshot the page holds and captures every word of the
  selected wide value. -/
  | mboxSel (ini : Ini) (page : Fin 16384) (sel : Fin 65536)
  /-- MBOX_DATA_HI (R368): A read of MBOX_DATA_HI returns snapshot word NEXT + 1, advances NEXT by 2, and clears
  VALID at the end of the snapshot. -/
  | mboxDataHi (ini : Ini) (page : Fin 16384)
  /-- IND_DATA (R369): An access to IND_DATA reads or writes word IND_ADDR of the selected indirect space and
  advances IND_ADDR, or completes with a bus error. -/
  | indData (ini : Ini) (page : Fin 16384) (wr : Option Word) (err : Option Bool)
  /-- BIT_ALIAS (R370): An access to the bit-alias window reads one register bit, or writes it by one
  indivisible read-modify-write. -/
  | bitAlias (ini : Ini) (a : Fin 2147483648) (wr : Option Word) (size : Nat := 4)
  /-- WINDOW_ENTRY (R116): Descriptors enter a queue's issue window in ring order, up to four per island cycle,
  and are checked as they enter. -/
  | windowEntry (n : CoreNo) (q : QueueNo)
  /-- DESCRIPTOR_FETCH (R118): A descriptor cache line that missed is fetched over a descriptor-fetch circuit
  and replaces the line it maps to. -/
  | descriptorFetch (n : CoreNo) (q : QueueNo) (errs : List (Nat × Nat × Nat)) (drop : Option CoreNo := none)
  /-- NOP (R111): NOP issues on the sequencer and completes at issue. -/
  | nop (n : CoreNo)
  /-- BARRIER (R197): BARRIER issues and counts one arrival at its job barrier, and completes when the barrier
  releases. -/
  | barrier (n : CoreNo)
  /-- SIGNAL (R111): SIGNAL issues on the sequencer, completes at issue and fires its signals. -/
  | signal (n : CoreNo)
  /-- OPA (R62): OPA issues to the array, which accumulates K rank-one updates of the A and B sheets into a
  tile. -/
  | opa (n : CoreNo) (errs : List (Nat × Nat × Bool))
  /-- OPA_T (R74): OPA_T issues to the array with one operand passed through the transposing buffer. -/
  | opaT (n : CoreNo) (errs : List (Nat × Nat × Bool))
  /-- LOADACC (R111): LOADACC issues and fills an accumulator slot from a sheet, or with zero. -/
  | loadacc (n : CoreNo) (errs : List (Nat × Nat × Bool))
  /-- DRAIN (R82): DRAIN issues and passes an accumulator slot through the Screed stage to its output sheets. -/
  | drain (n : CoreNo) (errs : List (Nat × Nat × Bool))
  /-- MATVEC (R75): MATVEC issues to the matrix-vector path, or as a pooled request to a batch-pool core. -/
  | matvec (n : CoreNo) (errs : List (Nat × Nat × Bool))
  /-- VEC (R79): VEC issues and applies one vector-unit function, element by element or as a reduction. -/
  | vec (n : CoreNo) (errs : List (Nat × Nat × Bool))
  /-- TABLE_APPLY (R113): TABLE_APPLY issues and passes a sheet through the Screed stage with a function table.
  -/
  | tableApply (n : CoreNo) (errs : List (Nat × Nat × Bool))
  /-- COPY (R111): COPY issues and copies sheets from A to OUT, over a plan stream or a circuit. -/
  | copy (n : CoreNo) (errs : List (Nat × Nat × Bool))
  /-- CONVERT (R115): CONVERT issues and converts stored vectors of A into OUT in the target format. -/
  | convert (n : CoreNo) (errs : List (Nat × Nat × Bool))
  /-- RNG_FILL (R280): RNG_FILL issues and writes keyed random values of the selected distribution to OUT. -/
  | rngFill (n : CoreNo) (errs : List (Nat × Nat × Bool))
  /-- REDUCE (R216): REDUCE issues and sends a slot or fp32 sheet as a contribution to an island reducer tile.
  -/
  | reduce (n : CoreNo) (errs : List (Nat × Nat × Bool))
  /-- SKIM_PART (R266): SKIM_PART issues and sends a partial sum of squares, with its non-finite flag and poison
  count, to its island's Skim adder. -/
  | skimPart (n : CoreNo) (errs : List (Nat × Nat × Bool))
  /-- UPDATE (R263): UPDATE issues and applies the optimizer rule to masters, moments and working copies. -/
  | update (n : CoreNo) (errs : List (Nat × Nat × Bool))
  /-- GATHER (R259): GATHER issues on the port engine and assembles a tensor from the shards of a gather group.
  -/
  | gather (n : CoreNo) (told : Unit)
  /-- COLL (R307): COLL issues on the port engine and runs a collective on its communicator. -/
  | coll (n : CoreNo) (told : Unit)
  /-- SWAP_TOKEN_ENTRY (R68): A swap token enters cell (0, 0) once the starting rows are loaded in time and 33
  cycles have passed since the previous token. -/
  | swapTokenEntry (n : CoreNo)
  /-- FLUSH_TOKEN (R69): When a waiting descriptor needs a slot held in the active accumulators, the array
  injects a flush token so that the tile is written back. -/
  | flushToken (n : CoreNo)
  /-- TBUF_HALF_FILL (R74): A half of the transposing buffer finishes filling from the slice and becomes ready
  to present its groups. -/
  | tbufHalfFill (n : CoreNo)
  /-- MATVEC_PASS_END (R75): At the end of a pass, the matrix-vector path writes its 64 results to two slot
  rows. -/
  | matvecPassEnd (n : CoreNo) (errs : List (Nat × Nat × Bool))
  /-- BPOOL_REQUEST (R77): A batch-pool core collects a MATVEC request whose vector has been delivered into its
  slice. -/
  | bpoolRequest (c : CoreNo) (n : CoreNo) (q : QueueNo) (i : Nat) (errs : List (Nat × Nat × Bool))
  /-- BPOOL_TIMEOUT (R77): When the oldest collected request has waited the pool's limit, the pool core launches
  a partial batch. -/
  | bpoolTimeout (c : CoreNo)
  /-- NUM_CLEAR (R92): Writing 1 to NUM_CLEAR.NONFINITE clears the non-finite latch and its source bits, unless
  a new value arrives in the same cycle. -/
  | numClear (ini : Ini) (n : CoreNo)
  /-- FTAB_SWAP_REQUEST (R90): Writing 1 to FTAB_LOAD.SWAP requests the replacement of the target function
  table, or is refused while the staging image is bad. -/
  | ftabSwapRequest (ini : Ini) (n : CoreNo)
  /-- FTAB_SWAP (R90): In the first island cycle in which no issued descriptor names the target table, the
  staging image replaces it whole. -/
  | ftabSwap (n : CoreNo)
  /-- DESCRIPTOR_COMPLETE (R119): A descriptor completes with a status, fires its signals or halts its queue,
  and releases its references. -/
  | descriptorComplete (n : CoreNo) (q : Fin 5) (i : Nat) (errs : List (Nat × Nat × Bool))
  /-- START (R127): QCMD.START starts a queue's ring from IDLE, or halts the queue when the ring or mode is bad.
  -/
  | start (ini : Ini) (n : CoreNo) (q : QueueNo)
  /-- STOP (R127): QCMD.STOP stops a queue's issue, and the queue enters STOPPED. -/
  | stop (ini : Ini) (n : CoreNo) (q : QueueNo)
  /-- RESUME (R127): QCMD.RESUME returns a queue from STOPPED or BREAK to RUNNING, DRAINING or IDLE. -/
  | resume (ini : Ini) (n : CoreNo) (q : QueueNo)
  /-- ABORT (R128): QCMD.ABORT halts a queue, which records SOFT_ABORT. -/
  | abort (ini : Ini) (n : CoreNo) (q : QueueNo)
  /-- RESET (R128): QCMD.RESET returns a quiet queue to IDLE and clears its fault, its counts and any pending
  flip or patch. -/
  | reset (ini : Ini) (n : CoreNo) (q : QueueNo)
  /-- FLIP (R126): QCMD.FLIP names the inactive ring half as the flip target, and pins it and discards its cache
  lines. -/
  | flip (ini : Ini) (n : CoreNo) (q : QueueNo)
  /-- PREG_ARM (R124): QCMD.PREG_ARM arms the shadow parameter registers for commit at the next replay boundary.
  -/
  | pregArm (ini : Ini) (n : CoreNo) (q : QueueNo)
  /-- ACK_IRQ (R130): QCMD.ACK_IRQ clears the queue's IRQ_PEND. -/
  | ackIrq (ini : Ini) (n : CoreNo) (q : QueueNo)
  /-- EVENT_SIGNAL (R107): A signal arriving at an island event table adds its increment to the named counter.
  -/
  | eventSignal (i : TileNo)
  /-- VAT_WINDOW_READ (R158): A host read through the Vat window returns payload when a bank slot is free to
  serve it. -/
  | vatWindowRead (ini : Ini) (off : Fin 8589934592) (size : Nat) (err : Option Bool) (drop : Option CoreNo := none)
  /-- VAT_WINDOW_WRITE (R159): A host write through the Vat window is accepted and merged into its line, or
  refused. -/
  | vatWindowWrite (ini : Ini) (off : Fin 8589934592) (size : Nat) (v : Nat) (err : Option Bool) (drop : Option CoreNo := none)
  /-- VAT_WINDOW_TIMEOUT (R158): A window access not served within 65,536 island cycles completes with a bus
  error. -/
  | vatWindowTimeout (ini : Ini) (off : Fin 8589934592)
  /-- PATROL_SCRUB (R152): The slice scrubber reads and corrects the next line in a cycle in which a free bank
  holds it. -/
  | patrolScrub (n : CoreNo) (err : Option Bool)
  /-- FELT_PUSH (R155): A handle push arrives at a felt queue and is queued, buffered, refused or discarded. -/
  | feltPush (i : TileNo)
  /-- FELT_PUSH_BUFFER (R156): A waiting push in the island push buffer enters its felt queue once an entry
  frees. -/
  | feltPushBuffer (i : TileNo)
  /-- PUSH (R157): A host write to a felt queue's PUSH word pushes a handle into the queue. -/
  | push (ini : Ini) (i : TileNo) (q : Fin 256) (v : Word)
  /-- PLACE (R171): The PLACE command checks a region image, chooses an origin and configures the region's
  cores. -/
  | place (ini : Ini) (es : List (Nat × Nat × Nat))
  /-- SLOT_PLAN_LOAD (R223): Once no circuit holds a plan slot of the rectangle, placement loads slot owners,
  felt queues and events, and completes. -/
  | slotPlanLoad
  /-- REMOVE (R172): The REMOVE command drains a region's pages and frees its events, felt queues, bank plan and
  barrier contributions. -/
  | remove (ini : Ini)
  /-- PAGES (R176): The PAGES command processes a list of page records in order, and stops at the first that
  fails. -/
  | pages (ini : Ini) (es : List (Nat × Nat × Nat))
  /-- DECLARE (R177): A DECLARE record declares a page with a Vat home and allocates its stack page. -/
  | declare
  /-- SET_HINT (R183): A SET_HINT record changes the hint of a declared page. -/
  | setHint
  /-- RELEASE (R186): A RELEASE record undeclares a page without write-back and frees its stack page. -/
  | release
  /-- SHARE (R182): A SHARE record maps a page onto a shared object, and creates the object for its first
  mapping. -/
  | share
  /-- WRITEBACK (R176): A WRITEBACK record writes a dirty resident page back and leaves it resident and clean.
  -/
  | writeback
  /-- CMD_ACK (R203): CMD.ACK clears DONE_PEND of the Deckle command. -/
  | cmdAck (ini : Ini)
  /-- HOME_FRAME_TAKEN (R179): A fill that waited for a home frame takes the frame once it is free or has been
  evicted. -/
  | homeFrameTaken (k : ObjKey)
  /-- FILL_DONE (R181): When the last burst of a fill lands, the page becomes RESIDENT with every sheet unread.
  -/
  | fillDone (k : ObjKey) (told : Unit)
  /-- ZERO_FILL_DONE (R186): When a zero fill has written its frame, the page becomes RESIDENT. -/
  | zeroFillDone (k : ObjKey)
  /-- DRAIN_DONE (R181): A DRAINING page whose references reach 0, with any write-back done, becomes ABSENT and
  frees its frame and charge. -/
  | drainDone (k : ObjKey)
  /-- WRITEBACK_DONE (R186): A page write-back to its stack page finishes and sets STACK_VALID. -/
  | writebackDone (k : ObjKey) (told : Unit)
  /-- STACK_GRANT (R194): In a Deckle cycle with room on a stack, the Deckle grants one transfer by deficit or
  dry time. -/
  | stackGrant (n : StackNo)
  /-- RATE_WINDOW (R193): At the end of each 4,096-cycle window, each stream's RATE16 is updated from its reads.
  -/
  | rateWindow
  /-- SPILL_IDLE_WRITEBACK (R183): A dirty SPILL page that has held no reference for 4,096 Deckle cycles is
  written back and stays resident. -/
  | spillIdleWriteback (k : ObjKey)
  /-- PREFETCH_REQUEST (R190): The prefetch walk requests the next eligible page of its window as a prefetch. -/
  | prefetchRequest (j : JobNo) (es : List (Nat × Nat × Nat))
  /-- PF_WALK_RESUME (R191): A blocked prefetch walk resumes at the same page when quota headroom appears. -/
  | pfWalkResume (j : JobNo)
  /-- PF_ADVANCE (R192): JOB_CMD.PF_ADVANCE, or a release of the layer barrier, advances PF_CUR and restarts the
  walk. -/
  | pfAdvance (ini : Ini) (j : JobNo)
  /-- PF_RESET (R192): JOB_CMD.PF_RESET sets PF_CUR to 0 and restarts the walk. -/
  | pfReset (ini : Ini) (j : JobNo)
  /-- ENABLE (R166): JOB_CMD.ENABLE enables a disabled job and sets its attempt number to 0. -/
  | enable (ini : Ini) (j : JobNo)
  /-- RETIRE (R201): JOB_CMD.RETIRE releases every page of a job with no placed region and disables the job. -/
  | retire (ini : Ini) (j : JobNo)
  /-- JOB_ABORT (R200): JOB_CMD.ABORT halts every queue of the job, withdraws its prefetches and empties its
  felt queues. -/
  | jobAbort (ini : Ini) (j : JobNo)
  /-- ABORTING_CLEAR (R200): ABORTING clears once no descriptor of the aborting job is in flight. -/
  | abortingClear (j : JobNo)
  /-- BAR_ARRIVE (R197): A host write to BAR_ARRIVE counts one arrival at a job barrier. -/
  | barArrive (ini : Ini) (j : JobNo) (b : Fin 64)
  /-- BARRIER_RELEASE (R198): A barrier whose arrivals reach the expected count, with write-backs done if
  required, releases and completes its BARRIER descriptors. -/
  | barrierRelease (j : JobNo) (b : Fin 64)
  /-- DECKLE_READY (R250): DK_STATUS.READY becomes 1 once every stack is trained or failed. -/
  | deckleReady
  /-- LATH_FLIT (R218): A flit arriving at a Lath node is checked against its slot's owner, then forwarded,
  consumed or dropped. -/
  | lathFlit (n : CoreNo) (port : Fin 8) (bad : Bool) (slot : Fin 16 := 0)
  /-- VIOLATION (R218): A violation notice reaches the source of the stream or circuit, which proceeds by Table
  7-5. -/
  | violation (n : CoreNo)
  /-- CROSSING_EXIT (R219): A flit waiting in an island crossing channel leaves in its mapped slot, in channel
  order. -/
  | crossingExit (n : CoreNo) (port : Fin 8) (bad : Bool := false)
  /-- SEAM_CREDIT (R231): A seam credit returns when the receiving node forwards a flit, and a flit waiting for
  a credit may then cross. -/
  | seamCredit (row : Fin 64) (west : Bool)
  /-- CIRCUIT_OPEN (R223): The Deckle opens a transit circuit once slots map along the route and every node
  acknowledges. -/
  | circuitOpen (who : Machine.Carrier) (es : List (Nat × Nat × Nat) := []) (vs : List (Nat × Nat × Bool) := [])
  /-- SIDEBAND_MESSAGE (R225): A sideband message moves on from a node input when the output's rotation serves
  it and the next queue has room. -/
  | sidebandMessage (n : CoreNo) (o : Fin 5) (t : Fin 6)
  /-- ACC_LANDING (R217): An ACC flit in the landing buffer is written to accumulator memory in a free row-write
  cycle of an unbound slot. -/
  | accLanding (n : CoreNo)
  /-- REDUCER_CONTRIBUTION (R228): A contribution flit at an island reducer is added into its wide tile, and the
  contribution counts when its last flit arrives. -/
  | reducerContribution (i : TileNo) (r : Fin 4) (ce : Nat) (ue : Bool)
  /-- FALLBACK_START (R52): A W192 fallback request at the head of the queue takes the reserve and sends re-
  execute notices, or fails with no reserve. -/
  | fallbackStart (i : TileNo)
  /-- REEXEC (R52): A re-execute notice reaches a contributing core, which issues its waiting REDUCE again in
  W320 mode. -/
  | reexec (n : CoreNo)
  /-- ISL_ERR_CLR (R235): A write to ISL_ERR_CLR clears the selected bits of ISL_ERR. -/
  | islErrClr (ini : Ini) (i : TileNo) (v : Word)
  /-- STACK_ACCESS (R242): A burst access arrives at a stack controller from its edge links or host port and is
  decoded or written. -/
  | stackAccess (s : StackNo) (ini : Fin 22) (off : Fin 68719476736) (size : Nat) (wr : Option Nat) (n : Fin 37) (mis : Fin 3)
  /-- READ_RETRY (R245): An uncorrectable read is read again once when the bank is free, then delivered or
  treated as uncorrectable. -/
  | readRetry (s : StackNo) (n : Fin 37) (mis : Fin 3)
  /-- CORRECTIVE_WRITE (R246): A scheduled write of a corrected burst is made, or dropped if a newer write has
  arrived. -/
  | correctiveWrite (s : StackNo)
  /-- REFRESH (R247): A per-bank refresh falls due and is issued, postponed, or forced after 8 postponements. -/
  | refresh (s : StackNo) (ch : Fin 128) (bank : Fin 32) (queued : Bool)
  /-- STACK_SCRUB (R248): The stack patrol scrubber reads and corrects its next burst when no access needs the
  channel. -/
  | stackScrub (s : StackNo) (n : Fin 37) (mis : Fin 3)
  /-- STACK_BRINGUP (R250): After power-on or brown-out the controller calibrates, trains, checks and zeroes its
  stack, or marks it failed. -/
  | stackBringup (n : StackNo) (pins : List (Nat × Nat)) (eyes : List (Nat × Nat)) (chans : List Nat := []) (es : List (Nat × Nat × Nat) := [])
  /-- STK_ERR_ACK (R255): Writing STK_ERR_ACK deasserts the uncorrectable-burst interrupt of a stack. -/
  | stkErrAck (ini : Ini) (s : StackNo) (v : Word)
  /-- HOT (R249): A stack reaching 105 degrees C sets HOT and halves its burst rate. -/
  | hot (s : StackNo) (t : Nat)
  /-- SKIM_CONTRIBUTION (R268): A Skim adder accepts a SKIM_PART contribution into its slot's wide element and
  counts. -/
  | skimContribution (i : TileNo)
  /-- COLLECT (R271): A tile island receives the collect message, replies with its slot sums and counts, and
  zeroes them. -/
  | collect (i : TileNo)
  /-- SCREED_NOTICE (R276): A Screed non-finite notice reaches the Skim unit and is counted for the attempt, or
  counted late. -/
  | screedNotice
  /-- SKIM_ENABLE (R282): SKIM_CMD ENABLE loads STEP_COMMITTED from STEP_SET and puts an OFF job into
  ACCUMULATE. -/
  | skimEnable (ini : Ini) (j : JobNo)
  /-- SKIM_DISABLE (R282): SKIM_CMD DISABLE puts the job's Skim into OFF, leaving any fabric exchange. -/
  | skimDisable (ini : Ini) (j : JobNo)
  /-- FORCE_SKIP (R282): SKIM_CMD FORCE_SKIP adds one to the module's forced-skip count. -/
  | forceSkip (ini : Ini) (j : JobNo)
  /-- SKIM_ACK (R282): SKIM_CMD ACK clears the job's SKIM_PEND bit. -/
  | skimAck (ini : Ini) (j : JobNo)
  /-- LINK_ENABLE (R290): Committing CP_CTRL.EN starts link bring-up from DOWN, and clearing it takes the link
  to DISABLED. -/
  | linkEnable (ini : Ini) (p : PortNo)
  /-- LINK_TRAINING (R290): When PMD link training ends on every lane, the port starts searching for codeword
  lock. -/
  | linkTraining (p : PortNo)
  /-- LANE_LOCK (R290): When every lane has locked, the lanes are deskewed and the port enters HELLO, or the
  bring-up restarts. -/
  | laneLock (p : PortNo) (skew : Nat)
  /-- CODEWORD (R289): A received RS codeword is corrected and its units passed on, or it is uncorrectable and
  discarded. -/
  | codeword (p : PortNo) (c : Machine.Codeword) (bad : List (Fin 544 × BitVec 10))
  /-- HELLO (R290): A HELLO frame is received, and it brings the link UP when both sides have acknowledged. -/
  | hello (p : PortNo) (f : Machine.Frame)
  /-- HELLO_TIMER (R290): Every 1 us in HELLO state the port sends a HELLO frame. -/
  | helloTimer (p : PortNo)
  /-- FAB_SILENCE (R291): No valid header for FAB_SILENCE port cycles takes an UP link DOWN. -/
  | fabSilence (p : PortNo)
  /-- HEARTBEAT (R297): A HEARTBEAT frame is received, and the module recomputes its best serial and distance.
  -/
  | heartbeat (p : PortNo) (f : Machine.Frame)
  /-- HEARTBEAT_TIMER (R297): Every FAB_HB port cycles a HEARTBEAT is sent on every UP link. -/
  | heartbeatTimer
  /-- CREDIT (R294): A CREDIT frame acknowledges frames, updates credits, or triggers replay on NAK. -/
  | credit (p : PortNo) (f : Machine.Frame)
  /-- CREDIT_TIMER (R295): A receiver sends a CREDIT after a change, and at least once every 65,536 port cycles.
  -/
  | creditTimer (p : PortNo)
  /-- DATA_SHEET (R308): A DATA SHEET frame is received, forwarded, or landed as a contribution or result of a
  collective. -/
  | dataSheet (p : PortNo) (f : Machine.Frame)
  /-- DATA_SKIM (R313): A DATA SKIM frame brings a Skim record to the root, or the completed record to a member.
  -/
  | dataSkim (p : PortNo) (f : Machine.Frame)
  /-- DATA_HOST (R314): A DATA HOST frame is written into the receive ring, or dropped when the ring is full. -/
  | dataHost (p : PortNo) (f : Machine.Frame)
  /-- QUERY (R300): An ADDR QUERY frame is answered with a REPORT. -/
  | query (p : PortNo) (f : Machine.Frame)
  /-- REPORT (R300): An ADDR REPORT frame is written to the target's receive ring. -/
  | report (p : PortNo) (f : Machine.Frame)
  /-- ASSIGN (R301): An ADDR ASSIGN frame sets the module's address, epoch, coordinator path and fences, and
  ends collectives in flight. -/
  | assign (p : PortNo) (f : Machine.Frame)
  /-- ADDR_ACK (R300): An ADDR ACK frame is written to the target's receive ring. -/
  | addrAck (p : PortNo) (f : Machine.Frame)
  /-- FENCE (R316): An ADDR FENCE frame sets and clears bits of FAB_FENCE. -/
  | fence (p : PortNo) (f : Machine.Frame)
  /-- LINK_EVENT (R300): An ADDR LINK_EVENT frame reaches the coordinator's receive ring. -/
  | linkEvent (p : PortNo) (f : Machine.Frame)
  /-- ROUTE_WRITE (R304): A ROUTE WRITE frame writes route entries into the shadow bank. -/
  | routeWrite (p : PortNo) (f : Machine.Frame)
  /-- ROUTE_COMMIT (R304): A ROUTE COMMIT frame swaps the routing banks between two frames. -/
  | routeCommit (p : PortNo) (f : Machine.Frame)
  /-- ROUTE_SYNC (R304): A ROUTE SYNC frame copies the active routing bank into the shadow bank. -/
  | routeSync (p : PortNo) (f : Machine.Frame)
  /-- GRANT (R308): A COLL GRANT frame lets a rank send the granted sheets, or waits in the grant buffer. -/
  | fabGrant (p : PortNo) (f : Machine.Frame)
  /-- FINAL (R308): A COLL FINAL frame tells a contributor that a window of its collective is complete. -/
  | final (p : PortNo) (f : Machine.Frame)
  /-- REPEAT (R309): A COLL REPEAT frame makes contributors send a W192 range again for W320 reduction. -/
  | repeatStream (p : PortNo) (f : Machine.Frame)
  /-- COLL_ABORT (R312): A COLL ABORT frame fails the collective with reason FAB_PEER. -/
  | collAbort (p : PortNo) (f : Machine.Frame)
  /-- COORDINATOR (R298): A module whose best serial has been its own for FAB_SETTLE port cycles becomes
  coordinator. -/
  | coordinator
  /-- COLL_TIMEOUT (R312): A collective with no progress for FAB_COLL_TIMEOUT port cycles fails with
  FAB_TIMEOUT. -/
  | collTimeout (p : PortNo)
  /-- TX_TAIL (R314): Advancing TX_TAIL hands frames of the transmit ring to the port, which skips those of
  refused types. -/
  | txTail (ini : Ini) (v : Word) (es : List (Nat × Nat × Nat) := [])
  /-- EVENT_ACK (R319): FAB_CMD.EVENT_ACK clears every bit of FAB_EVENT. -/
  | eventAck (ini : Ini)
  /-- CP_ERR_CLR (R321): A write to CP_ERR_CLR clears the selected bits of CP_ERR and PE_FAIL.VALID. -/
  | cpErrClr (ini : Ini) (p : PortNo) (v : Word)
  /-- CAPTURE (R329): SG_CMD CAPTURE writes back the protected range and copies it to a free flash slot. -/
  | capture (ini : Ini) (j : JobNo)
  /-- FOLD0 (R329): SG_CMD FOLD0 sends piece-0 deltas to the partner holders and clears SECURE_DUE. -/
  | fold0 (ini : Ini) (j : JobNo)
  /-- FOLD1 (R329): SG_CMD FOLD1 sends piece-1 deltas, read from flash, to the partner holders. -/
  | fold1 (ini : Ini) (j : JobNo)
  /-- SG_COMMIT (R334): SG_CMD COMMIT makes the new version current, and frees or retains the previous slot. -/
  | sgCommit (ini : Ini) (j : JobNo)
  /-- ABANDON (R333): SG_CMD ABANDON sets the phase to 0 and frees the abandoned version's slot. -/
  | abandon (ini : Ini) (j : JobNo)
  /-- SERVE (R339): SG_CMD SERVE sends this module's pages or check pieces of a stripe range for a fill. -/
  | serve (ini : Ini) (j : JobNo)
  /-- FILL (R339): SG_CMD FILL computes a lost member's stripes on a spare from served pages and pieces. -/
  | fill (ini : Ini) (j : JobNo)
  /-- REBUILD (R332): SG_CMD REBUILD rebuilds the check pieces of the selected shards from full images. -/
  | rebuild (ini : Ini) (j : JobNo)
  /-- RESTORE (R338): SG_CMD RESTORE copies a version's pages from flash to stack and makes it current. -/
  | restore (ini : Ini) (j : JobNo)
  /-- SG_RESUME (R341): SG_CMD RESUME checks the generator indices against the data position and loads them and
  the step for restart. -/
  | sgResume (ini : Ini) (j : JobNo)
  /-- SG_ACK (R343): SG_CMD ACK clears SG_STAT.DONE_PEND. -/
  | sgAck (ini : Ini) (j : JobNo)
  /-- SG_OPERATION_END (R329): A securing, fill or restore operation ends, setting DONE_PEND with its result. -/
  | sgOperationEnd (es : List (Nat × Nat × Nat) := [])
  /-- FL_XFER (R343): FL_XFER.GO starts a transfer of units between flash and stack memory. -/
  | flXfer (ini : Ini) (v : Word)
  /-- FL_XFER_DONE (R343): An FL_XFER transfer completes and clears XFER_BUSY. -/
  | flXferDone (es : List (Nat × Nat × Nat) := [])
  /-- FLASH_MEDIA (R336): A flash media failure ends the operation that made the access and records it. -/
  | flashMedia (x : Bool)
  /-- FL_ERR_CLR (R343): A write to FL_ERR_CLR clears the selected bits of FL_ERR. -/
  | flErrClr (ini : Ini) (v : Word)
  /-- MGMT_FRAME_RX (R352): A frame received on the management port is filtered and written by DMA into the
  receive ring. -/
  | mgmtFrameRx (bs : List Byte) (es : List (Nat × Nat × Nat))
  /-- MGMT_FRAME_TX (R353): The management port sends the next frame of its transmit ring and writes its
  descriptors back. -/
  | mgmtFrameTx (es : List (Nat × Nat × Nat))
  /-- MG_ERR_CLR (R354): A write to MG_ERR_CLR clears the selected bits of MG_ERR. -/
  | mgErrClr (ini : Ini) (v : Word)
  /-- SOURCE_ASSERT (R371): A hardware interrupt source that changes to asserted sets its pending bit. -/
  | sourceAssert (n : Fin 1024) (fact : Bool)
  /-- CLAIM (R373): A read of CLAIM_c returns and activates the lowest eligible source for core c, or returns
  1023. -/
  | claim (ini : Ini) (c : Fin 16)
  /-- EOI (R374): A write to EOI_c clears the active bit of a source claimed by core c. -/
  | eoi (ini : Ini) (c : Fin 16) (v : Word)
  /-- IPEND_SET (R376): A write to IPEND_SET sets pending bits of sources. -/
  | ipendSet (ini : Ini) (w : Fin 32) (v : Word)
  /-- IPEND_CLR (R376): A write to IPEND_CLR clears pending bits of sources. -/
  | ipendClr (ini : Ini) (w : Fin 32) (v : Word)
  /-- IMASK_SET (R377): A write to IMASK_SET masks sources. -/
  | imaskSet (ini : Ini) (w : Fin 32) (v : Word)
  /-- IMASK_CLR (R377): A write to IMASK_CLR unmasks sources. -/
  | imaskClr (ini : Ini) (w : Fin 32) (v : Word)
  /-- HOLDOFF_EXPIRY (R375): A group's hold-off timer runs out and its sources become eligible again. -/
  | holdoffExpiry (g : Fin 32)
  /-- ARBITER_GRANT (R359): In a control cycle the arbiter grants a request by class and rotation, and the
  losers back off. -/
  | arbiterGrant (done : Bool) (mask : BitVec 21)
  /-- ARBITER_RETRY (R361): A requester that lost retries after its backoff of 16 x 2^n control cycles. -/
  | arbiterRetry (done : Bool) (r : Ini)
  /-- CARB_CLASS (R362): A write to CARB_CLASS_0 or CARB_CLASS_1 changes requester classes from the next control
  cycle. -/
  | carbClass (ini : Ini) (hi : Bool) (v : Word)
  /-- WB_ACK (R378): SYS_CMD.WB_ACK clears WB_LAST_LO.PEND. -/
  | wbAck (ini : Ini)
  /-- EA_ACK (R378): SYS_CMD.EA_ACK clears EA_LAST.PEND. -/
  | eaAck (ini : Ini)
  /-- GO_WEST (R388): PWR_CMD.GO_WEST requests a level change of the west half and starts the hold. -/
  | goWest (ini : Ini)
  /-- GO_EAST (R388): PWR_CMD.GO_EAST requests a level change of the east half and starts the hold. -/
  | goEast (ini : Ini)
  /-- LEVEL_QUIESCENT (R390): When the held halves become quiescent, the level change applies to one half or
  both, or is refused. -/
  | levelQuiescent (west : Bool)
  /-- LEVEL_CHANGE_DONE (R391): After the rail, assist and relock delays, the clocks restart at the new level
  and the hold lifts. -/
  | levelChangeDone (west : Bool) (bad : List Nat)
  /-- LEVEL_TIMEOUT (R389): Halves not quiescent within PWR_TIMEOUT samples lift the hold with result TIMEOUT.
  -/
  | levelTimeout (west : Bool)
  /-- SLEEP (R392): PWR_CMD.SLEEP starts sleep entry by holding new work. -/
  | sleep (ini : Ini)
  /-- SLEEP_QUIET (R392): Once accepted transfers and open circuits are done, the stacks self-refresh, clocks
  stop and rails go to retention. -/
  | sleepQuiet
  /-- SLEEP_TIMEOUT (R392): Sleep entry that does not reach step 2 within PWR_TIMEOUT lifts the holds with
  result TIMEOUT. -/
  | sleepTimeout
  /-- WAKE (R394): PWR_CMD.WAKE from the debug port wakes the sleeping module. -/
  | wake (ini : Ini)
  /-- WAKE_PIN (R394): WAKE_N sampled low for 2 samples wakes the module. -/
  | wakePin
  /-- WAKE_TIMER (R394): The WAKE_TIMER countdown running out wakes the module. -/
  | wakeTimer
  /-- WAKE_FRAME (R394): A valid DATA or COLL frame for this module and epoch arriving at a port wakes the
  module. -/
  | wakeFrame (p : PortNo) (f : Machine.Frame)
  /-- WAKE_DONE (R395): 250 us after the wake event, clocks have restarted, the holds lift and WOKE_PEND is set.
  -/
  | wakeDone (bad : List Nat) (lost : List Nat) (runs : List (Nat × List (Nat × Nat) × List (Nat × Nat)) := [])
  /-- PWR_ACK (R411): PWR_CMD.ACK clears DONE_PEND. -/
  | pwrAck (ini : Ini)
  /-- WAKE_ACK (R411): PWR_CMD.WAKE_ACK clears WOKE_PEND. -/
  | wakeAck (ini : Ini)
  /-- POWER_ON (R397): The always-on rail becoming good causes a power-on reset of every island. -/
  | powerOn (ga : Fin 8)
  /-- BROWN_OUT (R397): A low 60 V input or core rail for 2 samples causes a module-scope brown-out reset. -/
  | brownOut
  /-- PIN_RESET (R398): RST_N filtered low for 50 samples causes a module reset, and shorter pulses are
  rejected. -/
  | pinReset (n : Nat)
  /-- SOFTWARE_RESET (R397): RST_REQ.GO from a requester other than the debug port resets the module or the
  island named. -/
  | softwareReset (ini : Ini) (whole : Bool) (i : Fin 128)
  /-- DEBUG_RESET (R397): RST_REQ.GO from the debug port resets the module or the island named. -/
  | debugReset (whole : Bool) (i : Fin 128)
  /-- REFERENCE_FAILURE (R383): Two reference-count windows out of range cause a module-scope clock-failure
  reset. -/
  | referenceFailure
  /-- CLOCK_FAULT (R384): An island's clock monitor reports loss of lock or frequency error and the island takes
  a clock-failure reset. -/
  | clockFault (i : Fin 92)
  /-- LOCK_UP (R407): A host core retiring nothing for LOCKUP_LIMIT control cycles causes a host-island reset.
  -/
  | lockUp (c : Fin 16)
  /-- WATCHDOG (R406): The watchdog counting down to 0 causes a module-scope reset. -/
  | watchdog
  /-- WDT_START (R406): WDT_CMD.START loads and starts the watchdog. -/
  | wdtStart (ini : Ini)
  /-- KICK (R406): WDT_CMD.KICK reloads the running watchdog. -/
  | kick (ini : Ini)
  /-- LOCKUP_ACK (R410): RST_CMD.LOCKUP_ACK clears LOCKUP_LAST.VALID. -/
  | lockupAck (ini : Ini)
  /-- SUSPECT_ACK (R410): RST_CMD.SUSPECT_ACK clears RET_STATUS.SUSPECT. -/
  | suspectAck (ini : Ini)
  /-- HIST_ACK (R410): RST_CMD.HIST_ACK clears RST_CAUSE.HISTORY. -/
  | histAck (ini : Ini)
  /-- RELEASE_SEQUENCE (R402): Once the reset source is gone, the module samples straps, raises rails, loads
  trim, checks the reference and releases its islands. -/
  | releaseSequence (boot : Fin 4) (clk : Fin 4)
  /-- ISLAND_RELEASE (R405): An island held in reset is released once its clock lock indicator is set. -/
  | islandRelease (i : Fin 92)
  /-- FORCE (R405): RST_OVR.FORCE from the debug port releases an island at once, whatever its lock. -/
  | force (ini : Ini) (i : Fin 128)
  /-- BOOT_DATA (R418): A network boot DATA frame matching the request is accepted, and the next REQUEST is
  sent. -/
  | bootData (bs : List Byte) (es : List (Nat × Nat × Nat) := [])
  /-- BOOT_REQUEST_RETRY (R418): With no accepted frame for 100 ms, the ROM repeats its network boot REQUEST. -/
  | bootRequestRetry
  /-- NETWORK_BOOT_TIMEOUT (R418): With no accepted frame for 60 s, network boot fails with code 8. -/
  | networkBootTimeout (es : List (Nat × Nat × Nat) := [])
  /-- DBG_BOOT_GO (R419): In the hold state, DBG_BOOT_GO makes hart 0 verify the image already in stack memory.
  -/
  | dbgBootGo (ini : Ini) (es : List (Nat × Nat × Nat))
  /-- SEC_HART_GO (R416): A write to SEC_HART_GO releases harts 1-15 from the ROM to the image entry. -/
  | secHartGo (ini : Ini) (v : Word)
  /-- ATTEST (R423): SEC_CMD ATTEST builds and signs an attestation report. -/
  | attest (ini : Ini)
  /-- ROLLBACK_ADVANCE (R420): SEC_CMD ROLLBACK_ADVANCE blows rollback fuses up to ARG. -/
  | rollbackAdvance (ini : Ini) (arg : Fin 256)
  /-- REVOKE_ED (R420): SEC_CMD REVOKE_ED blows the revocation fuse of an Ed25519 key slot. -/
  | revokeEd (ini : Ini) (arg : Fin 256)
  /-- REVOKE_MLDSA (R420): SEC_CMD REVOKE_MLDSA blows the revocation fuse of an ML-DSA-65 key slot. -/
  | revokeMldsa (ini : Ini) (arg : Fin 256)
  /-- SEC_ACK (R431): SEC_CMD ACK clears SEC_RESULT.DONE_PEND. -/
  | secAck (ini : Ini)
  /-- SEC_COMMAND_END (R420): A SEC command ends with its result and sets DONE_PEND. -/
  | secCommandEnd
  /-- EXTEST (R425): JTAG EXTEST selects boundary scan and drives pins only while RST_N is low. -/
  | extest
  /-- SAMPLE_PRELOAD (R425): JTAG SAMPLE/PRELOAD selects the boundary scan register. -/
  | samplePreload (cells : Nat)
  /-- IDCODE (R425): JTAG IDCODE selects the 32-bit identification register. -/
  | idcode
  /-- DBGPORT (R426): JTAG DBGPORT selects the 116-bit debug port register. -/
  | dbgport
  /-- DMI (R425): JTAG DMI selects the RISC-V debug module interface for the host harts. -/
  | dmi
  /-- BYPASS (R425): JTAG BYPASS selects the 1-bit bypass register. -/
  | bypass
  /-- DBGPORT_ACCESS (R426): Update-DR of DBGPORT launches a read or write as requester 16. -/
  | dbgportAccess (op : Fin 4) (size : Fin 4) (addr : Fin 281474976710656) (data : DWord) (n : Fin 37) (mis : Fin 3) (err : Option Bool) (drop : Option CoreNo := none)
  /-- INJECT (R427): INJ_CMD.GO injects the staged descriptor into a queue's context, ahead of queue
  descriptors. -/
  | inject (ini : Ini)
  /-- INJ_ACK (R427): INJ_CMD.ACK clears INJ_STAT.DONE_PEND. -/
  | injAck (ini : Ini)
  /-- FREEZE (R429): TRC_CMD.FREEZE freezes every island's trace when the order reaches it. -/
  | freeze (ini : Ini)
  /-- THAW (R429): TRC_CMD.THAW unfreezes every island's trace. -/
  | thaw (ini : Ini)
  /-- MARK (R429): A write to TRC_MARK writes a MARK trace record. -/
  | mark (ini : Ini) (v : Word)
  /-- PRECHARGE_MATE (R435): PRECHG mating starts charging the bulk node at up to 10 A. -/
  | prechargeMate
  /-- MAIN_SWITCH_CLOSE (R436): The main switch closes once VIN and the bulk node are in range and no trip or
  OFF holds it. -/
  | mainSwitchClose (vin : Nat) (bulk : Nat)
  /-- MAIN_SWITCH_OPEN (R436): VIN out of range or overcurrent opens the main switch within 5 us and records a
  trip. -/
  | mainSwitchOpen (vin : Nat) (heavy : Bool)
  /-- THERMAL_TRIP (R437): A junction at 110 degrees C for 2 samples opens the main switch as a thermal trip. -/
  | thermalTrip (west : Nat) (east : Nat)
  /-- TRIP_HOLD_EXPIRY (R437): After 1.0 s of trip hold, the main switch may close again. -/
  | tripHoldExpiry
  /-- MATED_DEBOUNCE (R440): MATED_N low for 100 us with the main switch closed lets the release continue from
  step 2. -/
  | matedDebounce
  /-- SURPRISE_REMOVAL (R442): MATED_N sampled high while not OFF opens the main switch and tri-states every
  pin. -/
  | surpriseRemoval
  /-- OFF (R441): MOD_CMD.OFF starts the prepared power-off and holds new work. -/
  | off (ini : Ini)
  /-- OFF_POWER_DOWN (R441): Once the flash finishes its unit, the islands enter reset, rails ramp down, the
  switch opens and REMOVE_OK_N goes low. -/
  | offPowerDown
  /-- TRIP_ACK (R445): MOD_CMD.TRIP_ACK clears the three trip bits. -/
  | tripAck (ini : Ini)
  /-- PAGE (R443): PMBus PAGE selects the rail that later commands address. -/
  | page (rd : Bool) (v : Nat)
  /-- CLEAR_FAULTS (R443): PMBus CLEAR_FAULTS clears the status fault bits. -/
  | clearFaults
  /-- VOUT_MODE (R443): PMBus VOUT_MODE returns the output voltage format. -/
  | voutMode
  /-- STATUS_WORD (R443): PMBus STATUS_WORD returns the summary status of the page. -/
  | statusWord
  /-- STATUS_VOUT (R443): PMBus STATUS_VOUT returns output voltage status. -/
  | statusVout
  /-- STATUS_IOUT (R443): PMBus STATUS_IOUT returns output current status. -/
  | statusIout
  /-- STATUS_INPUT (R444): PMBus STATUS_INPUT returns input warnings and faults. -/
  | statusInput (vin : Nat) (heavy : Bool)
  /-- STATUS_TEMPERATURE (R443): PMBus STATUS_TEMPERATURE returns temperature status. -/
  | statusTemperature
  /-- READ_VIN (R444): PMBus READ_VIN returns the input voltage in LINEAR11. -/
  | readVin (v : Nat)
  /-- READ_IIN (R444): PMBus READ_IIN returns the input current in LINEAR11. -/
  | readIin (v : Nat)
  /-- READ_VOUT (R443): PMBus READ_VOUT returns the page's rail voltage in LINEAR16. -/
  | readVout (v : Nat)
  /-- READ_IOUT (R444): PMBus READ_IOUT returns the page's rail current in LINEAR11. -/
  | readIout (v : Nat)
  /-- READ_TEMPERATURE_1 (R444): PMBus READ_TEMPERATURE_1 returns the hottest power stage temperature of the
  page. -/
  | readTemperature1 (v : Int)
  /-- READ_POUT (R444): PMBus READ_POUT returns the page's output power. -/
  | readPout (v : Nat)
  /-- READ_PIN (R444): PMBus READ_PIN returns the input power. -/
  | readPin (v : Nat)
  /-- MFR_ID (R443): PMBus MFR_ID returns the manufacturer block STVQ. -/
  | mfrId
  /-- MFR_MODEL (R443): PMBus MFR_MODEL returns the part number. -/
  | mfrModel
  /-- RESET_SCRUB_DONE (R160): A slice's reset scrub of payload and side bands ends after 1,088 island cycles,
  clearing SCRUB_BUSY and ending the SCRUB_STARVED reset value. -/
  | resetScrubDone (n : CoreNo)
  /-- WARM (R247): A stack's temperature crossing 85 degrees C switches its refresh window between 32 ms and 16
  ms and changes STK_STATUS.WARM. -/
  | warm (s : StackNo) (t : Nat)
  /-- CODEWORD_LOCK_LOSS (R291): A Corsum lane loses codeword lock, which takes an UP link DOWN or returns
  bring-up to step 1. -/
  | codewordLockLoss (p : PortNo) (lane : Fin 8)
  /-- MG_LINK_UP (R355): The management port's PCS gains or loses block lock and alignment, changing
  MG_STATUS.LINK_UP. -/
  | mgLinkUp (up : Bool) (pins : BitVec 3)
  /-- REF_FALLBACK (R383): When no island reference in range arrives within 10 ms of the release's reference
  check, the module falls back to the on-module oscillator, or sets REF_DEAD when already there. -/
  | refFallback
  /-- REFERENCE_IN_RANGE (R383): While the release waits at step 5 with REF_DEAD, two consecutive windows in
  range let the release continue. -/
  | referenceInRange
  /-- DMI_ACCESS (R426): An Update-DR of the DMI register performs a debug-module access that halts, resumes,
  single-steps or reaches the system bus of a host hart. -/
  | dmiAccess (op : Fin 4) (a : Fin 128) (v : Word) (n : Fin 37) (mis : Fin 3) (err : Option Bool) (drop : Option CoreNo := none)
  deriving DecidableEq, Repr

end Sys2Proof
end

