-- ==== Sys2Proof/Decode.lean ====
section
/-!
DEFINITION. The decoder of table words. No row of the opcode table has bits: the hardware takes commands, and no
word spells one (log 17).
-/

namespace Sys2Proof

/-- The command a word of the opcode table's bits spells: none, since the table gives no row any bits. -/
def decodeTableWord (_nbits _w : Nat) : Option Instr := none

end Sys2Proof
end

