-- ==== Sys2Proof/Config.lean ====
section
/-!
DEFINITION. The free values and the functions that the specification names without giving them.
None has a body: nothing in Lean can evaluate one, so a claim holds whatever it is.
-/

namespace Sys2Proof.Config

/-- A 32-bit value the specification leaves open; the argument is a count of such values. -/
opaque freeWord : Nat → BitVec 32

/-- A 64-bit value the specification leaves open, such as a counter of cycles (log 2). -/
opaque freeDWord : Nat → BitVec 64

/-- The 12-bit code of a 128 B payload line (05 R147: the matrix is not part of the interface). -/
opaque lineCode : List (BitVec 8) → BitVec 12

/-- The 12-bit code over a header, scale area and check words (05 R147). -/
opaque sbCode : List (BitVec 32) → BitVec 12

/-- Ed25519 verification of a signature over a message under a key (RFC 8032, 14 R416; log 8). -/
opaque edVerify : List (BitVec 8) → List (BitVec 8) → List (BitVec 8) → Bool

/-- ML-DSA-65 verification with an empty context (FIPS 204, 14 R416; log 8). -/
opaque mldsaVerify : List (BitVec 8) → List (BitVec 8) → List (BitVec 8) → Bool

/-- The Ed25519 public key of a seed (14 R422; log 8). -/
opaque edPublic : List (BitVec 8) → BitVec 256

/-- The ML-DSA-65 public key of a seed, 1,952 B (14 R422; log 8). -/
opaque mldsaPublic : List (BitVec 8) → BitVec 15616

/-- The Ed25519 signature of a message under the key pair of a seed (14 R423; log 8). -/
opaque edSign : List (BitVec 8) → List (BitVec 8) → BitVec 512

/-- An ML-DSA-65 signature of a message, 3,309 B; FIPS 204 may randomise it, so that the count of free
values is an argument (14 R423; log 8). -/
opaque mldsaSign : Nat → List (BitVec 8) → List (BitVec 8) → BitVec 26472

end Sys2Proof.Config
end

