-- ==== Sys2Proof/Machine/Bits.lean ====
section
/-!
DEFINITION. Bit fields, sign extension, byte order and the sparse store: the helpers every other
file of the machine uses.
-/

namespace Sys2Proof

/-! ## Bit fields -/

/-- Bits `[hi:lo]` of a word. -/
def fld (w : Word) (hi lo : Nat) : Nat := (w.toNat >>> lo) % 2 ^ (hi + 1 - lo)

/-- Bit `i` of a word. -/
def bit (w : Word) (i : Nat) : Bool := w.toNat.testBit i

/-- The value of a flag as a bit of a field. -/
def b2n (b : Bool) : Nat := if b then 1 else 0

/-- `w` with bits `[hi:lo]` replaced by `v`. -/
def setFld (w : Word) (hi lo v : Nat) : Word :=
  let span := 2 ^ (hi + 1 - lo)
  let n := w.toNat
  BitVec.ofNat 32 (n - ((n >>> lo) % span) <<< lo + (v % span) <<< lo)

/-- A word from a natural number, modulo `2 ^ 32`. -/
def word (n : Nat) : Word := BitVec.ofNat 32 n

/-- The `n`-bit two's-complement reading of `v`. -/
def signed (n v : Nat) : Int := if v % 2 ^ n < 2 ^ (n - 1) then (v % 2 ^ n : Nat) else (v % 2 ^ n : Nat) - (2 ^ n : Nat)

/-- The low `n` bits of an integer, as a natural number. -/
def unsigned (n : Nat) (v : Int) : Nat := (v % (2 ^ n : Nat)).toNat

/-- One bit at a place. -/
def bitAt (b : Bool) (i : Nat) : Nat := b2n b * 2 ^ i

/-- Build a natural number from `(lo, value)` fields that do not overlap. -/
def pack : List (Nat × Nat) → Nat
  | [] => 0
  | (lo, v) :: t => (v <<< lo) + pack t

/-- Build a register word from `(lo, value)` fields. -/
def packW (fs : List (Nat × Nat)) : Word := word (pack fs)

/-- The little-endian value of a list of bytes (00 R9). -/
def leNat : List Byte → Nat
  | [] => 0
  | b :: t => b.toNat + 256 * leNat t

/-- The `n` bytes of a value, least significant first (00 R9). -/
def leBytes : Nat → Nat → List Byte
  | 0, _ => []
  | n + 1, v => BitVec.ofNat 8 v :: leBytes n (v / 256)

/-- The big-endian value of a list of bytes. -/
def beNat (l : List Byte) : Nat := leNat l.reverse

/-- The `n` bytes of a value, most significant first. -/
def beBytes (n v : Nat) : List Byte := (leBytes n v).reverse

/-- Add one to a 64-bit counter, modulo `2 ^ 64` (03 R93). -/
def bump (c : DWord) (n : Nat) : DWord := c + BitVec.ofNat 64 n

/-- Add to a value that stops at a largest one. -/
def satAdd (lim a b : Nat) : Nat := min lim (a + b)

/-- One bit of CRC-32, least significant bit first (the IEEE 802.3 frame check sequence, 10 R293). -/
def crcBit (c : Nat) : Nat := if c % 2 = 1 then (c / 2) ^^^ 0xEDB88320 else c / 2

/-- One byte of CRC-32. -/
def crcByte (c : Nat) (b : Byte) : Nat :=
  crcBit (crcBit (crcBit (crcBit (crcBit (crcBit (crcBit (crcBit (c ^^^ b.toNat))))))))

/-- CRC-32 of bytes in the order they are sent. -/
def crc32 (bs : List Byte) : Word := BitVec.ofNat 32 ((bs.foldl crcByte 0xFFFFFFFF) ^^^ 0xFFFFFFFF)

/-! ## The sparse store

`get` reads the first pair of a key, so that it needs no invariant; `set` keeps the keys rising and
drops the default value, so that equal contents are equal lists. -/

/-- Read index `k`; `d` is what an unlisted index reads as. -/
def sget {β : Type} (m : Store β) (d : β) (k : Nat) : β :=
  match m with
  | [] => d
  | (j, v) :: t => if j = k then v else sget t d k

/-- Remove index `k`. -/
def serase {β : Type} (m : Store β) (k : Nat) : Store β :=
  match m with
  | [] => []
  | (j, v) :: t => if j = k then serase t k else (j, v) :: serase t k

/-- Insert a pair before the first larger key. -/
def sinsert {β : Type} (m : Store β) (k : Nat) (v : β) : Store β :=
  match m with
  | [] => [(k, v)]
  | (j, w) :: t => if k < j then (k, v) :: (j, w) :: t else (j, w) :: sinsert t k v

/-- Write index `k`, keeping the canonical form. -/
def sset {β : Type} [DecidableEq β] (m : Store β) (d : β) (k : Nat) (v : β) : Store β :=
  if v = d then serase m k else sinsert (serase m k) k v

/-- Change index `k` by a function. -/
def supd {β : Type} [DecidableEq β] (m : Store β) (d : β) (k : Nat) (f : β → β) : Store β :=
  sset m d k (f (sget m d k))

/-- Keep only the indices that satisfy `p`; the others read as the default again. -/
def skeep {β : Type} (m : Store β) (p : Nat → Bool) : Store β := m.filter (fun c => p c.1)

/-- Return the indices `lo` to `lo + n - 1` to the default. -/
def sclear {β : Type} (m : Store β) (lo n : Nat) : Store β :=
  skeep m (fun k => !(decide (lo ≤ k) && decide (k < lo + n)))

/-- Write a run of values at consecutive indices. -/
def ssetList {β : Type} [DecidableEq β] (m : Store β) (d : β) (k : Nat) (vs : List β) : Store β :=
  match vs with
  | [] => m
  | v :: t => ssetList (sset m d k v) d (k + 1) t

/-- Read `n` values at consecutive indices. -/
def sgetList {β : Type} (m : Store β) (d : β) (k n : Nat) : List β :=
  (List.range n).map (fun i => sget m d (k + i))

/-- The canonical form: indices strictly rising, no default value listed. -/
def storeWf {β : Type} [DecidableEq β] (d : β) (m : Store β) : Bool :=
  match m with
  | [] => true
  | (j, v) :: t => decide (v ≠ d) && t.all (fun c => decide (j < c.1)) && storeWf d t

/-! ## Lists as queues -/

/-- `l` with position `i` replaced (nothing happens past the end). -/
def setAt {β : Type} (l : List β) (i : Nat) (v : β) : List β := l.set i v

/-- `l` without position `i`. -/
def dropAt {β : Type} (l : List β) (i : Nat) : List β := l.eraseIdx i

end Sys2Proof
end

