-- ==== Sys2Proof/Machine/RegTable.lean ====
section
/-!
DEFINITION. The RW and CS fields of every register page: for each register its writable bits, by
access code, and its reset value (00 R10, and the register tables of 03 to 14).
-/

namespace Sys2Proof.Machine

/-- The fields a write can set in a register, and the register's reset value in them. -/
structure RegInfo where
  rw : Word := 0
  cs : Word := 0
  reset : Word := 0
  deriving DecidableEq, Repr

/-- A register of RW fields. -/
def rwReg (mask : Word) (reset : Word := 0) : RegInfo := { rw := mask, reset := reset }

/-- A register of CS fields. -/
def csReg (mask : Word) (reset : Word := 0) : RegInfo := { cs := mask, reset := reset }

/-- Kinds of page (12 Table 12-6). -/
inductive PageKind where
  | sys | reset | power | trim | intc | carb | sec | debug | mgmt | flash | skim | fabric | deckle
  | cport (p : Nat) | stack (s : Nat) | job (j : Nat) | island (i : Nat) | core (n : Nat)
  deriving DecidableEq, Repr

/-- The kind of a page index; none for an index the page table does not list (12 R357). -/
def pageKind (p : Nat) : Option PageKind :=
  if 0x1000 ≤ p then (if p < 0x2000 then some (.core (p - 0x1000)) else none)
  else if 0x80 ≤ p then (if p < 0xC0 then some (.island (p - 0x80)) else none)
  else if 0x40 ≤ p then (if p < 0x60 then some (.job (p - 0x40)) else none)
  else if 0x20 ≤ p then (if p < 0x28 then some (.stack (p - 0x20)) else none)
  else if 0x10 ≤ p then (if p < 0x20 then some (.cport (p - 0x10)) else none)
  else match p with
    | 0 => some .sys
    | 1 => some .reset
    | 2 => some .power
    | 3 => some .trim
    | 4 => some .intc
    | 5 => some .carb
    | 6 => some .sec
    | 7 => some .debug
    | 8 => some .mgmt
    | 9 => some .flash
    | 10 => some .skim
    | 11 => some .fabric
    | 12 => some .deckle
    | _ => none

/-- First page index of a page's kind (12 Table 12-8, `KIND`). -/
def kindBase (p : Nat) : Nat :=
  if 0x1000 ≤ p then 0x1000 else if 0x80 ≤ p then 0x80 else if 0x40 ≤ p then 0x40
  else if 0x20 ≤ p then 0x20 else if 0x10 ≤ p then 0x10 else p

/-- Registers of a queue block (04 Table 4-14). -/
def queueRegs (o : Nat) : Option RegInfo :=
  match o with
  | 0x00 => some (csReg 0xFFFFFFC0)
  | 0x04 => some (csReg 0x1FFFFFFF)
  | 0x08 => some (csReg 0xFFFFFFC0)
  | 0x0C => some (csReg 0x1FFFFFFF)
  | 0x10 => some (csReg 0x7)
  | 0x14 => some (csReg 0xFFFFFFFF)
  | 0x18 => some (csReg 0x1FFF0FFF)
  | 0x1C => some (csReg 0x1F)
  | 0x38 => some (rwReg 0xFFFFFFFF)
  | 0x3C => some (rwReg 0xC000FFFF)
  | 0x48 => some (rwReg 0x3)
  | _ => none

/-- Registers of a core page (03 R91, 04 R132, 05 R161). -/
def coreRegs (o : Nat) : Option RegInfo :=
  if 0x400 ≤ o ∧ o < 0x600 then queueRegs (o % 0x80)
  else if 0x840 ≤ o ∧ o < 0x880 then some (csReg 0xFFFFFFFF)
  else match o with
    | 0x10C => some (csReg 0x1)
    | 0x110 => some (csReg 0x1F)
    | 0x800 => some (rwReg 0x3 0x2)
    | _ => none

/-- Registers of the `DECKLE` page (06 Table 6-7). -/
def deckleRegs (o : Nat) : Option RegInfo :=
  if 0x140 ≤ o ∧ o < 0x180 then some (csReg 0xFFFFF)
  else match o with
    | 0x100 => some (csReg 0xFFFFFFF8)
    | 0x104 => some (csReg 0xFFFF)
    | 0x108 => some (csReg 0xFFE1FFFF)
    | _ => none

/-- Registers of a job page (06 Table 6-11). -/
def jobRegs (o : Nat) : Option RegInfo :=
  match o with
  | 0x100 => some (csReg 0x03FFFFFF)
  | 0x104 => some (csReg 0x3FFFF)
  | 0x108 => some (csReg 0xFFFFFF)
  | 0x10C => some (csReg 0xFFFFFFF8)
  | 0x110 => some (csReg 0xFFFF)
  | 0x114 => some (csReg 0xBC3FFFFF)
  | _ => none

/-- Registers of an island page (07 Table 7-9). -/
def islandRegs (o : Nat) : Option RegInfo :=
  match o with
  | 0x10C => some (rwReg 0x80000FFF)
  | 0x110 => some (rwReg 0xFFFFFFFF)
  | _ => none

/-- Registers of a stack page (08 Table 8-6). -/
def stackRegs (o : Nat) : Option RegInfo :=
  match o with
  | 0x104 => some (csReg 0x7 0x1)
  | 0x108 => some (csReg 0x3F 2)
  | 0x10C => some (rwReg 0xFFFF 24)
  | 0x110 => some (rwReg 0xFFFFFFFF 1024)
  | _ => none

/-- Registers of the FABRIC page (10 Table 10-10). -/
def fabricRegs (o : Nat) : Option RegInfo :=
  match o with
  | 0x108 => some (csReg 0xFFFFFF 12500)
  | 0x10C => some (csReg 0xFFFFFF 125000)
  | 0x110 => some (csReg 0xFFFFFF 2500000)
  | 0x120 => some (csReg 0xFFFFFFF)
  | 0x124 => some (rwReg 0x3FFF)
  | 0x12C => some (csReg 0xFFFFFFF)
  | 0x130 => some (rwReg 0x3FFF)
  | 0x138 => some (csReg 0xFFFFFFFF)
  | _ => none

/-- Registers of a port page (10 Table 10-14). -/
def cportRegs (o : Nat) : Option RegInfo :=
  match o with
  | 0x104 => some (csReg 0x3)
  | 0x108 => some (csReg 0xFFFFFFFF 0x38380808)
  | _ => none

/-- Registers of the FLASH page (11 Table 11-8). -/
def flashRegs (o : Nat) : Option RegInfo :=
  match o with
  | 0x110 => some (csReg 0xFFFFFFE0)
  | 0x114 => some (csReg 0x7FFFFF)
  | 0x118 => some (csReg 0x7FFFFF)
  | 0x11C => some (csReg 0xFFF)
  | 0x128 => some (rwReg 0xFFFFFFFF)
  | 0x12C => some (rwReg 0xFFFFFFFF)
  | 0x140 => some (csReg 0xFFFF0000)
  | 0x144 => some (csReg 0xFFFF)
  | 0x148 => some (csReg 0xFFFFFFFF)
  | _ => none

/-- Registers of the MGMT page (12 Table 12-3). -/
def mgmtRegs (o : Nat) : Option RegInfo :=
  match o with
  | 0x104 => some (csReg 0x1F 0xC)
  | 0x110 => some (csReg 0xFFFFFFF0)
  | 0x114 => some (csReg 0xFFFF)
  | 0x118 => some (csReg 0xF 6)
  | 0x11C => some (rwReg 0xFFF)
  | 0x124 => some (rwReg 0xFFF)
  | 0x130 => some (csReg 0xFFFFFFF0)
  | 0x134 => some (csReg 0xFFFF)
  | 0x138 => some (csReg 0xF 6)
  | 0x13C => some (rwReg 0xFFF)
  | 0x144 => some (rwReg 0xFFF)
  | _ => none

/-- Registers of the INTC page (12 Table 12-10); `ITARGET_511` covers source 1022 only. -/
def intcRegs (o : Nat) : Option RegInfo :=
  if 0x580 ≤ o ∧ o < 0x600 then some (rwReg 0xFFFF)
  else if 0x600 ≤ o ∧ o < 0xDFC then some (rwReg 0xFFFFFFFF)
  else if o = 0xDFC then some (rwReg 0xFFFF)
  else none

/-- Registers of the CARB page (12 Table 12-13). -/
def carbRegs (o : Nat) : Option RegInfo :=
  match o with
  | 0x100 => some (rwReg 0xFFFFFFFF 0xAAAAAAAA)
  | 0x104 => some (rwReg 0x3FF 0x3E4)
  | _ => none

/-- Registers of the RESET page (13 Table 13-11). -/
def resetRegs (o : Nat) : Option RegInfo :=
  if 0x180 ≤ o ∧ o < 0x1C0 then some (rwReg 0xFFFFFFFF)
  else match o with
    | 0x114 => some (rwReg 0xFFFFFFFF 250000000)
    | 0x120 => some (rwReg 0xFFFFFFFF 120000000)
    | _ => none

/-- Registers of the POWER page (13 Table 13-13). -/
def powerRegs (o : Nat) : Option RegInfo :=
  match o with
  | 0x104 => some (csReg 0x10F 0xF)
  | 0x110 => some (rwReg 0xFFFFFFFF 25000)
  | 0x114 => some (rwReg 0x7 0x2)
  | 0x118 => some (rwReg 0xFFFFFFFF)
  | 0x124 => some (rwReg 0xFF 95)
  | _ => none

/-- Registers of the DEBUG page (14 Table 14-10). -/
def debugRegs (o : Nat) : Option RegInfo :=
  match o with
  | 0x100 => some (csReg 0x3FFF)
  | 0x114 => some (csReg 0xFFFFFFF8)
  | 0x118 => some (csReg 0xFFFF)
  | _ => none

/-- `INT_MASK`, the RW register of the common header (12 Table 12-8), and the page's own. -/
def regInfo (k : PageKind) (o : Nat) : Option RegInfo :=
  if o = 0x20 then some (rwReg 0xFFFFFFFF)
  else if o < 0x100 then none
  else match k with
    | .core _ => coreRegs o
    | .island _ => islandRegs o
    | .job _ => jobRegs o
    | .deckle => deckleRegs o
    | .stack _ => stackRegs o
    | .cport _ => cportRegs o
    | .fabric => fabricRegs o
    | .flash => flashRegs o
    | .mgmt => mgmtRegs o
    | .intc => intcRegs o
    | .carb => carbRegs o
    | .reset => resetRegs o
    | .power => powerRegs o
    | .debug => debugRegs o
    | .sys => none
    | .trim => none
    | .sec => none
    | .skim => none

/-- The reset value of a register, by its key page * 4096 + offset. -/
def resetVal (key : Nat) : Word :=
  match pageKind (key / 4096) with
  | none => 0
  | some k =>
    match regInfo k (key % 4096) with
    | none => 0
    | some r => r.reset

/-- The page has CS fields (12 Table 12-8, `COMMIT`). -/
def hasCs (k : PageKind) : Bool :=
  match k with
  | .core _ => true
  | .job _ => true
  | .deckle => true
  | .stack _ => true
  | .cport _ => true
  | .fabric => true
  | .flash => true
  | .mgmt => true
  | .power => true
  | .debug => true
  | _ => false

end Sys2Proof.Machine
end

