-- ==== Sys2Proof/Machine/Types.lean ====
section
/-!
DEFINITION. The data types of the machine's state: one structure for each piece of hardware that
is not a plain array of words. `Machine/State.lean` puts them together.
-/

namespace Sys2Proof.Machine

/-! ## Numbering

Cores 0 to 4095, tile islands 0 to 63, queues 0 to 3 of a core (4 stands for the injected
descriptor of 14 R427), frames 0 to 131071, jobs 0 to 31, stacks 0 to 7, ports 0 to 15. All are
natural numbers in the state; the operands of commands are bounded. -/

/-- Names an issued descriptor: its core, its queue and its number within the queue. -/
structure DescRef where
  core : Nat := 0
  queue : Nat := 0
  id : Nat := 0
  deriving DecidableEq, Repr

/-- A poison state: cause, derivation depth and origin (05 Tables 5-4, 5-5). -/
structure Poison where
  cause : Nat := 0
  depth : Nat := 0
  tag : Nat := 0
  core : Nat := 0xFFF
  island : Nat := 0
  deriving DecidableEq, Repr

/-- A tile in the array (03 R65): its slot, its 1,024 fp32 values by row and column, its poison
flag (05 R150), and the descriptor that issued its latest operation. -/
structure Tile where
  slot : Nat := 0
  acc : List Word := []
  poison : Option Poison := none
  by_ : DescRef := {}
  deriving DecidableEq, Repr

/-- A 64 B descriptor as its sixteen words (04 R99). -/
abbrev Desc := List Word

/-- A descriptor in a queue's issue window (04 R116). -/
structure WinEnt where
  d : Desc := []
  idx : Nat := 0
  half : Bool := false
  pass : Nat := 0
  deriving DecidableEq, Repr

/-- A handle popped from a felt queue at issue (05 R154): operand index, island, queue, handle. -/
structure FeltUse where
  opnd : Nat := 0
  island : Nat := 0
  queue : Nat := 0
  handle : Word := 0
  deriving DecidableEq, Repr

/-- An issued descriptor that has not completed (04 R116, R119). -/
structure Infl where
  id : Nat := 0
  d : Desc := []
  idx : Nat := 0
  half : Bool := false
  pass : Nat := 0
  /-- Job of the descriptor's context. -/
  job : Nat := 0
  /-- Queue in whose context it runs: its own, or the one an injected descriptor borrows (14 R427). -/
  ctx : Nat := 0
  /-- Event base of the descriptor's context. -/
  evBase : Nat := 0
  /-- The six operand fields after resolution (04 R102, R123). -/
  ops : List Word := []
  /-- The active parameter registers at issue (04 R123). -/
  regs : List DWord := []
  /-- Clip factor an UPDATE took at issue (09 R263, R273). -/
  clip : Word := 0
  /-- Handles popped from felt queues. -/
  felts : List FeltUse := []
  /-- Page objects on which a reference is held or reserved (06 R185). -/
  span : List Nat := []
  /-- Pages of the span that have not been RESIDENT since the descriptor issued (06 R185). -/
  due : List Nat := []
  /-- Page objects of sheets read, for STREAM uses (06 R183). -/
  reads : List Nat := []
  /-- The engine has done its work. -/
  ran : Bool := false
  /-- A fault status and its detail, once one is known (04 R119). -/
  fault : Option (Nat × Nat) := none
  /-- State of the poisoned inputs, if any (05 R149). -/
  poison : Option Poison := none
  /-- A non-finite value was written (02 R40). -/
  nonfin : Bool := false
  /-- Flits, contributions or pages still outstanding before it may complete. -/
  left : Nat := 0
  /-- A REDUCE in W192 form that waits for the verdict, or for its notice (02 R51, R52). -/
  waits : Bool := false
  deriving DecidableEq, Repr

/-- Queue states (04 Table 4-12). -/
inductive QState where
  | idle | running | draining | stopped | brk | halted
  deriving DecidableEq, Repr

/-- A recorded fault (04 R128). -/
structure QFault where
  status : Nat := 0
  detail : Nat := 0
  idx : Nat := 0
  half : Bool := false
  tag : Nat := 0
  deriving DecidableEq, Repr

/-- One descriptor queue (04 R97, R116, R127). Its configuration registers lie in the register
stores. -/
structure Queue where
  st : QState := .idle
  pass : Word := 0
  /-- Next ring index to enter the window. -/
  entered : Nat := 0
  done : Word := 0
  gen0 : Nat := 0
  gen1 : Nat := 0
  half : Bool := false
  flip : Bool := false
  armed : Bool := false
  irq : Bool := false
  fault : Option QFault := none
  window : List WinEnt := []
  infl : List Infl := []
  nextId : Nat := 0
  /-- The one descriptor (half, index) that issues after a RESUME without breaking again (R129). -/
  skip : Option (Bool × Nat) := none
  /-- The descriptor (half, index) that the present tag break holds in the window (R129). -/
  heldBrk : Option (Bool × Nat) := none
  /-- START's half and mode were taken; the last pass has been reached. -/
  lastPass : Bool := false
  /-- Held at a replay boundary by a level change (13 R389). -/
  held : Bool := false
  deriving DecidableEq, Repr

/-- A descriptor cache line (04 R118): its half, generation and first ring index, and its words. -/
structure CLine where
  half : Bool := false
  gen : Nat := 0
  first : Nat := 0
  words : List Word := []
  deriving DecidableEq, Repr

/-- A pooled MATVEC request of a batch-pool core, collected or launched (03 R77). -/
structure PoolReq where
  ref : DescRef := {}
  /-- Sheet of frames 30 and 31 of the core's slice that holds the delivered vector, 0 to 31 (06 R175). -/
  sheet : Nat := 0
  /-- Format of the delivered vector. -/
  fmt : Nat := 0
  /-- Once launched: the request's lane of each tile of the batch, the first tile's slot, and the poison state of
  its outputs. -/
  rows : List (List Word) := []
  slot : Nat := 0
  pz : Option Poison := none
  deriving DecidableEq, Repr

/-- An ACC flit waiting in a core's landing buffer (07 R217). -/
structure Landing where
  slot : Nat := 0
  index : Nat := 0
  cols : Nat := 1
  count : Nat := 0
  data : List Word := []
  island : Nat := 0
  entry : Nat := 0
  pz : Option Poison := none
  deriving DecidableEq, Repr

/-- One outer-product core, apart from its register words and its memories. -/
structure Core where
  /-- Sticky non-finite latch and its sources (02 R39, 03 Table 3-9). -/
  nonfinite : Bool := false
  srcArray : Bool := false
  srcMv : Bool := false
  srcVec : Bool := false
  srcScreed : Bool := false
  srcConvert : Bool := false
  /-- Tile in the active accumulators. -/
  active : Option Tile := none
  /-- Tile whose swap token has not entered: starting value and the operations issued on it. -/
  next : Option Tile := none
  /-- Slot of the array operation issued last, unless a flush token followed it (03 R65). -/
  lastSlot : Option Nat := none
  /-- Function table whose swap is pending (03 R90). -/
  swap : Option Nat := none
  lastSwapped : Nat := 0
  /-- Vector register of the matrix-vector path (03 R75): 2,048 element codes of 16 bits, by element. -/
  vreg : Store Nat := []
  /-- Format of the vector loaded last (log 120). -/
  vfmt : Nat := 0
  /-- The matrix-vector pass that runs: its descriptor and its number. -/
  mv : Option (DescRef × Nat) := none
  /-- Transposing buffer halves still to fill for the OPA_T that was issued last (03 R74). -/
  tbuf : Nat := 0
  /-- Queue that issued last to each engine (04 R117). -/
  lastq : List Nat := [3, 3, 3, 3, 3, 3, 3, 3]
  /-- Requests collected for the next batch (03 R77). -/
  pool : List PoolReq := []
  /-- Requests of launched batches whose outputs are still to be drained (03 R77). -/
  batch : List PoolReq := []
  /-- ACC landing buffer (07 R217). -/
  landing : List Landing := []
  /-- The injected descriptor's context (14 R427): queue 4. -/
  inj : Queue := {}
  /-- Queue whose context the injected descriptor uses. -/
  injCtx : Nat := 0
  deriving DecidableEq, Repr

/-- A felt queue, apart from its 64 entries (05 Table 5-6). -/
structure FeltQ where
  cfg : Word := 0
  head : Nat := 0
  count : Nat := 0
  drops : Word := 0
  deriving DecidableEq, Repr

/-- The scrubbers of a slice (05 R152, R160). -/
structure VSlice where
  /-- Next line or side band of the patrol: sheet * 33 + line, 32 for the side band. -/
  pos : Nat := 0
  /-- The reset scrub is under way. -/
  busy : Bool := true
  deriving DecidableEq, Repr

/-- A push that waits in an island's push buffer (05 R156). -/
structure FeltPushMsg where
  queue : Nat := 0
  handle : Word := 0
  /-- Job of the queue the handle was popped from; none for a host write. -/
  job : Option Nat := none
  deriving DecidableEq, Repr

/-- A tile entry of an island reducer (07 R227, R228; 02 R46). -/
structure RTile where
  w0 : Word := 0
  w1 : Word := 0
  w2 : Word := 0
  w3 : Word := 0
  /-- Number of the region that owns it. -/
  region : Nat := 0
  count : Nat := 0
  elts : Store WideElt := []
  poison : Option Poison := none
  /-- Flits of the delivery under way that have not landed. -/
  delivering : Nat := 0
  /-- Non-finite result in the delivery (02 R48). -/
  nonfin : Bool := false
  /-- Descriptors that wait for the verdict of the round (02 R51). -/
  refs : List DescRef := []
  /-- The round runs again in W320, in the fallback reserve, until its delivery has landed (02 R52). -/
  fallback : Bool := false
  /-- Raw contributions a W192 tile has counted in the round, their sum in W320 form, and their poison: a fallback starts
  from them (log 137). -/
  rawCount : Nat := 0
  rawElts : Store WideElt := []
  rawPz : Option Poison := none
  deriving DecidableEq, Repr

/-- The parts of a tile island that are not arrays of words. -/
structure Isl where
  /-- `ISL_ERR` (07 Table 7-9). -/
  err : Nat := 0
  pushBuf : List FeltPushMsg := []
  /-- Fallback queue: entries, in order of detection (02 R52). -/
  fbq : List Nat := []
  deriving DecidableEq, Repr

/-- What a sideband message says (07 Table 7-6, 09 R268, R271). -/
inductive SbBody where
  /-- Add `inc` to event `ev` of the target island. -/
  | signal (ev inc : Nat)
  /-- Push a handle popped from a queue of job `job`. -/
  | felt (queue : Nat) (handle : Word) (job : Nat)
  /-- Issue the waiting REDUCE again in W320 mode. -/
  | reexec (r : DescRef)
  /-- A Screed non-finite notice of a job and the attempt it was produced in. -/
  | notice (job attempt : Nat)
  /-- A flit was dropped at a node, in a slot of this stream or circuit; `own` when the flit was its own, sent by this
  transfer. -/
  | violation (stream : Nat) (r : DescRef) (node : Nat) (own : Bool)
  /-- The arrival of a BARRIER at a job barrier (06 R197, 09 R276). -/
  | arrival (job bar : Nat) (r : DescRef)
  /-- A SKIM_PART contribution: slot, partial sum, non-finite flag, poison count, sender. -/
  | skimPart (slot : Nat) (sum : Word) (nonfin : Bool) (poisoned : Nat) (r : DescRef)
  /-- The Skim unit's collect message for a job. -/
  | collect (job : Nat)
  /-- An island's answer: for each slot of the job, its sum and counts. -/
  | reply (job : Nat) (sums : List (Nat × WideElt × Nat × Nat × Nat))
  /-- A job barrier has opened for a waiting BARRIER (06 R198). -/
  | release (r : DescRef)
  /-- The Deckle sets up a circuit at a route node, or the node's acknowledgement (07 R223). -/
  | circuit (id : Nat) (ack : Bool)
  deriving DecidableEq, Repr

/-- A sideband message on its way (07 R225). -/
structure SbMsg where
  dst : Nat := 0
  src : Nat := 0
  body : SbBody := .signal 0 0
  /-- The sender's sequence number (14 R428). -/
  s : Nat := 0
  deriving DecidableEq, Repr

/-- A Lath flit on its way (07 R208, R209). -/
structure Flit where
  stream : Nat := 0
  kind : Nat := 0
  addr : Nat := 0
  data : List Word := []
  /-- Slot in which it was sent (07 R219). -/
  slot : Nat := 0
  /-- Whether the tag's parity holds. -/
  par : Bool := true
  /-- The descriptor or delivery that sends the stream. -/
  ref : DescRef := {}
  /-- Poison state the transfer carries (05 R150). -/
  poison : Option Poison := none
  /-- Elements of a raw delivery whose last byte lies in this flit (log 18). -/
  raw : List (Nat × WideElt) := []
  /-- The raw elements are of a W192 tile. -/
  rawNarrow : Bool := false
  /-- Last flit of its contribution or delivery. -/
  last : Bool := false
  deriving DecidableEq, Repr

/-- Residency states (06 Table 6-5). -/
inductive PState where
  | absent | filling | resident | draining
  deriving DecidableEq, Repr

/-- A declared page of a job (06 R176, R180). -/
structure Page where
  hint : Nat := 0
  /-- Word 1 of the page record. -/
  home : Word := 0
  uses : Nat := 0
  /-- Shared object the page maps. -/
  shared : Option Nat := none
  deriving DecidableEq, Repr

/-- Residency of a page or shared object (06 R181). -/
structure PObj where
  st : PState := .absent
  dirty : Bool := false
  stackValid : Bool := false
  frame : Nat := 0
  refs : Nat := 0
  /-- Reservations of issued descriptors that have not become references yet (06 R185). -/
  resv : Nat := 0
  /-- Charged job. -/
  charged : Nat := 0
  /-- Requester set, bit j for job j. -/
  reqs : Nat := 0
  /-- Unread marks of the sixteen sheets. -/
  unread : Nat := 0
  /-- Order of its last reference. -/
  last : Nat := 0
  /-- Stack and stack page. -/
  stack : Nat := 0
  spage : Nat := 0
  stream : Nat := 0
  /-- Job whose stack quota holds the page. -/
  owner : Nat := 0
  /-- A promotion waits for a home frame. -/
  waiting : Bool := false
  /-- The drain came from a RELEASE: no entry names the page any more. -/
  released : Bool := false
  /-- After a finished write-back the page returns to RESIDENT. -/
  keepAfter : Bool := false
  /-- Home slice. -/
  slice : Nat := 0
  /-- Preferred frame. -/
  pref : Nat := 0
  /-- The page entered FILLING as a zero fill (06 R186). -/
  zero : Bool := false
  /-- The waiting promotion is a prefetch. -/
  pf : Bool := false
  /-- Mappings of a shared object. -/
  maps : Nat := 0
  /-- Written since the write-back under way sent it. -/
  rewritten : Bool := false
  deriving DecidableEq, Repr

/-- Kinds of stack request, in the order a grant serves them (06 R194). -/
inductive ReqKind where
  | demand | writeback | prefetch
  deriving DecidableEq, Repr

/-- A request or a transfer between a stack and the Vat (06 R194). -/
structure Req where
  kind : ReqKind := .demand
  obj : Nat := 0
  stream : Nat := 0
  stack : Nat := 0
  job : Nat := 0
  granted : Bool := false
  /-- No circuit could be opened for its next sheet so far: the wait is counted (07 R222). -/
  blocked : Bool := false
  /-- Sheets of the page that circuits have carried. -/
  sheets : Nat := 0
  deriving DecidableEq, Repr

/-- A placed region (06 R170, Table 6-9 space 1). -/
structure Region where
  job : Nat := 0
  x : Nat := 0
  y : Nat := 0
  w : Nat := 0
  h : Nat := 0
  events : Nat := 0
  evBase : Nat := 0
  felts : List (Nat × Nat) := []
  bars : List Nat := []
  used : List Nat := []
  /-- Plan streams: kind, id, source node, destination node (07 Table 7-3). -/
  streams : List (Nat × Nat × Nat × Nat) := []
  /-- Under removal (06 R172). -/
  removing : Bool := false
  deriving DecidableEq, Repr

/-- A stream of pages (06 R193). -/
structure Strm where
  en : Bool := false
  job : Nat := 0
  rate16 : Nat := 0
  reads : Nat := 0
  deficit : List Nat := [0, 0, 0, 0, 0, 0, 0, 0]
  deriving DecidableEq, Repr

/-- A job barrier (06 R197, Table 6-12). An arrival is a BARRIER descriptor or, none, a host arrival. -/
structure Barrier where
  waitWb : Bool := false
  hostExpect : Nat := 0
  /-- Arrivals of the current generation, oldest first. -/
  now : List (Option DescRef) := []
  /-- Arrivals held for the next generations (06 R199). -/
  held : List (Option DescRef) := []
  gen : Word := 0
  deriving DecidableEq, Repr

/-- A job of the Deckle (06 Table 6-11). -/
structure Job where
  enabled : Bool := false
  aborting : Bool := false
  pfBlocked : Bool := false
  pfBad : Bool := false
  pfDone : Bool := false
  pfCur : Nat := 0
  attempt : Nat := 0
  reserved : Nat := 0
  /-- Position of the walk in the window: pages already looked at. -/
  pfPos : Nat := 0
  /-- The victim of the walk's own quota eviction, while it drains (06 R191). -/
  pfEv : Option Nat := none
  deriving DecidableEq, Repr

/-- The Deckle's command under way (06 R171, R176). -/
inductive DkCmd where
  | none
  /-- Placement after step 3: region number, region, image address. -/
  | placing (r : Nat) (reg : Region) (img : Nat)
  /-- Page list: job, address, count, next record, first record that cannot be read. -/
  | pages (job addr count idx bad : Nat)
  /-- Removal of a region. -/
  | removing (r : Nat)
  deriving DecidableEq, Repr

/-- The Deckle, apart from its tables. -/
structure Deckle where
  cmd : DkCmd := .none
  donePend : Bool := false
  index : Nat := 0
  result : Nat := 0
  ready : Bool := false
  /-- Requests in order of arrival, granted ones among them until they finish. -/
  reqs : List Req := []
  /-- Order of references, for R184. -/
  clock : Nat := 0
  /-- Released pages that descriptors in flight still hold: page key and page object (R186). -/
  former : List (Nat × Nat) := []
  deriving DecidableEq, Repr

/-- A sheet of a COPY that a circuit is to carry (07 R216): from global sheet `a` to `b`. -/
structure CopyReq where
  ref : DescRef := {}
  a : Nat := 0
  b : Nat := 0
  poison : Option Poison := none
  /-- Its wait for a circuit is counted. -/
  blocked : Bool := false
  deriving DecidableEq, Repr

/-- Why a port engine moves a sheet (10 R307-R309): by collective index `i`. -/
inductive PeStep where
  /-- A source of its own goes into a window. -/
  | contrib (i : Nat)
  /-- A sheet goes to rank `r`. -/
  | send (r phase i : Nat) (nf : Bool)
  /-- A source of its own goes to OUT: read, then written. -/
  | own (i : Nat)
  | put (i : Nat)
  /-- A result of its reducer goes to OUT. -/
  | result (i : Nat) (nf : Bool)
  /-- A received sheet goes to OUT. -/
  | land (i : Nat) (nf : Bool)
  deriving DecidableEq, Repr

/-- A sheet a port engine reads from the Vat, or writes there with the bytes `image` (10 R286). -/
structure PeMove where
  step : PeStep := .contrib 0
  /-- Communicator and sequence number of its collective. -/
  comm : Nat := 0
  seq : Nat := 0
  g : Nat := 0
  out : Bool := true
  image : List Byte := []
  poison : Option Poison := none
  blocked : Bool := false
  deriving DecidableEq, Repr

/-- A circuit that is being set up or is open, for one sheet (07 R221-R223). -/
structure Circ where
  id : Nat := 0
  /-- Positions in the node-entry store. -/
  ents : List Nat := []
  /-- Islands on the route. -/
  isls : List Nat := []
  k : Nat := 0
  /-- Page object whose sheet it carries. -/
  obj : Option Nat := none
  /-- That sheet of the page, and whether it is written back. -/
  sheet : Nat := 0
  wback : Bool := false
  /-- The COPY it carries. -/
  copy : Option CopyReq := none
  /-- The port engine and the sheet it carries for it. -/
  port : Option (Nat × PeMove) := none
  /-- Slice at whose L port the circuit ends; none for one that ends at an edge link. -/
  node : Option Nat := none
  /-- Node and port where its flits enter, and their slots there. -/
  src : Nat × Nat := (0, 5)
  slots : List Nat := []
  /-- Nodes that have not acknowledged it. -/
  unacked : List Nat := []
  /-- Flits to send once it is open. -/
  hold : List Flit := []
  /-- Flits that have neither landed nor been reported lost. -/
  left : Nat := 0
  /-- Flits that have left by the edge link. -/
  got : List Flit := []
  /-- The fill met an uncorrectable burst, or its stack does not answer. -/
  ue : Bool := false
  /-- Node that dropped a flit of it (07 R218). -/
  lost : Option Nat := none
  deriving DecidableEq, Repr

/-! ## The Skim -/

/-- A slot of an island's Skim adder (09 R268): its sum and its three counts. -/
structure SAdd where
  e : WideElt := {}
  cnt : Nat := 0
  poisoned : Nat := 0
  nonfin : Nat := 0
  deriving DecidableEq, Repr

/-- A Skim record of the fabric exchange (10 R313): a member's, or, `complete`, the one the root has completed. -/
structure SkimRec where
  rank : Nat := 0
  attempt : Nat := 0
  mask : Nat := 0
  complete : Bool := false
  leave : Bool := false
  sums : List (Nat × WideElt) := []
  counts : List Nat := [0, 0, 0, 0, 0]
  deriving DecidableEq, Repr

/-- The step state of one job (09 R270, Table 9-9). -/
structure SkimJob where
  /-- Table 9-4: 0 OFF, 1 ACCUMULATE, 2 COLLECT, 3 FABRIC, 4 PASSED, 5 SKIPPED, 6 FAULT. -/
  st : Nat := 0
  cause : Nat := 0
  notices : Nat := 0
  forced : Nat := 0
  norm : Word := 0
  clip : Word := 0
  step : DWord := 0
  mbInStep : Nat := 0
  fabPoisoned : Nat := 0
  fabNonfin : Nat := 0
  /-- An UPDATE fault is recorded for the attempt (R264). -/
  updFault : Bool := false
  /-- Islands that have replied, bit i for island i. -/
  replied : Nat := 0
  /-- The module's record: per enabled slot its number and sum. -/
  sums : List (Nat × WideElt) := []
  /-- The five counts of the record: poisoned, non-finite, notices, mismatches, forced skips. -/
  counts : List Nat := [0, 0, 0, 0, 0]
  /-- Contribution, poisoned and non-finite counts of each slot in the collection under way. -/
  cnts : List (Nat × Nat × Nat × Nat) := []
  /-- The record has been sent into the fabric exchange. -/
  sentRec : Bool := false
  /-- Records that have come by the fabric and that no exchange has used, oldest first (10 R313). -/
  inbox : List SkimRec := []
  deriving DecidableEq, Repr

/-! ## The control plane -/

/-- The arbiter (12 R359, R360). -/
structure Carb where
  /-- Holder of the grant. -/
  holder : Option Nat := none
  /-- Requester last granted in each class. -/
  last : List Nat := [20, 20, 20, 20]
  /-- Consecutive losses of each requester. -/
  streak : Store Nat := []
  deriving DecidableEq, Repr

/-- The interrupt controller (12 R371-R377): one bit for each of the 1,024 numbers. -/
structure Intc where
  pend : BitVec 1024 := 0
  active : BitVec 1024 := 0
  /-- 1: masked. -/
  mask : BitVec 1024 := BitVec.allOnes 1024
  /-- Asserted state last seen. -/
  level : BitVec 1024 := 0
  /-- Claimer of each active source. -/
  claimer : Store Nat := []
  /-- Groups whose hold-off timer runs. -/
  hold : BitVec 32 := 0
  deriving DecidableEq, Repr

/-- The page mailbox and the other header state of a page (12 R364, R368, R369). -/
structure Hdr where
  refused : Bool := false
  mbSel : Nat := 0
  mbValid : Bool := false
  mbWords : List Word := []
  mbNext : Nat := 0
  indAddr : Word := 0
  indSpace : Nat := 0
  lastErr : Bool := false
  deriving DecidableEq, Repr

/-- The management port (12 R351-R355). -/
structure Mgmt where
  linkUp : Bool := false
  fecLock : Bool := false
  blockLock : Bool := false
  txFault : Bool := false
  rxLos : Bool := false
  modPresent : Bool := false
  err : Nat := 0
  txHead : Nat := 0
  rxHead : Nat := 0
  /-- Rings stopped by a DMA error until `EN` is committed 0 and then 1. -/
  stopped : Bool := false
  /-- Frames sent, newest first (the wire). -/
  sent : List (List Byte) := []
  deriving DecidableEq, Repr

/-- Reset, wrapper and clock state of one of the 92 islands (01 R16, 12 Table 12-8, 13). -/
structure IslSt where
  inReset : Bool := false
  isolated : Bool := false
  unstable : Bool := false
  locked : Bool := true
  clkFault : Bool := false
  /-- Reset code of its latest reset (14 Table 14-7a). -/
  code : Nat := 1
  deriving DecidableEq, Repr

/-- What is fixed in a part by fuses (00 R2, 12 R352). -/
structure Part where
  /-- Grade: 0 for SQ-EG1-A, 1 for SQ-EG1-B. -/
  grade : Nat := 0
  /-- Disabled core positions. -/
  disabled : List Nat := []
  /-- MAC address of the management port. -/
  mac : BitVec 48 := 0
  /-- Serial id (10 R296). -/
  serial : DWord := 1
  deriving DecidableEq, Repr

/-! ## Stacks (08) -/

/-- A read that waits for its one re-read (08 R245). -/
structure Retry where
  burst : Nat := 0
  /-- Offset in the stack and bytes of the access. -/
  off : Nat := 0
  size : Nat := 64
  /-- Data of a read-modify-write. -/
  wr : Option Nat := none
  /-- 0 edge links, 1 host port, 2 patrol scrubber, 3 a write of a block on the module, which nobody answers. -/
  reader : Nat := 0
  /-- An access that has not been tried yet: it arrived behind another one of its burst (08 R242). -/
  fresh : Bool := false
  /-- The access is the debug port's (14 R426). -/
  dbg : Bool := false
  deriving DecidableEq, Repr

/-- A scheduled write of a corrected burst (08 R246). -/
structure Corr where
  burst : Nat := 0
  data : List Byte := []
  /-- A newer write to the burst has arrived. -/
  stale : Bool := false
  deriving DecidableEq, Repr

/-- A stack and its controller (08). -/
structure Stk where
  trained : Bool := false
  failed : Bool := false
  selfRefresh : Bool := false
  hot : Bool := false
  warm : Bool := false
  temp : Nat := 0
  scrubPos : Nat := 0
  errValid : Bool := false
  errHost : Bool := false
  errBurst : Nat := 0
  /-- An uncorrectable burst is not acknowledged. -/
  errPend : Bool := false
  retries : List Retry := []
  corrs : List Corr := []
  /-- Postponed refreshes, by channel * 32 + bank. -/
  postponed : Store Nat := []
  /-- Indirect space 0, by channel * 4 + word. -/
  chan : Store Word := []
  deriving DecidableEq, Repr

/-! ## The fabric (10) -/


/-- A window of a reduction at its owner (10 R308). -/
structure Win where
  first : Nat := 0
  count : Nat := 0
  /-- W320; else W192. -/
  wide : Bool := true
  /-- Contributions that have arrived: rank and index. -/
  got : List (Nat × Nat) := []
  /-- Wide elements, by (index - first) * 2048 + element. -/
  elts : Store WideElt := []
  /-- Poison collected for an index. -/
  pz : Store (Option Poison) := []
  /-- Every contribution has arrived, and the results are on their way to OUT. -/
  done : Bool := false
  deriving DecidableEq, Repr

/-- A COLL or GATHER at its port engine (10 R307-R310). -/
structure Coll where
  ref : DescRef := {}
  comm : Nat := 0
  seq : Nat := 0
  /-- 0 all-reduce, 1 reduce-scatter, 2 all-gather, 3 broadcast, 4 gather. -/
  op : Nat := 0
  /-- `FMT` byte, and `FORM`: 0 W320, 1 W192. -/
  fmt : Nat := 0
  form : Nat := 0
  k : Nat := 0
  g : Nat := 1
  rank : Nat := 0
  root : Nat := 0
  job : Nat := 0
  tag : Nat := 0
  pass : Nat := 0
  isGather : Bool := false
  vsnA : Nat := 0
  vsnOut : Nat := 0
  /-- Owned indices already put into windows. -/
  opened : Nat := 0
  wins : List Win := []
  /-- Ranges that run again in W320 (R309). -/
  again : List (Nat × Nat) := []
  /-- Sheets granted to other ranks and not yet sent: rank, phase, index. -/
  toSend : List (Nat × Nat × Nat) := []
  /-- Contributed sheets covered by a FINAL. -/
  finals : Nat := 0
  /-- Collective indices of OUT asked for by a GRANT. -/
  asked : Store Bool := []
  /-- Collective indices landed in OUT. -/
  landed : Store Bool := []
  /-- Indices delivered with a non-finite value. -/
  nfIdx : Store Bool := []
  nf : Bool := false
  poison : Option Poison := none
  fail : Option Nat := none
  /-- Sheets of phase 1 sent. -/
  sent1 : Nat := 0
  /-- A frame of it was lost before its first link acknowledged it (R310). -/
  lost : Bool := false
  /-- 0 a descriptor; 1 a page the securing controller sends, 2 one it receives (11 R331). -/
  sec : Nat := 0
  deriving DecidableEq, Repr

/-- A codeword that has come in on its lane, and whether it was discarded (10 R289). -/
structure RxCw where
  cw : Codeword := {}
  lost : Bool := false
  deriving DecidableEq, Repr

/-- A frame that is coming in: its units so far, the units still due, whether one of them was discarded. -/
structure RxAsm where
  bytes : List Byte := []
  left : Nat := 0
  lost : Bool := false
  deriving DecidableEq, Repr

/-- A port island: lanes, link layer and port engine (10 R286). -/
structure Port where
  /-- 0 DOWN, 1 TRAINING, 2 LOCKING, 3 HELLO, 4 UP, 5 DISABLED. -/
  link : Nat := 5
  locks : Nat := 0
  /-- A HELLO of the partner has been received in this bring-up. -/
  greeted : Bool := false
  pSerial : DWord := 0
  pPort : Nat := 0
  pAddr : Nat := 0
  pAsleep : Bool := false
  /-- This side has sent a HELLO with `ACK` 1. -/
  ackSent : Bool := false
  /-- A HELLO that names this module as its partner has been received. -/
  heard : Bool := false
  /-- Pair last received (R297). -/
  best : Option (Nat × Nat) := none
  err : Nat := 0
  /-- Next `LSEQ` to send, and next expected. -/
  lseq : Nat := 0
  rseq : Nat := 0
  /-- A NAK has been sent for the present gap. -/
  nakSent : Bool := false
  /-- Sent frames not acknowledged, oldest first, with the replays of each. -/
  replay : List (Frame × Nat) := []
  /-- Frames that wait for credit, oldest first; one in transit with the port in whose ingress buffer it stands, and its
  channel there. -/
  txq : List (Frame × Option (Nat × Nat)) := []
  /-- Units sent on each channel since UP. -/
  sent : List Nat := [0, 0, 0, 0]
  pFreed : List Nat := [0, 0, 0, 0]
  pLimits : Word := 0
  freed : List Nat := [0, 0, 0, 0]
  /-- Units on channel 0 not returned while the grant buffer is full (R308). -/
  owed : Nat := 0
  /-- A CREDIT is due. -/
  creditDue : Bool := false
  /-- The first CREDIT after a wake carries `NAK` (R317). -/
  wakeNak : Bool := false
  /-- `PE_FAIL`: `VALID`, `REASON`, `SEQ`. -/
  peFailV : Bool := false
  peFail : Nat × Nat := (0, 0)
  coll : Option Coll := none
  waiting : List Coll := []
  /-- Sheets the engine is moving to and from the Vat. -/
  moves : List PeMove := []
  /-- Jobs whose Skim exchange the engine holds. -/
  skims : List Nat := []
  /-- Frames sent, newest first (the wire). -/
  wire : List Frame := []
  /-- Codewords each lane has had without an uncorrectable one, while LOCKING, up to 64. -/
  lockRun : List Nat := [0, 0, 0, 0, 0, 0, 0, 0]
  /-- Codewords of rounds that are not complete, and the frame that is coming in (10 R288, R289). -/
  rxCw : List RxCw := []
  asm : Option RxAsm := none
  /-- Frames that have come in by codewords and that the link layer has not taken up. -/
  inFrames : List Frame := []
  deriving DecidableEq, Repr

/-- The fabric state of the control island (10 R296-R304, R314-R316). -/
structure Fab where
  coord : Bool := false
  assigned : Bool := false
  epoch : Nat := 0
  addr : Nat := 0
  coordAddr : Nat := 0
  fence : Word := 0
  event : Nat := 0
  txHead : Nat := 0
  rxTail : Nat := 0
  best : Nat × Nat := (0, 0)
  coordSerial : DWord := 0
  /-- Stored path: its length and 20 bytes of nibbles. -/
  pathLen : Nat := 0
  path : List Byte := []
  /-- Active and shadow routing banks. -/
  route : Store Word := []
  shadow : Store Word := []
  /-- GRANT frames for sequence numbers not yet issued (R308). -/
  grants : List Frame := []
  deriving DecidableEq, Repr

/-! ## Securing (11) -/

/-- The securing controller and the flash transfer engine (11 R329-R346). -/
structure Sg where
  busy : Bool := false
  donePend : Bool := false
  op : Nat := 0
  job : Nat := 0
  result : Nat := 0
  index : Nat := 0
  /-- Active arguments taken when the operation began. -/
  slot : Nat := 0
  version : Nat := 0
  erase : Nat := 0
  shards : Nat := 0
  holder : Bool := false
  last : Nat := 0
  comm : Nat := 0
  due : BitVec 32 := 0
  err : Nat := 0
  /-- Pages to send (communicator, stripe, piece or 2 for a member page) and to receive (with the source). -/
  sends : List (Nat × Nat × Nat) := []
  recvs : List (Nat × Nat × Nat × Nat) := []
  /-- The first page to send, and to receive: 0 not started, 1 at its port engine, 2 done, 3 failed. -/
  sendSt : Nat := 0
  recvSt : Nat := 0
  /-- Stripe the fill accumulates: the page being built. -/
  acc : List Nat := []
  /-- Job and stripe of the pages that the captured version changed (11 R330). -/
  delta : List (Nat × Nat) := []
  /-- `FL_XFER` under way: to flash, stack address, unit, count. -/
  xfer : Option (Bool × Nat × Nat × Nat) := none
  logHead : Nat := 0
  deriving DecidableEq, Repr

/-! ## Power, module, reset and trim (13, 15) -/

/-- Levels, sleep and the module switch, as the blocks see them (13 R386-R396, 15 R436-R445). -/
structure Pwr where
  levW : Nat := 3
  levE : Nat := 3
  busyW : Bool := false
  busyE : Bool := false
  deferW : Bool := false
  deferE : Bool := false
  /-- Target of the GO under way, per half. -/
  goW : Option Nat := none
  goE : Option Nat := none
  /-- The clocks of the half's tile islands are stopped for the change to this level. -/
  chgW : Option Nat := none
  chgE : Option Nat := none
  sleepBusy : Bool := false
  /-- Step 2 of sleep entry is reached: stacks in self-refresh, clocks stopping. -/
  asleep : Bool := false
  waking : Bool := false
  donePend : Bool := false
  wokePend : Bool := false
  resW : Nat := 0
  resE : Nat := 0
  resS : Nat := 0
  wakeCause : Nat := 0
  /-- Wake events held during sleep entry. -/
  wakeHeld : Nat := 0
  tempW : Nat := 0
  tempE : Nat := 0
  offBusy : Bool := false
  off : Bool := false
  mainOn : Bool := true
  /-- `THERMAL_TRIP`, `OV_TRIP`, `OC_TRIP`. -/
  trips : Nat := 0
  /-- A trip holds the main switch open. -/
  tripHold : Bool := false
  /-- The debounce of `MATED_N` is over (15 R440). -/
  mated : Bool := true
  /-- `PRECHG` is mated: the precharge current source is enabled (15 R435). -/
  precharge : Bool := true
  /-- Island resets accepted during a level change, with their codes (13 R391). -/
  lateResets : List (Nat × Nat) := []
  /-- A module release is under way: 1 waits for `MATED_N`, 2 for the reset source to go, 4 loads trim, 5
  checks the reference, 6 releases the islands (13 Table 13-7); else none. -/
  release : Option Nat := none
  /-- Reset code of the latest module release. -/
  relCode : Nat := 1
  deriving DecidableEq, Repr

/-- A trim image of 128 words. -/
abbrev TrimImg := List Word

/-- Default trim (13 R408): `LEVEL_OK` 0b1000, offsets 0, `ASSIST` 128, `TSENSE` 0, `DCO` 0x8000. Its
`MAGIC`, `FORMAT` and `CRC` words are those of a valid copy (log 45). -/
def defaultTrim : TrimImg :=
  [0x54C10000, 0x18, 0, 0, 0, 0, 0x80808080, 0] ++ List.replicate 46 0x80008000 ++ List.replicate 73 0 ++ [0x7FDC8A1F]

/-- The fuses of the modelled part: its two copies allow every level (log 4). -/
def partTrim : TrimImg :=
  [0x54C10001, 0x1F, 0, 0, 0, 0, 0x80808080, 0] ++ List.replicate 46 0x80008000 ++ List.replicate 73 0 ++ [0x9CC205ED]

/-- The trim load (13 R408, R409). -/
structure Trim where
  loading : Bool := false
  cut : Bool := false
  noneValid : Bool := false
  aOk : Bool := false
  bOk : Bool := false
  source : Nat := 0
  seq : Nat := 0
  active : TrimImg := defaultTrim
  /-- Copies as last read. -/
  copyA : TrimImg := []
  copyB : TrimImg := []
  /-- The fuses. -/
  fuseA : TrimImg := partTrim
  fuseB : TrimImg := partTrim
  deriving DecidableEq, Repr

/-! ## Boot, security and debug (14) -/

/-- What hart 0 does in the boot ROM (14 R414, R418, R419). -/
inductive Boot where
  /-- Held in reset, or firmware runs. -/
  | none
  /-- The ROM waits for stack 0, which holds the image, with these sources to try (log 46). -/
  | wait (rest : List Nat)
  /-- Reading from the network: next offset wanted, and the sources left after it. -/
  | net (off : Nat) (rest : List Nat)
  /-- The hold state. -/
  | hold
  deriving DecidableEq, Repr

/-- The SEC block (14 R416-R424). Key digests are 32-byte lists. -/
structure Sec where
  boot : Word := 0
  measurement : List Byte := []
  bootMldsa : Nat := 0
  bootEd : Nat := 0
  edDigests : List (List Byte) := []
  mlDigests : List (List Byte) := []
  revEd : Nat := 0
  revMl : Nat := 0
  rollback : Nat := 0
  secret : List Byte := []
  debugSeen : Bool := false
  heldBoot : Bool := false
  /-- The boot ROM and its path into the block are in use (R417). -/
  rom : Boot := .none
  /-- Harts released from the ROM. -/
  harts : Nat := 0
  /-- A command under way: operation and argument. -/
  cmd : Option (Nat × Nat) := none
  donePend : Bool := false
  result : Nat := 0
  reportNo : DWord := 0
  /-- Space 1: the last report; space 2: nonce and claim. -/
  report : Store Word := []
  nonce : Store Word := []
  deriving DecidableEq, Repr

/-- The JTAG TAP (14 R425, R426). -/
structure Tap where
  ir : Nat := 2
  /-- Status of the last DBGPORT access: 0 OK, 1 BUSY, 2 BUS_ERROR; its address and data. -/
  status : Nat := 0
  addr : Nat := 0
  data : DWord := 0
  /-- Island a BUSY access waits for. -/
  waits : Nat := 0
  /-- Boundary-scan cells hold this preloaded pattern. -/
  bound : Nat := 0
  /-- The last DMI request and its data. -/
  dmiOp : Nat := 0
  dmiAddr : Nat := 0
  dmiData : Word := 0
  /-- Registers of the debug module, by DMI address (log 47). -/
  dm : Store Word := []
  /-- Harts halted in debug mode, bit c for hart c. -/
  halted : Nat := 0
  /-- `dcsr.step` of the harts, and their resume acknowledgements. -/
  step : Nat := 0
  resumed : Nat := 0
  deriving DecidableEq, Repr

/-- The DEBUG page's injection state (14 R427). -/
structure Inj where
  busy : Bool := false
  donePend : Bool := false
  detail : Nat := 0
  status : Nat := 0
  core : Nat := 0
  deriving DecidableEq, Repr

/-- The power stages' PMBus side (15 R443). -/
structure Pmb where
  page : Nat := 0
  /-- `STATUS_WORD` and the four status bytes of each page, by page * 8 + register. -/
  status : Store Nat := []
  /-- The reply of the last access; none when it was not acknowledged. -/
  reply : Option (List Byte) := none
  deriving DecidableEq, Repr

/-- The response of the last access: the model's own record of what its initiator received. -/
inductive Resp where
  | none
  /-- Completed, with the data read (0 for a write). -/
  | ok (v : Nat)
  /-- Completed with a bus error (00 R13, 12 R356). -/
  | busError
  deriving DecidableEq, Repr

end Sys2Proof.Machine
end

