-- ==== Sys2Proof/Machine/State.lean ====
section
/-!
DEFINITION. The state of the module: every register, array, queue and mode the specification gives
it, as plain data, and its value right after reset.
-/

namespace Sys2Proof.Machine

/-- Why a step can stop. No meaning of this model raises it: the specification gives nothing that
stops the whole module (INVENTORY, Faults). Safe. -/
inductive Fault where
  /-- Never raised. -/
  | none
  deriving DecidableEq, Repr

/-- Why a command has no meaning. -/
inductive Refusal where
  /-- The command of this mnemonic has no meaning yet. Safe: nothing can be proved of it. -/
  | notModelled (mnemonic : String)
  deriving DecidableEq, Repr

/-- The compute die and everything on the module but the always-on island. -/
structure Die where
  /-- RW registers and active copies of CS registers, by page * 4096 + offset. -/
  regs : Store Word := []
  /-- Shadow copies of CS registers. -/
  shad : Store Word := []
  /-- Counters, by page * 65536 + mailbox selector. -/
  ctr : Store DWord := []
  /-- Header state of each page. -/
  hdr : Store Hdr := []
  /-- Stack memory, Vat payload and retained memory, by device address; an unlisted byte is 0. -/
  mem : List Host.Cell := []
  /-- Side bands of the Vat, by (global frame * 16 + sheet) * 64 + word (05 R142). -/
  side : Store Word := []
  /-- Accumulator memory, by core * 32768 + slot * 1024 + row * 32 + column (03 Table 3-16). -/
  acc : Store Word := []
  /-- Poison flags of accumulator slots, by core * 32 + slot (05 R150). -/
  accPoison : Store (Option Poison) := []
  /-- Active function tables, by core * 32768 + table * 1024 + word. -/
  ftab : Store Word := []
  /-- Staging image, by core * 1024 + word. -/
  stage : Store Word := []
  /-- Shadow parameter registers, by (core * 4 + queue) * 32 + register (04 R124). -/
  pshad : Store DWord := []
  /-- Active parameter registers. -/
  pact : Store DWord := []
  /-- Cores. -/
  cores : Store Core := []
  /-- Queues, by core * 4 + queue. -/
  queues : Store Queue := []
  /-- Descriptor cache lines, by (core * 4 + queue) * 64 + line (04 R118). -/
  dcache : Store CLine := []
  /-- Event counters, by island * 4096 + event (04 R106). -/
  evt : Store Word := []
  /-- Scrubbers of the slices. -/
  vslice : Store VSlice := []
  /-- Felt queues, by island * 256 + queue. -/
  felt : Store FeltQ := []
  /-- Felt queue entries, by (island * 256 + queue) * 64 + entry. -/
  feltMem : Store Word := []
  /-- Node entries, by node * 96 + output * 16 + slot (07 Table 7-11). -/
  nent : Store Word := []
  /-- Reducer tile entries, by island * 256 + entry. -/
  rtile : Store RTile := []
  /-- Tile islands. -/
  isl : Store Isl := []
  /-- Reset, wrapper and clock state of the islands. -/
  islSt : Store IslSt := []
  /-- Sideband input queues, by node * 6 + input (07 R225). -/
  sbq : Store (List SbMsg) := []
  /-- Sideband messages that have reached their target node. -/
  sbArr : Store (List SbMsg) := []
  /-- Flits at a node's arrival port, by node * 8 + port (07 R211, R219). -/
  links : Store (List Flit) := []
  /-- Flits held at a seam lane for a credit, by lane * 2 + direction (07 R231). -/
  seamWait : Store (List Flit) := []
  /-- Seam credits in use, by lane * 2 + direction. -/
  seamUsed : Store Nat := []
  /-- Seam credits on their way back. -/
  seamBack : Store Nat := []
  /-- Circuits set up or open, and the COPY sheets that wait for one. -/
  circs : List Circ := []
  copyq : List CopyReq := []
  /-- Bank plans still in force after a commit, until the circuits into the slice close (05 R162). -/
  heldPlan : Store (List Word) := []
  dk : Deckle := {}
  jobs : Store Job := []
  /-- Job barriers, by job * 64 + barrier. -/
  bars : Store Barrier := []
  /-- Declared pages, by job * 2^23 + virtual page. -/
  pages : Store (Option Page) := []
  /-- Residency: a private page under its page key, shared object id under 2^28 + id. -/
  objs : Store (Option PObj) := []
  regions : Store (Option Region) := []
  strms : Store Strm := []
  /-- Pool table words (06 Table 6-9 space 2). -/
  poolT : Store Word := []
  /-- Generation of each frame (05 R164). -/
  fgen : Store Nat := []
  /-- Skim adders, by island * 64 + slot (09 R268). -/
  sadd : Store SAdd := []
  skim : Store SkimJob := []
  /-- SKIM indirect space 0: the RW words of each job, by job * 16 + word (09 Table 9-9). -/
  skimCfg : Store Word := []
  /-- SKIM indirect space 1, by slot * 8 + word. -/
  skimSlot : Store Word := []
  /-- SKIM indirect space 2, by (job * 8 + generator) * 4 + word. -/
  skimGen : Store Word := []
  /-- `SKIM_PEND` (09 Table 9-8). -/
  skimPend : BitVec 32 := 0
  /-- `SKIM_LAST`. -/
  skimLast : Word := 0
  /-- Communicator table, by entry * 8 + word (10 Table 10-13). -/
  comms : Store Word := []
  /-- Stacks (08). -/
  stk : Store Stk := []
  /-- Changed maps of the stack controllers, by stack * 2^20 + stack page (11 R330). -/
  changed : Store Bool := []
  /-- Port islands (10). -/
  ports : Store Port := []
  fab : Fab := {}
  sg : Sg := {}
  /-- FLASH space 0, by job * 32 + word (11 Table 11-9). -/
  flCfg : Store Word := []
  /-- The securing event log, by entry * 4 + word (11 R345). -/
  flLog : Store Word := []
  /-- Flash contents, by byte; an unlisted byte is 0. -/
  flash : List Host.Cell := []
  pw : Pwr := {}
  inj : Inj := {}
  /-- DEBUG space 0: the descriptor to inject. -/
  injDesc : Store Word := []
  /-- Trace configuration, records and counter selections (14 Table 14-11). -/
  trc : Store Word := []
  trRec : Store Word := []
  trSel : Store Word := []
  /-- Sequence number of each island (14 R428). -/
  trS : Store Nat := []
  carb : Carb := {}
  intc : Intc := {}
  mgmt : Mgmt := {}
  /-- `EA_LAST` and `WB_LAST_*` (12 Table 12-11). -/
  eaLast : Word := 0
  wbLo : Word := 0
  wbHi : Word := 0
  part : Part := {}
  /-- The model's own: response of the last access. -/
  resp : Resp := .none
  /-- The model's own: count of the free values used so far. -/
  free : Nat := 0
  deriving DecidableEq, Repr

/-- The always-on island, apart from what the blocks see of it in `Die.pw`. -/
structure Aon where
  /-- `RST_CAUSE`. -/
  last : Nat := 1
  scope : Nat := 0
  history : Nat := 1
  causeIsl : Nat := 0
  /-- `RST_STRAPS`. -/
  bootSrc : Nat := 0
  clkMode : Nat := 0
  clkEff : Nat := 0
  strapBad : Bool := false
  refFallback : Bool := false
  refDead : Bool := false
  suspect : Bool := false
  wdtRunning : Bool := false
  /-- Value the watchdog was last loaded with. -/
  wdtFrom : Nat := 0
  /-- `LOCKUP_LAST`. -/
  lockup : Bool := false
  lockCore : Nat := 0
  /-- `GA` pins. -/
  ga : Nat := 0
  trim : Trim := {}
  sec : Sec := {}
  tap : Tap := {}
  pmb : Pmb := {}
  deriving DecidableEq, Repr

/-- The state of the machine. -/
structure State where
  d : Die := {}
  a : Aon := {}
  /-- Commands waiting, first in, first out. -/
  pending : List Instr := []
  deriving DecidableEq, Repr

/-- The fuses of the modelled part: grade A, with the cores of the last row disabled (00 R2; log 4). -/
def resetPart : Part := { disabled := (List.range 64).map (fun x => 4032 + x) }

/-- The trim load of the release has taken copy A (13 Table 13-9; log 4). -/
def resetTrim : Trim :=
  { aOk := true, bOk := true, source := 1, seq := 1, active := partTrim, copyA := partTrim, copyB := partTrim }

/-- The state right after reset: a module release that followed power-on has ended, with boot source 0. Every
register holds its reset value; the work that starts at the release is still to be done: the stacks train, the
slices scrub, the Deckle is not ready, and the boot ROM waits for stack 0 (log 3). -/
def State.reset : State :=
  { d := { part := resetPart, fab := { best := (1, 0) } }
    a := { trim := resetTrim, sec := { rom := .wait [0, 3] } } }

end Sys2Proof.Machine
end

