-- ==== Sys2Proof/Machine/Ops.lean ====
section
/-!
DEFINITION. The named operations over the die's registers, counters and memories that the meanings
share.
-/

namespace Sys2Proof.Machine

/-! ## Registers and counters -/

/-- Key of a register. -/
def rkey (page off : Nat) : Nat := page * 4096 + off

/-- The active copy of a register. -/
def Die.reg (d : Die) (page off : Nat) : Word := sget d.regs (resetVal (rkey page off)) (rkey page off)

/-- The shadow copy of a register of CS fields. -/
def Die.shadow (d : Die) (page off : Nat) : Word := sget d.shad (resetVal (rkey page off)) (rkey page off)

/-- Set the active copy. -/
def Die.setReg (d : Die) (page off : Nat) (v : Word) : Die :=
  { d with regs := sset d.regs (resetVal (rkey page off)) (rkey page off) v }

/-- Set the shadow copy. -/
def Die.setShadow (d : Die) (page off : Nat) (v : Word) : Die :=
  { d with shad := sset d.shad (resetVal (rkey page off)) (rkey page off) v }

/-- Write and commit a register of CS fields, as the Deckle does at placement (06 Table 6-2). -/
def Die.setBoth (d : Die) (page off : Nat) (v : Word) : Die := (d.setReg page off v).setShadow page off v

/-- A register of the page holds CS fields at this offset. -/
def isCs (key : Nat) : Bool :=
  match pageKind (key / 4096) with
  | none => false
  | some k => match regInfo k (key % 4096) with
    | none => false
    | some r => decide (r.cs ≠ 0)

/-- Copy every shadow of a page into its active copy (12 R365). -/
def Die.commitPage (d : Die) (page : Nat) : Die :=
  let kept := skeep d.regs (fun k => !(decide (k / 4096 = page) && isCs k))
  let sh := d.shad.filter (fun c => decide (c.1 / 4096 = page) && isCs c.1)
  { d with regs := sh.foldr (fun c m => sset m (resetVal c.1) c.1 c.2) kept }

/-- Key of a counter. -/
def ckey (page sel : Nat) : Nat := page * 65536 + sel

/-- A counter's value. -/
def Die.ctrOf (d : Die) (page sel : Nat) : DWord := sget d.ctr 0 (ckey page sel)

/-- Add `n` to a counter (03 R93). -/
def Die.count (d : Die) (page sel : Nat) (n : Nat := 1) : Die :=
  { d with ctr := sset d.ctr 0 (ckey page sel) (bump (d.ctrOf page sel) n) }

/-- Set a counter that records a latest value. -/
def Die.setCtr (d : Die) (page sel : Nat) (v : DWord) : Die := { d with ctr := sset d.ctr 0 (ckey page sel) v }

/-- Page of core `n`. -/
def pgCore (n : Nat) : Nat := 0x1000 + n
/-- Page of tile island `i`. -/
def pgIsl (i : Nat) : Nat := 0x80 + i
/-- Page of job `j`. -/
def pgJob (j : Nat) : Nat := 0x40 + j
/-- Page of stack `s`. -/
def pgStk (s : Nat) : Nat := 0x20 + s
/-- Page of port `p`. -/
def pgPort (p : Nat) : Nat := 0x10 + p
/-- The `DECKLE` page. -/
def pgDk : Nat := 0xC
/-- The SYS page. -/
def pgSys : Nat := 0
/-- The INTC page. -/
def pgIntc : Nat := 4
/-- The CARB page. -/
def pgCarb : Nat := 5
/-- The MGMT page. -/
def pgMgmt : Nat := 8
/-- The FLASH page. -/
def pgFlash : Nat := 9
/-- The SKIM page. -/
def pgSkim : Nat := 0xA
/-- The FABRIC page. -/
def pgFab : Nat := 0xB
/-- The RESET page. -/
def pgRst : Nat := 1
/-- The POWER page. -/
def pgPwr : Nat := 2
/-- The TRIM page. -/
def pgTrim : Nat := 3
/-- The SEC page. -/
def pgSec : Nat := 6
/-- The DEBUG page. -/
def pgDbg : Nat := 7

/-- Use one free 64-bit value (log 6). -/
def Die.takeFree (d : Die) : Die × DWord := ({ d with free := d.free + 1 }, Config.freeDWord d.free)

/-- Use one free 32-bit value (log 6). -/
def Die.takeFreeW (d : Die) : Die × Word := ({ d with free := d.free + 1 }, Config.freeWord d.free)

/-! ## Records kept in stores -/

/-- Core `n`. -/
def Die.core (d : Die) (n : Nat) : Core := sget d.cores {} n
/-- Replace core `n`. -/
def Die.setCore (d : Die) (n : Nat) (c : Core) : Die := { d with cores := sset d.cores {} n c }
/-- Change core `n`. -/
def Die.updCore (d : Die) (n : Nat) (f : Core → Core) : Die := d.setCore n (f (d.core n))

/-- Queue `q` of core `n`; queue 4 is the injected descriptor's. -/
def Die.queue (d : Die) (n q : Nat) : Queue := if q < 4 then sget d.queues {} (n * 4 + q) else (d.core n).inj
/-- Replace a queue. -/
def Die.setQueue (d : Die) (n q : Nat) (x : Queue) : Die :=
  if q < 4 then { d with queues := sset d.queues {} (n * 4 + q) x }
  else d.updCore n (fun c => { c with inj := x })
/-- Change a queue. -/
def Die.updQueue (d : Die) (n q : Nat) (f : Queue → Queue) : Die := d.setQueue n q (f (d.queue n q))

/-- The queue whose registers give the context of queue `q`: the injected descriptor borrows the one `INJ_CTRL`
names (14 R427). -/
def Die.ctxQ (d : Die) (n q : Nat) : Nat := if q < 4 then q else (d.core n).injCtx % 4

/-- Tile island `i`. -/
def Die.island (d : Die) (i : Nat) : Isl := sget d.isl {} i
/-- Change tile island `i`. -/
def Die.updIsl (d : Die) (i : Nat) (f : Isl → Isl) : Die := { d with isl := sset d.isl {} i (f (d.island i)) }

/-- State of one of the 92 islands. -/
def Die.ist (d : Die) (i : Nat) : IslSt := sget d.islSt {} i
/-- Change the state of an island. -/
def Die.updIst (d : Die) (i : Nat) (f : IslSt → IslSt) : Die := { d with islSt := sset d.islSt {} i (f (d.ist i)) }

/-- Scrubbers of slice `n`. -/
def Die.slice (d : Die) (n : Nat) : VSlice := sget d.vslice {} n
/-- Change the scrubbers of a slice. -/
def Die.updSlice (d : Die) (n : Nat) (f : VSlice → VSlice) : Die := { d with vslice := sset d.vslice {} n (f (d.slice n)) }

/-- Felt queue `q` of island `i`. -/
def Die.feltQ (d : Die) (i q : Nat) : FeltQ := sget d.felt {} (i * 256 + q)
/-- Change a felt queue. -/
def Die.updFelt (d : Die) (i q : Nat) (f : FeltQ → FeltQ) : Die :=
  { d with felt := sset d.felt {} (i * 256 + q) (f (d.feltQ i q)) }

/-- Reducer tile entry `e` of island `i`. -/
def Die.rt (d : Die) (i e : Nat) : RTile := sget d.rtile {} (i * 256 + e)
/-- Change a tile entry. -/
def Die.updRt (d : Die) (i e : Nat) (f : RTile → RTile) : Die :=
  { d with rtile := sset d.rtile {} (i * 256 + e) (f (d.rt i e)) }

/-- Job `j`. -/
def Die.job (d : Die) (j : Nat) : Job := sget d.jobs {} j
/-- Change job `j`. -/
def Die.updJob (d : Die) (j : Nat) (f : Job → Job) : Die := { d with jobs := sset d.jobs {} j (f (d.job j)) }

/-- Barrier `b` of job `j`. -/
def Die.bar (d : Die) (j b : Nat) : Barrier := sget d.bars {} (j * 64 + b)
/-- Change a barrier. -/
def Die.updBar (d : Die) (j b : Nat) (f : Barrier → Barrier) : Die :=
  { d with bars := sset d.bars {} (j * 64 + b) (f (d.bar j b)) }

/-- Region `r`, if placed. -/
def Die.region (d : Die) (r : Nat) : Option Region := sget d.regions none r

/-- Declared page `v` of job `j`. -/
def Die.page (d : Die) (j v : Nat) : Option Page := sget d.pages none (j * 2 ^ 23 + v)
/-- Set a page entry. -/
def Die.setPage (d : Die) (j v : Nat) (p : Option Page) : Die :=
  { d with pages := sset d.pages none (j * 2 ^ 23 + v) p }

/-- A page object. -/
def Die.obj (d : Die) (o : Nat) : Option PObj := sget d.objs none o
/-- Set a page object. -/
def Die.setObj (d : Die) (o : Nat) (p : Option PObj) : Die := { d with objs := sset d.objs none o p }
/-- Change a page object that exists. -/
def Die.updObj (d : Die) (o : Nat) (f : PObj → PObj) : Die :=
  match d.obj o with
  | none => d
  | some p => d.setObj o (some (f p))

/-- Stream `x`. -/
def Die.strm (d : Die) (x : Nat) : Strm := sget d.strms {} x
/-- Change a stream. -/
def Die.updStrm (d : Die) (x : Nat) (f : Strm → Strm) : Die := { d with strms := sset d.strms {} x (f (d.strm x)) }

/-- Change the Deckle's own record. -/
def Die.updDk (d : Die) (f : Deckle → Deckle) : Die := { d with dk := f d.dk }

/-- Header state of a page. -/
def Die.hd (d : Die) (p : Nat) : Hdr := sget d.hdr {} p
/-- Change the header state of a page. -/
def Die.updHdr (d : Die) (p : Nat) (f : Hdr → Hdr) : Die := { d with hdr := sset d.hdr {} p (f (d.hd p)) }

/-- Record the response of an access. -/
def Die.respond (d : Die) (r : Resp) : Die := { d with resp := r }

/-! ## Byte memory -/

/-- One byte; an unlisted byte reads 0 (log 13). -/
def Die.byte (d : Die) (a : Nat) : Byte := sget d.mem 0 a

/-- `n` bytes from address `a`. -/
def Die.bytes (d : Die) (a n : Nat) : List Byte := sgetList d.mem 0 a n

/-- Write bytes at consecutive addresses. -/
def Die.setBytes (d : Die) (a : Nat) (bs : List Byte) : Die := { d with mem := ssetList d.mem 0 a bs }

/-- The little-endian word at `a` (00 R9). -/
def Die.mword (d : Die) (a : Nat) : Word := word (leNat (d.bytes a 4))

/-- `n` consecutive words. -/
def Die.mwords (d : Die) (a n : Nat) : List Word := (List.range n).map (fun i => d.mword (a + 4 * i))

/-- Set a range of bytes to 0. -/
def Die.zeroBytes (d : Die) (a n : Nat) : Die := { d with mem := sclear d.mem a n }

/-- End of stack memory (12 Table 12-5). -/
def stackEnd : Nat := 0x8000000000
/-- Base of the Vat window. -/
def vatBase : Nat := 0x010000000000
/-- Base of retained memory. -/
def retBase : Nat := 0x030000040000

/-! ## Positions (01 R15, R16, R18) -/

/-- Column of a core. -/
def cx (n : Nat) : Nat := n % 64
/-- Row of a core. -/
def cy (n : Nat) : Nat := n / 64
/-- Core at a position. -/
def coreAt (x y : Nat) : Nat := y * 64 + x
/-- Tile island of a core. -/
def islOf (n : Nat) : Nat := (cy n / 8) * 8 + cx n / 8
/-- Node of an island's reducer, event table and felt queues: local (3, 3) (07 R225). -/
def islNode (i : Nat) : Nat := coreAt (i % 8 * 8 + 3) (i / 8 * 8 + 3)
/-- Node of the Deckle and the Skim unit. -/
def dkNode : Nat := 63
/-- The core position lies in the west half. -/
def westCore (n : Nat) : Bool := decide (cx n < 32)
/-- The tile island lies in the west half. -/
def westIsl (i : Nat) : Bool := decide (i % 8 < 4)
/-- Cores of a tile island. -/
def islCores (i : Nat) : List Nat :=
  (List.range 64).map (fun k => coreAt (i % 8 * 8 + k % 8) (i / 8 * 8 + k / 8))
/-- The core is enabled in this part (00 R2). -/
def Die.enabled (d : Die) (n : Nat) : Bool := decide (n < 4096) && !(d.part.disabled.contains n)

/-! ## Trace (14 R428-R430) -/

/-- Sequence number of an island. -/
def Die.seqNo (d : Die) (i : Nat) : Nat := sget d.trS 0 i

/-- An island receives a carrier with sequence number `m` (14 R428). -/
def Die.hear (d : Die) (i m : Nat) : Die :=
  { d with trS := sset d.trS 0 i ((max (d.seqNo i) m + 1) % 2 ^ 32) }

/-- Trace configuration word of an island. -/
def Die.trcCfg (d : Die) (i : Nat) : Word := sget d.trc 0 (i * 2)

/-- The island's trace is frozen. -/
def Die.frozen (d : Die) (i : Nat) : Bool := bit (d.trcCfg i) 29

/-- Count a record of a kind in the island's four counters (14 R430). -/
def Die.traceCount (d : Die) (i kind : Nat) : Die :=
  [0, 1, 2, 3].foldl (fun d k =>
    let w := sget d.trSel 0 (i * 4 + k)
    if bit w 31 ∧ fld w 7 0 = kind then d.count pgDbg (0x100 + i * 4 + k) else d) d

/-- Write a trace record: local count (free, log 2), sequence number, payload (14 R429). -/
def Die.trace (d : Die) (i kind : Nat) (payload : Word) : Die :=
  let d := d.traceCount i kind
  let c := d.trcCfg i
  if bit c 31 ∧ bit c kind ∧ bit c 29 = false then
    let n := (d.seqNo i + 1) % 2 ^ 32
    let f := d.takeFree
    let t := f.2.toNat
    let nx := sget f.1.trc 0 (i * 2 + 1)
    let r := fld nx 11 0
    let d := f.1
    let d := { d with
      trS := sset d.trS 0 i n
      trRec := ssetList d.trRec 0 ((i * 4096 + r) * 4)
        [packW [(24, kind), (16, i), (0, (t / 2 ^ 32) % 2 ^ 16)], word t, word n, payload]
      trc := sset d.trc 0 (i * 2 + 1) (packW [(31, if bit nx 31 ∨ r = 4095 then 1 else 0), (0, (r + 1) % 4096)]) }
    if kind = 7 ∧ bit c 30 then { d with trc := sset d.trc 0 (i * 2) (setFld (d.trcCfg i) 29 29 1) } else d
  else d

/-- Set a bit of `ISL_ERR` (07 Table 7-9), which writes a FAULT record (14 Table 14-7a). -/
def Die.islErr (d : Die) (i bitNo : Nat) : Die :=
  (d.updIsl i (fun s => { s with err := s.err ||| 2 ^ bitNo })).trace i 7 (word bitNo)

/-! ## The sideband -/

/-- Append a message to a list held in a store. -/
def pushAt {β : Type} [DecidableEq β] (m : Store (List β)) (k : Nat) (v : β) : Store (List β) :=
  sset m [] k (sget m [] k ++ [v])

/-- An engine, table or notice puts a message into its own node (07 R225): input 4. It carries the
sender's sequence number (14 R428). -/
def Die.send (d : Die) (src dst : Nat) (b : SbBody) : Die :=
  let i := match b with
    | .collect _ => 89
    | .release _ => 89
    | .circuit _ false => 89
    | _ => islOf src
  { d with sbq := pushAt d.sbq (src * 6 + 4) { dst := dst, src := src, body := b, s := d.seqNo i } }

/-- Take the first arrived message at a node that satisfies `p`. -/
def Die.takeArr (d : Die) (node : Nat) (p : SbMsg → Bool) : Option (SbMsg × Die) :=
  let l := sget d.sbArr [] node
  match l.findIdx? p with
  | none => none
  | some i => match l[i]? with
    | none => none
    | some m => some (m, { d with sbArr := sset d.sbArr [] node (dropAt l i) })

/-! ## Stack memory (06 R177, 11 R330) -/

/-- Active `POOL_BASE_s`, in bytes. -/
def Die.poolBase (d : Die) (s : Nat) : Nat := fld (d.reg pgDk (0x140 + 8 * s)) 19 0 * 65536

/-- Device address of stack page `k` of stack `s` (06 R177). -/
def Die.pageAddr (d : Die) (s k : Nat) : Nat := s * 2 ^ 36 + d.poolBase s + k * 69632

/-- The controller's changed map records a write into a stack page (11 R330). -/
def Die.markChanged (d : Die) (a : Nat) : Die :=
  let s := a / 2 ^ 36
  let o := a % 2 ^ 36
  if d.poolBase s ≤ o ∧ o < d.poolBase s + fld (d.reg pgDk (0x144 + 8 * s)) 19 0 * 69632 then
    { d with changed := sset d.changed false (s * 2 ^ 20 + (o - d.poolBase s) / 69632) true }
  else d

/-- Write bytes to stack memory. -/
def Die.stackWrite (d : Die) (a : Nat) (bs : List Byte) : Die :=
  if a < stackEnd then ((d.setBytes a bs).markChanged a).markChanged (a + bs.length - 1) else d.setBytes a bs

/-- Stack `s`. -/
def Die.stack (d : Die) (s : Nat) : Stk := sget d.stk {} s
/-- Change a stack. -/
def Die.updStk (d : Die) (s : Nat) (f : Stk → Stk) : Die := { d with stk := sset d.stk {} s (f (d.stack s)) }
/-- Port `p`. -/
def Die.port (d : Die) (p : Nat) : Port := sget d.ports {} p
/-- Change a port. -/
def Die.updPort (d : Die) (p : Nat) (f : Port → Port) : Die := { d with ports := sset d.ports {} p (f (d.port p)) }
/-- Change the fabric state. -/
def Die.updFab (d : Die) (f : Fab → Fab) : Die := { d with fab := f d.fab }
/-- Change the securing controller. -/
def Die.updSg (d : Die) (f : Sg → Sg) : Die := { d with sg := f d.sg }
/-- Change the power state. -/
def Die.updPw (d : Die) (f : Pwr → Pwr) : Die := { d with pw := f d.pw }

/-! ## Running islands (13 R389-R395, R403) -/

/-- Clocks of a tile island's half are stopped for a level change. -/
def Pwr.stopped (p : Pwr) (i : Nat) : Bool :=
  decide (i < 64) && (if westIsl i then p.chgW.isSome else p.chgE.isSome)

/-- Island `i` runs: powered, out of reset and its clock not stopped. -/
def Die.live (d : Die) (i : Nat) : Bool :=
  (d.pw.mainOn || decide (i = 91)) && !(d.ist i).inReset && !(d.ist i).isolated && !d.pw.stopped i && (!d.pw.asleep || decide (72 ≤ i ∧ i < 88) || decide (i = 91))

/-- An event of island `i` changes the die; an island that does not run has no event (log 1). -/
def State.at_ (s : State) (i : Nat) (f : Die → Die) : Host.Outcome State Fault Refusal :=
  .next (if s.d.live i then { s with d := f s.d } else s)

/-- An event that no island's clock gates. -/
def State.onDie (s : State) (f : Die → Die) : Host.Outcome State Fault Refusal := .next { s with d := f s.d }

/-! ## Control-plane conditions -/

/-- The island of a page (01 Table 1-1): the one whose reset and wrapper the header shows. -/
def pageIsland (k : PageKind) : Nat :=
  match k with
  | .core n => islOf n
  | .island i => i
  | .stack s => 64 + s
  | .cport p => 72 + p
  | .job _ => 89
  | .deckle => 89
  | .mgmt => 88
  | .reset => 91
  | .power => 91
  | .trim => 91
  | .sys => 90
  | .intc => 90
  | .carb => 90
  | .sec => 90
  | .debug => 90
  | .flash => 89
  | .skim => 89
  | .fabric => 90

end Sys2Proof.Machine
end

