-- ==== Sys2Proof/Machine/Access.lean ====
section
/-!
DEFINITION. The rules every control-plane transfer obeys before it reaches a register (00 R13, 12 R356,
R357, R364, 13 R393, R403, 14 R424, R428), as one guard that the register commands share.
-/

namespace Sys2Proof.Machine

/-- Requester 16, the debug port (12 Table 12-7). -/
def iniDebug : Nat := 16

/-- Island that sends a requester's transfers: the host cores and the management DMA lie in the host
island, the Deckle and the flash transfer engine in the Deckle island, the fabric ring engine in the
control island, the debug port's TAP in the always-on island. -/
def iniIsland (ini : Nat) : Nat :=
  if ini < 16 ∨ ini = 19 then 88 else if ini = 16 then 91 else if ini = 18 then 90 else 89

/-- The control plane itself refuses the transfer: the control island is in reset, or the module
sleeps; the always-on island still serves its pages to the debug port (13 R383, R393, R403). -/
def Die.planeClosed (d : Die) (ini page : Nat) : Bool :=
  if ini = iniDebug ∧ 1 ≤ page ∧ page ≤ 3 then false
  else d.pw.asleep || !d.pw.mainOn || (d.ist 90).inReset || (d.ist 90).isolated

/-- The page's block is in reset or behind a closed wrapper, and the offset is not served by the control
island (12 R364). -/
def Die.blockClosed (d : Die) (page off : Nat) : Bool :=
  match pageKind page with
  | none => true
  | some k =>
    let t := d.ist (pageIsland k)
    (t.inReset || t.isolated) && (decide (0x100 ≤ off) || decide (off = 0x30) || decide (off = 0x38) ||
      decide (off = 0x3C) || decide (off = 0x44))

/-! ## The grant a transfer needs (00 R14, 12 R358-R363) -/

/-- Class of a requester (12 Table 12-13). -/
def Die.carbClass (d : Die) (r : Nat) : Nat :=
  if r < 16 then fld (d.reg pgCarb 0x100) (2 * r + 1) (2 * r)
  else fld (d.reg pgCarb 0x104) (2 * (r - 16) + 1) (2 * (r - 16))

/-- Consecutive losses of a requester. -/
def Die.streakOf (d : Die) (r : Nat) : Nat := sget d.carb.streak 0 r

/-- The grant in use ends without having been revoked. -/
def Die.carbEnd (d : Die) : Die :=
  match d.carb.holder with
  | none => d
  | some h => { d with carb := { d.carb with holder := none, streak := sset d.carb.streak 0 h 0 } }

/-- The requester's transfer is granted. -/
def Die.carbGrant (d : Die) (r : Nat) : Die :=
  let c := d.carbClass r
  Die.count { d with carb := { d.carb with holder := some r, last := setAt d.carb.last c r } } pgCarb (0x100 + r)

/-- The requester's transfer can end: it holds the grant, or no grant is in use and it has lost no contest since its
last transfer. One that has lost, or whose grant was revoked, has no effect until it is granted again (12 R358, R361;
log 34). -/
def Die.hasGrant (d : Die) (r : Nat) : Bool :=
  !d.live 90 || decide (21 ≤ r) || (match d.carb.holder with
    | some h => decide (h = r)
    | none => decide (d.streakOf r = 0))

/-- The holds of a sleep entry or of the prepared power-off are on (13 Table 13-4 step 1, 15 Table 15-7; log 141), or the
module sleeps or is OFF. -/
def Die.workHeld (d : Die) : Bool := d.pw.sleepBusy || d.pw.asleep || d.pw.offBusy || d.pw.off

/-- The requester's transfer ends: the grant it holds is free again; one that held none was granted in a cycle with no
other request. -/
def Die.transfer (d : Die) (r : Nat) : Die :=
  if d.live 90 = false ∨ 21 ≤ r then d
  else if d.carb.holder = some r then d.carbEnd
  else (d.carbGrant r).carbEnd

/-- As `Die.transfer`; a transfer of the debug port is seen (14 R424). -/
def State.transfer (s : State) (r : Nat) : State :=
  { s with d := s.d.transfer r, a := if r = iniDebug then { s.a with sec := { s.a.sec with debugSeen := true } } else s.a }

/-- A transfer that is granted reaches the target island: `DEBUG_SEEN` (14 R424) and the causal
sequence number (14 R428). -/
def State.granted (s : State) (ini page : Nat) : State :=
  let s := s.transfer ini
  { s with d := match pageKind page with
    | none => s.d
    | some k => s.d.hear (pageIsland k) (s.d.seqNo (iniIsland ini)) }

/-- Record a response. -/
def State.respond (s : State) (r : Resp) : State := { s with d := s.d.respond r }

/-- A naturally aligned 32-bit access of requester `ini` to an offset of a page; `f` is its effect, and
may itself answer with a bus error. A requester whose island does not run makes no access, and one without a grant
has no effect. -/
def State.cpl (s : State) (ini page off : Nat) (f : State → State) : Host.Outcome State Fault Refusal :=
  if s.d.live (iniIsland ini) = false ∨ s.d.hasGrant ini = false then .next s
  else
    let s := s.granted ini page
    if s.d.planeClosed ini page ∨ (pageKind page).isNone ∨ s.d.blockClosed page off then .next (s.respond .busError)
    else .next (f (s.respond (.ok 0)))

/-- As `cpl`, for an effect on the die alone. -/
def State.cplD (s : State) (ini page off : Nat) (f : Die → Die) : Host.Outcome State Fault Refusal :=
  s.cpl ini page off (fun s => { s with d := f s.d })

/-- The debug port takes the response of its access: OK with the data, BUSY, or BUS_ERROR (14 R426). -/
def Tap.take (t : Tap) (r : Resp) : Tap :=
  match r with
  | .none => { t with status := 1 }
  | .ok v => { t with status := 0, data := BitVec.ofNat 64 v }
  | .busError => { t with status := 2, data := 0 }

/-- As `Tap.take`, on the state. -/
def State.tapTake (s : State) : State := { s with a := { s.a with tap := s.a.tap.take s.d.resp } }

/-- The BUSY access of the debug port waits for island `i`. -/
def Tap.waitsFor (t : Tap) (i : Nat) : Bool := decide (t.status = 1) && decide (t.waits = i)

/-- The BUSY access of the debug port ends with a bus error. -/
def Tap.cut (t : Tap) : Tap := if t.status = 1 then t.take .busError else t

/-- The access is refused with a bus error and has no effect. -/
def Die.refuse (d : Die) : Die := d.respond .busError

end Sys2Proof.Machine
end

