-- ==== Sys2Proof/Machine/Num.lean ====
section
/-!
DEFINITION. The arithmetic of 02 (R28-R50, R59) and the vector-unit functions of 03 (R80): every
value is an exact dyadic number until the one rounding its rule names.
-/

namespace Sys2Proof

/-! ## Formats -/

/-- fp32 (02 Table 2-1). -/
def fp32 : FltFmt := ⟨8, 23, 127, .ieee⟩
/-- bf16. -/
def bf16 : FltFmt := ⟨8, 7, 127, .ieee⟩
/-- fp16. -/
def fp16 : FltFmt := ⟨5, 10, 15, .ieee⟩

/-- The format of a format code (04 R101), for codes 0 to 7. -/
def fmtOf (c : Nat) : FltFmt :=
  match c with
  | 0 => bf16
  | 1 => fp16
  | 2 => fp32
  | 3 => ⟨4, 3, 7, .e4m3⟩
  | 4 => ⟨5, 2, 15, .ieee⟩
  | 5 => ⟨3, 2, 3, .none⟩
  | 6 => ⟨2, 3, 1, .none⟩
  | _ => ⟨2, 1, 1, .none⟩

/-- Element width in bits of a format code (05 R140). -/
def fmtBits (c : Nat) : Nat :=
  match c with
  | 0 => 16
  | 1 => 16
  | 2 => 32
  | 3 => 8
  | 4 => 8
  | 5 => 6
  | 6 => 6
  | _ => 4

/-- Codes 3 to 7 are MX element formats. -/
def fmtMx (c : Nat) : Bool := decide (3 ≤ c) && decide (c ≤ 7)

/-- `emax` of an MX format (02 Table 2-2). -/
def fmtEmax (c : Nat) : Int :=
  match c with
  | 3 => 8
  | 4 => 15
  | 5 => 4
  | 6 => 2
  | _ => 2

/-- Bytes of a stored vector of 32 elements (04 R104). -/
def vecBytes (c : Nat) : Nat := fmtBits c * 4

/-- Vectors a sheet holds (05 Table 5-2). -/
def vecsPerSheet (c : Nat) : Nat :=
  match c with
  | 2 => 32
  | 0 => 64
  | 1 => 64
  | _ => 128

/-- The exponent of the least significant bit of a subnormal. -/
def FltFmt.qmin (f : FltFmt) : Int := 1 - (f.bias : Int) - (f.fbits : Int)

/-- The code of the largest finite magnitude. -/
def FltFmt.maxMag (f : FltFmt) : Nat :=
  match f.sp with
  | .ieee => (2 ^ f.ebits - 1) <<< f.fbits - 1
  | .e4m3 => 2 ^ (f.ebits + f.fbits) - 2
  | .none => 2 ^ (f.ebits + f.fbits) - 1

/-- The code of a sign bit. -/
def FltFmt.signBit (f : FltFmt) (neg : Bool) : Nat := if neg then 2 ^ (f.ebits + f.fbits) else 0

/-- The canonical NaN (02 R38); formats without one have code 0 (R43 step 1). -/
def FltFmt.nanCode (f : FltFmt) : Nat :=
  match f.sp with
  | .ieee => (2 ^ f.ebits - 1) <<< f.fbits + 2 ^ (f.fbits - 1)
  | .e4m3 => 2 ^ (f.ebits + f.fbits) - 1
  | .none => 0

/-- Decode an element (02 R28, R31). -/
def FltFmt.decode (f : FltFmt) (c : Nat) : Num :=
  let fr := c % 2 ^ f.fbits
  let ex := (c >>> f.fbits) % 2 ^ f.ebits
  let neg := c.testBit (f.ebits + f.fbits)
  let fin := if ex = 0 then Num.fin neg fr f.qmin
    else Num.fin neg (fr + 2 ^ f.fbits) (f.qmin + (ex : Int) - 1)
  if ex = 2 ^ f.ebits - 1 then
    match f.sp with
    | .ieee => if fr = 0 then .inf neg else .nan
    | .e4m3 => if fr = 2 ^ f.fbits - 1 then .nan else fin
    | .none => fin
  else fin

/-! ## Rounding -/

/-- A magnitude `m * 2 ^ e` on the grid of a format: the code of the largest grid value not above
it, the rest, and the size of one step, in units of `2 ^ -k` of the step. -/
def FltFmt.grid (f : FltFmt) (m : Nat) (e : Int) : Nat × Nat × Nat :=
  let top : Int := (Nat.log2 m : Int) + e
  let q : Int := max (top - (f.fbits : Int)) f.qmin
  let base := (q - f.qmin).toNat * 2 ^ f.fbits
  if q ≤ e then (m <<< (e - q).toNat + base, 0, 1)
  else
    let s := (q - e).toNat
    (m >>> s + base, m % 2 ^ s, 2 ^ s)

/-- The magnitude code `m * 2 ^ e` rounds to, before overflow is looked at (02 R41, R42). -/
def FltFmt.roundMag (f : FltFmt) (r : Rounding) (m : Nat) (e : Int) : Nat :=
  if m = 0 then 0 else
  match f.grid m e with
  | (lo, rem, step) =>
    let near := if step < 2 * rem ∨ (2 * rem = step ∧ lo % 2 = 1) then lo + 1 else lo
    match r with
    | .rne => near
    | .sr u =>
      if f.maxMag < lo ∨ (lo = f.maxMag ∧ 0 < rem) then near
      else if u < rem * 65536 / step then lo + 1 else lo

/-- Narrow a value to bf16, fp16 or fp32 (02 R41, R42, R37). -/
def FltFmt.narrow (f : FltFmt) (r : Rounding) (x : Num) : Nat :=
  match x with
  | .nan => f.nanCode
  | .inf neg => f.signBit neg + (f.maxMag + 1)
  | .fin neg m e => f.signBit neg + min (f.roundMag r m e) (f.maxMag + 1)

/-- Round a scaled finite value to an MX element, saturating (02 R43 step 3). -/
def FltFmt.mxElt (f : FltFmt) (r : Rounding) (neg : Bool) (m : Nat) (e : Int) : Nat :=
  f.signBit neg + min (f.roundMag r m e) f.maxMag

/-- An fp32 word as a value. -/
def f32 (w : Word) : Num := fp32.decode w.toNat

/-- Round a value to fp32 (02 R37). -/
def toF32 (x : Num) : Word := word (fp32.narrow .rne x)

/-- The canonical fp32 NaN. -/
def nan32 : Word := 0x7FC00000

/-- A code is NaN or infinite. -/
def Num.nonfinite (x : Num) : Bool :=
  match x with
  | .nan => true
  | .inf _ => true
  | .fin _ _ _ => false

/-- An fp32 word is non-finite. -/
def nonfin32 (w : Word) : Bool := (f32 w).nonfinite

/-! ## Exact values -/

/-- The exact value of a finite number; 0 for the others. -/
def Num.dy (x : Num) : Dy :=
  match x with
  | .fin neg m e => ⟨if neg then -(m : Int) else m, e⟩
  | _ => ⟨0, 0⟩

/-- Exact sum. -/
def Dy.add (a b : Dy) : Dy :=
  if a.m = 0 then b else if b.m = 0 then a else
  let e := min a.e b.e
  ⟨a.m * 2 ^ (a.e - e).toNat + b.m * 2 ^ (b.e - e).toNat, e⟩

/-- Exact difference. -/
def Dy.sub (a b : Dy) : Dy := a.add ⟨-b.m, b.e⟩

/-- Exact product. -/
def Dy.mul (a b : Dy) : Dy := ⟨a.m * b.m, a.e + b.e⟩

/-- Strict order of exact values. -/
def Dy.lt (a b : Dy) : Bool := decide ((a.sub b).m < 0)

/-- A finite exact value as a number with no negative zero. -/
def Dy.num (a : Dy) : Num := .fin (decide (a.m < 0)) a.m.natAbs a.e

/-- The largest integer not above an exact value. -/
def Dy.floor (a : Dy) : Int :=
  if 0 ≤ a.e then a.m * 2 ^ a.e.toNat else a.m / (2 ^ (-a.e).toNat : Nat)

/-- Product of two values by 02 R38. -/
def Num.mul (a b : Num) : Num :=
  match a, b with
  | .nan, _ => .nan
  | _, .nan => .nan
  | .inf s, .inf t => .inf (s != t)
  | .inf s, .fin t m _ => if m = 0 then .nan else .inf (s != t)
  | .fin s m _, .inf t => if m = 0 then .nan else .inf (s != t)
  | .fin s m e, .fin t n k => .fin (s != t) (m * n) (e + k)

/-- Scale a value by a power of two, exactly. -/
def Num.scale (x : Num) (k : Int) : Num :=
  match x with
  | .fin s m e => .fin s m (e + k)
  | y => y

/-- Change of sign. -/
def Num.neg (x : Num) : Num :=
  match x with
  | .nan => .nan
  | .inf s => .inf (!s)
  | .fin s m e => .fin (!s) m e

/-- Magnitude. -/
def Num.abs (x : Num) : Num :=
  match x with
  | .nan => .nan
  | .inf _ => .inf false
  | .fin _ m e => .fin false m e

/-- The exact sum of a list of addends, with the zero sign of 02 R37 and the special values of
R38. -/
def sumNum (xs : List Num) : Num :=
  if xs.any (fun x => decide (x = .nan)) then .nan
  else
    let p := xs.any (fun x => decide (x = .inf false))
    let n := xs.any (fun x => decide (x = .inf true))
    if p && n then .nan
    else if p then .inf false
    else if n then .inf true
    else
      let s := (xs.map Num.dy).foldl Dy.add ⟨0, 0⟩
      if s.m = 0 then
        .fin (!xs.isEmpty && xs.all (fun x => match x with | .fin true 0 _ => true | _ => false)) 0 0
      else s.num

/-- The exact sum rounded once to fp32: `rnd32` of 02 R37. -/
def rndSum (xs : List Num) : Word := toF32 (sumNum xs)

/-- One step of a cell (02 R33, R34, R36): no valid product leaves the accumulator unchanged. -/
def accStep (acc : Word) (ps : List Num) : Word :=
  if ps.isEmpty then acc else rndSum (f32 acc :: ps)

/-- Fused multiply-add on fp32 words, rounded once. -/
def fma32 (a b c : Word) : Word := rndSum [(f32 a).mul (f32 b), f32 c]

/-- Product of two fp32 words, rounded once. -/
def mul32 (a b : Word) : Word := rndSum [(f32 a).mul (f32 b)]

/-- Sum of two fp32 words, rounded once. -/
def add32 (a b : Word) : Word := rndSum [f32 a, f32 b]

/-- Difference of two fp32 words, rounded once. -/
def sub32 (a b : Word) : Word := rndSum [f32 a, (f32 b).neg]

/-! ## Division, roots and the transcendental functions -/

/-- Floor of the square root, one bit at a time from bit `k`. -/
def isqrtBits (n : Nat) : Nat → Nat → Nat
  | 0, r => if (r + 1) * (r + 1) ≤ n then r + 1 else r
  | k + 1, r =>
    let c := r + 2 ^ (k + 1)
    isqrtBits n k (if c * c ≤ n then c else r)

/-- Floor of the square root. -/
def isqrt (n : Nat) : Nat := isqrtBits n (Nat.log2 n / 2) 0

/-- A magnitude with one extra low bit that says whether anything was cut off. -/
def sticky (q : Nat) (exact : Bool) : Nat := 2 * q + (if exact then 0 else 1)

/-- Quotient of two values, correctly rounded to fp32 (02 R59). -/
def divNum (a b : Num) : Word :=
  match a, b with
  | .nan, _ => nan32
  | _, .nan => nan32
  | .inf _, .inf _ => nan32
  | .inf s, .fin t _ _ => toF32 (.inf (s != t))
  | .fin s _ _, .inf t => toF32 (.fin (s != t) 0 0)
  | .fin s m e, .fin t n k =>
    if n = 0 then (if m = 0 then nan32 else toF32 (.inf (s != t)))
    else
      let sh := Nat.log2 n + 64
      let q := (m <<< sh) / n
      toF32 (.fin (s != t) (sticky q ((m <<< sh) % n = 0)) (e - k - (sh : Int) - 1))

/-- Quotient of two fp32 words. -/
def div32 (a b : Word) : Word := divNum (f32 a) (f32 b)

/-- Square root, correctly rounded (02 R59). -/
def sqrt32 (a : Word) : Word :=
  match f32 a with
  | .nan => nan32
  | .inf s => if s then nan32 else toF32 (.inf false)
  | .fin s m e =>
    if m = 0 then toF32 (.fin s 0 0)
    else if s then nan32
    else
      let k : Nat := 128 + (e % 2).toNat
      let n := m <<< k
      let r := isqrt n
      toF32 (.fin false (sticky r (r * r = n)) ((e - (k : Int)) / 2 - 1))

/-- `1 / √a` (03 R80). -/
def rsqrt32 (a : Word) : Word :=
  match f32 a with
  | .nan => nan32
  | .inf s => if s then nan32 else toF32 (.fin false 0 0)
  | .fin s m e =>
    if m = 0 then toF32 (.inf s)
    else if s then nan32
    else
      let m2 := m <<< (e % 2).toNat
      let e2 := (e - e % 2) / 2
      let k : Nat := 160
      let r := isqrt (2 ^ (2 * k) / m2)
      toF32 (.fin false (sticky r (r * r * m2 = 2 ^ (2 * k))) (-e2 - (k : Int) - 1))

/-- Fixed-point precision of `EXP2`, in bits. -/
def expPrec : Nat := 256

/-- The product of the `2 ^ (2 ^ -i)` of the fraction bits that are 1, from the first bit down;
`root` is the present root, `bits` the fraction scaled by `2 ^ n`. -/
def exp2Bits (bits : Nat) : Nat → Nat → Nat → Nat
  | 0, _, acc => acc
  | n + 1, root, acc =>
    let root' := isqrt (root <<< expPrec)
    exp2Bits bits n root' (if bits.testBit n then (acc * root') >>> expPrec else acc)

/-- `2 ^ a` (03 R80). -/
def exp2f (a : Word) : Word :=
  match f32 a with
  | .nan => nan32
  | .inf s => if s then 0 else toF32 (.inf false)
  | .fin s m e =>
    let d := (Num.fin s m e).dy
    let i := d.floor
    if 200 ≤ i then toF32 (.inf false)
    else if i < -200 then 0
    else
      let fr := d.sub ⟨i, 0⟩
      if fr.m = 0 then toF32 (.fin false 1 i)
      else
        let n := (-fr.e).toNat
        let v := exp2Bits fr.m.toNat n (2 <<< expPrec) (1 <<< expPrec)
        toF32 (.fin false (sticky v false) (i - (expPrec : Int) - 1))

/-- Bits of the base-two logarithm of a fixed-point number in [1, 2). -/
def log2Bits : Nat → Nat → Nat → Nat
  | 0, _, acc => acc
  | n + 1, y, acc =>
    let z := (y * y) >>> 320
    if 2 ^ 321 ≤ z then log2Bits n (z >>> 1) (2 * acc + 1) else log2Bits n z (2 * acc)

/-- `log2 a` (03 R80). -/
def log2f (a : Word) : Word :=
  match f32 a with
  | .nan => nan32
  | .inf s => if s then nan32 else toF32 (.inf false)
  | .fin s m e =>
    if m = 0 then toF32 (.inf true)
    else if s then nan32
    else
      let t := Nat.log2 m
      let ex : Int := (t : Int) + e
      if m = 2 ^ t then toF32 (Dy.num ⟨ex, 0⟩)
      else
        let fr := log2Bits 128 (m <<< (320 - t)) 0
        toF32 (Dy.num ⟨2 * (ex * 2 ^ 128 + (fr : Int)) + 1, -129⟩)

/-- Numerical `a < b` (03 R80); false when either is NaN. -/
def numLt (a b : Num) : Bool :=
  match a, b with
  | .nan, _ => false
  | _, .nan => false
  | .inf s, .inf t => s && !t
  | .inf s, .fin _ _ _ => s
  | .fin _ _ _, .inf t => !t
  | .fin s m e, .fin t n k => ((Num.fin s m e).dy).lt ((Num.fin t n k).dy)

/-- Order of MIN and MAX: numerical, with -0 below +0 (02 R59). -/
def numBelow (a b : Num) : Bool :=
  numLt a b ||
  (match a, b with
   | .fin true 0 _, .fin false 0 _ => true
   | _, _ => false)

/-- Minimum (02 R59). -/
def min32 (a b : Word) : Word :=
  if f32 a = .nan ∨ f32 b = .nan then nan32 else if numBelow (f32 b) (f32 a) then b else a

/-- Maximum (02 R59). -/
def max32 (a b : Word) : Word :=
  if f32 a = .nan ∨ f32 b = .nan then nan32 else if numBelow (f32 a) (f32 b) then b else a

/-- A word with every NaN made canonical. -/
def canon32 (a : Word) : Word := if f32 a = .nan then nan32 else a

/-- 1.0 in fp32. -/
def one32 : Word := 0x3F800000

/-- An elementwise vector-unit function (03 Table 3-4). -/
def vecFn (fn : Nat) (a b c : Word) : Word :=
  match fn with
  | 0x00 => add32 a b
  | 0x01 => sub32 a b
  | 0x02 => mul32 a b
  | 0x03 => fma32 a b c
  | 0x04 => div32 a b
  | 0x05 => sqrt32 a
  | 0x06 => min32 a b
  | 0x07 => max32 a b
  | 0x08 => canon32 (toF32 (f32 a).abs)
  | 0x09 => canon32 (toF32 (f32 a).neg)
  | 0x0A => div32 one32 a
  | 0x0B => rsqrt32 a
  | 0x0C => exp2f a
  | 0x0D => log2f a
  | 0x0E => if numLt (f32 a) (f32 b) then one32 else 0
  | _ =>
    match f32 c with
    | .nan => canon32 b
    | .fin _ 0 _ => canon32 b
    | _ => canon32 a

/-- One step of a lane of a reduction (03 R81). -/
def reduceStep (fn : Nat) (s a : Word) : Word :=
  match fn with
  | 0x10 => add32 s a
  | 0x11 => fma32 a a s
  | _ => max32 s (canon32 (toF32 (f32 a).abs))

/-- The tree step of a reduction (03 R81). -/
def reduceTree (fn : Nat) (a b : Word) : Word := if fn = 0x12 then max32 a b else add32 a b

/-- Combine adjacent pairs. -/
def pairUp (fn : Nat) : List Word → List Word
  | a :: b :: t => reduceTree fn a b :: pairUp fn t
  | l => l

/-- The fixed five-level tree over the 32 lane sums (03 R81). -/
def reduceLanes (fn : Nat) (l : List Word) : Word :=
  (pairUp fn (pairUp fn (pairUp fn (pairUp fn (pairUp fn l))))).headD 0

/-- A reduction over rows of 32 elements (03 R81). -/
def reduceRows (fn : Nat) (rows : List (List Word)) : Word :=
  reduceLanes fn (rows.foldl (fun acc row => List.zipWith (reduceStep fn) acc row) (List.replicate 32 0))

/-! ## Block conversion -/

/-- Floor of the base-two logarithm of a finite nonzero magnitude. -/
def magLog2 (m : Nat) (e : Int) : Int := (Nat.log2 m : Int) + e

/-- The magnitude of a finite value as an exact number. -/
def Num.mag (x : Num) : Dy := x.abs.dy

/-- The largest magnitude of a list. -/
def amaxDy (xs : List Num) : Dy :=
  xs.foldl (fun a x => if a.lt x.mag then x.mag else a) ⟨0, 0⟩

/-- Convert one block of values to an MX format: the scale code and the element codes (02 R43).
`rs` gives each element its rounding. -/
def mxBlock (c : Nat) (xs : List (Num × Rounding)) : Nat × List Nat :=
  let f := fmtOf c
  if xs.any (fun x => x.1.nonfinite) then (0xFF, xs.map (fun _ => 0))
  else
    let a := amaxDy (xs.map (·.1))
    let x : Int := if a.m = 0 then -127
      else max (-127) (min 127 (magLog2 a.m.natAbs a.e - fmtEmax c))
    ((x + 127).toNat, xs.map (fun p =>
      match p.1 with
      | .fin s m e => f.mxElt p.2 s m (e - x)
      | _ => 0))

/-- The value of an MX element under its block's scale (02 R29, R30). -/
def mxValue (c : Nat) (scale elt : Nat) : Num :=
  if scale = 0xFF then .nan else ((fmtOf c).decode elt).scale ((scale : Int) - 127)

/-! ## Wide accumulators -/

/-- `V` lies in a two's-complement range of `n` bits. -/
def inBits (n : Nat) (v : Int) : Bool := decide (-(2 ^ (n - 1) : Int) ≤ v) && decide (v < 2 ^ (n - 1))

/-- Bits of `V` of a wide form: 310 for W320, 184 for W192. -/
def wideBits (w192 : Bool) : Nat := if w192 then 184 else 310

/-- Add an integer to `V`, or set `OVF` (02 R46). -/
def WideElt.addV (w192 : Bool) (t : WideElt) (v : Int) : WideElt :=
  if inBits (wideBits w192) (t.v + v) then { t with v := t.v + v } else { t with ovf := true }

/-- A finite fp32 value lies in the W192 window (02 R47). -/
def inWindow (m : Nat) (e : Int) : Bool :=
  m = 0 || (decide (-64 ≤ magLog2 m e) && decide (magLog2 m e < 64))

/-- A dyadic value as an integer multiple of `2 ^ -k`; exact for the addends of a wide element. -/
def Dy.fixed (d : Dy) (k : Nat) : Int := Dy.floor ⟨d.m, d.e + k⟩

/-- Add an fp32 addend to a wide element (02 R46, R47). -/
def WideElt.add (w192 : Bool) (t : WideElt) (x : Num) : WideElt :=
  match x with
  | .nan => { t with nan := true }
  | .inf s => if s then { t with ninf := true } else { t with pinf := true }
  | .fin s m e =>
    if w192 then
      if inWindow m e then t.addV true ((Num.fin s m e).dy.fixed 87) else { t with oow := true }
    else t.addV false ((Num.fin s m e).dy.fixed 149)

/-- Add a raw element of another reducer into a tile of form `w192` (02 R49); a raw W192 element
entering a W320 tile is multiplied by `2 ^ 62`. -/
def WideElt.addRaw (w192 : Bool) (rawW192 : Bool) (t r : WideElt) : WideElt :=
  let v := if rawW192 && !w192 then r.v * 2 ^ 62 else r.v
  let u := t.addV w192 v
  { u with nan := u.nan || r.nan, pinf := u.pinf || r.pinf, ninf := u.ninf || r.ninf,
           oow := u.oow || r.oow, ovf := u.ovf || r.ovf }

/-- The value a wide element delivers, before its one rounding (02 R48). -/
def WideElt.value (w192 : Bool) (t : WideElt) : Num :=
  if t.nan || t.ovf || (t.pinf && t.ninf) then .nan
  else if t.pinf then .inf false
  else if t.ninf then .inf true
  else Dy.num ⟨t.v, if w192 then -87 else -149⟩

/-- The bytes of a wide element as a reducer memory holds it (02 Tables 2-3, 2-4). -/
def WideElt.code (w192 : Bool) (t : WideElt) : Nat :=
  if w192 then
    pack [(0, unsigned 184 t.v), (184, b2n t.nan), (185, b2n t.pinf), (186, b2n t.ninf),
      (187, b2n t.oow), (188, b2n t.ovf)]
  else
    pack [(0, unsigned 310 t.v), (310, b2n t.nan), (311, b2n t.pinf), (312, b2n t.ninf),
      (313, b2n t.ovf)]

/-! ## Function tables -/

/-- Evaluate a function table of 776 words at an fp32 input (03 R88, R89). -/
def tableEval (tab : Nat → Word) (x : Word) : Word :=
  match f32 x with
  | .nan => nan32
  | .inf s => canon32 (if s then tab 6 else tab 7)
  | .fin s m e =>
    let lo := signed 32 (tab 0).toNat
    let w := signed 8 (tab 1).toNat
    let d := (Num.fin s m e).dy
    if d.lt ⟨lo, w⟩ then rndSum [(f32 (tab 2)).mul (f32 x), f32 (tab 3)]
    else if d.lt ⟨lo + 256, w⟩ then
      let i := (Dy.floor ⟨(d.sub ⟨lo, w⟩).m, (d.sub ⟨lo, w⟩).e - w⟩).toNat
      let u := rndSum [Num.fin s m e, Dy.num ⟨-(lo + i), w⟩]
      let p := fma32 (tab (10 + 3 * i)) u (tab (9 + 3 * i))
      fma32 p u (tab (8 + 3 * i))
    else rndSum [(f32 (tab 4)).mul (f32 x), f32 (tab 5)]

/-- A staged image breaks a constraint of 03 Table 3-5. -/
def tableBad (tab : Nat → Word) : Bool :=
  let lo := signed 32 (tab 0).toNat
  let w := signed 8 (tab 1).toNat
  decide (2 ^ 23 < lo.natAbs) || decide (w < -100) || decide (100 < w) || decide (fld (tab 1) 31 8 ≠ 0)

end Sys2Proof
end

