-- ==== Sys2Proof/Machine/Flags.lean ====
section
/-!
DEFINITION. The marks the machine computes beside its data: poison records and flags (05 R147-R151),
the non-finite latch (02 R39), and the completion status of a descriptor (04 R119).
-/

namespace Sys2Proof.Machine

/-! ## Side-band words and poison -/

/-- Word `w` of the side band of global sheet `g` (05 R142). -/
def Die.sideW (d : Die) (g w : Nat) : Word := sget d.side 0 (g * 64 + w)

/-- Set a side-band word. -/
def Die.setSide (d : Die) (g w : Nat) (v : Word) : Die := { d with side := sset d.side 0 (g * 64 + w) v }

/-- Slice of a global sheet number. -/
def sliceOf (g : Nat) : Nat := g / 512

/-- The poison record of a sheet, if `POISON` is 1 (05 Table 5-4). -/
def Die.sheetPoison (d : Die) (g : Nat) : Option Poison :=
  let w := d.sideW g 61
  if bit w 31 then
    some { cause := fld w 27 24, depth := fld w 23 16, tag := fld (d.sideW g 62) 31 16,
           core := fld (d.sideW g 62) 11 0, island := fld (d.sideW g 63) 6 0 }
  else none

/-- Write a poison record with its attempt number. -/
def Die.putPoison (d : Die) (g : Nat) (p : Poison) (attempt : Nat) : Die :=
  ((d.setSide g 61 (packW [(31, 1), (24, p.cause % 16), (16, min 255 p.depth), (0, attempt % 65536)])).setSide
    g 62 (packW [(16, p.tag % 65536), (0, p.core % 4096)])).setSide g 63 (packW [(0, p.island % 128)])

/-- The sheet is the latest of its slice to be marked (05 Table 5-9). -/
def Die.lastPoisoned (d : Die) (g cause : Nat) : Die :=
  d.setReg (pgCore (sliceOf g)) 0x808 (packW [(31, 1), (24, cause % 16), (4, (g / 16) % 32), (0, g % 16)])

/-- Account for a record whose `POISON` went from 0 to 1 (05 Tables 5-9, 5-11). -/
def Die.notePoisoned (d : Die) (g cause : Nat) : Die := (d.count (pgCore (sliceOf g)) 0x43).lastPoisoned g cause

/-- Clear a poison record. -/
def Die.clearPoison (d : Die) (g : Nat) : Die := ((d.setSide g 61 0).setSide g 62 0).setSide g 63 0

/-- Mark a sheet poisoned from storage or a port: cause VAT_UE, STACK_UE, SLOT_VIOLATION, FABRIC.
A record of cause STACK_UE, VAT_UE or HOST is left as it is (05 R151, case 1); any other is replaced,
origin and all (log 123). -/
def Die.markPoison (d : Die) (g : Nat) (p : Poison) (attempt : Nat) : Die :=
  match d.sheetPoison g with
  | some q => if q.cause = 1 ∨ q.cause = 2 ∨ q.cause = 6 then d else (d.putPoison g p attempt).lastPoisoned g p.cause
  | none => (d.putPoison g p attempt).notePoisoned g p.cause

/-- A write's effect on a sheet's poison record: `w` is the writer's state (05 R151). -/
def Die.writePoison (d : Die) (g attempt : Nat) (w : Option Poison) : Die :=
  match d.sheetPoison g with
  | some q =>
    if q.cause = 1 ∨ q.cause = 2 ∨ q.cause = 6 then d
    else if fld (d.sideW g 61) 15 0 = attempt % 65536 then
      match w with
      | none => d
      | some p => d.setSide g 61 (setFld (d.sideW g 61) 23 16 (max q.depth (min 255 p.depth)))
    else
      match w with
      | none => d.clearPoison g
      | some p => (d.putPoison g p attempt).lastPoisoned g p.cause
  | none =>
    match w with
    | none => d.clearPoison g
    | some p => (d.putPoison g p attempt).notePoisoned g p.cause

/-- Attempt number of the job that owns a sheet, by its header (05 R151). -/
def Die.sheetAttempt (d : Die) (g : Nat) : Nat := (d.job (fld (d.sideW g 1) 4 0)).attempt

/-- Combine poisoned inputs in ascending operand order: the first one's origin, the largest
depth (05 R149). -/
def mergePoison : List (Option Poison) → Option Poison
  | [] => none
  | none :: t => mergePoison t
  | some p :: t =>
    match mergePoison t with
    | none => some p
    | some q => some { p with depth := max p.depth q.depth }

/-- The record an output takes from poisoned inputs (05 R149). -/
def inherit (p : Option Poison) : Option Poison :=
  p.map (fun q => { q with cause := 3, depth := min 255 (q.depth + 1) })

/-- Poison flag of an accumulator slot. -/
def Die.slotPoison (d : Die) (n s : Nat) : Option Poison := sget d.accPoison none (n * 32 + s)

/-- Set the poison flag of an accumulator slot. -/
def Die.setSlotPoison (d : Die) (n s : Nat) (p : Option Poison) : Die :=
  { d with accPoison := sset d.accPoison none (n * 32 + s) p }

/-- Words found in error by a read of a sheet: its global number, the line 0-31 or 32 for the side
band, and whether the error is uncorrectable (05 R147, R148). Which bits fail is a fact of the
physical part; the command that reads says so (log 7). -/
abbrev VatErr := Nat × Nat × Bool

/-- The effect of errors found in a read: corrected ones are counted, an uncorrectable one counts
and poisons the sheet with cause VAT_UE (05 R147, R148). -/
def Die.vatErr (d : Die) (attempt : Nat) (e : VatErr) : Die :=
  let n := sliceOf e.1
  if e.2.2 then
    (d.count (pgCore n) 0x41).markPoison e.1
      { cause := 2, depth := 0, tag := 0, core := n, island := islOf n } attempt
  else d.count (pgCore n) 0x40

/-- The errors found in the sheets of a list. -/
def Die.vatErrs (d : Die) (attempt : Nat) (sheets : List Nat) (es : List VatErr) : Die :=
  (es.filter (fun e => sheets.contains e.1 && decide (e.2.1 ≤ 32))).foldl (fun x e => x.vatErr attempt e) d

/-! ## The non-finite latch -/

/-- Sources of the latch (03 Table 3-9). -/
inductive NfSrc where
  | array | mv | vec | screed | convert
  deriving DecidableEq, Repr

/-- Set the latch and a source bit. -/
def Core.latch (c : Core) (s : NfSrc) : Core :=
  let c := { c with nonfinite := true }
  match s with
  | .array => { c with srcArray := true }
  | .mv => { c with srcMv := true }
  | .vec => { c with srcVec := true }
  | .screed => { c with srcScreed := true }
  | .convert => { c with srcConvert := true }

/-- An engine has written `k` non-finite elements (02 R39, 03 Table 3-15); `inner` says that one
was produced inside the Screed's formulas (03 R86). -/
def Die.latchNf (d : Die) (n : Nat) (s : NfSrc) (k : Nat) (inner : Bool := false) : Die :=
  if k = 0 ∧ inner = false then d
  else (d.updCore n (fun c => c.latch s)).count (pgCore n) 7 k

/-- Number of non-finite fp32 words in a list. -/
def countNf (ws : List Word) : Nat := (ws.filter nonfin32).length

/-- Number of non-finite element codes of a format in a list. -/
def countNfCodes (f : Nat) (cs : List Nat) : Nat := (cs.filter (fun c => ((fmtOf f).decode c).nonfinite)).length

/-! ## Completion statuses (04 Table 4-9) -/

/-- OK. -/
def stOk : Nat := 0
/-- POISONED. -/
def stPoisoned : Nat := 1
/-- NONFINITE. -/
def stNonfinite : Nat := 2
/-- ENGINE_ABSENT. -/
def stAbsent : Nat := 3
/-- SLOT_VIOLATION. -/
def stSlot : Nat := 4
/-- UNMAPPED. -/
def stUnmapped : Nat := 5
/-- QUOTA. -/
def stQuota : Nat := 6
/-- ABORTED. -/
def stAborted : Nat := 7

/-- The status is not a fault status (04 R119). -/
def stGood (s : Nat) : Bool := decide (s ≤ 2)

/-- The status and detail of an issued descriptor, highest precedence first (04 Table 4-9). -/
def Infl.status (e : Infl) : Nat × Nat :=
  match e.fault with
  | some f => f
  | none => if e.poison.isSome then (stPoisoned, 0) else if e.nonfin then (stNonfinite, 0) else (stOk, 0)

end Sys2Proof.Machine
end

