-- ==== Sys2Proof/Machine/Operands.lean ====
section
/-!
DEFINITION. Every operand form of a descriptor: its fields (04 Tables 4-1 to 4-8), the checks made
when it enters the window (04 R121, R122), the roles of its operand fields, the resolution of a
handle (04 R102), and reading and writing stored vectors (04 R104, 05 R139-R143).
-/

namespace Sys2Proof.Machine

/-! ## Fields -/

/-- Word `i` of a descriptor. -/
def dW (d : Desc) (i : Nat) : Word := d.getD i 0
/-- `OPC`. -/
def dOpc (d : Desc) : Nat := fld (dW d 0) 7 0
/-- `FMT` [3:0]. -/
def dFmtA (d : Desc) : Nat := fld (dW d 0) 11 8
/-- `FMT` [7:4]. -/
def dFmtB (d : Desc) : Nat := fld (dW d 0) 15 12
/-- `FLAGS` bit `i`. -/
def dFlag (d : Desc) (i : Nat) : Bool := bit (dW d 0) (16 + i)
/-- `PREG` bit of operand `i`, 1 to 6. -/
def dPreg (d : Desc) (i : Nat) : Bool := dFlag d (i - 1)
/-- `ZERO_START`. -/
def dZero (d : Desc) : Bool := dFlag d 6
/-- `SR`. -/
def dSr (d : Desc) : Bool := dFlag d 7
/-- `IRQ`. -/
def dIrq (d : Desc) : Bool := dFlag d 8
/-- `PHYS`. -/
def dPhys (d : Desc) : Bool := dFlag d 9
/-- `FN_EN`. -/
def dFnEn (d : Desc) : Bool := bit (dW d 1) 26
/-- `SCREED_FN`. -/
def dFn (d : Desc) : Nat := fld (dW d 1) 25 21
/-- `ACC_SLOT`. -/
def dSlot (d : Desc) : Nat := fld (dW d 1) 20 16
/-- `TAG`. -/
def dTag (d : Desc) : Nat := fld (dW d 1) 15 0
/-- Wait word `i`. -/
def dWait (d : Desc) (i : Nat) : Word := dW d (2 + i)
/-- Signal word `i`. -/
def dSig (d : Desc) (i : Nat) : Word := dW d (4 + i)
/-- Operand field `i`, 1 A, 2 B, 3 OUT, 4 SCALE, 5 BIAS, 6 AUX. -/
def dOpnd (d : Desc) (i : Nat) : Word := dW d (5 + i)
/-- `K`. -/
def dK (d : Desc) : Nat := (dW d 12).toNat
/-- Repetitions: 0 and 1 both mean one. -/
def dCount (d : Desc) : Nat := max 1 (fld (dW d 13) 15 0)
/-- `SLOT_STRIDE`. -/
def dSlotStride (d : Desc) : Nat := fld (dW d 13) 20 16
/-- Signed stride of operand `i` (A, B, OUT, AUX), in stored vectors. -/
def dStride (d : Desc) (i : Nat) : Int :=
  match i with
  | 1 => signed 8 (fld (dW d 14) 7 0)
  | 2 => signed 8 (fld (dW d 14) 15 8)
  | 3 => signed 8 (fld (dW d 14) 23 16)
  | 6 => signed 8 (fld (dW d 14) 31 24)
  | _ => 0
/-- A field of `OPX`. -/
def dOpx (d : Desc) (hi lo : Nat) : Nat := fld (dW d 15) hi lo

/-- Operation codes of 04 Table 4-5. -/
def opcNop : Nat := 0x00
def opcBarrier : Nat := 0x01
def opcSignal : Nat := 0x02
def opcOpa : Nat := 0x10
def opcOpaT : Nat := 0x11
def opcLoadacc : Nat := 0x12
def opcDrain : Nat := 0x13
def opcMatvec : Nat := 0x18
def opcVec : Nat := 0x19
def opcTable : Nat := 0x1A
def opcCopy : Nat := 0x20
def opcConvert : Nat := 0x21
def opcRng : Nat := 0x22
def opcReduce : Nat := 0x28
def opcSkim : Nat := 0x29
def opcUpdate : Nat := 0x2A
def opcGather : Nat := 0x30
def opcColl : Nat := 0x31

/-- Every implemented operation code. -/
def opcs : List Nat := [0, 1, 2, 0x10, 0x11, 0x12, 0x13, 0x18, 0x19, 0x1A, 0x20, 0x21, 0x22, 0x28,
  0x29, 0x2A, 0x30, 0x31]

/-- Engines: 0 sequencer, 1 array, 2 conversion unit, 3 Screed, 4 matrix-vector path, 5 vector
unit, 6 port engine (04 Table 4-5). -/
def engineOf (opc : Nat) : Nat :=
  if opc < 0x10 then 0
  else if opc = 0x10 ∨ opc = 0x11 then 1
  else if opc = 0x12 ∨ opc = 0x20 ∨ opc = 0x21 ∨ opc = 0x22 ∨ opc = 0x28 then 2
  else if opc = 0x13 ∨ opc = 0x1A then 3
  else if opc = 0x18 then 4
  else if opc = 0x19 ∨ opc = 0x29 ∨ opc = 0x2A then 5
  else 6

/-! ## Roles of the operand fields -/

/-- How an operation uses an operand field (04 R102, R103). -/
inductive Role where
  | unused | sheet | scalar | slot | result
  deriving DecidableEq, Repr

/-- Role of a VEC operand by its kind. -/
def kindRole (k : Nat) (out : Bool) : Role :=
  match k with
  | 0 => .slot
  | 1 => .sheet
  | 2 => if out then .result else .scalar
  | _ => .unused

/-- Roles of DRAIN and TABLE_APPLY fields (04 R113). -/
def screedRole (d : Desc) (i : Nat) : Role :=
  match i with
  | 1 => if dOpc d = opcTable then .sheet else .unused
  | 3 => .sheet
  | 4 => match dOpx d 3 2 with
    | 0 => .unused
    | 1 => .scalar
    | _ => .sheet
  | 5 => if dOpx d 4 4 = 1 then .sheet else .unused
  | 6 => if dOpx d 11 11 = 1 ∨ dOpx d 1 0 = 1 then .sheet else .unused
  | _ => .unused

/-- The role of operand field `i` (1 to 6) of a descriptor (04 Tables 4-5 to 4-8, 09 Table 9-2). -/
def role (d : Desc) (i : Nat) : Role :=
  let o := dOpc d
  let sh (b : Bool) : Role := if b then .sheet else .unused
  if o = opcOpa ∨ o = opcOpaT then sh (decide (i = 1 ∨ i = 2))
  else if o = opcLoadacc then sh (decide (i = 1) && !dZero d)
  else if o = opcDrain ∨ o = opcTable then screedRole d i
  else if o = opcMatvec then
    sh ((decide (i = 1) && decide (dOpx d 5 5 = 0)) || decide (i = 2) || (decide (i = 3) && decide (dOpx d 6 6 = 1)))
  else if o = opcVec then
    match i with
    | 1 => kindRole (dOpx d 9 8) false
    | 2 => kindRole (dOpx d 11 10) false
    | 3 => kindRole (dOpx d 15 14) true
    | 6 => kindRole (dOpx d 13 12) false
    | _ => .unused
  else if o = opcCopy ∨ o = opcConvert ∨ o = opcGather ∨ o = opcColl then sh (decide (i = 1 ∨ i = 3))
  else if o = opcRng then
    if i = 3 then .sheet else if i = 4 ∧ dOpx d 1 0 = 3 then .scalar else .unused
  else if o = opcReduce then sh (decide (i = 1) && decide (dOpx d 16 16 = 1))
  else if o = opcSkim then sh (decide (i = 1))
  else if o = opcUpdate then
    match dOpx d 7 5 with
    | 0 => sh (decide (i = 1 ∨ i = 2 ∨ i = 3 ∨ i = 5 ∨ i = 6))
    | 1 => sh (decide (i = 1 ∨ i = 2 ∨ i = 3 ∨ i = 5))
    | 2 => sh (decide (i = 2 ∨ i = 3))
    | _ => .unused
  else .unused

/-- The operation uses `ACC_SLOT`. -/
def usesSlot (d : Desc) : Bool :=
  let o := dOpc d
  o = opcOpa || o = opcOpaT || o = opcLoadacc || o = opcDrain || o = opcMatvec ||
    (o = opcReduce && dOpx d 16 16 = 0)

/-- The operation may repeat and be strided (04 R105). -/
def mayRepeat (o : Nat) : Bool :=
  o = opcOpa || o = opcOpaT || o = opcLoadacc || o = opcDrain || o = opcTable || o = opcVec

/-! ## Checks at window entry (04 Tables 4-10, 4-11) -/

def bdOpc : Nat := 1
def bdFmt : Nat := 2
def bdField : Nat := 3
def bdEvent : Nat := 4
def bdFn : Nat := 5
def bdPreg : Nat := 6
def bdKind : Nat := 7
def bdSoft : Nat := 8
def bdJob : Nat := 9
def bdRing : Nat := 10

/-- A cause, if its condition holds. -/
def cause (b : Bool) (c : Nat) : List Nat := if b then [c] else []

/-- bf16 or fp16. -/
def isHalf (f : Nat) : Bool := f = 0 || f = 1
/-- A format of stored fp32-widened data: bf16, fp16 or fp32. -/
def isWide (f : Nat) : Bool := f ≤ 2

/-- Format causes of 04 Tables 4-5 and 4-10. -/
def fmtCauses (d : Desc) : List Nat :=
  let o := dOpc d
  let a := dFmtA d
  let b := dFmtB d
  let bad : Bool :=
    if o = opcOpa ∨ o = opcOpaT then !((isHalf a && isHalf b) || (fmtMx a && fmtMx b))
    else if o = opcLoadacc ∨ o = opcTable then !(isWide a && b = 0)
    else if o = opcMatvec then !(isHalf a && isHalf b)
    else if o = opcVec then
      a > 7 || b > 7 || (decide (role d 1 = .sheet) && !isWide a) || (decide (role d 2 = .sheet) && !isWide b)
    else if o = opcCopy then !(a = b && a ≤ 7)
    else if o = opcConvert then a > 7 || b > 7
    else if o = opcRng then !(a = 0 && b ≤ 7) || (dOpx d 1 0 = 2 && b ≠ 2)
    else if o = opcReduce then !(b = 0 && (if dOpx d 16 16 = 1 then a = 2 else a = 0))
    else if o = opcSkim then !((a = 0 || a = 2) && b = 0)
    else if o = opcUpdate then !(a = 0 && (b = 0 || b = 3 || b = 4))
    else if o = opcColl then !((a = 0 || a = 2) && (b = 0 || b = 2))
    else !(a = 0 && b = 0)
  cause bad bdFmt

/-- Bits of `OPX` an operation defines (04 R112). -/
def opxMask (o : Nat) : Word :=
  if o = opcBarrier then 0x3F
  else if o = opcOpaT then 0x1
  else if o = opcLoadacc then 0x3
  else if o = opcDrain ∨ o = opcTable then 0x1FFFFFFF
  else if o = opcMatvec then 0x7FFFF
  else if o = opcVec then 0xFFFFFF
  else if o = opcRng then 0x3FF
  else if o = opcReduce then 0x1FFFF
  else if o = opcSkim ∨ o = opcGather ∨ o = opcColl then 0xFFFF
  else if o = opcUpdate then 0xFF
  else 0

/-- Reserved bits of the common words (04 Tables 4-1 to 4-4). -/
def reservedSet (d : Desc) : Bool :=
  fld (dW d 1) 31 27 ≠ 0 || fld (dW d 13) 31 21 ≠ 0 || fld (dW d 0) 31 26 ≠ 0 ||
    fld (dWait d 0) 29 28 ≠ 0 || fld (dWait d 1) 29 28 ≠ 0 ||
    bit (dSig d 0) 30 || bit (dSig d 1) 30 || fld (dSig d 0) 13 12 ≠ 0 || fld (dSig d 1) 13 12 ≠ 0 ||
    dW d 15 &&& ~~~(opxMask (dOpc d)) ≠ 0

/-- `K` is in the range its operation gives. -/
def kOk (d : Desc) : Bool :=
  let o := dOpc d
  let k := dK d
  if o = opcOpa ∨ o = opcOpaT ∨ o = opcVec ∨ o = opcConvert ∨ o = opcRng ∨ o = opcSkim ∨ o = opcUpdate then
    1 ≤ k && k ≤ 2 ^ 20
  else if o = opcMatvec then 1 ≤ k && k ≤ 2048
  else if o = opcCopy ∨ o = opcGather ∨ o = opcColl then 1 ≤ k && k ≤ 65536
  else k = 0

/-- Largest tile index of a format (04 R113). -/
def maxTile (f : Nat) : Nat := if f = 2 then 0 else if f ≤ 1 then 1 else 3

/-- Format of a strided sheet operand. -/
def opFmt (d : Desc) (i : Nat) : Nat :=
  let o := dOpc d
  if o = opcDrain ∨ o = opcTable then
    match i with
    | 1 => dFmtA d
    | 3 => dOpx d 9 6
    | 4 => 2
    | 5 => if dOpx d 5 5 = 1 then 0 else 2
    | _ => dOpx d 15 12
  else if o = opcVec then
    match i with
    | 1 => dFmtA d
    | 2 => dFmtB d
    | 3 => dOpx d 19 16
    | _ => dOpx d 23 20
  else if o = opcUpdate then
    match i with
    | 1 => 0
    | 3 => dFmtB d
    | _ => 2
  else if i = 1 then dFmtA d
  else if o = opcCopy then dFmtA d
  else dFmtB d

/-- Field causes of DRAIN and TABLE_APPLY (04 R113, Table 4-11). -/
def screedCauses (d : Desc) : List Nat :=
  let gate := dOpx d 1 0 = 1
  let side := gate ∨ dOpx d 11 11 = 1
  let vec := dOpx d 3 2 ≥ 2 ∨ dOpx d 4 4 = 1
  let absentAux := dOpnd d 6 = 0 ∧ dPreg d 6 = false
  cause (dOpx d 1 0 ≥ 2) bdField ++
  cause (dOpx d 9 6 > 7 || dOpx d 15 12 > 7) bdFmt ++
  cause (dOpx d 19 18 > maxTile (dOpx d 9 6)) bdField ++
  cause (if side then decide (dOpx d 26 25 > maxTile (dOpx d 15 12))
    else decide (dOpx d 26 25 ≠ 0 ∨ dOpx d 16 12 ≠ 0)) bdField ++
  cause (if dOpc d = opcTable then decide (dOpx d 28 27 > maxTile (dFmtA d)) else decide (dOpx d 28 27 ≠ 0)) bdField ++
  cause (!vec && dOpx d 24 20 ≠ 0) bdField ++
  cause (dOpx d 4 4 = 0 && dOpx d 5 5 = 1) bdField ++
  cause (gate && (dOpx d 11 11 = 1 || dOpx d 17 17 = 1 || absentAux)) bdField ++
  cause (!gate && dOpx d 11 11 = 0 && dOpx d 17 17 = 1) bdField ++
  cause (gate && (!dFnEn d || dFn d < 16)) bdFn ++
  cause (dOpc d = opcTable && !dFnEn d) bdFn ++
  cause (!dFnEn d && dFn d ≠ 0) bdField

/-- VEC functions with one, two and three operands, and reductions (04 R114). -/
def vecArity (f : Nat) : Nat :=
  if f = 3 ∨ f = 15 then 3
  else if f ≤ 2 ∨ f = 4 ∨ f = 6 ∨ f = 7 ∨ f = 14 then 2
  else 1
/-- SUM, SUMSQ and AMAX. -/
def vecReduces (f : Nat) : Bool := 0x10 ≤ f && f ≤ 0x12

/-- Causes of VEC that need no function: formats and the fields of an operand that is no sheet (04 R114). A field that
holds a reserved format code gives BAD_FMT whether or not it is used (Table 4-10). -/
def vecFields (d : Desc) : List Nat :=
  cause (dOpx d 19 16 > (if dOpx d 15 14 = 1 then 2 else 7) || dOpx d 23 20 > (if dOpx d 13 12 = 1 then 2 else 7)) bdFmt ++
  cause (dOpx d 15 14 ≠ 1 && dOpx d 19 16 ≠ 0) bdField ++
  cause (dOpx d 13 12 ≠ 1 && dOpx d 23 20 ≠ 0) bdField

/-- Causes of VEC (04 R114). -/
def vecCauses (d : Desc) : List Nat :=
  let f := dOpx d 7 0
  if 0x13 ≤ f then bdField :: vecFields d else
  let ok := dOpx d 15 14
  let n := vecArity f
  cause (dOpx d 9 8 = 3 || ((dOpx d 11 10 = 3) != (n < 2)) || ((dOpx d 13 12 = 3) != (n < 3))) bdKind ++
  cause (ok = 3 || (vecReduces f && ok = 0) || (!vecReduces f && ok = 2)) bdKind ++
  cause (ok = 2 && fld (dOpnd d 3) 4 0 = 31) bdPreg ++
  cause (decide (ok = 1) && vecReduces f && decide (dOpx d 19 16 ≠ 2)) bdFmt ++ vecFields d

/-- Causes of an operand field by its role (04 R102, R103). An operand is absent when its field is
0 in immediate form (log 15). A result in a parameter register is in register form, as a scalar is (log 121). -/
def opndCauses (d : Desc) (i : Nat) : List Nat :=
  let f := dOpnd d i
  match role d i with
  | .unused => cause (f ≠ 0 || dPreg d i) bdField
  | .sheet => cause (dPreg d i && fld f 15 5 ≠ 0) bdField
  | .scalar => cause (!dPreg d i) bdPreg ++ cause (fld f 31 5 ≠ 0) bdField
  | .result => cause (!dPreg d i) bdPreg ++ cause (fld f 31 5 ≠ 0) bdField
  | .slot => cause (dPreg d i) bdPreg ++ cause (fld f 31 5 ≠ 0) bdField

/-- An operand field is 0 in immediate form. -/
def absentOp (d : Desc) (i : Nat) : Bool := dOpnd d i = 0 && !dPreg d i

/-- Causes of the single operations (04 Table 4-11, 09 R261, R267, R280). -/
def opCauses (d : Desc) : List Nat :=
  let o := dOpc d
  if o = opcNop then cause (bit (dSig d 0) 31 || bit (dSig d 1) 31) bdField
  else if o = opcLoadacc then
    cause (!dZero d && absentOp d 1) bdField ++
    cause (dOpx d 1 0 > (if dZero d then 0 else maxTile (dFmtA d))) bdField
  else if o = opcDrain ∨ o = opcTable then screedCauses d
  else if o = opcMatvec then
    cause (dOpx d 4 0 = 0 || dOpx d 4 0 > 16) bdField ++
    cause (!(dOpx d 6 6 = 1 && dPhys d) && dOpx d 18 7 ≠ 0) bdField
  else if o = opcVec then vecCauses d
  else if o = opcRng then cause (dOpx d 9 2 = 0) bdField
  else if o = opcReduce then cause (dOpx d 16 16 = 1 && absentOp d 1) bdField
  else if o = opcSkim then cause (dOpx d 15 6 ≠ 0) bdField
  else if o = opcUpdate then
    cause (dOpx d 4 0 > 25 || dOpx d 7 5 > 2) bdField ++
    cause ([1, 2, 3, 5, 6].any (fun i => decide (role d i = .sheet) && absentOp d i)) bdField
  else if o = opcConvert then
    cause ((fmtMx (dFmtA d) || fmtMx (dFmtB d)) && dK d % 32 ≠ 0) bdField
  else if o = opcColl then cause (dOpx d 2 0 > 4) bdField
  else []

/-- A wait word names a bad event (04 R106, Table 4-11). -/
def waitBad (w : Word) (base count : Nat) : Bool :=
  let m := fld w 31 30
  m ≠ 0 && (count ≤ fld w 11 0 || 4095 < base + fld w 11 0 || (m ≠ 2 && fld w 27 12 = 0))

/-- The island a signal word targets, if it lies on the die (04 R108). -/
def sigIsland (isl : Nat) (w : Word) : Option Nat :=
  let x := (isl % 8 : Nat) + signed 4 (fld w 29 26)
  let y := (isl / 8 : Nat) + signed 4 (fld w 25 22)
  if 0 ≤ x ∧ x ≤ 7 ∧ 0 ≤ y ∧ y ≤ 7 then some (y.toNat * 8 + x.toNat) else none

/-- A signal word is bad; `inside` says whether an island lies within the bounds of R108. -/
def sigBad (w : Word) (isl base count : Nat) (inside : Nat → Bool) : Bool :=
  bit w 31 && (count ≤ fld w 11 0 || 4095 < base + fld w 11 0 || fld w 21 14 = 0 ||
    (match sigIsland isl w with
     | none => true
     | some i => !inside i))

/-- Every cause of 04 Table 4-10 that a descriptor's fields show. -/
def causes (d : Desc) (isl base count : Nat) (inside : Nat → Bool) : List Nat :=
  let o := dOpc d
  if !opcs.contains o then [bdOpc] else
  let strided := dW d 14 ≠ 0 || dSlotStride d ≠ 0
  cause (reservedSet d) bdField ++
  cause (waitBad (dWait d 0) base count || waitBad (dWait d 1) base count ||
    sigBad (dSig d 0) isl base count inside || sigBad (dSig d 1) isl base count inside) bdEvent ++
  cause (!kOk d) bdField ++
  cause (dPhys d && !(o = opcMatvec && dOpx d 6 6 = 1)) bdField ++
  cause (!mayRepeat o && (fld (dW d 13) 15 0 > 1 || strided)) bdField ++
  cause (dZero d && !(o = opcOpa || o = opcOpaT || o = opcLoadacc || o = opcMatvec)) bdField ++
  cause (!usesSlot d && dSlot d ≠ 0) bdField ++
  cause (dSr d && !(o = opcDrain || o = opcTable || o = opcVec || o = opcConvert || o = opcRng || o = opcUpdate)) bdField ++
  cause (o ≠ opcDrain && o ≠ opcTable && dFnEn d) bdFn ++
  cause (o ≠ opcDrain && o ≠ opcTable && dFn d ≠ 0) bdField ++
  cause ([1, 2, 3, 6].any (fun i => decide (role d i = .sheet) && fmtMx (opFmt d i) && dStride d i % 32 ≠ 0)) bdField ++
  cause ([1, 2, 3, 6].any (fun i => decide (role d i ≠ .sheet) && dStride d i ≠ 0)) bdField ++
  cause (!usesSlot d && !([1, 2, 3, 6].any (fun i => decide (role d i = .slot))) && dSlotStride d ≠ 0) bdField ++
  fmtCauses d ++ opCauses d ++ (List.range 6).flatMap (fun i => opndCauses d (i + 1))

/-- The detail recorded when several causes apply: the lowest (04 R121). -/
def minCause (l : List Nat) : Option Nat := l.min?

/-! ## Events (04 R107) -/

/-- Target of a wait word in a pass. -/
def waitTarget (w : Word) (pass : Nat) : Nat :=
  if fld w 31 30 = 2 then (fld w 27 12 * (pass + 1)) % 2 ^ 32 else fld w 27 12

/-- A count satisfies a target. -/
def countMet (count : Word) (t : Nat) : Bool := decide ((count - word t).toNat < 2 ^ 31)

/-! ## Handles -/

/-- Job of a handle. -/
def hJob (h : Word) : Nat := fld h 31 27
/-- Virtual sheet number of a handle. -/
def hVsn (h : Word) : Nat := fld h 26 0

/-- The handle of a sheet operand in register form (04 R102); none when the sheet number leaves
its range. -/
def regHandle (f : Word) (p : DWord) (pass : Nat) : Option Word :=
  let pw := p.toNat
  let v : Int := ((pw % 2 ^ 27 : Nat) : Int) + signed 16 (fld f 31 16) + (pass : Int) * signed 32 (pw >>> 32)
  if 0 ≤ v ∧ v < 2 ^ 27 then some (packW [(27, pw % 2 ^ 32 / 2 ^ 27), (0, v.toNat)]) else none

/-- The handle names a felt queue (05 R154): island and queue. -/
def feltRef (h : Word) : Option (Nat × Nat) :=
  if 0x7FFC000 ≤ hVsn h then some ((hVsn h - 0x7FFC000) / 256, hVsn h % 256) else none

/-- Key of a page's residency record: its own, or its shared object's. -/
def Die.objKey (d : Die) (j v : Nat) : Option Nat :=
  match d.page j v with
  | none => none
  | some p => match p.shared with
    | some id => some (2 ^ 28 + id)
    | none => some (j * 2 ^ 23 + v)

/-- The page object a descriptor in flight finds: the declared page's, or the one it still holds after a
RELEASE (06 R186). -/
def Die.liveKey (d : Die) (j v : Nat) : Option Nat :=
  match d.objKey j v with
  | some k => some k
  | none => (d.dk.former.find? (fun c => decide (c.1 = j * 2 ^ 23 + v))).map (fun c => c.2)

/-- The global sheet a virtual sheet lies in while its page has a frame (05 R144). -/
def Die.sheetOf (d : Die) (j vsn : Nat) : Option Nat :=
  match d.liveKey j (vsn / 16) with
  | none => none
  | some k => match d.obj k with
    | none => none
    | some o => if o.st = .absent then none else some (o.frame * 16 + vsn % 16)

/-- Home slice of a page: the absolute core, or the core of its placed home region (06 R178). -/
def Die.homeSlice (d : Die) (p : Page) : Option Nat :=
  let hw := match p.shared with
    | some id => match d.obj (2 ^ 28 + id) with
      | some o => packW [(20, o.slice % 64), (14, o.slice / 64), (8, 1)]
      | none => p.home
    | none => p.home
  let dx := fld hw 25 20
  let dy := fld hw 19 14
  if bit hw 8 then some (coreAt dx dy)
  else match d.region (fld hw 31 26) with
    | none => none
    | some r => if dx < r.w ∧ dy < r.h ∧ r.removing = false then some (coreAt (r.x + dx) (r.y + dy)) else none

/-- The virtual page has a page, for an operand that may be homed in any slice. -/
def Die.mapped (d : Die) (j v : Nat) : Bool :=
  match d.page j v with
  | none => false
  | some p => (d.homeSlice p).isSome

/-- The virtual page has a page homed in slice `n` (06 R178). -/
def Die.mappedAt (d : Die) (j v n : Nat) : Bool :=
  match d.page j v with
  | none => false
  | some p => d.homeSlice p = some n

/-! ## Stored vectors -/

/-- Device address of byte 0 of a global sheet (05 R145). -/
def sheetAddr (g : Nat) : Nat := vatBase + g * 4096

/-- The 32 element codes of stored vector `v` of a global sheet (05 R139, R140). -/
def Die.vecCodes (d : Die) (g f v : Nat) : List Nat :=
  let n := leNat (d.bytes (sheetAddr g + v * vecBytes f) (vecBytes f))
  (List.range 32).map (fun i => (n >>> (fmtBits f * i)) % 2 ^ fmtBits f)

/-- The E8M0 scale of lane `i` of vector `v` (05 R141). -/
def Die.vecScale (d : Die) (g v i : Nat) : Nat :=
  let b := v / 32 * 32 + i
  fld (d.sideW g (16 + b / 4)) (b % 4 * 8 + 7) (b % 4 * 8)

/-- The 32 values of a stored vector; a virtual sheet with no frame reads as zeros (it is never read
so: an engine runs only on resident spans). `v` counts vectors from vector 0 of sheet `vsn`, and may
be negative under a negative stride. -/
def Die.vecVals (d : Die) (j vsn f : Nat) (v : Int) : List Num :=
  let per := (vecsPerSheet f : Int)
  let s := (vsn : Int) + v / per
  let i := (v % per).toNat
  match (if 0 ≤ s then d.sheetOf j s.toNat else none) with
  | none => List.replicate 32 (.fin false 0 0)
  | some g =>
    let cs := d.vecCodes g f i
    if fmtMx f then
      (List.range 32).map (fun l => mxValue f (d.vecScale g i l) (cs.getD l 0))
    else cs.map (fun c => (fmtOf f).decode c)

/-- A virtual sheet number lies in the range of 04 R102. -/
def vsnOk (s : Int) : Bool := decide (0 ≤ s) && decide (s < 2 ^ 27)

/-- The virtual sheet numbers a run of `n` vectors from vector `v` on touches, in order. A stride may take it below
sheet 0 or above the last one. -/
def runAll (vsn f : Nat) (v n : Int) : List Int :=
  let per := (vecsPerSheet f : Int)
  let a := (vsn : Int) + v / per
  let b := (vsn : Int) + (v + n - 1) / per
  if n ≤ 0 then [] else (List.range (b - a + 1).toNat).map (fun (k : Nat) => a + (k : Int))

/-- The virtual sheets of a run that exist. -/
def runSheets (vsn f : Nat) (v n : Int) : List Nat := ((runAll vsn f v n).filter vsnOk).map Int.toNat

/-- Who writes a sheet (05 Table 5-3). -/
structure Writer where
  job : Nat := 0
  tag : Nat := 0
  queue : Nat := 0
  core : Nat := 0xFFF
  pass : Nat := 0
  deriving DecidableEq, Repr

/-- Frame of a global sheet. -/
def frameOf (g : Nat) : Nat := g / 16

/-- `BANK_PLAN_s` in force at a slice (05 R136, R162). -/
def Die.planWord (d : Die) (n s : Nat) : Word :=
  match sget d.heldPlan [] n with
  | [] => d.reg (pgCore n) (0x840 + 4 * s)
  | l => l.getD s 0

/-- Bank of a frame: two frames share one (05 R134). -/
def bankOf (frame : Nat) : Nat := frame % 32 / 2

/-- Some slot gives a bank to an owner that `p` accepts. -/
def Die.bankSlot (d : Die) (n bank : Nat) (p : Nat → Bool) : Bool :=
  (List.range 16).any (fun s => p (fld (d.planWord n s) (2 * bank + 1) (2 * bank)))

/-- The page object that holds a frame. -/
def Die.frameObj (d : Die) (f : Nat) : Option Nat :=
  match d.objs.find? (fun c => match c.2 with
      | some o => decide (o.st ≠ .absent) && decide (o.frame = f)
      | none => false) with
  | some c => some c.1
  | none => none

/-- Any write into a frame sets `DIRTY` (06 R186). -/
def Die.dirtyFrame (d : Die) (g : Nat) : Die :=
  match d.frameObj (frameOf g) with
  | none => d
  | some k => d.updObj k (fun o => { o with dirty := true, rewritten := true })

/-- Payload past the capacity of the format, and the scale area of a format without scales, read 0 after an
engine's write or a fill (05 R139, R141). -/
def Die.tidySheet (d : Die) (g f : Nat) : Die :=
  let used := vecsPerSheet f * vecBytes f
  let d := if used < 4096 ∧ f ≤ 7 then d.zeroBytes (sheetAddr g + used) (4096 - used) else d
  if fmtMx f then d else { d with side := sclear d.side (g * 64 + 16) 32 }

/-- Rewrite the header of a sheet at a write, and its poison record for a writer whose record would be
`rec` (05 R143, R151). -/
def Die.stampRec (d : Die) (g vsn f order : Nat) (tiles : Nat) (w : Writer) (rec : Option Poison) : Die :=
  let att := (d.job w.job).attempt
  let d := d.tidySheet g f
  let mask := fld (d.sideW g 0) 27 24 ||| tiles
  let d := d.setSide g 0 (packW [(24, mask % 16), (4, order % 2), (0, f % 16)])
  let d := d.setSide g 1 (packW [(16, sget d.fgen 0 (frameOf g) % 65536), (0, w.job % 32)])
  let d := d.setSide g 2 (packW [(0, vsn % 2 ^ 27)])
  let d := d.setSide g 3 (packW [(0, att % 65536)])
  let d := d.setSide g 4 (packW [(16, w.tag % 65536), (12, w.queue % 4), (0, w.core % 4096)])
  let d := d.setSide g 5 (word w.pass)
  (d.writePoison g att rec).dirtyFrame g

/-- The same for an engine's write: the record is inherited from its inputs (05 R149). -/
def Die.stamp (d : Die) (g vsn f order : Nat) (tiles : Nat) (w : Writer) (p : Option Poison) : Die :=
  d.stampRec g vsn f order tiles w (inherit p)

/-! ## A sheet as a run of bursts (05 R146) -/

/-- The 32 line codes of a sheet as one field of 48 bytes (05 Table 5-4, R147). -/
def Die.lineCodes (d : Die) (g : Nat) : Nat :=
  pack ((List.range 32).map (fun l => (12 * l, (Config.lineCode (d.bytes (sheetAddr g + 128 * l) 128)).toNat)))

/-- A side-band word as it reads: the codes are computed from what they cover (05 R147). -/
def Die.sideView (d : Die) (g w : Nat) : Word :=
  if 48 ≤ w ∧ w < 60 then word (d.lineCodes g >>> (32 * (w - 48)))
  else if w = 60 then word (Config.sbCode ((List.range 48).map (d.sideW g) ++ [61, 62, 63].map (d.sideW g))).toNat
  else d.sideW g w

/-- The bytes of side-band words `lo` to `lo + n - 1`. -/
def Die.sideBytes (d : Die) (g lo n : Nat) : List Byte :=
  (List.range n).flatMap (fun i => leBytes 4 (d.sideView g (lo + i)).toNat)

/-- Payload, header, check area, and the scale area of an MX sheet. -/
def Die.sheetImage (d : Die) (g : Nat) (mx : Bool) : List Byte :=
  d.bytes (sheetAddr g) 4096 ++ d.sideBytes g 0 16 ++ d.sideBytes g 48 16 ++ (if mx then d.sideBytes g 16 32 else [])

/-- Write side-band words from bytes. -/
def Die.setSideBytes (d : Die) (g lo n : Nat) (bs : List Byte) : Die :=
  (List.range n).foldl (fun d i => d.setSide g (lo + i) (word (leNat ((bs.drop (4 * i)).take 4)))) d

/-- Store a sheet that arrives as a run of bursts: words 61 to 63 of the check area as they arrive, the
codes computed afresh (05 R146). -/
def Die.putImage (d : Die) (g : Nat) (bs : List Byte) : Die :=
  let d := d.setBytes (sheetAddr g) (bs.take 4096)
  let d := d.setSideBytes g 0 16 (bs.drop 4096)
  let d := d.setSideBytes g 61 3 (bs.drop (4096 + 64 + 52))
  let d := if 4352 ≤ bs.length then d.setSideBytes g 16 32 (bs.drop 4224) else d
  d.tidySheet g (fld (d.sideW g 0) 3 0)

/-- Write the 32 element codes of a stored vector. -/
def Die.putVec (d : Die) (g f v : Nat) (cs : List Nat) : Die :=
  let n := pack ((List.range 32).map (fun i => (fmtBits f * i, cs.getD i 0 % 2 ^ fmtBits f)))
  d.setBytes (sheetAddr g + v * vecBytes f) (leBytes (vecBytes f) n)

/-- Write one byte of the scale area. -/
def Die.putScale (d : Die) (g b s : Nat) : Die :=
  d.setSide g (16 + b / 4) (setFld (d.sideW g (16 + b / 4)) (b % 4 * 8 + 7) (b % 4 * 8) s)

/-- Write stored vector `v`, counted from vector 0 of sheet `vsn`, and stamp its sheet. -/
def Die.putVecAt (d : Die) (j vsn f order : Nat) (v : Int) (cs : List Nat) (w : Writer) (p : Option Poison) : Die :=
  let per := (vecsPerSheet f : Int)
  let s := (vsn : Int) + v / per
  let i := (v % per).toNat
  match (if 0 ≤ s then d.sheetOf j s.toNat else none) with
  | none => d
  | some g => (d.putVec g f i cs).stamp g s.toNat f order (2 ^ (i / 32)) w p

/-- Write the scale of lane `l` of the 32-vector tile that holds vector `v`. -/
def Die.putScaleAt (d : Die) (j vsn f : Nat) (v : Int) (l s : Nat) : Die :=
  let per := (vecsPerSheet f : Int)
  let sh := (vsn : Int) + v / per
  match (if 0 ≤ sh then d.sheetOf j sh.toNat else none) with
  | none => d
  | some g => d.putScale g ((v % per).toNat / 32 * 32 + l) s

/-! ## The keyed generator (09 R278, R279) -/

/-- One round of Philox-4x32. -/
def philoxRound (k0 k1 : Nat) (c : Nat × Nat × Nat × Nat) : Nat × Nat × Nat × Nat :=
  let p := 0xD2511F53 * c.1
  let q := 0xCD9E8D57 * c.2.2.1
  ((q / 2 ^ 32) ^^^ c.2.1 ^^^ k0, q % 2 ^ 32, (p / 2 ^ 32) ^^^ c.2.2.2 ^^^ k1, p % 2 ^ 32)

/-- `n` rounds. -/
def philoxGo : Nat → Nat → Nat → Nat × Nat × Nat × Nat → Nat × Nat × Nat × Nat
  | 0, _, _, c => c
  | n + 1, k0, k1, c =>
    philoxGo n ((k0 + 0x9E3779B9) % 2 ^ 32) ((k1 + 0xBB67AE85) % 2 ^ 32) (philoxRound k0 k1 c)

/-- Philox-4x32 with 10 rounds (09 R278). -/
def philox (k0 k1 : Nat) (c : Nat × Nat × Nat × Nat) : Nat × Nat × Nat × Nat := philoxGo 10 k0 k1 c

/-- Skim configuration word `w` of job `j`. -/
def Die.skimW (d : Die) (j w : Nat) : Word := sget d.skimCfg 0 (j * 16 + w)

/-- Step state of job `j`. -/
def Die.skimJ (d : Die) (j : Nat) : SkimJob := sget d.skim {} j
/-- Change the step state of job `j`. -/
def Die.updSkim (d : Die) (j : Nat) (f : SkimJob → SkimJob) : Die := { d with skim := sset d.skim {} j (f (d.skimJ j)) }

/-- The keyed draw of sub-draw `sub` for element `e` of sheet `v` of job `j` (09 R279). -/
def Die.draw (d : Die) (j v e purpose sub : Nat) : Nat :=
  let r := philox (d.skimW j 4).toNat (d.skimW j 5).toNat
    (e / 4, (j * 2 ^ 27 + v) % 2 ^ 32, (d.skimJ j).step.toNat % 2 ^ 32, purpose * 2 ^ 24 + sub)
  match e % 4 with
  | 0 => r.1
  | 1 => r.2.1
  | 2 => r.2.2.1
  | _ => r.2.2.2

/-- The rounding of element `e` of a sheet being written (02 R42, 09 R279). -/
def Die.roundingOf (d : Die) (sr : Bool) (j v e : Nat) : Rounding :=
  if sr then .sr (d.draw j v e 0 0 / 65536) else .rne

end Sys2Proof.Machine
end

