-- ==== Sys2Proof/Machine/Paging.lean ====
section
/-!
DEFINITION. The page state machine of the Deckle (06 R179-R188): promotions, home frames, victims,
references, write-back requests, and the prefetch schedule that names a job's window.
-/

namespace Sys2Proof.Machine

/-! ## Accounts -/

/-- Change every issued descriptor. -/
def Die.mapInfl (d : Die) (f : Infl → Infl) : Die :=
  { d with queues := d.queues.map (fun c => (c.1, { c.2 with infl := c.2.infl.map f }))
           cores := d.cores.map (fun c => (c.1, { c.2 with inj := { c.2.inj with infl := c.2.inj.infl.map f } })) }

/-- Every issued descriptor of job `j`. -/
def Die.jobInfl (d : Die) (j : Nat) : List Infl :=
  (d.queues.flatMap (fun c => c.2.infl) ++ d.cores.flatMap (fun c => c.2.inj.infl)).filter (fun e => decide (e.job = j))

/-- Pages charged to job `j` (06 R187). -/
def Die.vatUsed (d : Die) (j : Nat) : Nat :=
  (d.objs.filter (fun c => match c.2 with
    | some o => decide (o.st ≠ .absent) && decide (o.charged = j)
    | none => false)).length

/-- Active `VAT_QUOTA` of job `j`. -/
def Die.vatQuota (d : Die) (j : Nat) : Nat := fld (d.reg (pgJob j) 0x104) 17 0

/-- Active `STACK_QUOTA` of job `j`. -/
def Die.stackQuota (d : Die) (j : Nat) : Nat := fld (d.reg (pgJob j) 0x108) 23 0

/-- Stack pages counted to job `j` (06 R188). -/
def Die.stackUsed (d : Die) (j : Nat) : Nat :=
  (d.objs.filter (fun c => match c.2 with
    | some o => decide (o.owner = j) && !o.released
    | none => false)).length

/-- Over its quota (06 R187). -/
def Die.overQuota (d : Die) (j : Nat) : Bool := decide (d.vatQuota j < d.vatUsed j)

/-- Declared pages that map to an object, as (key, page). -/
def Die.mappings (d : Die) (k : Nat) : List (Nat × Page) :=
  d.pages.filterMap (fun c => match c.2 with
    | none => none
    | some p =>
      let ok := match p.shared with
        | some id => decide (2 ^ 28 + id = k)
        | none => decide (c.1 = k)
      if ok then some (c.1, p) else none)

/-- The hint that governs an object: PIN if any mapping is PIN, else that of its first mapping. -/
def Die.objHint (d : Die) (k : Nat) : Nat :=
  let l := d.mappings k
  if l.any (fun p => decide (p.2.hint = 1)) then 1
  else match l with
    | p :: _ => p.2.hint
    | [] => 0

/-- Declared PIN pages of job `j`. -/
def Die.pinPages (d : Die) (j : Nat) : Nat :=
  (d.pages.filter (fun c => decide (c.1 / 2 ^ 23 = j) && (match c.2 with
    | some p => decide (p.hint = 1)
    | none => false))).length

/-! ## The prefetch schedule (06 R189, R190) -/

/-- A 64-bit schedule record. -/
def Die.pfRec (d : Die) (j i : Nat) : Nat :=
  let base := fld (d.reg (pgJob j) 0x110) 15 0 * 2 ^ 32 + fld (d.reg (pgJob j) 0x10C) 31 3 * 8
  leNat (d.bytes (base + 8 * i) 8)

/-- The pages of `n` run records from record `i`; none when a record is malformed. -/
def Die.pfRuns (d : Die) (j i : Nat) : Nat → Option (List Nat)
  | 0 => some []
  | n + 1 =>
    let r := d.pfRec j i
    if r / 2 ^ 60 = 2 ∧ (r / 2 ^ 40) % 2 ^ 20 = 0 ∧ (r / 2 ^ 23) % 2 ^ 9 = 0 then
      match d.pfRuns j (i + 1) n with
      | none => none
      | some t => some ((List.range ((r / 2 ^ 32) % 256 + 1)).map (fun k => r % 2 ^ 23 + k) ++ t)
    else none

/-- The layers of the schedule as page lists, and `LOOP`; none when the schedule is malformed. -/
def Die.pfLayers (d : Die) (j : Nat) : Nat → Nat → Option (List (List Nat) × Bool)
  | 0, i =>
    let r := d.pfRec j i
    if r / 2 ^ 60 = 15 ∧ r % 2 ^ 60 < 2 then some ([], r % 2 = 1) else none
  | n + 1, i =>
    let r := d.pfRec j i
    if r / 2 ^ 60 = 1 ∧ (r / 2 ^ 16) % 2 ^ 44 = 0 ∧ 0 < r % 2 ^ 16 then
      match d.pfRuns j (i + 1) (r % 2 ^ 16), d.pfLayers j n (i + 1 + r % 2 ^ 16) with
      | some l, some (t, lp) => some (l :: t, lp)
      | _, _ => none
    else none

/-- Active `PF_CFG.LAYERS`. -/
def Die.pfCount (d : Die) (j : Nat) : Nat := fld (d.reg (pgJob j) 0x114) 15 0

/-- The prefetch window as a list of virtual pages in walk order (06 R190). -/
def Die.pfWindow (d : Die) (j : Nat) : Option (List Nat) :=
  match d.pfLayers j (d.pfCount j) 0 with
  | none => none
  | some (ls, lp) =>
    let lead := fld (d.reg (pgJob j) 0x114) 29 26
    let n := ls.length
    some ((List.range (lead + 1)).flatMap (fun i =>
      let l := (d.job j).pfCur + i
      if lp ∧ 0 < n then ls.getD (l % n) [] else ls.getD l []))

/-- The job's window names an object. -/
def Die.inWindow (d : Die) (j k : Nat) : Bool :=
  bit (d.reg (pgJob j) 0x114) 31 &&
  (match d.pfWindow j with
   | none => false
   | some l => l.any (fun v => decide (d.objKey j v = some k)))

/-! ## Victims (06 R184) -/

/-- Rank of a hint as a victim. -/
def hintRank (h : Nat) : Nat :=
  match h with
  | 4 => 0
  | 0 => 1
  | 3 => 2
  | _ => 3

/-- Lexicographic order of keys. -/
def lexLt : List Nat → List Nat → Bool
  | [], _ => false
  | _ :: _, [] => false
  | a :: s, b :: t => a < b || (a = b && lexLt s t)

/-- The order key of a victim. -/
def Die.victimKey (d : Die) (j k : Nat) (o : PObj) : List Nat :=
  [b2n (d.inWindow j k), hintRank (d.objHint k), o.last, o.frame]

/-- The first victim among objects that satisfy `p`. -/
def Die.victim (d : Die) (j : Nat) (p : Nat → PObj → Bool) : Option Nat :=
  let l := d.objs.filterMap (fun c => match c.2 with
    | some o => if p c.1 o then some (d.victimKey j c.1 o, c.1) else none
    | none => none)
  match l with
  | [] => none
  | x :: t => some (t.foldl (fun b c => if lexLt c.1 b.1 then c else b) x).2

/-- RESIDENT, not PIN, without references. -/
def Die.evictable (d : Die) (k : Nat) (o : PObj) : Bool :=
  decide (o.st = .resident) && o.refs = 0 && decide (d.objHint k ≠ 1)

/-! ## Requests -/

/-- Remove the ungranted requests for an object of the kinds `p` accepts. -/
def Die.withdraw (d : Die) (k : Nat) (p : ReqKind → Bool) : Die :=
  d.updDk (fun x => { x with reqs := x.reqs.filter (fun r => !(decide (r.obj = k) && !r.granted && p r.kind)) })

/-- A stream has a request pending on a stack. -/
def Die.streamPends (d : Die) (x s : Nat) : Bool :=
  d.dk.reqs.any (fun r => decide (r.stream = x) && decide (r.stack = s) && !r.granted)

/-- Add a request at the end; a stream that had none pending on the stack starts with deficit 0 (06 R194). -/
def Die.request (d : Die) (kind : ReqKind) (k : Nat) (o : PObj) (j : Nat) : Die :=
  let d := if d.streamPends o.stream o.stack then d
    else d.updStrm o.stream (fun x => { x with deficit := setAt x.deficit o.stack 0 })
  d.updDk (fun x => { x with reqs := x.reqs ++ [{ kind, obj := k, stream := o.stream, stack := o.stack, job := j }] })

/-- A granted transfer of an object is in flight. -/
def Die.inFlight (d : Die) (k : Nat) (kind : ReqKind) : Bool :=
  d.dk.reqs.any (fun r => decide (r.obj = k) && r.granted && decide (r.kind = kind))

/-- A request for an object waits or is in flight. -/
def Die.requested (d : Die) (k : Nat) : Bool := d.dk.reqs.any (fun r => decide (r.obj = k))

/-- Start or continue the write-back that a DRAINING page with no reference needs. -/
def Die.drainWb (d : Die) (k : Nat) : Die :=
  match d.obj k with
  | none => d
  | some o =>
    if o.st = .draining ∧ o.refs = 0 ∧ o.dirty ∧ o.released = false ∧ d.requested k = false then
      (d.updObj k (fun o => { o with rewritten := false })).request .writeback k o o.charged
    else d

/-- A RESIDENT page becomes a victim (06 Table 6-5). -/
def Die.startDrain (d : Die) (k : Nat) : Die := (d.updObj k (fun o => { o with st := .draining })).drainWb k

/-- The frame pair of a slice that holds frame `f`, is usable: frames 30 and 31 of a batch-pool
member are never mapped (06 R175). -/
def Die.poolMember (d : Die) (n : Nat) : Option Nat :=
  (List.range 64).findSome? (fun m =>
    let w := sget d.poolT 0 (256 + m)
    if bit w 31 ∧ fld w 11 0 = n then some (fld w 29 24) else none)

/-- A frame of the Vat is free. -/
def Die.frameFree (d : Die) (g : Nat) : Bool :=
  (d.frameObj g).isNone && !(30 ≤ g % 32 && (d.poolMember (g / 32)).isSome)

/-- The home frame an object can take now (06 R179). -/
def Die.homeFrame (d : Die) (o : PObj) : Option Nat :=
  let f := o.slice * 32 + o.pref
  if d.frameFree f then some f else if d.frameFree (f ^^^ 1) then some (f ^^^ 1) else none

/-- The stream job `j` gives an object in its page record; a mapping of a shared object has its own (06 R182). -/
def Die.streamOf (d : Die) (j k : Nat) (o : PObj) : Nat :=
  match (d.mappings k).find? (fun p => decide (p.1 / 2 ^ 23 = j)) with
  | none => o.stream
  | some p => fld p.2.home 7 0

/-- The reservations of a page become references (06 R185). -/
def PObj.seat (o : PObj) (t : Nat) : PObj :=
  if o.resv = 0 then o else { o with refs := o.refs + o.resv, resv := 0, last := t }

/-- Enter FILLING in a frame, charged to job `j`, which alone is in the requester set (06 R181, Table 6-5). -/
def Die.enterFilling (d : Die) (k : Nat) (o : PObj) (f j : Nat) (pf : Bool) : Die :=
  let t := d.dk.clock
  let o' := PObj.seat { o with st := .filling, frame := f, charged := j, stream := d.streamOf j k o, reqs := 2 ^ j,
                               waiting := false, zero := !o.stackValid, dirty := false } t
  let d := { d.setObj k (some o') with fgen := sset d.fgen 0 f ((sget d.fgen 0 f + 1) % 65536) }
  let d := d.updDk (fun x => { x with clock := t + 1 })
  if o'.zero then d.count pgDk 2 else d.request (if pf then .prefetch else .demand) k o' j

/-- The page a fill of job `j` may evict from its two home frames (06 R179, R184); a prefetch evicts none that the
job's window names (06 R191). -/
def Die.homeVictim (d : Die) (j : Nat) (o : PObj) (pf : Bool) : Option Nat :=
  let f := o.slice * 32 + o.pref
  d.victim j (fun k' o' => d.evictable k' o' && (decide (o'.frame = f) || decide (o'.frame = f ^^^ 1)) && !(pf && d.inWindow j k'))

/-- A fill that finds both home frames occupied evicts one if it may; else its wait is counted (06 R179). -/
def Die.waitFrame (d : Die) (k : Nat) (o : PObj) (j : Nat) (pf : Bool) : Die :=
  let d := d.setObj k (some { o with waiting := true, charged := j, reqs := o.reqs ||| 2 ^ j, pf })
  match d.homeVictim j o pf with
  | none => d.count pgDk 8
  | some v => d.startDrain v

/-- Set `USES` to 1 and count the overuse of a used-up STREAM page (06 R181). -/
def Die.overuse (d : Die) (k : Nat) : Die :=
  let l := (d.mappings k).filter (fun p => p.2.hint = 3 && p.2.uses = 0)
  if l.isEmpty then d
  else Die.count { d with pages := l.foldl (fun m (p : Nat × Page) => sset m none p.1 (some { p.2 with uses := 1 })) d.pages } pgDk 9

/-- A demand of job `j` is a new request: neither satisfied nor made by the job before (log 127). -/
def Die.freshDemand (d : Die) (j k : Nat) (o : PObj) : Bool :=
  match o.st with
  | .absent => !o.waiting || o.pf || !o.reqs.testBit j
  | .filling => d.dk.reqs.any (fun r => decide (r.obj = k) && decide (r.kind = .prefetch) && !r.granted) || !o.reqs.testBit j
  | .resident => false
  | .draining => !o.released && (!o.keepAfter || !o.reqs.testBit j)

/-- A promotion of object `k` by job `j` (06 R181); `pf` for a prefetch. -/
def Die.promote (d : Die) (j k : Nat) (pf : Bool) : Die :=
  match d.obj k with
  | none => d
  | some o =>
    let d := if !pf ∧ d.freshDemand j k o then d.count pgDk 4 else d
    match o.st with
    | .absent =>
      if o.waiting then d.setObj k (some { o with reqs := o.reqs ||| 2 ^ j, pf := o.pf && pf })
      else
        let d := d.overuse k
        match d.homeFrame o with
        | some f => d.enterFilling k o f j pf
        | none => d.waitFrame k o j pf
    | .filling =>
      let d := d.setObj k (some { o with reqs := o.reqs ||| 2 ^ j })
      if pf then d
      else d.updDk (fun x => { x with reqs := x.reqs.map (fun r =>
        if r.obj = k ∧ r.kind = .prefetch ∧ r.granted = false then { r with kind := .demand } else r) })
    | .resident => d.setObj k (some { o with reqs := o.reqs ||| 2 ^ j })
    | .draining =>
      if o.released then d
      else
        let o := { o with reqs := o.reqs ||| 2 ^ j, charged := j }
        if o.keepAfter then d.setObj k (some o)
        else
          let d := (d.overuse k).count pgDk 6
          if d.inFlight k .writeback then d.setObj k (some { o with keepAfter := true })
          else (d.setObj k (some { o with st := .resident })).withdraw k (fun r => r = .writeback)

/-- One quota eviction of job `j` outside `span` (06 R184, R185). -/
def Die.quotaEvict (d : Die) (j : Nat) (span : List Nat) : Option Die :=
  match d.victim j (fun k o => d.evictable k o && decide (o.charged = j) && !span.contains k) with
  | some v => some ((d.startDrain v).count (pgJob j) 4)
  | none => none

/-- A FILLING page chosen as victim keeps its frame; its charge moves if another job asked for it
(06 Table 6-5). -/
def Die.cancelEvict (d : Die) (j v : Nat) : Die :=
  let d := d.count pgDk 7
  match d.obj v with
  | none => d
  | some o =>
    match (List.range 32).find? (fun i => i ≠ j && o.reqs.testBit i) with
    | none => d
    | some i => (d.setObj v (some { o with charged := i })).count pgDk 5

/-- The job chooses FILLING pages one after another while it is over its quota: each eviction is cancelled, and it
chooses another victim (06 Table 6-5, R184). -/
def Die.fillingVictims (d : Die) (j : Nat) (tried : List Nat) : Nat → Die
  | 0 => d
  | n + 1 =>
    match d.victim j (fun k o => decide (o.st = .filling) && decide (o.charged = j) && decide (d.objHint k ≠ 1) && !tried.contains k) with
    | none => d
    | some v =>
      let d' := d.cancelEvict j v
      if d'.overQuota j then d'.fillingVictims j (v :: tried) n else d'

/-- A demand fill of a job that is over its quota first makes one quota eviction (06 R187). -/
def Die.overEvict (d : Die) (j : Nat) (span : List Nat) : Die :=
  if d.overQuota j then
    match d.quotaEvict j span with
    | some d' => d'
    | none => d.fillingVictims j [] d.objs.length
  else d

/-- A demand of job `j` for object `k`, with the eviction its fill makes first (06 R181, R187). -/
def Die.demandPage (d : Die) (j k : Nat) (span : List Nat) : Die :=
  let fills : Bool := match d.obj k with
    | some o => decide (o.st = .absent) && !o.waiting
    | none => false
  (if fills then d.overEvict j span else d).promote j k false

/-! ## References (06 R185) -/

/-- A page is RESIDENT: descriptors may use it. -/
def Die.isResident (d : Die) (k : Nat) : Bool :=
  match d.obj k with
  | some o => decide (o.st = .resident)
  | none => false

/-- A page is readable to an issued descriptor whose pages `due` have not been RESIDENT yet: it is RESIDENT, or
DRAINING under a reference (01 R21, 06 R185). -/
def Die.usable (d : Die) (due : List Nat) (k : Nat) : Bool :=
  match d.obj k with
  | some o => decide (o.st = .resident) || (decide (o.st = .draining) && !due.contains k)
  | none => false

/-- Take a reference. -/
def Die.addRef (d : Die) (k : Nat) : Die :=
  let t := d.dk.clock
  (d.updObj k (fun o => { o with refs := o.refs + 1, last := t })).updDk (fun x => { x with clock := t + 1 })

/-- A descriptor reserves a page, or takes its reference when the page is FILLING or RESIDENT (06 R185). -/
def Die.reserve (d : Die) (k : Nat) : Die :=
  match d.obj k with
  | none => d
  | some o => if o.st = .filling ∨ o.st = .resident then d.addRef k else d.setObj k (some { o with resv := o.resv + 1 })

/-- A page is RESIDENT: its reservations become references, and no descriptor waits for it (06 R185). -/
def Die.pageIn (d : Die) (k : Nat) : Die :=
  let t := d.dk.clock
  ((d.updObj k (fun o => o.seat t)).updDk (fun x => { x with clock := t + 1 })).mapInfl
    (fun e => { e with due := e.due.filter (fun x => decide (x ≠ k)) })

/-- No issued descriptor holds or reserves the page. -/
def PObj.unheld (o : PObj) : Bool := decide (o.refs = 0) && decide (o.resv = 0)

/-- Drop a reference, or a reservation that is none yet; a DRAINING page whose last reference goes may need its
write-back. -/
def Die.dropRef (d : Die) (due : List Nat) (k : Nat) : Die :=
  let d := d.updObj k (fun o => if due.contains k ∧ 0 < o.resv then { o with resv := o.resv - 1 } else { o with refs := o.refs - 1 })
  let d := match d.obj k with
    | none => d
    | some o => if o.unheld then d.updDk (fun x => { x with former := x.former.filter (fun c => decide (c.2 ≠ k)) }) else d
  d.drainWb k

/-- A first read of a sheet clears its unread mark and counts one read of its stream (06 R193). -/
def Die.readSheet (d : Die) (k t : Nat) : Die :=
  match d.obj k with
  | none => d
  | some o =>
    if o.unread.testBit t then
      (d.setObj k (some { o with unread := o.unread - 2 ^ t })).updStrm o.stream (fun s => { s with reads := s.reads + 1 })
    else d

/-- A STREAM page drains with no write-back: one that is pending is withdrawn, and a dirty page's stack copy is no
longer valid (06 R172, R183). -/
def Die.dropDirty (d : Die) (k : Nat) : Die :=
  (d.updObj k (fun o => { o with st := .draining, stackValid := o.stackValid && !o.dirty, dirty := false })).withdraw k
    (fun r => decide (r = .writeback))

/-- A completion that read a STREAM page uses it once; the last use drops the page (06 R183). -/
def Die.useStream (d : Die) (j k : Nat) : Die :=
  match (d.mappings k).find? (fun p => decide (p.1 / 2 ^ 23 = j) && decide (p.2.hint = 3)) with
  | none => d
  | some p =>
    let u := p.2.uses - 1
    let d := { d with pages := sset d.pages none p.1 (some { p.2 with uses := u }) }
    if p.2.uses ≠ 0 ∧ u = 0 ∧ d.isResident k then d.dropDirty k else d

/-- Add the requests and references of an issued span, in span order (06 R185). -/
def Die.takeSpan (d : Die) (j : Nat) (span : List Nat) : Die :=
  span.foldl (fun d k => if d.isResident k then d.addRef k else (d.demandPage j k span).reserve k) d

/-- A page job `j` has reserved at an issue: not charged to anybody yet (06 R185, R187). -/
def Die.pageReserved (d : Die) (j k : Nat) : Bool :=
  (match d.obj k with
   | some o => decide (o.st = .absent)
   | none => false) && (d.jobInfl j).any (fun e => e.due.contains k)

/-- Non-resident, unreserved pages of a span; one that is charged to the job already counts there (log 127). -/
def Die.spanNew (d : Die) (j : Nat) (span : List Nat) : Nat :=
  (span.filter (fun k => match d.obj k with
    | some o => decide (o.st ≠ .resident) && !d.pageReserved j k && !(decide (o.st ≠ .absent) && decide (o.charged = j))
    | none => false)).length

/-- `VAT_RESERVED`: pages the job has reserved (06 R187). -/
def Die.vatReserved (d : Die) (j : Nat) : Nat :=
  ((((d.jobInfl j).flatMap (fun e => e.due)).dedup).filter (d.pageReserved j)).length

/-- The span can be reserved (06 R185). -/
def Die.reservable (d : Die) (j : Nat) (span : List Nat) : Bool :=
  decide (d.vatUsed j + d.vatReserved j + d.spanNew j span ≤ d.vatQuota j)

/-- The span can never be met: QUOTA (06 R185). -/
def Die.quotaFault (d : Die) (j : Nat) (span : List Nat) : Bool :=
  let nonPin := (span.filter (fun k => decide (d.objHint k ≠ 1))).length
  let pair (k : Nat) : Nat := match d.obj k with
    | some o => o.slice * 16 + o.pref / 2
    | none => 0
  decide (d.vatQuota j - d.pinPages j < nonPin) ||
    span.any (fun k => decide (3 ≤ (span.filter (fun k' => decide (pair k' = pair k))).length))

end Sys2Proof.Machine
end

