-- ==== Sys2Proof/Machine/Engines.lean ====
section
/-!
DEFINITION. What each engine computes once a descriptor runs: the array, the matrix-vector path, the
vector unit, the Screed, the conversion unit and the optimizer (02, 03, 04 R111-R115, 09).
-/

namespace Sys2Proof.Machine

/-! ## Operand extents -/

/-- Groups per step: 1 for bf16 and fp16, 4 when both operands are MXFP4, else 2 (02 R34). -/
def groupOf (fa fb : Nat) : Nat := if isHalf fa then 1 else if fa = 7 ∧ fb = 7 then 4 else 2

/-- Round up to a multiple of 32. -/
def up32 (k : Nat) : Nat := (k + 31) / 32 * 32

/-- Communicator word `w` of entry `c`; entry 0 is fixed (10 R305). -/
def Die.commW (d : Die) (c w : Nat) : Word :=
  if c = 0 then (if w = 0 then 0x80000001 else if w = 4 then sget d.comms 0 4 else 0) else sget d.comms 0 (c * 8 + w)

/-- Members of a communicator. -/
def Die.commG (d : Die) (c : Nat) : Nat := fld (d.commW c 0) 14 0

/-- Communicator a GATHER or COLL names, if it names an entry (10 R305). -/
def collComm (x : Desc) : Nat := if dOpc x = opcGather then dOpx x 15 0 else dOpx x 15 4

/-- Sheets of A and OUT of a collective at this rank (09 R259, 10 Table 10-7). -/
def Die.collSheets (d : Die) (x : Desc) : Nat × Nat :=
  let c := collComm x
  let k := dK x
  let g := max 1 (d.commG c)
  let s := k / g
  let root := fld (d.commW c 1) 29 16
  let rank := fld (d.commW c 1) 13 0
  if dOpc x = opcGather then (s, k)
  else match dOpx x 2 0 with
    | 0 => (k, k)
    | 1 => (k, s)
    | 2 => (s, k)
    | 3 => (if rank = root then k else 0, k)
    | _ => (s, if rank = root then k else 0)

/-- Vectors of sheet operand `i` in one repetition: format, first vector, count (04 R104, R111-R115). -/
def Die.extent (d : Die) (x : Desc) (i : Nat) : Nat × Nat × Nat :=
  let o := dOpc x
  let k := dK x
  if o = opcOpa ∨ o = opcOpaT then
    let t := o = opcOpaT ∧ ((dOpx x 0 0 = 0 ∧ i = 1) ∨ (dOpx x 0 0 = 1 ∧ i = 2))
    (opFmt x i, 0, if t then up32 k else k)
  else if o = opcLoadacc then (dFmtA x, dOpx x 1 0 * 32, 32)
  else if o = opcDrain ∨ o = opcTable then
    match i with
    | 1 => (dFmtA x, dOpx x 28 27 * 32, 32)
    | 3 => (dOpx x 9 6, dOpx x 19 18 * 32, 32)
    | 4 => (2, dOpx x 24 20, 1)
    | 5 => (if dOpx x 5 5 = 1 then 0 else 2, dOpx x 24 20, 1)
    | _ => (dOpx x 15 12, dOpx x 26 25 * 32, 32)
  else if o = opcMatvec then
    match i with
    | 1 => (dFmtA x, 0, (k + 31) / 32)
    | 2 => (dFmtB x, 0, 2 * k * dOpx x 4 0)
    | _ => (0, 0, 2 * dOpx x 4 0)
  else if o = opcVec then (opFmt x i, 0, if i = 3 ∧ vecReduces (dOpx x 7 0) then 1 else k)
  else if o = opcCopy then (2, 0, 32 * k)
  else if o = opcConvert then (opFmt x i, 0, k)
  else if o = opcRng then (dFmtB x, 0, k)
  else if o = opcReduce then (2, 0, 32)
  else if o = opcSkim then (dFmtA x, 0, k * vecsPerSheet (dFmtA x))
  else if o = opcUpdate then (opFmt x i, 0, 32 * k)
  else (2, 0, 32 * (if i = 1 then (d.collSheets x).1 else (d.collSheets x).2))

/-- Repetitions of a descriptor. -/
def reps (x : Desc) : Nat := if mayRepeat (dOpc x) then dCount x else 1

/-- SCALE and BIAS are not strided; the other operands start `rep * stride` vectors later (R105). -/
def repOff (x : Desc) (i rep : Nat) : Int := (rep : Int) * dStride x i

/-- The virtual sheets operand `i` touches over all repetitions, in order, without repeats. -/
def Die.opSheets (d : Die) (x : Desc) (ops : List Word) (i : Nat) : List Nat :=
  if role x i = .sheet then
    let ex := d.extent x i
    ((List.range (reps x)).flatMap (fun r =>
      runSheets (hVsn (ops.getD (i - 1) 0)) ex.1 ((ex.2.1 : Int) + repOff x i r) (ex.2.2 : Int))).dedup
  else []

/-- Operand `i` leaves the range of virtual sheets in some repetition (04 R102). -/
def Die.opLeaves (d : Die) (x : Desc) (ops : List Word) (i : Nat) : Bool :=
  decide (role x i = .sheet) &&
    (let ex := d.extent x i
     (List.range (reps x)).any (fun r =>
       (runAll (hVsn (ops.getD (i - 1) 0)) ex.1 ((ex.2.1 : Int) + repOff x i r) (ex.2.2 : Int)).any (fun v => !vsnOk v)))

/-- The operation reads operand `i`. -/
def readsOp (x : Desc) (i : Nat) : Bool :=
  decide (role x i = .sheet) && (i ≠ 3) && !((dOpc x = opcDrain || dOpc x = opcTable) && i = 6 && dOpx x 1 0 ≠ 1)

/-- The operation writes operand `i`: OUT, a stash, or the masters and moments of an UPDATE. -/
def writesOp (x : Desc) (i : Nat) : Bool :=
  let o := dOpc x
  decide (role x i = .sheet) && (decide (i = 3) || ((o = opcDrain || o = opcTable) && decide (i = 6) && dOpx x 1 0 ≠ 1) ||
    (o = opcUpdate && (i = 2 || i = 5 || i = 6) && dOpx x 7 5 ≠ 2))

/-- Pages of every operand, in operand order (06 R185). -/
def Die.spanPages (d : Die) (x : Desc) (ops : List Word) : List Nat :=
  ((List.range 6).flatMap (fun i => (d.opSheets x ops (i + 1)).map (· / 16))).dedup

/-- Poison of the sheets an operand reads. -/
def Die.readPoison (d : Die) (j : Nat) (vs : List Nat) : Option Poison :=
  mergePoison (vs.map (fun v => match d.sheetOf j v with
    | none => none
    | some g => d.sheetPoison g))

/-- Poison of every sheet operand a descriptor reads, in operand order (05 R149). -/
def Die.inPoison (d : Die) (e : Infl) : Option Poison :=
  mergePoison ((List.range 6).map (fun i =>
    if readsOp e.d (i + 1) then d.readPoison e.job (d.opSheets e.d e.ops (i + 1)) else none))

/-- Virtual sheet number of operand `i`. -/
def Infl.vsn (e : Infl) (i : Nat) : Nat := hVsn (e.ops.getD (i - 1) 0)

/-- The writer of a descriptor's output sheets. -/
def writerOf (n : Nat) (e : Infl) : Writer :=
  { job := e.job, tag := dTag e.d, queue := e.ctx, core := n, pass := e.pass }

/-- The scalar in register form (04 R103). -/
def Infl.scalar (e : Infl) (i : Nat) : Word :=
  word ((e.regs.getD (fld (dOpnd e.d i) 4 0) 0).toNat % 2 ^ 32)

/-! ## Storing rows -/

/-- Store rows of 32 fp32 values as stored vectors from vector `v` on, and count the non-finite
elements written (02 R41-R43, 04 R115, 05 R141). Where an MX run ends within a tile, the blocks of that tile take +0
for the elements it does not write (log 126). -/
def Die.storeRows (d : Die) (j vsn f order : Nat) (v : Int) (rows : List (List Word)) (sr : Bool)
    (w : Writer) (p : Option Poison) : Die × Nat :=
  let per := (vecsPerSheet f : Int)
  let rnd (r l : Nat) : Rounding :=
    let u := v + (r : Int)
    d.roundingOf sr j ((vsn : Int) + u / per).toNat (32 * (u % per).toNat + l)
  if fmtMx f then
    let tiles := (rows.length + 31) / 32
    let blk (t l : Nat) : Nat × List Nat :=
      mxBlock f ((List.range 32).map (fun k =>
        (f32 ((rows.getD (32 * t + k) []).getD l 0), rnd (32 * t + k) l)))
    (List.range tiles).foldl (fun acc t =>
      let bs := (List.range 32).map (blk t)
      let d1 := (List.range (min 32 (rows.length - 32 * t))).foldl (fun d k =>
        d.putVecAt j vsn f order (v + (32 * t + k : Nat)) (bs.map (fun b => b.2.getD k 0)) w p) acc.1
      let d2 := (List.range 32).foldl (fun d l => d.putScaleAt j vsn f (v + (32 * t : Nat)) l (bs.getD l (0, [])).1) d1
      (d2, acc.2 + 32 * (bs.filter (fun b => b.1 = 0xFF)).length)) (d, 0)
  else
    (List.range rows.length).foldl (fun acc r =>
      let row := rows.getD r []
      let cs := (List.range 32).map (fun l => (fmtOf f).narrow (rnd r l) (f32 (row.getD l 0)))
      (acc.1.putVecAt j vsn f order (v + (r : Int)) cs w p, acc.2 + countNfCodes f cs)) (d, 0)

/-- Rows of 32 values read from a sheet operand, widened to fp32 (04 R115 step 2). -/
def Die.loadRows (d : Die) (j vsn f : Nat) (v : Int) (n : Nat) : List (List Word) :=
  (List.range n).map (fun (r : Nat) => (d.vecVals j vsn f (v + (r : Int))).map toF32)

/-! ## Accumulator slots -/

/-- Row `r` of a slot. -/
def Die.slotRow (d : Die) (n s r : Nat) : List Word := sgetList d.acc 0 (n * 32768 + s * 1024 + r * 32) 32

/-- The 32 rows of a slot as one list of 1,024 words. -/
def Die.slotAll (d : Die) (n s : Nat) : List Word := sgetList d.acc 0 (n * 32768 + s * 1024) 1024

/-- Write words of a slot from an offset. -/
def Die.setSlot (d : Die) (n s off : Nat) (ws : List Word) : Die :=
  { d with acc := ssetList d.acc 0 (n * 32768 + s * 1024 + off) ws }

/-- A write of rows into a slot combines or replaces its poison flag (05 R150). Where states combine, the origin
is the new write's (log 122). -/
def Die.slotWrote (d : Die) (n s rows : Nat) (p : Option Poison) : Die :=
  if 32 ≤ rows then d.setSlotPoison n s p
  else d.setSlotPoison n s (mergePoison [p, d.slotPoison n s])

/-! ## The array (02 R33-R38, 03 R65-R69) -/

/-- The slot is bound to the array (03 R69). -/
def Core.bound (c : Core) (s : Nat) : Bool :=
  (match c.active with | some t => decide (t.slot = s) | none => false) ||
  (match c.next with | some t => decide (t.slot = s) | none => false)

/-- Add an amount only the clock knows to a counter (log 2). -/
def Die.countFree (d : Die) (page sel : Nat) : Die :=
  let f := d.takeFree
  f.1.setCtr page sel (f.1.ctrOf page sel + f.2)

/-- An array operation, or a flush token, has passed: `ARRAY_CYCLES`, `FEED_BUBBLES`, `EDGE_STALLS` (03 R93). -/
def Die.arrayTime (d : Die) (n : Nat) : Die :=
  ((d.countFree (pgCore n) 1).countFree (pgCore n) 3).countFree (pgCore n) 4

/-- Write a tile back to its slot (03 R67): contents, poison flag, non-finite elements. -/
def Die.writeBack (d : Die) (n : Nat) (t : Tile) : Die :=
  ((d.setSlot n t.slot 0 t.acc).setSlotPoison n t.slot t.poison).latchNf n .array (countNf t.acc)

/-- The swap: the active tile is written back and the next one becomes active (03 R66, R67). -/
def Die.swapTiles (d : Die) (n : Nat) : Die :=
  let c := d.core n
  match c.next with
  | none => d
  | some t =>
    let d := match c.active with
      | none => d
      | some a => d.writeBack n a
    d.updCore n (fun c => { c with active := some t, next := none })

/-- The A or B values of an array operation: element `l` at step `k`. A transposed operand holds
lane `r` of block `b` in vector `32 b + r` (03 R74). -/
def Die.arrayOp (d : Die) (j vsn f : Nat) (off : Int) (k : Nat) (turned : Bool) : Nat → Nat → Num :=
  let n := if turned then up32 k else k
  let vs := (List.range n).map (fun (i : Nat) => d.vecVals j vsn f (off + (i : Int)))
  fun step lane =>
    if turned then (vs.getD (32 * (step / 32) + lane) []).getD (step % 32) .nan
    else (vs.getD step []).getD lane .nan

/-- `K` rank-one updates of a tile (02 R33, R34, R36). -/
def rankUpdates (acc : List Word) (k g : Nat) (a b : Nat → Nat → Num) : List Word :=
  (List.range 1024).map (fun i =>
    (List.range ((k + g - 1) / g)).foldl (fun x grp =>
      accStep x ((List.range (min g (k - grp * g))).map (fun t =>
        (a (grp * g + t) (i / 32)).mul (b (grp * g + t) (i % 32))))) (acc.getD i 0))

/-- One array operation, repetition `rep` of a descriptor (03 R65). -/
def Die.opaRep (d : Die) (n q : Nat) (e : Infl) (p : Option Poison) (rep : Nat) : Die :=
  let x := e.d
  let slot := (dSlot x + rep * dSlotStride x) % 32
  let c := d.core n
  let fa := dFmtA x
  let fb := dFmtB x
  let k := dK x
  let isT := dOpc x = opcOpaT
  let a := d.arrayOp e.job (e.vsn 1) fa (repOff x 1 rep) k (isT && dOpx x 0 0 = 0)
  let b := d.arrayOp e.job (e.vsn 2) fb (repOff x 2 rep) k (isT && dOpx x 0 0 = 1)
  let run (acc : List Word) : List Word := rankUpdates acc k (groupOf fa fb) a b
  let ref : DescRef := { core := n, queue := q, id := e.id }
  let d := (d.count (pgCore n) 2 (1024 * k)).arrayTime n
  if !dZero x ∧ c.lastSlot = some slot then
    d.updCore n (fun c =>
      let f (t : Tile) : Tile := { t with acc := run t.acc, poison := mergePoison [t.poison, p], by_ := ref }
      match c.next with
      | some t => { c with next := some (f t) }
      | none => { c with active := c.active.map f })
  else
    let d := d.swapTiles n
    let start := if dZero x then List.replicate 1024 0 else d.slotAll n slot
    let p0 := if dZero x then none else d.slotPoison n slot
    d.updCore n (fun c => { c with next := some { slot, acc := run start, poison := mergePoison [p0, p], by_ := ref }, lastSlot := some slot })

/-- The tile an array operation has just worked on. -/
def Core.lastTile (c : Core) : Option Tile := match c.next with | some t => some t | none => c.active

/-- OPA and OPA_T run (03 R62, R74): all repetitions; the descriptor's status follows its tiles. -/
def Die.runOpa (d : Die) (n q : Nat) (e : Infl) : Die × Infl :=
  let p := d.inPoison e
  let r := (List.range (dCount e.d)).foldl (fun (acc : Die × Bool × Option Poison) rep =>
    let d' := acc.1.opaRep n q e p rep
    match (d'.core n).lastTile with
    | none => (d', acc.2)
    | some t => (d', acc.2.1 || t.acc.any nonfin32, mergePoison [acc.2.2, t.poison])) (d, false, none)
  let halves := if dOpc e.d = opcOpaT then dCount e.d * ((dK e.d + 64 * groupOf (dFmtA e.d) (dFmtB e.d) - 1) / (64 * groupOf (dFmtA e.d) (dFmtB e.d))) else 0
  (r.1.updCore n (fun c => { c with tbuf := c.tbuf + halves }), { e with nonfin := r.2.1, poison := r.2.2 })

/-! ## LOADACC (03 R65, 05 R150) -/

/-- One LOADACC repetition: the rows and the state of the sheet, or zeros. -/
def Die.loadRep (d : Die) (n : Nat) (e : Infl) (rep : Nat) : Die × Nat × Option Poison :=
  let x := e.d
  let slot := (dSlot x + rep * dSlotStride x) % 32
  if dZero x then ((d.setSlot n slot 0 (List.replicate 1024 0)).setSlotPoison n slot none, 0, none)
  else
    let v : Int := (dOpx x 1 0 * 32 : Nat) + repOff x 1 rep
    let ws := (d.loadRows e.job (e.vsn 1) (dFmtA x) v 32).flatten
    let p := d.readPoison e.job (runSheets (e.vsn 1) (dFmtA x) v 32)
    ((d.setSlot n slot 0 ws).setSlotPoison n slot p, countNf ws, p)

/-- LOADACC. -/
def Die.runLoadacc (d : Die) (n : Nat) (e : Infl) : Die × Infl :=
  let r := (List.range (dCount e.d)).foldl (fun (acc : Die × Nat × Option Poison) rep =>
    let y := acc.1.loadRep n e rep
    (y.1, acc.2.1 + y.2.1, mergePoison [acc.2.2, y.2.2])) (d, 0, none)
  (r.1.latchNf n .convert r.2.1, { e with nonfin := r.2.1 ≠ 0, poison := r.2.2 })

/-! ## The Screed (03 R82-R88) -/

/-- Function table `t` of core `n` as a function of its word. -/
def Die.table (d : Die) (n t : Nat) : Nat → Word := fun w => sget d.ftab 0 (n * 32768 + t * 1024 + w)

/-- The values of one element: what enters the function, and the output; and whether a value inside
the formulas is non-finite (03 R82, R83, R86). -/
def screedElt (tab : Option (Nat → Word)) (gate : Option Word) (s acc : Word) (b : Option Word) : Word × Word × Bool :=
  let t := match b with
    | none => mul32 s acc
    | some y => fma32 s acc y
  match gate, tab with
  | some x, some f =>
    let v := tableEval f x
    let y := mul32 t v
    (t, y, nonfin32 t || nonfin32 x || nonfin32 v || nonfin32 y)
  | _, some f =>
    let y := tableEval f t
    (t, y, nonfin32 t || nonfin32 y)
  | _, none => (t, t, nonfin32 t)

/-- Rows of a tile in the order an output is written (03 R85). -/
def ordered (order : Nat) (rows : List (List Word)) : List (List Word) :=
  if order = 0 then rows else (List.range 32).map (fun c => (List.range 32).map (fun r => (rows.getD r []).getD c 0))

/-- One tile through the Screed: `acc` in tile-row order. Returns the die, the non-finite elements
written and whether any value was non-finite. -/
def Die.screedTile (d : Die) (n : Nat) (e : Infl) (rep : Nat) (acc : Nat → Nat → Word) (p : Option Poison) :
    Die × Nat × Bool :=
  let x := e.d
  let w := writerOf n e
  let gate := dOpx x 1 0 = 1
  let tab := if dFnEn x then some (d.table n (dFn x)) else none
  let vec (i f : Nat) : List Word := (d.vecVals e.job (e.vsn i) f (dOpx x 24 20 : Nat)).map toF32
  let sv := if 2 ≤ dOpx x 3 2 then vec 4 2 else []
  let bv := if dOpx x 4 4 = 1 then vec 5 (if dOpx x 5 5 = 1 then 0 else 2) else []
  let sideV : Int := (dOpx x 26 25 * 32 : Nat) + repOff x 6 rep
  let aux := if gate then ordered (dOpx x 16 16) (d.loadRows e.job (e.vsn 6) (dOpx x 15 12) sideV 32) else []
  let elt (r c : Nat) : Word × Word × Bool :=
    screedElt tab (if gate then some ((aux.getD r []).getD c 0) else none)
      (match dOpx x 3 2 with | 0 => one32 | 1 => e.scalar 4 | 2 => sv.getD r 0 | _ => sv.getD c 0)
      (acc r c) (if dOpx x 4 4 = 1 then some (bv.getD c 0) else none)
  let es := (List.range 32).map (fun r => (List.range 32).map (fun c => elt r c))
  let inner := es.any (fun row => row.any (fun y => y.2.2))
  let outV : Int := (dOpx x 19 18 * 32 : Nat) + repOff x 3 rep
  let o := d.storeRows e.job (e.vsn 3) (dOpx x 9 6) (dOpx x 10 10) outV
    (ordered (dOpx x 10 10) (es.map (fun row => row.map (fun y => y.2.1)))) (dSr x) w p
  if dOpx x 11 11 = 1 ∧ !gate then
    let t := o.1.storeRows e.job (e.vsn 6) (dOpx x 15 12) (dOpx x 16 16) sideV
      (ordered (dOpx x 16 16) (es.map (fun row => row.map (fun y => y.1)))) (dOpx x 17 17 = 1) w p
    (t.1, o.2 + t.2, inner)
  else (o.1, o.2, inner)

/-- DRAIN and TABLE_APPLY: every repetition, the notices of 03 R87, the status. -/
def Die.runScreed (d : Die) (n : Nat) (e : Infl) : Die × Infl :=
  let x := e.d
  let fromSlot := dOpc x = opcDrain
  let p0 := d.inPoison e
  let notify := bit (d.reg (pgCore n) 0x10C) 0
  let r := (List.range (dCount x)).foldl (fun (st : Die × Nat × Bool × Option Poison) rep =>
    let d := st.1
    let slot := (dSlot x + rep * dSlotStride x) % 32
    let p := if fromSlot then mergePoison [d.slotPoison n slot, p0] else p0
    let rows := if fromSlot then (List.range 32).map (fun r => d.slotRow n slot r)
      else d.loadRows e.job (e.vsn 1) (dFmtA x) ((dOpx x 28 27 * 32 : Nat) + repOff x 1 rep) 32
    let y := d.screedTile n e rep (fun r c => (rows.getD r []).getD c 0) p
    let d := y.1.count (pgCore n) 6
    let bad := y.2.2 || y.2.1 ≠ 0
    let d := d.latchNf n .screed y.2.1 y.2.2
    let d := if bad ∧ notify then d.send n dkNode (.notice e.job (d.job e.job).attempt) else d
    (d, st.2.1 + y.2.1, st.2.2.1 || bad, mergePoison [st.2.2.2, p])) (d, 0, false, none)
  (r.1, { e with nonfin := r.2.1 ≠ 0, poison := r.2.2.2 })

/-! ## The vector unit (03 R79, R81, 04 R114) -/

/-- Row `i` of VEC operand `o` (1 A, 2 B, 6 AUX) in repetition `rep`. -/
def Die.vecRow (d : Die) (n : Nat) (e : Infl) (rep o i : Nat) : List Word :=
  let x := e.d
  match role x o with
  | .slot =>
    let s := fld (dOpnd x o) 4 0 + rep * dSlotStride x + i / 32
    d.slotRow n (s % 32) (i % 32)
  | .sheet => (d.vecVals e.job (e.vsn o) (opFmt x o) (repOff x o rep + (i : Int))).map toF32
  | .scalar => List.replicate 32 (e.scalar o)
  | _ => List.replicate 32 0

/-- Slots a VEC operand uses in a repetition. -/
def vecSlots (x : Desc) (rep o : Nat) : List Nat :=
  if role x o = .slot then
    (List.range ((dK x + 31) / 32)).map (fun i => (fld (dOpnd x o) 4 0 + rep * dSlotStride x + i) % 32)
  else []

/-- One VEC repetition: die, non-finite elements written, poison state of its inputs. -/
def Die.vecRep (d : Die) (n : Nat) (e : Infl) (rep : Nat) : Die × Nat × Option Poison :=
  let x := e.d
  let fn := dOpx x 7 0
  let k := dK x
  let ps (o : Nat) : Option Poison :=
    if readsOp x o then d.readPoison e.job (runSheets (e.vsn o) (opFmt x o) (repOff x o rep) (k : Int)) else none
  let p := mergePoison ((((vecSlots x rep 1) ++ (vecSlots x rep 2) ++ (vecSlots x rep 6)).map (d.slotPoison n)) ++ [ps 1, ps 2, ps 6])
  let w := writerOf n e
  if vecReduces fn then
    let v := reduceRows fn ((List.range k).map (fun i => d.vecRow n e rep 1 i))
    let nf := countNf [v]
    if dOpx x 15 14 = 2 then
      let key := (n * 4 + e.ctx) * 32 + fld (dOpnd x 3) 4 0
      let dv : DWord := BitVec.ofNat 64 v.toNat
      ({ d with pact := sset d.pact 0 key dv, pshad := sset d.pshad 0 key dv }, nf, p)
    else
      let v0 := repOff x 3 rep
      let per : Int := 32
      let g := d.sheetOf e.job ((e.vsn 3 : Int) + v0 / per).toNat
      match g with
      | none => (d, nf, p)
      | some g =>
        let d := d.setBytes (sheetAddr g + (v0 % per).toNat * 128) (leBytes 4 v.toNat)
        (d.stamp g ((e.vsn 3 : Int) + v0 / per).toNat 2 0 1 w p, nf, p)
  else
    let rows := (List.range k).map (fun i =>
      let a := d.vecRow n e rep 1 i
      let b := d.vecRow n e rep 2 i
      let c := d.vecRow n e rep 6 i
      (List.range 32).map (fun l => vecFn fn (a.getD l 0) (b.getD l 0) (c.getD l 0)))
    if role x 3 = .slot then
      let s0 := fld (dOpnd x 3) 4 0 + rep * dSlotStride x
      let d := (List.range k).foldl (fun d i => d.setSlot n ((s0 + i / 32) % 32) (i % 32 * 32) (rows.getD i [])) d
      let d := (List.range ((k + 31) / 32)).foldl (fun d i => d.slotWrote n ((s0 + i) % 32) (min 32 (k - 32 * i)) p) d
      (d, (rows.map countNf).sum, p)
    else
      let o := d.storeRows e.job (e.vsn 3) (dOpx x 19 16) 0 (repOff x 3 rep) rows (dSr x) w p
      (o.1, o.2, p)

/-- VEC. -/
def Die.runVec (d : Die) (n : Nat) (e : Infl) : Die × Infl :=
  let r := (List.range (dCount e.d)).foldl (fun (st : Die × Nat × Option Poison) rep =>
    let y := st.1.vecRep n e rep
    (y.1, st.2.1 + y.2.1, mergePoison [st.2.2, y.2.2])) (d, 0, none)
  ((r.1.count (pgCore n) 9 (32 * dK e.d * dCount e.d)).latchNf n .vec r.2.1,
    { e with nonfin := r.2.1 ≠ 0, poison := r.2.2 })

/-! ## The matrix-vector path (02 R58, 03 R75) -/

/-- Row `k` of pass `p` of the matrix: 64 elements in two stored vectors. -/
def Die.matRow (d : Die) (e : Infl) (p k : Nat) : List Num :=
  let v : Int := (2 * (p * dK e.d + k) : Nat)
  d.vecVals e.job (e.vsn 2) (dFmtB e.d) v ++ d.vecVals e.job (e.vsn 2) (dFmtB e.d) (v + 1)

/-- The 64 outputs of a pass, from their starting values. -/
def Die.matPass (d : Die) (e : Infl) (vec : List Num) (p : Nat) (start : List Word) : List Word :=
  let rows := (List.range (dK e.d)).map (fun k => d.matRow e p k)
  (List.range 64).map (fun j =>
    (List.range (dK e.d)).foldl (fun acc k => accStep acc [((rows.getD k []).getD j .nan).mul (vec.getD k .nan)])
      (start.getD j 0))

/-- Codes of the vector a MATVEC names: the whole stored vectors that hold its `K` elements. -/
def Die.vecOfA (d : Die) (e : Infl) : List Nat :=
  (List.range ((dK e.d + 31) / 32)).flatMap (fun v =>
    match d.sheetOf e.job (e.vsn 1 + v / vecsPerSheet (dFmtA e.d)) with
    | none => List.replicate 32 0
    | some g => d.vecCodes g (dFmtA e.d) (v % vecsPerSheet (dFmtA e.d)))

/-- Load the vector register from A (03 R75); the elements past those loaded keep their codes (log 120). -/
def Die.loadVec (d : Die) (n : Nat) (e : Infl) : Die :=
  if dOpx e.d 5 5 = 1 then d
  else d.updCore n (fun c => { c with vreg := ssetList c.vreg 0 0 (d.vecOfA e), vfmt := dFmtA e.d })

/-- The first `k` elements of the vector register, in the format of its latest load (log 120). -/
def Core.vector (c : Core) (k : Nat) : List Num := (sgetList c.vreg 0 0 k).map (fun x => (fmtOf c.vfmt).decode x)

/-- One pass of the matrix-vector path: its 64 results go to rows 2p and 2p + 1 of the slot. A zero start clears
the slot's flag before the first pass (05 R150). -/
def Die.runPass (d : Die) (n : Nat) (e : Infl) (p : Nat) : Die × Infl :=
  let s := dSlot e.d
  let d := if dZero e.d ∧ p = 0 then d.setSlotPoison n s none else d
  let start := if dZero e.d then List.replicate 64 0 else d.slotRow n s (2 * p) ++ d.slotRow n s (2 * p + 1)
  let out := d.matPass e ((d.core n).vector (dK e.d)) p start
  let pz := if dZero e.d then none else d.slotPoison n s
  let pp := mergePoison [pz, e.poison, d.inPoison e]
  let d := (d.setSlot n s (64 * p) out).count (pgCore n) 8 (64 * dK e.d)
  ((d.slotWrote n s (if dOpx e.d 4 0 = 16 ∧ p = 15 then 32 else 2) pp).latchNf n .mv (countNf out),
    { e with nonfin := e.nonfin || out.any nonfin32, poison := pp })

/-! ## The conversion unit (04 R115) -/

/-- CONVERT: K stored vectors of A in one format to OUT in another. -/
def Die.runConvert (d : Die) (n : Nat) (e : Infl) : Die × Infl :=
  let x := e.d
  let p := d.inPoison e
  let rows := d.loadRows e.job (e.vsn 1) (dFmtA x) 0 (dK x)
  let o := d.storeRows e.job (e.vsn 3) (dFmtB x) 0 0 rows (dSr x) (writerOf n e) p
  (o.1.latchNf n .convert o.2, { e with nonfin := o.2 ≠ 0, poison := p })

/-- Fixed-point cosine of `2 π u` for `u` a multiple of `2 ^ -24`, by repeated half angles; the
quadrant is exact. Precision 2 ^ -256. -/
def cosFix (u : Nat) : Num :=
  -- reduce to the first octant of the turn: u in units of 2^-24
  let u := u % 2 ^ 24
  let q := u / 2 ^ 22
  let r := u % 2 ^ 22
  -- cos over [0, 1/4] of the turn at r, or its complement
  let base := if q = 0 ∨ q = 2 then r else 2 ^ 22 - r
  let neg := q = 1 ∨ q = 2
  if base = 0 then .fin neg 1 0
  else if base = 2 ^ 22 then .fin false 0 0
  else
    -- angle = base * 2^-24 turns; complex product of the 2^-k turn roots, in fixed point
    let step (acc : (Int × Int) × (Int × Int)) (k : Nat) : (Int × Int) × (Int × Int) :=
      -- acc.1 the product so far, acc.2 the root of 2^-(k+2) turn
      let root := acc.2
      let pr := acc.1
      let pr := if base.testBit (21 - k) then
          ((pr.1 * root.1 - pr.2 * root.2) / 2 ^ 256, (pr.1 * root.2 + pr.2 * root.1) / 2 ^ 256)
        else pr
      let c2 := (isqrt (((2 ^ 256 + root.1).toNat * 2 ^ 256) / 2) : Nat)
      let s2 := (isqrt (((2 ^ 256 - root.1).toNat * 2 ^ 256) / 2) : Nat)
      (pr, ((c2 : Int), (s2 : Int)))
    -- the root for bit 21 is 1/8 of a turn
    let r8 : Int := (isqrt (2 ^ 511) : Nat)
    let res := (List.range 22).foldl step ((((2 ^ 256 : Nat) : Int), 0), (r8, r8))
    .fin neg (sticky res.1.1.toNat false) (-257)

/-- The value RNG_FILL gives element `e` of virtual sheet `v` (09 R280). -/
def Die.rngValue (d : Die) (j v el dist purpose : Nat) (scale : Word) : Word :=
  let w0 := d.draw j v el purpose 0
  let w1 := d.draw j v el purpose 1
  let uni : Num := .fin false (w0 / 256) (-24)
  match dist with
  | 0 => toF32 uni
  | 1 =>
    let u1 := toF32 (.fin false (w0 / 256 + 1) (-24))
    let a := log2f u1
    let r := sqrt32 (mul32 0xBFB17218 a)
    mul32 r (toF32 (cosFix (w1 / 256)))
  | 2 => word w0
  | _ => if numLt uni (f32 scale) then one32 else 0

/-- RNG_FILL. A raw fill stores the drawn bit patterns unchanged. -/
def Die.runRng (d : Die) (n : Nat) (e : Infl) : Die × Infl :=
  let x := e.d
  let f := dFmtB x
  let per := vecsPerSheet f
  let rows := (List.range (dK x)).map (fun v => (List.range 32).map (fun l =>
    d.rngValue e.job (e.vsn 3 + v / per) (32 * (v % per) + l) (dOpx x 1 0) (dOpx x 9 2) (e.scalar 4)))
  if dOpx x 1 0 = 2 then
    let d := (List.range (dK x)).foldl (fun d v =>
      d.putVecAt e.job (e.vsn 3) 2 0 (v : Int) ((rows.getD v []).map BitVec.toNat) (writerOf n e) none) d
    let nf := (rows.map countNf).sum
    (d.latchNf n .convert nf, { e with nonfin := nf ≠ 0 })
  else
    let o := d.storeRows e.job (e.vsn 3) f 0 0 rows (dSr x) (writerOf n e) none
    (o.1.latchNf n .convert o.2, { e with nonfin := o.2 ≠ 0 })

/-! ## UPDATE (09 R260-R264) -/

/-- One ADAMW element: new master, first and second moment (09 R263). -/
def adamw (hp : Nat → Word) (k w m v gb : Word) : Word × Word × Word :=
  let g := mul32 gb k
  let m' := fma32 (hp 2) m (mul32 (hp 3) g)
  let v' := fma32 (hp 4) v (mul32 (mul32 (hp 5) g) g)
  let mh := mul32 m' (hp 8)
  let vh := mul32 v' (hp 9)
  let dd := add32 (sqrt32 vh) (hp 6)
  let u := div32 mh dd
  let t := fma32 (hp 1) w u
  (rndSum [f32 w, ((f32 (hp 0)).mul (f32 t)).neg], m', v')

/-- One SGDM element: new master and first moment. -/
def sgdm (hp : Nat → Word) (k w m gb : Word) : Word × Word :=
  let m' := fma32 (hp 2) m (mul32 gb k)
  let t := fma32 (hp 1) w m'
  (rndSum [f32 w, ((f32 (hp 0)).mul (f32 t)).neg], m')

/-- Hyperparameter half `i` of the six registers: even low, odd high (09 Table 9-3). -/
def Infl.hyper (e : Infl) (i : Nat) : Word :=
  word ((e.regs.getD (dOpx e.d 4 0 + i / 2) 0).toNat >>> (32 * (i % 2)))

/-- UPDATE, with the clip factor taken at issue. -/
def Die.runUpdate (d : Die) (n : Nat) (e : Infl) : Die × Infl :=
  let x := e.d
  let rule := dOpx x 7 5
  let p := d.inPoison e
  let w := writerOf n e
  let nv := 32 * dK x
  let k := mul32 (e.hyper 10) e.clip
  let rowsB := d.loadRows e.job (e.vsn 2) 2 0 nv
  let rowsA := if rule = 2 then [] else d.loadRows e.job (e.vsn 1) 0 0 nv
  let rowsM := if rule = 2 then [] else d.loadRows e.job (e.vsn 5) 2 0 nv
  let rowsV := if rule = 0 then d.loadRows e.job (e.vsn 6) 2 0 nv else []
  let at_ (r : List (List Word)) (i l : Nat) : Word := (r.getD i []).getD l 0
  let new (i l : Nat) : Word × Word × Word :=
    match rule with
    | 0 => adamw e.hyper k (at_ rowsB i l) (at_ rowsM i l) (at_ rowsV i l) (at_ rowsA i l)
    | 1 => let y := sgdm e.hyper k (at_ rowsB i l) (at_ rowsM i l) (at_ rowsA i l); (y.1, y.2, 0)
    | _ => (at_ rowsB i l, 0, 0)
  let res := (List.range nv).map (fun i => (List.range 32).map (fun l => new i l))
  let wr := res.map (fun r => r.map (·.1))
  let o := d.storeRows e.job (e.vsn 3) (dFmtB x) 0 0 wr (dSr x) w p
  let b := if rule = 2 then (o.1, 0) else o.1.storeRows e.job (e.vsn 2) 2 0 0 wr false w p
  let m := if rule = 2 then (b.1, 0) else b.1.storeRows e.job (e.vsn 5) 2 0 0 (res.map (fun r => r.map (·.2.1))) false w p
  let v := if rule = 0 then m.1.storeRows e.job (e.vsn 6) 2 0 0 (res.map (fun r => r.map (·.2.2))) false w p else (m.1, 0)
  let nf := o.2 + b.2 + m.2 + v.2
  let d := (v.1.count (pgCore n) 9 (1024 * dK x)).latchNf n .vec nf
  let d := if nf ≠ 0 ∧ (d.skimJ e.job).st ≠ 0 then
      let d := if (d.skimJ e.job).updFault then d else d.count pgSkim 6
      d.updSkim e.job (fun s => { s with updFault := true })
    else d
  (d, { e with nonfin := nf ≠ 0, poison := p })

/-! ## SKIM_PART (09 R266) -/

/-- The contribution of a SKIM_PART: partial sum of squares, flag, poisoned sheets. -/
def Die.skimPart (d : Die) (e : Infl) : Word × Bool × Nat :=
  let f := dFmtA e.d
  let rows := d.loadRows e.job (e.vsn 1) f 0 (dK e.d * vecsPerSheet f)
  let s := reduceRows 0x11 rows
  let pois := ((List.range (dK e.d)).filter (fun k => match d.sheetOf e.job (e.vsn 1 + k) with
    | none => false
    | some g => (d.sheetPoison g).isSome)).length
  (s, nonfin32 s || rows.any (fun r => r.any nonfin32), pois)

end Sys2Proof.Machine
end

