-- ==== Sys2Proof/Machine/Sequencer.lean ====
section
/-!
DEFINITION. The core sequencer (04): queue registers, window entry, the conditions of issue, issue,
completion, replay boundaries, and the queue commands, as shared operations.
-/

namespace Sys2Proof.Machine

/-! ## Queue registers -/

/-- A register of a queue block. -/
def Die.qreg (d : Die) (n q off : Nat) : Word := d.reg (pgCore n) (0x400 + 0x80 * d.ctxQ n q + off)

/-- `QJOB.JOB`. -/
def Die.qjob (d : Die) (n q : Nat) : Nat := fld (d.qreg n q 0x1C) 4 0
/-- `QEVT.BASE`. -/
def Die.qbase (d : Die) (n q : Nat) : Nat := fld (d.qreg n q 0x18) 11 0
/-- `QEVT.COUNT`. -/
def Die.qevents (d : Die) (n q : Nat) : Nat := fld (d.qreg n q 0x18) 28 16
/-- `QCFG.MODE`. -/
def Die.qmode (d : Die) (n q : Nat) : Nat := fld (d.qreg n q 0x10) 1 0

/-- Base address of a ring half (04 R97). -/
def Die.ringBase (d : Die) (n q : Nat) (h : Bool) : Nat :=
  let o := if h then 8 else 0
  fld (d.qreg n q (o + 4)) 15 0 * 2 ^ 32 + fld (d.qreg n q o) 31 6 * 64

/-- Length of a ring half. -/
def Die.ringLen (d : Die) (n q : Nat) (h : Bool) : Nat := fld (d.qreg n q (if h then 12 else 4)) 28 16

/-- A half is well-formed: 1 to 4,096 descriptors within stack memory (04 Table 4-10, BAD_RING). -/
def Die.ringOk (d : Die) (n q : Nat) (h : Bool) : Bool :=
  1 ≤ d.ringLen n q h && d.ringLen n q h ≤ 4096 && d.ringBase n q h + 64 * d.ringLen n q h ≤ stackEnd

/-- The placed region that covers a core. -/
def Die.regionOf (d : Die) (n : Nat) : Option (Nat × Region) :=
  d.regions.findSome? (fun c => match c.2 with
    | some r => if r.x ≤ cx n ∧ cx n < r.x + r.w ∧ r.y ≤ cy n ∧ cy n < r.y + r.h then some (c.1, r) else none
    | none => none)

/-- An island lies within the bounds of a core's signals (04 R108). -/
def Die.sigInside (d : Die) (n i : Nat) : Bool :=
  match d.regionOf n with
  | none => decide (i < 64)
  | some (_, r) => r.x / 8 ≤ i % 8 && i % 8 ≤ (r.x + r.w - 1) / 8 && r.y / 8 ≤ i / 8 && i / 8 ≤ (r.y + r.h - 1) / 8

/-! ## Faults of a queue -/

/-- Queue and core as the trace records name them (14 Table 14-7a). -/
def Die.traceAt (d : Die) (n q : Nat) : Nat := pack [(6, d.ctxQ n q % 4), (3, cy n % 8), (0, cx n % 8)]

/-- Enter HALTED, recording the first fault since the last RESET (04 R128). `IRQ_PEND` is set by the entry alone: a
fault met in HALTED leaves it (04 R130). -/
def Die.haltQueue (d : Die) (n q : Nat) (f : QFault) : Die :=
  let onFault := bit (d.qreg n q 0x48) 0
  (d.updQueue n q (fun x => { x with st := .halted, fault := match x.fault with | some g => some g | none => some f,
                                      irq := x.irq || (onFault && decide (x.st ≠ .halted)) })).trace (islOf n) 7 (word f.status)

/-- Ring index of the oldest unissued descriptor (04 Table 4-14, `QINDEX`). -/
def Queue.index (x : Queue) : Nat := match x.window with | [] => x.entered | e :: _ => e.idx

/-- The halt of `QCMD.ABORT` or a job abort (04 R128). -/
def Die.abortQueue (d : Die) (n q detail : Nat) : Die :=
  let x := d.queue n q
  d.haltQueue n q { status := stAborted, detail, idx := x.index, half := x.half, tag := 0 }

/-! ## Completion (04 R119) -/

/-- Send the signals of a descriptor (04 R109). -/
def Die.fireSignals (d : Die) (n : Nat) (e : Infl) : Die :=
  [0, 1].foldl (fun d i =>
    let w := dSig e.d i
    if bit w 31 then
      match sigIsland (islOf n) w with
      | none => d
      | some t => d.send n (islNode t) (.signal (e.evBase + fld w 11 0) (fld w 21 14))
    else d) d

/-- Return the handles a descriptor popped (05 R154). -/
def Die.returnFelts (d : Die) (n : Nat) (e : Infl) (good : Bool) : Die :=
  e.felts.foldl (fun d u =>
    let cfg := (d.feltQ u.island u.queue).cfg
    let j := fld cfg 28 24
    if good then
      if bit cfg 23 then d.send n (islNode (fld cfg 21 16)) (.felt (fld cfg 15 8) u.handle j) else d
    else d.send n (islNode u.island) (.felt u.queue u.handle j)) d

/-- The queue's own part of a completion: counts, interrupt, halt, break, idle (04 R119, R128-R130). A count break is
taken from RUNNING alone (log 124). -/
def Die.queueDone (d : Die) (n q : Nat) (e : Infl) (st detail : Nat) : Die :=
  let x := d.queue n q
  let dn := x.done + 1
  let x' := { x with infl := x.infl.filter (fun y => decide (y.id ≠ e.id)), done := dn, irq := x.irq || dIrq e.d }
  let d := (d.setQueue n q x').trace (islOf n) 2 (word (d.traceAt n q + dTag e.d * 65536 + st * 256))
  let c := d.ctxQ n q
  let d := if st = stPoisoned then d.count (pgCore n) (0x20 + c) else if st = stNonfinite then d.count (pgCore n) (0x24 + c) else d
  if 4 ≤ q then
    let d := if dIrq e.d then d.updQueue n c (fun y => { y with irq := true }) else d
    { d with inj := { busy := false, donePend := true, detail, status := st, core := n } }
  else if !stGood st then
    d.haltQueue n q { status := st, detail, idx := e.idx, half := e.half, tag := dTag e.d }
  else if x.st = .running ∧ bit (d.qreg n q 0x3C) 30 ∧ dn = d.qreg n q 0x38 then
    d.updQueue n q (fun y => { y with st := .brk })
  else if x.st = .draining ∧ x'.infl = [] then
    let onIdle := bit (d.qreg n q 0x48) 1
    d.updQueue n q (fun y => { y with st := .idle, irq := y.irq || onIdle })
  else d

/-- A descriptor that met a foreign slot marks its output sheets poisoned (04 Table 4-9, 05 Table 5-5). -/
def Die.slotMarks (d : Die) (n : Nat) (e : Infl) : Die :=
  if e.ops.isEmpty ∨ role e.d 3 ≠ .sheet then d
  else (d.opSheets e.d e.ops 3).foldl (fun d v => match d.sheetOf e.job v with
    | none => d
    | some g => d.markPoison g { cause := 4, tag := dTag e.d, core := n, island := islOf n } (d.job e.job).attempt) d

/-- A descriptor completes: signals or halt, references, STREAM uses, felt handles, counts. -/
def Die.finish (d : Die) (n q : Nat) (e : Infl) (st detail : Nat) : Die :=
  let good := stGood st
  let d := if good then d.fireSignals n e else d
  let d := d.returnFelts n e good
  let d := e.span.foldl (fun d k => d.dropRef e.due k) d
  let d := e.reads.foldl (fun d k => d.useStream e.job k) d
  let d := if st = stQuota then d.count (pgJob e.job) 5 else d
  let d := if st = stSlot then d.slotMarks n e else d
  d.queueDone n q e st detail

/-- ENGINE_ABSENT is recorded in `EA_LAST` (04 R120, 12 R378). -/
def Die.noteAbsent (d : Die) (core q : Nat) (injected : Bool) : Die :=
  Die.count { d with eaLast := packW [(31, 1), (30, b2n injected), (12, if injected then 0 else q % 4), (0, core % 4096)] } pgSys 1

/-! ## Window entry (04 R116, R118, R122) -/

/-- The cache line that holds ring index `i` of the active half, if it is in the cache. -/
def Die.cachedLine (d : Die) (n q i : Nat) : Option CLine :=
  let x := d.queue n q
  let l := sget d.dcache {} ((n * 4 + q) * 64 + i / 4 % 64)
  if l.words ≠ [] ∧ l.half = x.half ∧ l.gen = (if x.half then x.gen1 else x.gen0) ∧ l.first = i / 4 * 4 then some l else none

/-- Every fault a descriptor's fields show in the context of a queue (04 R121, R122). -/
def Die.entryCause (d : Die) (n q : Nat) (x : Desc) : Option Nat :=
  minCause (causes x (islOf n) (d.qbase n q) (d.qevents n q) (d.sigInside n))

/-- One descriptor enters the window, or completes at once with ABORTED. -/
def Die.enterOne (d : Die) (n q : Nat) (x : Desc) : Die :=
  let qu := d.queue n q
  let e : WinEnt := { d := x, idx := qu.entered, half := qu.half, pass := qu.pass.toNat }
  let d := d.setQueue n q { qu with entered := qu.entered + 1 }
  match d.entryCause n q x with
  | none => d.updQueue n q (fun y => { y with window := y.window ++ [e] })
  | some c =>
    d.queueDone n q { id := qu.nextId, d := x, idx := e.idx, half := e.half, pass := e.pass } stAborted c

/-- Up to `k` descriptors enter, within the line that holds the first of them; they enter in RUNNING alone (log 124).
A full window may keep the queue waiting for cycles only the clock knows (`Q_WAIT_CYCLES`, log 2). -/
def Die.enterMany (d : Die) (n q : Nat) : Nat → Die
  | 0 => d
  | k + 1 =>
    let qu := d.queue n q
    let i := qu.entered
    if qu.st = .running ∧ qu.held = false ∧ qu.window.length < 16 ∧ i < d.ringLen n q qu.half then
      match d.cachedLine n q i with
      | none => d
      | some l =>
        let d' := d.enterOne n q ((List.range 16).map (fun w => l.words.getD (i % 4 * 16 + w) 0))
        let d' := if (d'.queue n q).window.length = 16 then d'.countFree (pgCore n) (0x2C + q) else d'
        if i % 4 = 3 then d' else d'.enterMany n q k
    else d

/-! ## Issue (04 R116, R117) -/

/-- Slots a descriptor names. -/
def namedSlots (x : Desc) : List Nat :=
  if usesSlot x then (List.range (reps x)).map (fun r => (dSlot x + r * dSlotStride x) % 32)
  else if dOpc x = opcVec then
    (List.range (dCount x)).flatMap (fun r => vecSlots x r 1 ++ vecSlots x r 2 ++ vecSlots x r 3 ++ vecSlots x r 6)
  else []

/-- Demand on the slice ports: read and write bytes per island cycle (03 Table 3-3, 04 Table 4-5). That of a COPY is
for both ends at home (`Die.demandOf`). -/
def demand (x : Desc) : Nat × Nat :=
  let o := dOpc x
  let sh (f : Nat) : Nat := if f = 2 then 128 else 64
  if o = opcOpa ∨ o = opcOpaT then
    let g := groupOf (dFmtA x) (dFmtB x)
    (g * 32 * fmtBits (dFmtA x) / 8 + g * 32 * fmtBits (dFmtB x) / 8, 0)
  else if o = opcMatvec then (128, 0)
  else if o = opcVec then
    (([1, 2, 6].map (fun i => if role x i = .sheet then sh (opFmt x i) else 0)).sum, if role x 3 = .sheet then 64 else 0)
  else if o = opcDrain then (if dOpx x 1 0 = 1 then vecBytes (dOpx x 15 12) else 0, 64)
  else if o = opcTable then (sh (dFmtA x) + (if dOpx x 1 0 = 1 then vecBytes (dOpx x 15 12) else 0), 64)
  else if o = opcLoadacc then (if dZero x then 0 else sh (dFmtA x), 0)
  else if o = opcCopy ∨ o = opcConvert ∨ o = opcUpdate then (64, 64)
  else if o = opcRng then (0, 64)
  else if o = opcReduce then (if dOpx x 16 16 = 1 then 128 else 0, 0)
  else if o = opcSkim then (128, 0)
  else (0, 0)

/-- Every descriptor in flight on a core, with its queue. -/
def Die.inflight (d : Die) (n : Nat) : List (Nat × Infl) :=
  [0, 1, 2, 3, 4].flatMap (fun q => ((d.queue n q).infl).map (fun e => (q, e)))

/-- The waits of a descriptor are satisfied (04 R107). -/
def Die.waitsMet (d : Die) (n q : Nat) (e : WinEnt) : Bool :=
  [0, 1].all (fun i =>
    let w := dWait e.d i
    fld w 31 30 = 0 ||
      countMet (sget d.evt 0 (islOf n * 4096 + d.qbase n q + fld w 11 0)) (waitTarget w e.pass))

/-- Consume-mode waits subtract their targets (04 R107). -/
def Die.consume (d : Die) (n q : Nat) (e : WinEnt) : Die :=
  [0, 1].foldl (fun d i =>
    let w := dWait e.d i
    if fld w 31 30 = 3 then
      let k := islOf n * 4096 + d.qbase n q + fld w 11 0
      { d with evt := sset d.evt 0 k (sget d.evt 0 k - word (waitTarget w e.pass)) }
    else d) d

/-- The function table a descriptor names has a swap pending (03 R90). -/
def Core.tableHeld (c : Core) (x : Desc) : Bool :=
  match c.swap with
  | none => false
  | some t => dFnEn x && dFn x = t

/-- An UPDATE waits for the verdict (09 R273), or for the first shard of a securing (11 R328). -/
def Die.updateHeld (d : Die) (j : Nat) (x : Desc) : Bool :=
  decide (dOpc x = opcUpdate) && decide (dOpx x 7 5 ≠ 2) && (d.sg.due.toNat.testBit j || !(decide ((d.skimJ j).st = 0) || decide ((d.skimJ j).st = 4) || decide ((d.skimJ j).st = 5)))

/-- The UPDATE writes nothing: its job's step was skipped (09 R270, step 6S). -/
def Die.updateSkipped (d : Die) (j : Nat) (x : Desc) : Bool :=
  decide (dOpc x = opcUpdate) && decide (dOpx x 7 5 ≠ 2) && decide ((d.skimJ j).st = 5)

/-- A SKIM_PART that issues after a notice, before the next verdict, under `EARLY_SKIP` (09 R276). -/
def Die.partSkipped (d : Die) (j : Nat) (x : Desc) : Bool :=
  let s := d.skimJ j
  decide (dOpc x = opcSkim) && bit (d.skimW j 0) 30 && decide (s.notices ≠ 0) && decide (1 ≤ s.st) && decide (s.st ≤ 3)

/-- Result of resolving the operands of a descriptor. -/
inductive Resolved where
  /-- A fault status with its operand index, and the handles popped before it was met. -/
  | fault (st idx : Nat) (felts : List FeltUse)
  /-- A felt queue it names is empty. -/
  | wait
  /-- The six operand words after resolution, and the handles to pop. -/
  | ok (ops : List Word) (felts : List FeltUse)
  deriving DecidableEq, Repr

/-- Active parameter register `r`; register 31 shows the pass number (04 R123, R124). -/
def Die.preg (d : Die) (n q r : Nat) : DWord :=
  if r = 31 then BitVec.ofNat 64 (d.queue n (d.ctxQ n q)).pass.toNat
  else sget d.pact 0 ((n * 4 + d.ctxQ n q) * 32 + r)

/-- The pool core of a pooled MATVEC: the one named, or the home slice of the matrix (04 R112). -/
def Die.poolCore (d : Die) (j : Nat) (x : Desc) (b : Word) : Option Nat :=
  if dPhys x then some (dOpx x 18 7)
  else match d.page j (hVsn b / 16) with
    | none => none
    | some p => d.homeSlice p

/-- The slice an operand's page must be homed in, or none for any slice of the job (06 R178). -/
def Die.homeNeeded (d : Die) (n j : Nat) (x : Desc) (ops : List Word) (i : Nat) : Option Nat :=
  let o := dOpc x
  if o = opcCopy ∨ o = opcGather ∨ o = opcColl then none
  else if o = opcMatvec ∧ dOpx x 6 6 = 1 then
    (if i = 1 then none else if i = 2 then d.poolCore j x (ops.getD 1 0) else some n)
  else some n

/-- The job of the descriptor's handles and its pages: UNMAPPED with the operand index (04 R102). -/
def Die.mapFault (d : Die) (n j : Nat) (x : Desc) (ops : List Word) : Option Nat :=
  (List.range 6).findSome? (fun k =>
    let i := k + 1
    if role x i = .sheet then
      let h := ops.getD k 0
      let vs := d.opSheets x ops i
      if d.opLeaves x ops i then some i
      else if vs.isEmpty then none
      else if hJob h ≠ j ∨ (vs.any (fun v => match d.homeNeeded n j x ops i with
          | none => !d.mapped j (v / 16)
          | some s => !d.mappedAt j (v / 16) s)) then some i
      else none
    else none)

/-- Resolve one operand field; `used` lists the felt handles already taken (04 R102, 05 R154). -/
def Die.resolve1 (d : Die) (n q : Nat) (e : WinEnt) (i : Nat) (used : List FeltUse) : Resolved :=
  let f := dOpnd e.d i
  if role e.d i ≠ .sheet then .ok [f] used
  else
    let h := if dPreg e.d i then regHandle f (d.preg n q (fld f 4 0)) e.pass else some f
    match h with
    | none => .fault stUnmapped i used
    | some h =>
      match feltRef h with
      | none => .ok [h] used
      | some (isl, fq) =>
        let s := d.feltQ isl fq
        if hJob h ≠ d.qjob n q ∨ isl ≠ islOf n ∨ bit s.cfg 31 = false ∨ fld s.cfg 28 24 ≠ d.qjob n q then .fault stUnmapped i used
        else
          let k := (used.filter (fun u => u.island = isl && u.queue = fq)).length
          if s.count ≤ k then .wait
          else
            let hd := sget d.feltMem 0 ((isl * 256 + fq) * 64 + (s.head + k) % 64)
            .ok [hd] (used ++ [{ opnd := i, island := isl, queue := fq, handle := hd }])

/-- Resolve the operand fields from field `i` on. -/
def Die.resolveFrom (d : Die) (n q : Nat) (e : WinEnt) : Nat → Nat → List FeltUse → Resolved
  | 0, _, used => .ok [] used
  | k + 1, i, used =>
    match d.resolve1 n q e i used with
    | .fault s x us => .fault s x us
    | .wait => .wait
    | .ok o us =>
      match d.resolveFrom n q e k (i + 1) us with
      | .fault s x us => .fault s x us
      | .wait => .wait
      | .ok t us' => .ok (o ++ t) us'

/-! ## Ports, slots and engines (03 R69, R70, 04 R116) -/

/-- Some page of operand `i` is homed in the slice beneath core `n`. -/
def Die.endHere (d : Die) (n j : Nat) (x : Desc) (ops : List Word) (i : Nat) : Bool :=
  (d.opSheets x ops i).any (fun v => d.mappedAt j (v / 16) n)

/-- Demand of a descriptor with its resolved operands: a remote end of a COPY uses the Lath port in place of its
share (04 Table 4-5). -/
def Die.demandOf (d : Die) (n j : Nat) (x : Desc) (ops : List Word) : Nat × Nat :=
  let u := demand x
  if dOpc x = opcCopy then (if d.endHere n j x ops 1 then u.1 else 0, if d.endHere n j x ops 3 then u.2 else 0) else u

/-- Port demand of each engine: the largest of its descriptors, which follow one another (03 R70,
log 16). A batch holds the demand of its OPA until its outputs are drained (03 R77, log 125). -/
def Die.portUse (d : Die) (n : Nat) (extra : List (Nat × Nat × Nat)) : Nat × Nat :=
  let l := (d.inflight n).map (fun e => (engineOf (dOpc e.2.d), d.demandOf n e.2.job e.2.d e.2.ops)) ++
    (if (d.core n).batch.isEmpty then [] else [(1, 128, 0)]) ++ extra
  let eng (k : Nat) : Nat × Nat :=
    l.foldl (fun m y => if y.1 = k then (max m.1 y.2.1, max m.2 y.2.2) else m) (0, 0)
  ((List.range 7).foldl (fun s k => s + (eng k).1) 0, (List.range 7).foldl (fun s k => s + (eng k).2) 0)

/-- The descriptor is done with its engine once it has run: what it waits for then happens elsewhere. The array
pipelines its operations (03 R66); a REDUCE and a SKIM_PART wait for acceptance, a pooled request for its pool core. -/
def leavesEngine (x : Desc) : Bool :=
  let o := dOpc x
  decide (engineOf o = 0) || decide (engineOf o = 1) || decide (engineOf o = 6) || decide (o = opcReduce) || decide (o = opcSkim) ||
    (decide (o = opcMatvec) && decide (dOpx x 6 6 = 1))

/-- The issued descriptor holds its engine: it waits for it, or runs on it (04 R116, condition 3). -/
def Infl.holds (e : Infl) : Bool := !e.ran || !leavesEngine e.d

/-- Descriptors that hold an engine of a core. -/
def Die.holders (d : Die) (n eng : Nat) : Nat :=
  ((d.inflight n).filter (fun e => decide (engineOf (dOpc e.2.d) = eng) && e.2.holds)).length

/-- A slot is bound to the array (03 R69): its tile is in the array, or an issued array operation names it that has
not entered yet. -/
def Die.slotBound (d : Die) (n s : Nat) : Bool :=
  (d.core n).bound s || (d.inflight n).any (fun y =>
    decide (engineOf (dOpc y.2.d) = 1) && !y.2.ran && (namedSlots y.2.d).contains s)

/-- Another engine reads or writes a slot: an issued descriptor names it, or a batch's tile is still to be drained. -/
def Die.slotBusy (d : Die) (n s : Nat) : Bool :=
  (d.inflight n).any (fun y => decide (engineOf (dOpc y.2.d) ≠ 1) && (namedSlots y.2.d).contains s) ||
    (d.core n).batch.any (fun r => (List.range r.rows.length).any (fun t => decide ((r.slot + t) % 32 = s)))

/-- The port demand of a window descriptor fits (04 R116, condition 4). -/
def Die.portFits (d : Die) (n q : Nat) (e : WinEnt) : Bool :=
  let w := match d.resolveFrom n q e 6 1 [] with
    | .ok ops _ => d.demandOf n (d.qjob n q) e.d ops
    | _ => demand e.d
  let u := d.portUse n [(engineOf (dOpc e.d), w)]
  decide (u.1 ≤ 128) && decide (u.2 ≤ 64)

/-- The core belongs to the rectangle of a placement between steps 3 and 5 (06 R171, 12 R365). -/
def Die.placingCore (d : Die) (n : Nat) : Bool :=
  match d.dk.cmd with
  | .placing _ g _ => decide (g.x ≤ cx n) && decide (cx n < g.x + g.w) && decide (g.y ≤ cy n) && decide (cy n < g.y + g.h)
  | _ => false

/-- Conditions 1 to 5 and 7 of 04 R116. No queue of a region being placed issues before its last step (06 R171). -/
def Die.condsMet (d : Die) (n q : Nat) (e : WinEnt) : Bool :=
  let x := e.d
  let st := (d.queue n q).st
  let eng := engineOf (dOpc x)
  let c := d.core n
  !d.workHeld && !(decide (q < 4) && d.placingCore n) &&
  (decide (st = .running) || decide (st = .draining) || decide (4 ≤ q)) &&
  d.waitsMet n q e &&
  (eng = 0 || d.holders n eng < 2) && !(eng = 1 && c.next.isSome) &&
  d.portFits n q e &&
  (if eng = 1 then !(namedSlots x).any (d.slotBusy n) else !(namedSlots x).any (d.slotBound n)) &&
  !c.tableHeld x && !d.updateHeld (d.qjob n q) x

/-- The lowest plan stream of a kind from a node to a node that satisfies `p` (07 R216). -/
def Die.planStream (d : Die) (n kind : Nat) (p : Nat → Bool) : Option Nat :=
  match d.regionOf n with
  | none => none
  | some (_, r) =>
    ((r.streams.filter (fun s => decide (s.1 = kind) && decide (s.2.2.1 = n) && p s.2.2.2)).map (fun s => s.2.1)).min?

/-- Island a REDUCE names. -/
def reduceIsland (n : Nat) (x : Desc) : Option Nat :=
  let ix : Int := (islOf n % 8 : Nat) + signed 4 (dOpx x 3 0)
  let iy : Int := (islOf n / 8 : Nat) + signed 4 (dOpx x 7 4)
  if 0 ≤ ix ∧ ix ≤ 7 ∧ 0 ≤ iy ∧ iy ≤ 7 then some (iy.toNat * 8 + ix.toNat) else none

/-- The stream a REDUCE sends on. -/
def Die.reduceStream (d : Die) (n : Nat) (x : Desc) : Option Nat :=
  match reduceIsland n x with
  | none => none
  | some i => d.planStream n 1 (fun v => decide (islOf v = i))

/-- `FAB_EPOCH` of 10 Table 10-8. -/
def bdEpoch : Nat := 0x10
/-- `FAB_FENCED` of 10 Table 10-8. -/
def bdFenced : Nat := 0x11

/-- Objects of the span. -/
def Die.spanObjs (d : Die) (j : Nat) (x : Desc) (ops : List Word) : List Nat :=
  ((d.spanPages x ops).filterMap (fun v => d.objKey j v)).dedup

/-- The descriptor is a pooled MATVEC that names a disabled core (04 R120). -/
def Die.poolAbsent (d : Die) (x : Desc) : Bool :=
  decide (dOpc x = opcMatvec) && decide (dOpx x 6 6 = 1) && dPhys x && !d.enabled (dOpx x 18 7)

/-- UNMAPPED beside the handles: a Skim slot of another job (09 R267), a pool core that is none of an enabled pool of
the job (06 R175). -/
def Die.placeFault (d : Die) (j : Nat) (x : Desc) (ops : List Word) : Bool :=
  let o := dOpc x
  if o = opcSkim then
    let w := sget d.skimSlot 0 (dOpx x 5 0 * 8)
    !(bit w 31 && decide (fld w 28 24 = j))
  else if o = opcMatvec ∧ dOpx x 6 6 = 1 then
    match (d.poolCore j x (ops.getD 1 0)).bind d.poolMember with
    | none => true
    | some p =>
      let w := sget d.poolT 0 (p * 2)
      !(bit w 31 && decide (fld w 28 24 = j))
  else false

/-- Faults detected at issue once the handles are resolved, highest precedence first (04 Table 4-9): ABORTED (`extra`),
UNMAPPED, QUOTA, and SLOT_VIOLATION for a REDUCE with no stream (07 R216). -/
def Die.issueFault (d : Die) (n j : Nat) (x : Desc) (ops : List Word) (extra : Option (Nat × Nat)) : Option (Nat × Nat) :=
  match extra with
  | some f => some f
  | none => match d.mapFault n j x ops with
    | some i => some (stUnmapped, i)
    | none =>
      if d.placeFault j x ops then some (stUnmapped, 0)
      else if d.spanObjs j x ops ≠ [] ∧ d.quotaFault j (d.spanObjs j x ops) then some (stQuota, 0)
      else if dOpc x = opcReduce ∧ d.reduceStream n x = none then some (stSlot, 0)
      else none

/-- First sheets of the operands: their objects, leaving out popped handles (04 R116 condition 6,
05 R154). -/
def Die.firstObjs (d : Die) (j : Nat) (x : Desc) (ops : List Word) (felts : List FeltUse) : List Nat :=
  (List.range 6).filterMap (fun k =>
    if felts.any (fun u => u.opnd = k + 1) then none
    else match d.opSheets x ops (k + 1) with
      | [] => none
      | v :: _ => d.objKey j (v / 16))

/-- What the sequencer finds about a descriptor whose other conditions hold. -/
inductive Ready where
  /-- Issues and completes with this fault status and detail; the handles it pops go back (05 R154). -/
  | faulty (st detail : Nat) (felts : List FeltUse)
  /-- Waits for residency of these objects, within this span. -/
  | absent (objs span : List Nat)
  /-- Waits. -/
  | no
  /-- Issues. -/
  | yes (ops : List Word) (felts : List FeltUse) (span : List Nat)
  deriving DecidableEq, Repr

/-- Resolution, faults at issue, quota and residency (04 R102, R116 condition 6, R119, 06 R185). A descriptor that
reached a disabled core pops no handle (04 R120). -/
def Die.readiness (d : Die) (n q : Nat) (e : WinEnt) (extra : Option (Nat × Nat)) : Ready :=
  let j := d.qjob n q
  let x := e.d
  if d.poolAbsent x then .faulty stAbsent 0 []
  else match d.resolveFrom n q e 6 1 [] with
    | .wait => .no
    | .fault s i felts => let f := extra.getD (s, i); .faulty f.1 f.2 felts
    | .ok ops felts =>
      match d.issueFault n j x ops extra with
      | some f => .faulty f.1 f.2 felts
      | none =>
        let span := d.spanObjs j x ops
        let firsts := d.firstObjs j x ops felts
        if firsts.all d.isResident ∧ d.reservable j span then .yes ops felts span
        else .absent (firsts.filter (fun k => !d.isResident k)) span

/-- Index of the oldest window descriptor of an engine whose other conditions hold and that `p`
accepts. -/
def Die.pick (d : Die) (n q eng : Nat) (p : WinEnt → Bool) : Option (Nat × WinEnt) :=
  match (d.queue n q).window.findIdx? (fun e => decide (engineOf (dOpc e.d) = eng) && d.condsMet n q e && p e) with
  | none => none
  | some i => match (d.queue n q).window[i]? with
    | none => none
    | some e => some (i, e)

/-- The order in which an engine looks at the queues: an injected descriptor first, then round robin
after the queue that last issued to it (04 R117, 14 R427). -/
def Core.queueOrder (c : Core) (eng : Nat) : List Nat :=
  let l := c.lastq.getD eng 3
  4 :: (List.range 4).map (fun k => (l + 1 + k) % 4)

/-- The descriptor an engine takes next: queue, window position, entry. -/
def Die.winner (d : Die) (n eng : Nat) (p : Nat → WinEnt → Bool) : Option (Nat × Nat × WinEnt) :=
  ((d.core n).queueOrder eng).findSome? (fun q =>
    match d.pick n q eng (p q) with
    | none => none
    | some (i, e) => some (q, i, e))

/-- The entry is issuable, fault or no. -/
def Ready.issues (r : Ready) : Bool :=
  match r with
  | .faulty _ _ _ => true
  | .yes _ _ _ => true
  | _ => false

/-- Pop the felt handles a descriptor takes. -/
def Die.popFelts (d : Die) (us : List FeltUse) : Die :=
  us.foldl (fun d u => d.updFelt u.island u.queue (fun s => { s with head := (s.head + 1) % 64, count := s.count - 1 })) d

/-- Remember the queue that issued last to an engine. -/
def Core.issued (c : Core) (eng q : Nat) : Core := if q < 4 then { c with lastq := setAt c.lastq eng q } else c

/-- The objects of the sheets a descriptor reads, and their unread marks (06 R183, R193). -/
def Die.readObjs (d : Die) (j : Nat) (x : Desc) (ops : List Word) : List Nat :=
  ((List.range 6).flatMap (fun k => if readsOp x (k + 1) then
    (d.opSheets x ops (k + 1)).filterMap (fun v => d.objKey j (v / 16)) else [])).dedup

/-- Mark every sheet a descriptor reads as read. -/
def Die.markRead (d : Die) (e : Infl) : Die :=
  (List.range 6).foldl (fun d k => if readsOp e.d (k + 1) then
    (d.opSheets e.d e.ops (k + 1)).foldl (fun d v => match d.objKey e.job (v / 16) with
      | none => d
      | some o => d.readSheet o (v % 16)) d else d) d

/-- A hold of a level change covers a half (13 R388, R389). -/
def Pwr.holds (p : Pwr) (west : Bool) : Bool := if west then p.busyW || p.deferW else p.busyE || p.deferE

/-- A replay boundary (04 R123): pass number, armed patch, pending flip; under a hold of a level change
the queue admits nothing of the new pass (13 R389). -/
def Die.boundary (d : Die) (n q : Nat) (pass : Word) : Die :=
  let x := d.queue n q
  let base := (n * 4 + q) * 32
  let d := if x.armed then
      { d with pact := (List.range 31).foldl (fun m r => sset m 0 (base + r) (sget d.pshad 0 (base + r))) d.pact }
    else d
  let half := if x.flip then !x.half else x.half
  let held := d.pw.holds (westCore n)
  d.setQueue n q { x with pass, armed := false, half, flip := false, entered := 0, lastPass := false, held }

/-- The last descriptor of a pass has issued: next pass, or the end of the last pass (04 R123, R127). The boundary is
taken too when that descriptor's fault at issue halts the queue (log 124). -/
def Die.passEnd (d : Die) (n q : Nat) : Die :=
  let x := d.queue n q
  if 4 ≤ q ∨ x.window ≠ [] ∨ x.entered < d.ringLen n q x.half then d
  else
    let m := d.qmode n q
    if m = 2 ∨ (m = 1 ∧ x.pass.toNat + 1 < (d.qreg n q 0x14).toNat) then d.boundary n q (x.pass + 1)
    else if x.st = .running then
      if x.infl = [] then
        let onIdle := bit (d.qreg n q 0x48) 1
        d.setQueue n q { x with st := .idle, lastPass := true, irq := x.irq || onIdle }
      else d.setQueue n q { x with st := .draining, lastPass := true }
    else d.setQueue n q { x with lastPass := true }

/-- A number above those of all descriptors the core has issued, so that ids follow the order of issue. -/
def Die.freshId (d : Die) (n : Nat) : Nat := (List.range 5).foldl (fun m q => max m (d.queue n q).nextId) 0

/-- Clip factor an UPDATE takes at issue (09 R263, R273). -/
def Die.clipOf (d : Die) (j : Nat) (x : Desc) : Word :=
  if dOpx x 7 5 = 2 ∨ (d.skimJ j).st = 0 then one32 else (d.skimJ j).clip

/-- Take a descriptor out of the window and make it an issued one; `span` gets its references. -/
def Die.toFlight (d : Die) (n q i : Nat) (e : WinEnt) (ops : List Word) (felts : List FeltUse) (span : List Nat) : Die × Infl :=
  let j := d.qjob n q
  let id := d.freshId n
  let inf : Infl := { id, d := e.d, idx := e.idx, half := e.half, pass := e.pass, job := j, ctx := d.ctxQ n q,
                      evBase := d.qbase n q, clip := d.clipOf j e.d, ops, regs := (List.range 32).map (d.preg n q), felts, span,
                      reads := d.readObjs j e.d ops }
  let d := d.consume n q e
  let d := d.popFelts felts
  let d := d.takeSpan j span
  let inf := { inf with due := span.filter (fun k => !d.isResident k) }
  let d := d.updQueue n q (fun y => { y with window := dropAt y.window i, infl := y.infl ++ [inf], nextId := id + 1,
                                             skip := if y.skip = some (e.half, e.idx) then none else y.skip })
  ((d.updCore n (fun c => c.issued (engineOf (dOpc e.d)) q)).trace (islOf n) 1 (word (d.traceAt n q + dTag e.d * 65536)), inf)

/-- Replace an issued descriptor by its present record. -/
def Die.putInfl (d : Die) (n q : Nat) (e : Infl) : Die :=
  d.updQueue n q (fun x => { x with infl := x.infl.map (fun y => if y.id = e.id then e else y) })

/-- Pages that have not been RESIDENT since the descriptor `r` issued. -/
def Die.dueOf (d : Die) (r : DescRef) : List Nat :=
  match (d.queue r.core r.queue).infl.find? (fun e => decide (e.id = r.id)) with
  | none => []
  | some e => e.due

/-- Every page of the span is readable to the descriptor that holds its references. -/
def Die.spanUsable (d : Die) (e : Infl) : Bool := e.span.all (d.usable e.due)

/-- The bank plan lets the owner `code` of Table 5-1 reach every sheet of operand `i`. -/
def Die.banksGive (d : Die) (e : Infl) (i code : Nat) : Bool :=
  (d.opSheets e.d e.ops i).all (fun v => match d.sheetOf e.job v with
    | none => true
    | some g => d.bankSlot (sliceOf g) (bankOf (frameOf g)) (fun o => decide (o = code)))

/-- A plan stream joins the home nodes of a COPY (07 R216). -/
def Die.copyPlanned (d : Die) (e : Infl) : Bool :=
  match d.sheetOf e.job (e.vsn 1), d.sheetOf e.job (e.vsn 3) with
  | some a, some b => (d.planStream (sliceOf a) 3 (fun v => decide (v = sliceOf b))).isSome
  | _, _ => false

/-- The engine's ports reach every bank it uses in some slot; else it waits (05 R137). What travels on the Lath chooses
its slots itself (05 R138, 07 R222), and a pooled request reaches no bank (03 R77). -/
def Die.banksServe (d : Die) (e : Infl) : Bool :=
  let o := dOpc e.d
  if (o = opcMatvec ∧ dOpx e.d 6 6 = 1) ∨ o = opcCopy then true
  else (List.range 6).all (fun k =>
    (!readsOp e.d (k + 1) || d.banksGive e (k + 1) 1) && (!writesOp e.d (k + 1) || d.banksGive e (k + 1) 2))

/-- A descriptor issued before `id` (before a new one: none) holds the engine. -/
def Die.engineHeld (d : Die) (n eng : Nat) (id : Option Nat) : Bool :=
  (d.inflight n).any (fun y => decide (engineOf (dOpc y.2.d) = eng) && y.2.holds &&
    (match id with
     | none => true
     | some i => decide (y.2.id < i)))

/-- A COLL or GATHER joins its port engine at issue; the engine uses each page once it is there (10 R306, R308). -/
def fabricOp (x : Desc) : Bool := decide (dOpc x = opcColl) || decide (dOpc x = opcGather)

/-- The engine runs the descriptor now if every page is there, its banks serve it, and nothing of its engine is ahead. -/
def Die.tryRun (d : Die) (n q : Nat) (e : Infl) (ahead : Bool) (run : Die → Infl → Die × Infl) : Die :=
  if fabricOp e.d ∨ (!ahead ∧ d.spanUsable e ∧ d.banksServe e) then
    let r := run (if fabricOp e.d then d else d.markRead e) e
    r.1.putInfl n q { r.2 with ran := true }
  else d

/-- A tag break holds the descriptor (04 R129). -/
def Die.tagHeld (d : Die) (n q : Nat) (e : WinEnt) : Bool :=
  decide (q < 4) && bit (d.qreg n q 0x3C) 31 && fld (d.qreg n q 0x3C) 15 0 = dTag e.d &&
    decide ((d.queue n q).skip ≠ some (e.half, e.idx))

/-- A tag break is taken: the queue enters BREAK and remembers the descriptor held (04 R129). -/
def Die.tagBreak (d : Die) (n q : Nat) (e : WinEnt) : Die :=
  d.updQueue n q (fun x => { x with st := .brk, heldBrk := some (e.half, e.idx) })

/-- The residency side of a descriptor that waits on condition 6 alone: one quota eviction if the span
cannot be reserved, else demands for its first sheets (06 R185). -/
def Die.demandFirst (d : Die) (n q : Nat) (objs span : List Nat) : Die :=
  let j := d.qjob n q
  if d.reservable j span then objs.foldl (fun d k => d.demandPage j k span) d
  else match d.quotaEvict j span with
    | some d' => d'
    | none => d

/-- Issue the next descriptor of the engine of `opc` on core `n`, when it is an `opc`; `extra` adds a
fault found at issue, `run` is what its engine does (04 R116, R117, R119). -/
def Die.issue (d : Die) (n opc : Nat) (extra : Die → Nat → Desc → Option (Nat × Nat))
    (run : Nat → Die → Infl → Die × Infl) : Die :=
  let eng := engineOf opc
  let rdy (q : Nat) (e : WinEnt) : Ready := d.readiness n q e (extra d (d.qjob n q) e.d)
  match d.winner n eng (fun q e => (rdy q e).issues) with
  | some (q, i, e) =>
    if dOpc e.d ≠ opc then d
    else if d.tagHeld n q e then d.tagBreak n q e
    else
      match rdy q e with
      | .faulty st k felts =>
        let r := d.toFlight n q i e [] felts []
        let d' := if st = stAbsent then r.1.noteAbsent (dOpx e.d 18 7) q false else r.1
        (d'.finish n q r.2 st k).passEnd n q
      | .yes ops felts span =>
        let ahead := d.engineHeld n eng none || d.updateSkipped (d.qjob n q) e.d || d.partSkipped (d.qjob n q) e.d
        let r := d.toFlight n q i e ops felts span
        ((r.1.tryRun n q r.2 ahead (run q)).passEnd n q)
      | _ => d
  | none =>
    match d.winner n eng (fun q e => match rdy q e with | .absent _ _ => decide (dOpc e.d = opc) | _ => false) with
    | none => d
    | some (q, _, e) =>
      match rdy q e with
      | .absent objs span => d.demandFirst n q objs span
      | _ => d

/-- No extra fault at issue. -/
def noExtra : Die → Nat → Desc → Option (Nat × Nat) := fun _ _ _ => none

/-- Issue of an operation that completes at issue (04 Table 4-5). -/
def Die.issueNow (d : Die) (n opc : Nat) : Die :=
  match d.winner n 0 (fun q e => (d.readiness n q e none).issues) with
  | none => d
  | some (q, i, e) =>
    if dOpc e.d ≠ opc then d
    else if d.tagHeld n q e then d.tagBreak n q e
    else
      let r := d.toFlight n q i e e.d [] []
      (r.1.finish n q r.2 stOk 0).passEnd n q

/-! ## Queue commands (04 R126-R130) -/

/-- Count an ignored command. -/
def Die.ignored (d : Die) (n : Nat) : Die := d.count (pgCore n) 0x32

/-- Discard the cache lines of a half. -/
def Die.dropLines (d : Die) (n q : Nat) (h : Bool) : Die :=
  { d with dcache := d.dcache.filter (fun c => !(decide (c.1 / 64 = n * 4 + q) && decide (c.2.half = h))) }

/-- Increment the generation of a half and discard its lines. -/
def Die.newGen (d : Die) (n q : Nat) (h : Bool) : Die :=
  (d.updQueue n q (fun x => if h then { x with gen1 := (x.gen1 + 1) % 256 } else { x with gen0 := (x.gen0 + 1) % 256 })).dropLines n q h

/-- `QCMD.START` (04 R127, R128). -/
def Die.qStart (d : Die) (n q : Nat) : Die :=
  let x := d.queue n q
  if x.st ≠ .idle then d.ignored n
  else
    let h := if x.flip then !x.half else x.half
    let badField := decide (d.qmode n q = 3) || (decide (d.qmode n q = 1) && decide (d.qreg n q 0x14 = 0))
    let c := minCause (cause badField bdField ++ cause (!d.ringOk n q h) bdRing)
    match c with
    | some k => d.haltQueue n q { status := stAborted, detail := k, idx := 0, half := h, tag := 0 }
    | none =>
      let d := d.boundary n q 0
      let d := d.newGen n q h
      d.updQueue n q (fun x => { x with st := .running, window := [], skip := none, heldBrk := none })

/-- `QCMD.STOP`. -/
def Die.qStop (d : Die) (n q : Nat) : Die :=
  let x := d.queue n q
  if x.st = .running then d.setQueue n q { x with st := .stopped } else d.ignored n

/-- `QCMD.RESUME`: back to issue; the descriptor a tag break held, and it alone, issues without breaking again. -/
def Die.qResume (d : Die) (n q : Nat) : Die :=
  let x := d.queue n q
  if x.st = .stopped ∨ x.st = .brk then
    let ended := x.lastPass ∧ x.window = []
    let onIdle := bit (d.qreg n q 0x48) 1
    let x := { x with skip := match x.heldBrk with | some h => some h | none => x.skip, heldBrk := none }
    if ended ∧ x.infl = [] then d.setQueue n q { x with st := .idle, irq := x.irq || onIdle }
    else d.setQueue n q { x with st := if ended then .draining else .running }
  else d.ignored n

/-- `QCMD.ABORT`. -/
def Die.qAbort (d : Die) (n q : Nat) : Die :=
  let x := d.queue n q
  if x.st = .idle ∨ x.st = .halted then d.ignored n else d.abortQueue n q bdSoft

/-- `QCMD.RESET` (04 R128). -/
def Die.qReset (d : Die) (n q : Nat) : Die :=
  let x := d.queue n q
  if (x.st = .idle ∨ x.st = .halted ∨ x.st = .stopped) ∧ x.infl = [] then
    d.setQueue n q { x with st := .idle, fault := none, done := 0, pass := 0, entered := 0, window := [],
                            flip := false, armed := false, skip := none, heldBrk := none, lastPass := false, held := false }
  else d.ignored n

/-- `QCMD.FLIP` (04 R126, R127). -/
def Die.qFlip (d : Die) (n q : Nat) : Die :=
  let x := d.queue n q
  if bit (d.qreg n q 0x10) 2 ∧ x.flip = false ∧ d.ringOk n q (!x.half) then
    (d.setQueue n q { x with flip := true }).newGen n q (!x.half)
  else d.ignored n

/-- `QCMD.PREG_ARM` (04 R124). -/
def Die.qArm (d : Die) (n q : Nat) : Die := d.updQueue n q (fun x => { x with armed := true })

/-- `QCMD.ACK_IRQ` (04 R130). -/
def Die.qAck (d : Die) (n q : Nat) : Die := d.updQueue n q (fun x => { x with irq := false })

/-- The range of a half is pinned (04 R125): in IDLE and HALTED neither half is, a flip target included (log 124). -/
def Die.halfPinned (d : Die) (n q : Nat) (h : Bool) : Bool :=
  let x := d.queue n q
  decide (x.st ≠ .idle) && decide (x.st ≠ .halted) && (decide (x.half = h) || x.flip)

/-- The core whose pinned ring a stack address lies in (04 R125). -/
def Die.pinOwner (d : Die) (a : Nat) : Option Nat :=
  d.queues.findSome? (fun c =>
    let n := c.1 / 4
    let q := c.1 % 4
    if [false, true].any (fun h => d.halfPinned n q h && decide (d.ringBase n q h ≤ a) &&
        decide (a < d.ringBase n q h + 64 * d.ringLen n q h)) then some n else none)

/-- The core whose pinned ring overlaps a range of `len` bytes. -/
def Die.pinOverlap (d : Die) (a len : Nat) : Option Nat :=
  d.queues.findSome? (fun c =>
    let n := c.1 / 4
    let q := c.1 % 4
    if [false, true].any (fun h => d.halfPinned n q h && decide (d.ringBase n q h < a + len) &&
        decide (a < d.ringBase n q h + 64 * d.ringLen n q h)) then some n else none)

/-- A write refused by a pin is counted and its address recorded. -/
def Die.pinRefused (d : Die) (n a : Nat) : Die := (d.count (pgCore n) 0x30).setCtr (pgCore n) 0x31 (BitVec.ofNat 64 a)

end Sys2Proof.Machine
end

