-- ==== Sys2Proof/Machine/Stacks.lean ====
section
/-!
DEFINITION. The Galnar memory stacks and their controllers (08).
-/

namespace Sys2Proof.Machine

/-! ## The symbol code (08 R243, R244) -/

/-- What the decoder makes of a burst. -/
inductive Decoded where
  | clean
  /-- Corrected, or miscorrected, with this many symbols changed. -/
  | corrected (n : Nat)
  | uncorrectable
  deriving DecidableEq, Repr

/-- Active `STK_CTRL.DEC_MODE`. -/
def Die.decMode (d : Die) (s : Nat) : Nat := fld (d.reg (pgStk s) 0x104) 2 1

/-- Symbols a mode corrects, and symbols it is sure to detect (08 Table 8-2); 0b11 acts as C2. -/
def decLimits (m : Nat) : Nat × Nat := if m = 1 then (1, 3) else if m = 2 then (0, 4) else (2, 2)

/-- Decoding of a burst with `n` symbols in error; `mis` is the number of symbols a decoder changes when
it is deceived by an error beyond its guarantee, 0 when it is not deceived. In D4 a deception delivers
the burst unchanged. -/
def decode (m n mis : Nat) : Decoded :=
  let l := decLimits m
  if n = 0 then .clean
  else if n ≤ l.1 then .corrected n
  else if n ≤ l.2 ∨ mis = 0 then .uncorrectable
  else if m = 2 then .clean else .corrected (min mis l.1)

/-- The data of the burst are not the stored ones: the error is beyond the mode's guarantee (Table 8-2). -/
def deceived (m n mis : Nat) : Bool := (decLimits m).2 < n && 0 < mis && (decLimits m).1 < n

/-- 64 free bytes (log 6). -/
def Die.freeBurst (d : Die) : Die × List Byte :=
  ({ d with free := d.free + 8 }, (List.range 8).flatMap (fun i => leBytes 8 (Config.freeDWord (d.free + i)).toNat))

/-! ## Service -/

/-- The stack accepts no access: not trained, failed, asleep, or its island is in reset (08 R250, R252,
R253). -/
def Die.stackClosed (d : Die) (s : Nat) : Bool :=
  let k := d.stack s
  !k.trained || k.failed || k.selfRefresh || !d.live (64 + s)

/-- Add to a word of indirect space 0. -/
def Die.chanAdd (d : Die) (s c w n : Nat) : Die :=
  d.updStk s (fun k => { k with chan := sset k.chan 0 (c * 4 + w) (sget k.chan 0 (c * 4 + w) + word n) })

/-- A corrected read (08 R246): counts, and a corrective write where the rule schedules one. -/
def Die.noteCorrected (d : Die) (s burst n : Nat) (scrub : Bool) (data : List Byte) : Die :=
  let d := (d.count (pgStk s) 3).chanAdd s (burst % 128) 0 n
  if scrub ∨ (decLimits (d.decMode s) = (2, 2) ∧ n = 2) then
    d.updStk s (fun k => { k with corrs := k.corrs ++ [{ burst, data }] })
  else d

/-- An uncorrectable burst is recorded (08 R245). -/
def Die.noteUe (d : Die) (s burst : Nat) (host : Bool) : Die :=
  ((d.count (pgStk s) 4).chanAdd s (burst % 128) 1 1).updStk s (fun k =>
    { k with errValid := true, errHost := host, errBurst := burst, errPend := true })

/-- A write of a burst makes the pending corrective writes of that burst stale (08 R246). -/
def Die.newerWrite (d : Die) (s burst : Nat) : Die :=
  d.updStk s (fun k => { k with corrs := k.corrs.map (fun c => if c.burst = burst then { c with stale := true } else c) })

/-! ## Burst locations (08 R241, Table 8-1) -/

/-- Channel of burst `b` of a stack. -/
def burstChan (b : Nat) : Nat := b % 128
/-- Bank of burst `b`. -/
def burstBank (b : Nat) : Nat := (b / 128 % 32) ^^^ (b / 4096 % 32)
/-- Column of burst `b`. -/
def burstCol (b : Nat) : Nat := b / 4096 % 32
/-- Row of burst `b`. -/
def burstRow (b : Nat) : Nat := b / 131072
/-- Key of a burst's bank in `Stk.postponed`. -/
def bankKey (b : Nat) : Nat := burstChan b * 32 + burstBank b

/-- An access reaches the bank of a burst: one with 8 postponed refreshes is refreshed first (08 R247). -/
def Die.openBank (d : Die) (s b : Nat) : Die :=
  if sget (d.stack s).postponed 0 (bankKey b) < 8 then d
  else (d.updStk s (fun x => { x with postponed := sset x.postponed 0 (bankKey b) 7 })).count (pgStk s) 0xA

/-- An access of the burst waits in the controller: later ones take effect after it (08 R242). -/
def Die.burstBusy (d : Die) (s b : Nat) : Bool := (d.stack s).retries.any (fun r => decide (r.burst = b))

/-- An access waits behind the others. -/
def Die.queueBurst (d : Die) (s : Nat) (r : Retry) : Die := d.updStk s (fun k => { k with retries := k.retries ++ [r] })

/-- Write 64 bytes to a burst. -/
def Die.writeBurst (d : Die) (s burst : Nat) (data : List Byte) : Die :=
  (((d.openBank s burst).count (pgStk s) 2).stackWrite (s * 2 ^ 36 + burst * 64) data).newerWrite s burst

/-- `size` bytes at `off` of a burst replaced by a value. -/
def mergeBurst (b : List Byte) (off size v : Nat) : List Byte := b.take off ++ leBytes size v ++ b.drop (off + size)

/-- Deliver a burst to its reader: the read data, or the second half of a read-modify-write. -/
def Die.deliver (d : Die) (s : Nat) (r : Retry) (data : List Byte) : Die :=
  if r.reader = 2 then d
  else
    let o := r.off % 64
    match r.wr with
    | none => d.respond (.ok (leNat ((data.drop o).take r.size)))
    | some v =>
      let d := d.writeBurst s r.burst (mergeBurst data o r.size v)
      if r.reader = 3 then d else d.respond (.ok 0)

/-- One read of a burst with `n` symbols in error; a first read that is uncorrectable waits for its
re-read. -/
def Die.readBurst (d : Die) (s : Nat) (r : Retry) (n mis : Nat) (again : Bool) : Die :=
  let d := (if r.reader = 2 then d else d.count (pgStk s) 1).openBank s r.burst
  let m := d.decMode s
  let stored := d.bytes (s * 2 ^ 36 + r.burst * 64) 64
  let dd := if deceived m n mis then d.freeBurst else (d, stored)
  match decode m n mis with
  | .clean => dd.1.deliver s r dd.2
  | .corrected k => (dd.1.noteCorrected s r.burst k (r.reader = 2) dd.2).deliver s r dd.2
  | .uncorrectable =>
    if again then
      let d := d.noteUe s r.burst (r.reader = 1)
      if r.reader = 1 then d.respond .busError else d
    else
      let d : Die := if r.reader = 1 then d.respond .none else d
      d.updStk s (fun k => { k with
        retries := if k.retries.any (fun x => decide (x.burst = r.burst)) then r :: k.retries else k.retries ++ [r] })

/-- An access takes effect: a read, the write of a whole burst, or a read-modify-write (08 R242). -/
def Die.access (d : Die) (s : Nat) (r : Retry) (n mis : Nat) : Die :=
  match r.wr with
  | none => d.readBurst s r n mis false
  | some _ => if r.size = 64 then d.deliver s r [] else (d.count (pgStk s) 7).readBurst s r n mis false

/-- An access takes effect now, or waits behind those of its burst that arrived before (08 R242). -/
def Die.arrive (d : Die) (s : Nat) (r : Retry) (n mis : Nat) : Die :=
  if d.burstBusy s r.burst then
    let d := d.queueBurst s { r with fresh := true }
    if r.reader = 1 then d.respond .none else d
  else d.access s r n mis

/-- Sizes the host port accepts (08 R240). -/
def portSize (n : Nat) : Bool := n = 1 || n = 2 || n = 4 || n = 8 || n = 64

/-- The offset lies in the host carve-out (08 R254). -/
def Die.inCarve (d : Die) (s off : Nat) : Bool :=
  (64 - min 32 (fld (d.reg (pgStk s) 0x108) 5 0)) * 2 ^ 30 ≤ off

/-- An access of `size` bytes at an offset of stack `s`: requester 0 to 20 on the host port, 21 the edge
links, which move whole bursts (08 R240, R242, 04 R125, 12 R349). -/
def Die.stackAccess (d : Die) (s ini off size : Nat) (wr : Option Nat) (n mis : Nat) : Die :=
  let burst := off / 64
  let a := s * 2 ^ 36 + off
  let host := decide (ini < 21)
  if d.stackClosed s ∨ !portSize size ∨ off % size ≠ 0 ∨ (host = false ∧ size ≠ 64) then d.refuse
  else
    let r : Retry := { burst, off, size, wr, reader := b2n host, dbg := decide (ini = iniDebug) }
    match (if wr.isSome then d.pinOverlap a size else none) with
    | some c =>
      let d := d.pinRefused c a
      let d := if ini < 16 ∧ size = 64 ∧ d.inCarve s off then
          Die.count { d with wbLo := packW [(6, (a / 64) % 2 ^ 26), (0, 1)], wbHi := packW [(0, a / 2 ^ 32)] } pgSys 2
        else d
      d.refuse
    | none => d.arrive s r n mis

/-- STACK_ACCESS (08 R242). -/
def execStackAccess (s ini off size : Nat) (wr : Option Nat) (n mis : Nat) (st : State) : Host.Outcome State Fault Refusal :=
  if ini < 21 ∧ (st.d.live (iniIsland ini) = false ∨ st.d.hasGrant ini = false) then .next st
  else
    let shut := decide (ini < 21) && st.d.planeClosed ini 0
    let st := st.transfer ini
    if shut then .next (st.respond .busError)
    else st.onDie (fun d => (if ini < 21 then d.hear (64 + s) (d.seqNo (iniIsland ini)) else d).stackAccess s ini off size wr n mis)

/-- READ_RETRY (08 R245): the oldest waiting read is read again once; an access that waited behind it for its burst
takes effect (08 R242). -/
def execReadRetry (s n mis : Nat) (st : State) : Host.Outcome State Fault Refusal :=
  if st.d.live (64 + s) = false then .next st
  else match (st.d.stack s).retries with
    | [] => .next st
    | r :: t =>
      let d := st.d.updStk s (fun k => { k with retries := t })
      let d := if r.fresh then d.access s { r with fresh := false } n mis else (d.count (pgStk s) 5).readBurst s r n mis true
      let st : State := { st with d := d }
      .next (if r.dbg ∧ st.a.tap.waitsFor (64 + s) then st.tapTake else st)

/-- CORRECTIVE_WRITE (08 R246). -/
def execCorrectiveWrite (s : Nat) (st : State) : Host.Outcome State Fault Refusal :=
  st.at_ (64 + s) (fun d =>
    match (d.stack s).corrs with
    | [] => d
    | c :: t =>
      let d := d.updStk s (fun k => { k with corrs := t })
      if c.stale then d.count (pgStk s) 9 else d.writeBurst s c.burst c.data)

/-- REFRESH (08 R247): `queued` says whether accesses other than the waiting ones are queued at the bank. A bank with no queued access
is refreshed until none is owed; one with 8 postponed is refreshed at once. -/
def execRefresh (s ch bank : Nat) (queued : Bool) (st : State) : Host.Outcome State Fault Refusal :=
  st.at_ (64 + s) (fun d =>
    let k := ch * 32 + bank
    let n := sget (d.stack s).postponed 0 k
    let queued := queued || (d.stack s).retries.any (fun r => decide (bankKey r.burst = k))
    if (d.stack s).trained = false ∨ (d.stack s).selfRefresh then d
    else if !queued then d.updStk s (fun x => { x with postponed := sset x.postponed 0 k 0 })
    else if n < 8 then d.updStk s (fun x => { x with postponed := sset x.postponed 0 k (n + 1) })
    else d.count (pgStk s) 0xA)

/-- STACK_SCRUB (08 R248): the next burst in index order. -/
def execStackScrub (s n mis : Nat) (st : State) : Host.Outcome State Fault Refusal :=
  st.at_ (64 + s) (fun d =>
    if d.stackClosed s ∨ bit (d.reg (pgStk s) 0x104) 0 = false then d
    else
      let b := (d.stack s).scrubPos
      let d := d.readBurst s { burst := b, off := b * 64, reader := 2 } n mis false
      let d := if b + 1 = 2 ^ 30 then d.count (pgStk s) 8 else d
      d.updStk s (fun k => { k with scrubPos := (b + 1) % 2 ^ 30 }))

/-- Rewrite words 2 and 3 of every channel: failed pins and measured eyes (08 Table 8-9). -/
def Die.setEyes (d : Die) (s : Nat) (pins : List (Nat × Nat)) (eyes : List (Nat × Nat)) : Die :=
  (List.range 128).foldl (fun d c =>
    let p := match pins.find? (fun x => decide (x.1 = c)) with
      | none => 0
      | some x => x.2 % 2 ^ 18
    let e := eyes.getD c (0, 0)
    let w3 := packW [(24, e.1 % 256), (16, e.2 % 256)]
    d.updStk s (fun k => { k with chan := sset (sset k.chan 0 (c * 4 + 2) (word p)) 0 (c * 4 + 3) w3 })) d

/-- A channel failed a step of Table 8-4 or 8-5: it is among `chans`, or one of its pins has failed. -/
def anyFailed (chans : List Nat) (pins : List (Nat × Nat)) : Bool :=
  chans.any (fun c => decide (c < 128)) || pins.any (fun x => decide (x.1 < 128) && decide (x.2 % 2 ^ 18 ≠ 0))

/-- The sequence of Table 8-4 ends (08 R250, R251). A stack whose channels are in self-refresh keeps its
contents and skips step 6. -/
def Die.bringUp (d : Die) (s : Nat) (chans : List Nat) (pins eyes : List (Nat × Nat)) : Die :=
  let k := d.stack s
  if k.trained ∨ k.failed then d
  else
    let d := d.setEyes s pins eyes
    if anyFailed chans pins then d.updStk s (fun k => { k with failed := true, selfRefresh := false })
    else
      let d := if k.selfRefresh then d else d.zeroBytes (s * 2 ^ 36) (2 ^ 36)
      d.updStk s (fun k => { k with trained := true, selfRefresh := false })

/-- STK_ERR_ACK (08 R255): a write of `v`. -/
def execStkErrAck (ini s : Nat) (v : Word) (st : State) : Host.Outcome State Fault Refusal :=
  st.cplD ini (pgStk s) 0x11C (fun d => if bit v 0 then d.updStk s (fun k => { k with errPend := false }) else d)

/-- The controller sees a stack temperature: `HOT` from 105 degrees, `WARM` from 85 (08 R247, R249). -/
def Die.stackTemp (d : Die) (s t : Nat) : Die :=
  d.updStk s (fun k => { k with temp := min 255 t, hot := decide (105 ≤ t), warm := decide (85 ≤ t) })

/-- HOT: the stack's temperature crosses 105 degrees and is now `t`. -/
def execHot (s t : Nat) (st : State) : Host.Outcome State Fault Refusal :=
  st.at_ (64 + s) (fun d => if (d.stack s).hot = decide (105 ≤ t) then d else d.stackTemp s t)

/-- WARM: the stack's temperature crosses 85 degrees and is now `t`. -/
def execWarm (s t : Nat) (st : State) : Host.Outcome State Fault Refusal :=
  st.at_ (64 + s) (fun d => if (d.stack s).warm = decide (85 ≤ t) then d else d.stackTemp s t)

/-! ## Shared by the transfers of other blocks -/

/-- Outcome of a transfer's read of a burst: its address, and the symbols in error at the first read and at the
re-read. -/
abbrev BurstErr := Nat × Nat × Nat

/-- A transfer meets symbols in error in a burst it reads: they are counted; answers whether the burst is
uncorrectable (08 R245, R246). Only guaranteed decodings are passed on here. -/
def Die.meetErr (d : Die) (host : Bool) (e : BurstErr) : Die × Bool :=
  let s := e.1 / 2 ^ 36
  let b := (e.1 % 2 ^ 36) / 64
  match decode (d.decMode s) e.2.1 0 with
  | .clean => (d, false)
  | .corrected k => (d.noteCorrected s b k false (d.bytes (s * 2 ^ 36 + b * 64) 64), false)
  | .uncorrectable =>
    let d := d.count (pgStk s) 5
    match decode (d.decMode s) e.2.2 0 with
    | .clean => (d, false)
    | .corrected k => (d.noteCorrected s b k false (d.bytes (s * 2 ^ 36 + b * 64) 64), false)
    | .uncorrectable => (d.noteUe s b host, true)

/-- Addresses of the bursts of a range. -/
def burstsOf (a len : Nat) : List Nat :=
  if len = 0 then [] else (List.range ((a + len - 1) / 64 - a / 64 + 1)).map (fun i => (a / 64 + i) * 64)

/-- Errors that lie in the bursts of a range. -/
def errsIn (a len : Nat) (es : List BurstErr) : List BurstErr :=
  es.filter (fun e => decide (a / 64 * 64 ≤ e.1) && decide (e.1 < a + len))

/-- Bursts are read: counted by stack, each once its bank is refreshed (08 R247, R257). -/
def Die.readBursts (d : Die) (bs : List Nat) : Die :=
  let d := (List.range 8).foldl (fun d s =>
    let n := (bs.filter (fun b => decide (b / 2 ^ 36 = s))).length
    if n = 0 then d else d.count (pgStk s) 1 n) d
  if (List.range 8).all (fun s => (d.stack s).postponed.isEmpty) then d
  else bs.foldl (fun d b => d.openBank (b / 2 ^ 36) (b % 2 ^ 36 / 64)) d

/-- A block reads the bursts of a range; answers the uncorrectable ones (08 R245, Table 8-3). -/
def Die.readRange (d : Die) (host : Bool) (a len : Nat) (es : List BurstErr) : Die × List Nat :=
  (errsIn a len es).foldl (fun (acc : Die × List Nat) e =>
    let r := acc.1.meetErr host e
    (r.1, if r.2 then acc.2 ++ [e.1 / 64 * 64] else acc.2)) (d.readBursts (burstsOf a len), [])

/-- The range lies in stack memory that accepts accesses. -/
def Die.rangeOpen (d : Die) (a len : Nat) : Bool :=
  decide (a + len ≤ stackEnd) && (decide (len = 0) || (!d.stackClosed (a / 2 ^ 36) && !d.stackClosed ((a + len - 1) / 2 ^ 36)))

/-- No access waits at a burst of the range (08 R242). -/
def Die.orderClear (d : Die) (a len : Nat) : Bool :=
  (burstsOf a len).all (fun b => !d.burstBusy (b / 2 ^ 36) (b % 2 ^ 36 / 64))

/-- `n` free bytes (log 6). -/
def Die.freeBytes (d : Die) (n : Nat) : Die × List Byte :=
  (List.range ((n + 63) / 64)).foldl (fun (acc : Die × List Byte) _ =>
    let r := acc.1.freeBurst
    (r.1, (acc.2 ++ r.2).take n)) (d, [])

/-- A block reads a range of bytes; answers whether all of it could be read. What could not has free contents
(log 6). -/
def Die.stackGet (d : Die) (host : Bool) (a len : Nat) (es : List BurstErr) : Die × List Byte × Bool :=
  if d.rangeOpen a len then
    let r := d.readRange host a len es
    let x := r.2.foldl (fun (acc : Die × List Byte) u =>
      let f := acc.1.freeBurst
      (f.1, if a ≤ u then acc.2.take (u - a) ++ f.2.take (a + len - u) ++ acc.2.drop (u - a + 64)
            else (f.2.drop (a - u)).take len ++ acc.2.drop (u + 64 - a))) (r.1, d.bytes a len)
    (x.1, x.2, r.2.isEmpty)
  else
    let f := d.freeBytes len
    (f.1, f.2, false)

/-- A block writes bytes within one burst: a whole burst, or a read-modify-write (08 R242). A closed stack accepts no
write, and a pinned ring refuses it (08 R250, R253, 04 R125); answers whether it is made. -/
def Die.putPiece (d : Die) (a : Nat) (bs : List Byte) : Die × Bool :=
  if !d.rangeOpen a bs.length then (d, false)
  else match d.pinOverlap a bs.length with
    | some c => (d.pinRefused c a, false)
    | none =>
      (d.arrive (a / 2 ^ 36) { burst := a % 2 ^ 36 / 64, off := a % 2 ^ 36, size := bs.length, wr := some (leNat bs), reader := 3 } 0 0, true)

/-- A block writes a range of bytes, burst by burst; answers whether every part of it is written. -/
def Die.stackPut (d : Die) (a : Nat) (bs : List Byte) : Die × Bool :=
  (burstsOf a bs.length).foldl (fun (acc : Die × Bool) b =>
    let lo := max a b
    let r := acc.1.putPiece lo ((bs.drop (lo - a)).take (b + 64 - lo))
    (r.1, acc.2 && r.2)) (d, true)

end Sys2Proof.Machine
end

