-- ==== Sys2Proof/Machine/Control.lean ====
section
/-!
DEFINITION. The control plane's own commands: the arbiter, the interrupt controller with the conditions of
every source, the SYS acknowledgements and the management port (12 R347-R380).
-/

namespace Sys2Proof.Machine

/-! ## The arbiter (12 R358-R362) -/

/-- The request a contest grants: the lowest class, then the rotation of that class (12 R359). -/
def Die.carbPick (d : Die) (reqs : List Nat) : Option Nat :=
  match (reqs.map d.carbClass).min? with
  | none => none
  | some c =>
    let l := d.carb.last.getD c 20
    ((List.range 21).map (fun k => (l + 1 + k) % 21)).find? (fun r => reqs.contains r && decide (d.carbClass r = c))

/-- A requester loses (12 R361, R379). -/
def Die.carbLose (d : Die) (r : Nat) : Die :=
  let n := d.streakOf r + 1
  let d : Die := { d with carb := { d.carb with streak := sset d.carb.streak 0 r n } }
  let d := d.count pgCarb (0x120 + r)
  d.setCtr pgCarb (0x160 + r) (BitVec.ofNat 64 (max (d.ctrOf pgCarb (0x160 + r)).toNat n))

/-- One control cycle's contest among the requests `reqs` (12 R359, R360). -/
def Die.contest (d : Die) (reqs : List Nat) : Die :=
  match d.carb.holder with
  | none =>
    match d.carbPick reqs with
    | none => d
    | some w => (reqs.filter (fun r => decide (r ≠ w))).foldl Die.carbLose (d.carbGrant w)
  | some h =>
    let rs := reqs.filter (fun r => decide (r ≠ h))
    match d.carbPick (rs.filter (fun r => decide (d.carbClass r < d.carbClass h))) with
    | none => rs.foldl Die.carbLose d
    | some w =>
      let d := ((d.carbGrant w).carbLose h).count pgCarb (0x140 + h)
      (rs.filter (fun r => decide (r ≠ w))).foldl Die.carbLose d

/-- A contest of the running control island; a grant to the debug port is seen (14 R424). -/
def State.contest (s : State) (done : Bool) (reqs : Die → List Nat) : Host.Outcome State Fault Refusal :=
  if s.d.live 90 = false then .next s
  else
    let d := if done then s.d.carbEnd else s.d
    let d := d.contest (reqs d)
    let a := if d.carb.holder = some iniDebug then { s.a with sec := { s.a.sec with debugSeen := true } } else s.a
    .next { s with d := d, a := a }

/-- ARBITER_GRANT (12 R359, R360): a control cycle in which the requesters of the mask request; `done` when
the last cycle of the grant in use is over. -/
def execArbiterGrant (done : Bool) (mask : BitVec 21) (s : State) : Host.Outcome State Fault Refusal :=
  s.contest done (fun _ => (List.range 21).filter (fun r => mask.toNat.testBit r))

/-- ARBITER_RETRY (12 R361): requester `r`, which has lost, makes its request again. -/
def execArbiterRetry (done : Bool) (r : Nat) (s : State) : Host.Outcome State Fault Refusal :=
  s.contest done (fun d => if 0 < d.streakOf r ∧ r < 21 then [r] else [])

/-- A write of the class register of cores (`hi` false) or of the other requesters (12 R362). -/
def Die.writeClass (d : Die) (hi : Bool) (v : Word) : Die :=
  if hi then d.setReg pgCarb 0x104 (v &&& 0x3FF) else d.setReg pgCarb 0x100 v

/-- CARB_CLASS (12 R362). -/
def execCarbClass (ini : Nat) (hi : Bool) (v : Word) (s : State) : Host.Outcome State Fault Refusal :=
  s.cplD ini pgCarb (if hi then 0x104 else 0x100) (fun d => d.writeClass hi v)

/-! ## Interrupt sources (12 R367, R371; 04 R130, 06 R207, 07 R235, 08 R256, 09 R285, 10 R322, 11 R346,
12 R355, R378, R379, 13 R413, 14 R431) -/

/-- Page and interrupt bit of a source (12 Table 12-9). -/
def sourcePage (n : Nat) : Option (Nat × Nat) :=
  if 512 ≤ n ∧ n < 768 then some (pgIsl ((n - 512) / 4), 4 + n % 4)
  else if 256 ≤ n ∧ n < 512 then some (pgIsl ((n - 256) / 4), n % 4)
  else if 224 ≤ n ∧ n < 256 then some (pgJob (n - 224), 0)
  else if n = 192 ∨ n = 193 then some (pgDk, n - 192)
  else if 128 ≤ n ∧ n < 192 then some (pgPort ((n - 128) / 4), n % 4)
  else if 64 ≤ n ∧ n < 128 then some (pgStk ((n - 64) / 8), n % 8)
  else match n with
    | 0 => some (pgRst, 0)
    | 1 => some (pgRst, 1)
    | 2 => some (pgRst, 2)
    | 3 => some (pgRst, 3)
    | 4 => some (pgPwr, 0)
    | 5 => some (pgPwr, 1)
    | 6 => some (pgPwr, 2)
    | 8 => some (pgTrim, 0)
    | 9 => some (pgTrim, 1)
    | 10 => some (pgSec, 0)
    | 11 => some (pgSec, 1)
    | 12 => some (pgDbg, 0)
    | 13 => some (pgDbg, 1)
    | 20 => some (pgSys, 0)
    | 21 => some (pgSys, 1)
    | 22 => some (pgCarb, 0)
    | 24 => some (pgSkim, 0)
    | 25 => some (pgSkim, 1)
    | 26 => some (pgFab, 0)
    | 28 => some (pgFlash, 0)
    | 29 => some (pgFlash, 1)
    | 30 => some (pgFlash, 2)
    | 36 => some (pgMgmt, 0)
    | 37 => some (pgMgmt, 1)
    | 38 => some (pgMgmt, 2)
    | 39 => some (pgMgmt, 3)
    | _ => none

/-- `MG_CTRL.EN`. -/
def Die.mgEn (d : Die) : Bool := bit (d.reg pgMgmt 0x104) 0

/-- Members of pool `p` (06 Table 6-9 space 2). -/
def Die.poolOf (d : Die) (p : Nat) : List Nat :=
  (List.range 64).filterMap (fun m =>
    let w := sget d.poolT 0 (256 + m)
    if bit w 31 ∧ fld w 29 24 = p then some (fld w 11 0) else none)

/-- `CARB_CAPPED` (12 R361). -/
def Die.capped (d : Die) : Nat :=
  (List.range 21).foldl (fun m r => if 10 ≤ d.streakOf r then m + 2 ^ r else m) 0

/-- The condition of an island's source (07 R235, 04 R130). -/
def Die.islCond (d : Die) (i b : Nat) : Bool :=
  let e := (d.island i).err
  match b with
  | 0 => decide (e / 2 % 32 ≠ 0) || (islCores i).any (fun n => (d.core n).nonfinite ||
      (List.range 4).any (fun q => decide ((d.queue n q).st = .halted)))
  | 1 => e.testBit 7 || e.testBit 6 || e.testBit 0
  | 2 =>
    let c := d.reg (pgIsl i) 0x10C
    bit c 31 && countMet (sget d.evt 0 (i * 4096 + fld c 11 0)) (d.reg (pgIsl i) 0x110).toNat
  | 3 => (d.ist i).clkFault
  | k => (islCores i).any (fun n => (d.queue n (k - 4)).irq)

/-- The condition of a source on a page with its bit number; `fact` supplies what only a clock shows: the
watchdog's WARN, and more corrected bursts in the last hour than the threshold (log 2), or only a sensor
shows: a half's temperature at or above `TEMP_WARN`. -/
def State.cond (s : State) (n : Nat) (fact : Bool) : Bool :=
  let d := s.d
  if 512 ≤ n then d.islCond ((n - 512) / 4) (4 + n % 4)
  else if 256 ≤ n then d.islCond ((n - 256) / 4) (n % 4)
  else if 224 ≤ n then
    let j := n - 224
    (d.job j).aborting || d.overQuota j || (d.job j).pfBlocked || (d.job j).pfBad
  else if n = 192 then d.dk.donePend
  else if n = 193 then (List.range 64).any (fun p => !bit (sget d.poolT 0 (p * 2)) 31 &&
    (d.poolOf p).any (fun c => !(d.core c).pool.isEmpty))
  else if 128 ≤ n ∧ n < 192 then
    let p := (n - 128) / 4
    match n % 4 with
    | 0 => bit (d.reg (pgPort p) 0x104) 0 && decide ((d.port p).link ≠ 4)
    | 1 => decide ((d.port p).err ≠ 0)
    | 2 => (d.port p).peFailV
    | _ => false
  else if 64 ≤ n ∧ n < 128 then
    let k := d.stack ((n - 64) / 8)
    match n % 8 with
    | 0 => k.errPend
    | 1 => fact && decide ((d.reg (pgStk ((n - 64) / 8)) 0x110).toNat < (d.ctrOf (pgStk ((n - 64) / 8)) 3).toNat)
    | 2 => k.failed
    | 3 => k.hot
    | _ => false
  else match n with
    | 0 => s.a.wdtRunning && fact
    | 1 => s.a.suspect
    | 2 => (List.range 92).any (fun i => (d.ist i).unstable)
    | 3 => s.a.lockup || s.a.refFallback || s.a.strapBad
    | 4 => d.pw.donePend
    | 5 => d.pw.wokePend
    | 6 => fact
    | 8 => s.a.trim.noneValid
    | 9 => s.a.trim.aOk != s.a.trim.bOk
    | 10 => s.a.sec.donePend
    | 11 => s.a.sec.debugSeen
    | 12 => d.inj.donePend
    | 13 => (List.range 92).any d.frozen
    | 20 => bit d.eaLast 31
    | 21 => bit d.wbLo 0
    | 22 => decide (d.capped ≠ 0)
    | 24 => decide (d.skimPend ≠ 0)
    | 25 => (List.range 32).any (fun j => decide ((d.skimJ j).st = 6))
    | 26 => decide (d.fab.event ≠ 0) || decide (d.fab.rxTail ≠ fld (d.reg pgFab 0x130) 13 0)
    | 28 => d.sg.donePend
    | 29 => decide (d.sg.due ≠ 0)
    | 30 => decide (d.sg.err ≠ 0)
    | 36 => d.mgEn && !d.mgmt.linkUp
    | 37 => decide (d.mgmt.rxHead ≠ fld (d.reg pgMgmt 0x144) 11 0)
    | 38 => decide (d.mgmt.txHead ≠ fld (d.reg pgMgmt 0x124) 11 0)
    | 39 => decide (d.mgmt.err ≠ 0)
    | _ => false

/-- The source is asserted to the controller (12 R367). -/
def State.asserted (s : State) (n : Nat) (fact : Bool) : Bool :=
  match sourcePage n with
  | none => false
  | some (p, b) => s.cond n fact && !bit (s.d.reg p 0x20) b

/-- `INT_PEND` of a page (12 R367). -/
def State.intPend (s : State) (p : Nat) : Word :=
  word (((List.range 768).filterMap (fun n => match sourcePage n with
    | none => none
    | some (q, b) => if q = p ∧ s.cond n (s.d.intc.level.toNat.testBit n) then some (2 ^ b) else none)).sum)

/-! ## The interrupt controller (12 R371-R377) -/

/-- One bit of a per-source array. -/
def srcBit (n : Nat) : BitVec 1024 := BitVec.ofNat 1024 (2 ^ n)

/-- A per-source bit is set. -/
def srcHas (v : BitVec 1024) (n : Nat) : Bool := v.toNat.testBit n

/-- Change the interrupt controller. -/
def Die.updIntc (d : Die) (f : Intc → Intc) : Die := { d with intc := f d.intc }

/-- The controller sees the asserted state of source `n` (12 R371). -/
def Die.senseSource (d : Die) (n : Nat) (asserted : Bool) : Die :=
  if asserted then
    if srcHas d.intc.level n then d
    else d.updIntc (fun x => { x with pend := x.pend ||| srcBit n, level := x.level ||| srcBit n })
  else d.updIntc (fun x => { x with level := x.level &&& ~~~(srcBit n) })

/-- SOURCE_ASSERT (12 R371): the asserted state of source `n` reaches the controller. -/
def execSourceAssert (n : Nat) (fact : Bool) (s : State) : Host.Outcome State Fault Refusal :=
  s.at_ 90 (fun d => if n < 1023 then d.senseSource n (s.asserted n fact) else d)

/-- Target mask of a source (12 R377). -/
def Die.target (d : Die) (n : Nat) : Nat :=
  let w := d.reg pgIntc (0x600 + 4 * (n / 2))
  if n % 2 = 0 then fld w 15 0 else fld w 31 16

/-- Source `n` is eligible for core `c` (12 R372). -/
def Die.eligible (d : Die) (c n : Nat) : Bool :=
  srcHas d.intc.pend n && !srcHas d.intc.active n && !srcHas d.intc.mask n && (d.target n).testBit c &&
    !(d.intc.hold.toNat.testBit (n / 32))

/-- A read of `CLAIM_c` (12 R373). -/
def Die.claim (d : Die) (c : Nat) : Die :=
  match (List.range 1023).find? (d.eligible c) with
  | none => (d.count pgIntc 1).respond (.ok 1023)
  | some n =>
    let g := n / 32
    let timed := fld (d.reg pgIntc (0x580 + 4 * g)) 15 0 ≠ 0
    let d := d.updIntc (fun x => { x with
      active := x.active ||| srcBit n
      pend := x.pend &&& ~~~(srcBit n)
      claimer := sset x.claimer 0 n c
      hold := if timed then x.hold ||| BitVec.ofNat 32 (2 ^ g) else x.hold })
    (d.count pgIntc (0x100 + c)).respond (.ok n)

/-- CLAIM (12 R373). -/
def execClaim (ini c : Nat) (s : State) : Host.Outcome State Fault Refusal :=
  s.cplD ini pgIntc (0x500 + 4 * c) (fun d => d.claim c)

/-- A write of `EOI_c` (12 R371, R374). -/
def State.eoi (s : State) (c : Nat) (v : Word) : State :=
  let n := fld v 9 0
  if n < 1023 ∧ srcHas s.d.intc.active n ∧ sget s.d.intc.claimer 0 n = c then
    let again := s.asserted n (srcHas s.d.intc.level n)
    let d := s.d.updIntc (fun x => { x with
      active := x.active &&& ~~~(srcBit n)
      pend := if again then x.pend ||| srcBit n else x.pend
      claimer := serase x.claimer n })
    { s with d }
  else { s with d := s.d.count pgIntc 2 }

/-- EOI (12 R374). -/
def execEoi (ini c : Nat) (v : Word) (s : State) : Host.Outcome State Fault Refusal :=
  s.cpl ini pgIntc (0x540 + 4 * c) (fun s => s.eoi c v)

/-- The bits word `w` of a per-source array names with `v`; source 1023 ignores writes (12 R377). -/
def srcWord (w : Nat) (v : Word) : BitVec 1024 := BitVec.ofNat 1024 (v.toNat * 2 ^ (32 * w) % 2 ^ 1023)

/-- `IPEND_SET_w`. -/
def Die.ipendSet (d : Die) (w : Nat) (v : Word) : Die := d.updIntc (fun x => { x with pend := x.pend ||| srcWord w v })
/-- `IPEND_CLR_w`. -/
def Die.ipendClr (d : Die) (w : Nat) (v : Word) : Die := d.updIntc (fun x => { x with pend := x.pend &&& ~~~(srcWord w v) })
/-- `IMASK_SET_w`. -/
def Die.imaskSet (d : Die) (w : Nat) (v : Word) : Die := d.updIntc (fun x => { x with mask := x.mask ||| srcWord w v })
/-- `IMASK_CLR_w`. -/
def Die.imaskClr (d : Die) (w : Nat) (v : Word) : Die := d.updIntc (fun x => { x with mask := x.mask &&& ~~~(srcWord w v) })

/-- IPEND_SET (12 R376). -/
def execIpendSet (ini w : Nat) (v : Word) (s : State) : Host.Outcome State Fault Refusal :=
  s.cplD ini pgIntc (0x300 + 4 * w) (fun d => d.ipendSet w v)
/-- IPEND_CLR (12 R376). -/
def execIpendClr (ini w : Nat) (v : Word) (s : State) : Host.Outcome State Fault Refusal :=
  s.cplD ini pgIntc (0x380 + 4 * w) (fun d => d.ipendClr w v)
/-- IMASK_SET (12 R377). -/
def execImaskSet (ini w : Nat) (v : Word) (s : State) : Host.Outcome State Fault Refusal :=
  s.cplD ini pgIntc (0x180 + 4 * w) (fun d => d.imaskSet w v)
/-- IMASK_CLR (12 R377). -/
def execImaskClr (ini w : Nat) (v : Word) (s : State) : Host.Outcome State Fault Refusal :=
  s.cplD ini pgIntc (0x200 + 4 * w) (fun d => d.imaskClr w v)

/-- HOLDOFF_EXPIRY (12 R375): the timer of group `g` runs out. -/
def execHoldoffExpiry (g : Nat) (s : State) : Host.Outcome State Fault Refusal :=
  s.at_ 90 (fun d => d.updIntc (fun x => { x with hold := x.hold &&& ~~~(BitVec.ofNat 32 (2 ^ g)) }))

/-! ## SYS acknowledgements (12 R378) -/

/-- A write of `SYS_CMD`. -/
def Die.sysCmd (d : Die) (v : Word) : Die :=
  let d : Die := if bit v 0 then { d with eaLast := setFld d.eaLast 31 31 0 } else d
  if bit v 1 then { d with wbLo := setFld d.wbLo 0 0 0 } else d

/-- WB_ACK. -/
def execWbAck (ini : Nat) (s : State) : Host.Outcome State Fault Refusal := s.cplD ini pgSys 0x13C (fun d => d.sysCmd 2)
/-- EA_ACK. -/
def execEaAck (ini : Nat) (s : State) : Host.Outcome State Fault Refusal := s.cplD ini pgSys 0x13C (fun d => d.sysCmd 1)

/-! ## The management port (12 R351-R355) -/

/-- Change the management port. -/
def Die.updMg (d : Die) (f : Mgmt → Mgmt) : Die := { d with mgmt := f d.mgmt }

/-- Base of a ring: `o` is 0x110 for transmit, 0x130 for receive. -/
def Die.mgBase (d : Die) (o : Nat) : Nat :=
  fld (d.reg pgMgmt (o + 4)) 15 0 * 2 ^ 32 + fld (d.reg pgMgmt o) 31 4 * 16

/-- Entries of a ring: `LOG2` below 6 acts as 6, above 12 as 12. -/
def Die.mgSize (d : Die) (o : Nat) : Nat := 2 ^ (min 12 (max 6 (fld (d.reg pgMgmt (o + 8)) 3 0)))

/-- Entries that hardware owns, in ring order (12 R353). -/
def Die.mgOwned (d : Die) (o head : Nat) : List Nat :=
  let n := d.mgSize o
  let t := fld (d.reg pgMgmt (o + 12)) 11 0 % n
  let h := head % n
  (List.range ((t + n - h) % n)).map (fun k => (h + k) % n)

/-- A DMA access to stack memory completes without a bus error (08 R240, R250, 04 R125, log 40). -/
def Die.dmaOk (d : Die) (a len : Nat) (wr : Bool) : Bool :=
  d.rangeOpen a len && !d.planeClosed 19 0 && !(wr && (d.pinOverlap a len).isSome)

/-- A DMA read arrives at the host port of its stack; answers whether it completes without a bus error (08 Table 8-3). -/
def Die.dmaRead (d : Die) (a len : Nat) (es : List BurstErr) : Die × Bool :=
  let r := d.readRange true a len es
  (r.1, r.2.isEmpty)

/-- DMA reads of several ranges. -/
def Die.dmaReads (d : Die) (l : List (Nat × Nat)) (es : List BurstErr) : Die × Bool :=
  l.foldl (fun acc x => let r := acc.1.dmaRead x.1 x.2 es; (r.1, acc.2 && r.2)) (d, true)

/-- `MG_ERR` bit `b` is set. -/
def Die.mgErr (d : Die) (b : Nat) : Die := d.updMg (fun m => { m with err := m.err ||| 2 ^ b })

/-- Both rings stop. -/
def Die.dmaStop (d : Die) : Die := (d.mgErr 0).updMg (fun m => { m with stopped := true })

/-- A DMA write has completed with a bus error: both rings stop. -/
def Die.dmaErr (d : Die) (a len : Nat) : Die :=
  let d := match d.pinOverlap a len with
    | some c => d.pinRefused c a
    | none => d
  d.dmaStop

/-- Word `w` of descriptor `i` of a ring. -/
def Die.mgW (d : Die) (o i w : Nat) : Word := d.mword (d.mgBase o + 16 * i + 4 * w)

/-- Buffer address of a descriptor. -/
def Die.mgBuf (d : Die) (o i : Nat) : Nat := fld (d.mgW o i 1) 15 0 * 2 ^ 32 + (d.mgW o i 0).toNat

/-- Write word 3 of a descriptor back. -/
def Die.mgBack (d : Die) (o i : Nat) (v : Word) : Die := (d.stackPut (d.mgBase o + 16 * i + 12) (leBytes 4 v.toNat)).1

/-- Cut a frame into the buffers of entries; none when they do not hold it. -/
def Die.mgFill (d : Die) : List Nat → List Byte → Option (List (Nat × List Byte))
  | [], _ => none
  | i :: t, bs =>
    let n := fld (d.mgW 0x130 i 2) 13 0
    if bs.length ≤ n then some [(i, bs)]
    else match d.mgFill t (bs.drop n) with
      | none => none
      | some l => some ((i, bs.take n) :: l)

/-- Put one buffer of a received frame into memory and write its descriptor back; false after an error. -/
def Die.mgPut (r : Die × Bool) (x : (Nat × List Byte) × Word) : Die × Bool :=
  if r.2 = false then r
  else
    let d := r.1
    let a := d.mgBuf 0x130 x.1.1
    if !d.dmaOk a x.1.2.length true then (d.dmaErr a x.1.2.length, false)
    else
      let d := (d.stackPut a x.1.2).1.mgBack 0x130 x.1.1 (x.2 ||| word x.1.2.length)
      (d.updMg (fun m => { m with rxHead := (x.1.1 + 1) % d.mgSize 0x130 }), true)

/-- Write the frame's bytes into the receive ring (12 R353); `es` are the errors its descriptors show. -/
def Die.mgDeliver (d : Die) (bs : List Byte) (last : Word) (es : List BurstErr) : Die :=
  let own := d.mgOwned 0x130 d.mgmt.rxHead
  let base := d.mgBase 0x130
  if own.isEmpty then (d.count pgMgmt 6).mgErr 2
  else match own.find? (fun i => !d.dmaOk (base + 16 * i) 16 true), d.mgFill own bs with
    | some i, _ => d.dmaErr (base + 16 * i) 16
    | none, none => (d.count pgMgmt 6).mgErr 2
    | none, some l =>
      let r := d.dmaReads (l.map (fun x => (base + 16 * x.1, 16))) es
      if !r.2 then r.1.dmaStop
      else
        let marks := l.zipIdx.map (fun x => (x.1, if x.2 + 1 = l.length then last else word (2 ^ 31)))
        (marks.foldl Die.mgPut (r.1, true)).1

/-- Destination address of a frame. -/
def frameDst (bs : List Byte) : Nat := beNat (bs.take 6)

/-- A pause frame (IEEE 802.3: MAC control type 0x8808, opcode 0x0001). -/
def isPause (bs : List Byte) : Bool :=
  decide (frameDst bs = 0x0180C2000001) && decide (beNat ((bs.drop 12).take 2) = 0x8808) && decide (beNat ((bs.drop 14).take 2) = 1)

/-- The received frame passes the filter (12 R352). -/
def Die.mgAccepts (d : Die) (bs : List Byte) : Bool :=
  let c := d.reg pgMgmt 0x104
  decide (frameDst bs = d.part.mac.toNat) || (decide (frameDst bs = 2 ^ 48 - 1) && bit c 3) || bit c 4

/-- A frame received with its FCS (12 R351-R353); `es` are the errors its DMA reads meet. -/
def Die.mgRx (d : Die) (bs : List Byte) (es : List BurstErr) : Die :=
  if !d.mgEn ∨ !d.mgmt.linkUp ∨ bs.length < 64 then d
  else
    let n := bs.length
    let good := decide (word (leNat (bs.drop (n - 4))) = crc32 (bs.take (n - 4)))
    let d := if good then d else d.count pgMgmt 5
    if good ∧ isPause bs then d.count pgMgmt 8
    else if !d.mgAccepts bs then d.count pgMgmt 7
    else
      let d := (d.count pgMgmt 2).count pgMgmt 4 n
      let long := decide (9216 < n)
      let data := if long then bs.take 9216 else bs.take (n - 4)
      if d.mgmt.stopped ∨ d.workHeld then d
      else d.mgDeliver data (packW [(31, 1), (30, 1), (29, b2n !good), (28, b2n long)]) es

/-- MGMT_FRAME_RX (12 R352, R353). -/
def execMgmtFrameRx (bs : List Byte) (es : List BurstErr) (s : State) : Host.Outcome State Fault Refusal :=
  s.at_ 88 (fun d => d.mgRx bs es)

/-- The run of owned descriptors up to `EOP`; none while no owned descriptor ends it. -/
def Die.mgRun (d : Die) : List Nat → Option (List Nat)
  | [] => none
  | i :: t => if bit (d.mgW 0x110 i 2) 31 then some [i] else match d.mgRun t with
    | none => none
    | some l => some (i :: l)

/-- A frame as it is sent: padded to 60 B, with its FCS. -/
def wireFrame (bs : List Byte) : List Byte :=
  let p := bs ++ List.replicate (60 - bs.length) 0
  p ++ leBytes 4 (crc32 p).toNat

/-- The port sends the next frame of its transmit ring (12 R353); `es` are the errors its DMA reads meet. -/
def Die.mgTx (d : Die) (es : List BurstErr) : Die :=
  if !d.mgEn ∨ d.mgmt.stopped ∨ d.workHeld then d
  else
    let own := d.mgOwned 0x110 d.mgmt.txHead
    let base := d.mgBase 0x110
    match own.find? (fun i => !d.dmaOk (base + 16 * i) 16 true), d.mgRun own with
      | some i, _ => d.dmaErr (base + 16 * i) 16
      | none, none => d
      | none, some l =>
        let len (i : Nat) : Nat := fld (d.mgW 0x110 i 2) 13 0
        let head := (l.getLastD 0 + 1) % d.mgSize 0x110
        let bufs := l.map (fun i => (d.mgBuf 0x110 i, len i))
        let rd := d.dmaReads (l.map (fun i => (base + 16 * i, 16))) es
        if !rd.2 then rd.1.dmaStop
        else if l.any (fun i => decide (len i = 0)) ∨ 9212 < (l.map len).sum then
          ((l.foldl (fun d i => d.mgBack 0x110 i (packW [(31, 1), (28, 1)])) rd.1).mgErr 1).updMg (fun m => { m with txHead := head })
        else if !(bufs.all (fun b => d.dmaOk b.1 b.2 false)) then rd.1.dmaStop
        else
          let r := rd.1.dmaReads bufs es
          if !r.2 then r.1.dmaStop
          else
            let f := wireFrame (bufs.flatMap (fun b => d.bytes b.1 b.2))
            let d := l.foldl (fun d i => d.mgBack 0x110 i (word (2 ^ 31))) r.1
            ((d.count pgMgmt 1).count pgMgmt 3 f.length).updMg (fun m => { m with txHead := head, sent := f :: m.sent })

/-- MGMT_FRAME_TX (12 R353). -/
def execMgmtFrameTx (es : List BurstErr) (s : State) : Host.Outcome State Fault Refusal := s.at_ 88 (fun d => d.mgTx es)

/-- A write of `MG_ERR_CLR`. -/
def Die.mgErrClr (d : Die) (v : Word) : Die := d.updMg (fun m => { m with err := m.err &&& (7 - fld v 2 0) })

/-- MG_ERR_CLR (12 R354). -/
def execMgErrClr (ini : Nat) (v : Word) (s : State) : Host.Outcome State Fault Refusal :=
  s.cplD ini pgMgmt 0x10C (fun d => d.mgErrClr v)

/-- MG_LINK_UP (12 R355): the PCS gains (`up`) or loses lock and alignment; `pins` are the SFP28 module's
lines `TX_FAULT`, `RX_LOS`, `MOD_PRESENT` (Table 12-3). -/
def execMgLinkUp (up : Bool) (pins : BitVec 3) (s : State) : Host.Outcome State Fault Refusal :=
  s.at_ 88 (fun d =>
    let on := up && d.mgEn
    let fec := fld (d.reg pgMgmt 0x104) 2 1
    d.updMg (fun m => { m with
      linkUp := on, blockLock := on, fecLock := on && (decide (fec = 1) || decide (fec = 2))
      txFault := pins.toNat.testBit 2, rxLos := pins.toNat.testBit 1, modPresent := pins.toNat.testBit 0 }))

/-- The commit of the MGMT page: rings that a DMA error stopped start again with `EN` 0, then 1 (12 R353). -/
def Die.mgCommit (d : Die) : Die :=
  if d.mgEn then d else d.updMg (fun m => { m with stopped := false, linkUp := false, blockLock := false, fecLock := false })

end Sys2Proof.Machine
end

