-- ==== Sys2Proof/Machine/Keccak.lean ====
section
/-!
DEFINITION. SHA3-256 and SHAKE256 (FIPS 202), which 14 R416 and R422 name.
-/

namespace Sys2Proof.Machine

/-! ## The permutation

The state is one number of 1,600 bits; lane `i` = x + 5 y is its bits 64 i to 64 i + 63. -/

/-- Lane `i` of a state. -/
def spLane (s i : Nat) : Nat := s / 2 ^ (64 * i) % 2 ^ 64

/-- A state from its lanes. -/
def spJoin (ls : List Nat) : Nat := ls.foldr (fun v s => s * 2 ^ 64 + v) 0

/-- A lane turned left by `n` < 64 bits. -/
def spTurn (v n : Nat) : Nat := (v * 2 ^ n + v / 2 ^ (64 - n)) % 2 ^ 64

/-- The walk of ρ and π through the 24 lanes other than lane 0: from which lane to which, and by how many bits the value is
turned on the way, the triangular numbers. -/
def spWalk : Nat → Nat → List (Nat × Nat × Nat)
  | 0, _ => []
  | k + 1, i => let j := i / 5 + 5 * ((2 * (i % 5) + 3 * (i / 5)) % 5); (i, j, (24 - k) * (25 - k) / 2 % 64) :: spWalk k j

/-- The next value of the 8-bit shift register that makes the round constants. -/
def spShift (r : Nat) : Nat := if 128 ≤ r then (2 * r) ^^^ 0x171 else 2 * r

/-- The constant of a round and the register after it: seven bits of the register go to bits 0, 1, 3, 7, 15, 31 and 63. -/
def spConst (r : Nat) : Nat × Nat :=
  (List.range 7).foldl (fun a j => (a.1 + (a.2 % 2) * 2 ^ (2 ^ j - 1), spShift a.2)) (0, r)

/-- θ: every lane takes in the parity of the column before it and that of the column after it, turned by one. -/
def spTheta (s : Nat) : List Nat :=
  let par := (List.range 5).map (fun x => spLane s x ^^^ spLane s (x + 5) ^^^ spLane s (x + 10) ^^^ spLane s (x + 15) ^^^ spLane s (x + 20))
  (List.range 25).map (fun i => spLane s i ^^^ par.getD ((i + 4) % 5) 0 ^^^ spTurn (par.getD ((i + 1) % 5) 0) 1)

/-- χ on a row of five lanes. -/
def spChi (row : List Nat) : List Nat :=
  (List.range 5).map (fun x => row.getD x 0 ^^^ ((2 ^ 64 - 1 - row.getD ((x + 1) % 5) 0) &&& row.getD ((x + 2) % 5) 0))

/-- `k` rounds, with the register at `r`. -/
def spRounds : Nat → Nat → Nat → Nat
  | 0, _, s => s
  | k + 1, r, s =>
    let a := spTheta s
    let b := (spWalk 24 1).foldl (fun b m => b.set m.2.1 (spTurn (a.getD m.1 0) m.2.2)) a
    let c := (List.range 5).flatMap (fun y => spChi ((b.drop (5 * y)).take 5))
    spRounds k (spConst r).2 (spJoin c ^^^ (spConst r).1)

/-! ## The sponge at a rate of 136 B -/

/-- The blocks of a message as numbers: the domain suffix follows the message, and the last bit of the last block is set. -/
def spBlocks (suffix : Nat) (m : List Byte) : List Nat :=
  let k := m.length / 136
  (List.range (k + 1)).map (fun i =>
    let b := (m.drop (136 * i)).take 136
    leNat b + (if i = k then (suffix * 2 ^ (8 * b.length)) ^^^ 2 ^ 1087 else 0))

/-- The first 32 bytes the sponge gives. -/
def sponge32 (suffix : Nat) (m : List Byte) : List Byte :=
  leBytes 32 ((spBlocks suffix m).foldl (fun s b => spRounds 24 1 (s ^^^ b)) 0)

/-- SHA3-256. -/
def sha3 (m : List Byte) : List Byte := sponge32 0x06 m

/-- 32 bytes of SHAKE256. -/
def shake (m : List Byte) : List Byte := sponge32 0x1F m

end Sys2Proof.Machine
end

