-- ==== Sys2Proof/Machine/Boot.lean ====
section
/-!
DEFINITION. Secure boot: the image sources, the verification of an image, network boot and the hold state
(14 R414-R419).
-/

namespace Sys2Proof.Machine

/-- Change the SEC block. -/
def State.updSec (s : State) (f : Sec → Sec) : State := { s with a := { s.a with sec := f s.a.sec } }

/-- Stack address an image is loaded to (14 R415). -/
def bootBase : Nat := 0xF80000000

/-- Bytes of an image that are not its body. -/
def bootHead : Nat := 8192

/-- Largest `BODY_LEN` (14 Table 14-2). -/
def bootMax : Nat := 33546240

/-- Bytes of a boot image at `a`, with a `BODY_LEN` out of range taken as 0. -/
def imageLen (len : Nat) : Nat := if 1 ≤ len ∧ len ≤ bootMax then bootHead + len else bootHead

/-- Copy `n` bytes of a sparse memory into another. -/
def cellCopy (src dst : List Host.Cell) (a b n : Nat) : List Host.Cell :=
  (src.filter (fun c => decide (a ≤ c.1) && decide (c.1 < a + n))).foldl (fun m c => sset m 0 (c.1 - a + b) c.2) (sclear dst b n)

/-- Sources in order of trial (14 Table 14-1): 0 slot A, 1 network, 3 slot B. -/
def bootSources (src : Nat) : List Nat :=
  match src with
  | 0 => [0, 3]
  | 1 => [1, 0, 3]
  | 3 => [3]
  | _ => []

/-- Step 1 of Table 14-3 over the header words. -/
def headerGood (w : Nat → Word) : Bool :=
  decide (w 0 = 0x4547494D) && decide (w 1 = 0x00010000) && decide ((w 2).toNat ≤ 64) && decide (w 3 &&& 0xFFFFFCFC = 0) &&
    decide (1 ≤ (w 4).toNat) && decide ((w 4).toNat ≤ bootMax) && decide ((w 5).toNat < (w 4).toNat) &&
    (List.range 50).all (fun i => decide (w (14 + i) = 0))

/-- The code of Table 14-3 for the image at `a` in stack memory; `bad` when a read meets an uncorrectable
burst (14 R416). -/
def Die.verifyImage (d : Die) (sec : Sec) (a : Nat) (bad : Bool) : Nat :=
  let w (i : Nat) : Word := d.mword (a + 4 * i)
  let n := imageLen (w 4).toNat
  if bad ∨ stackEnd < a + bootHead ∨ d.stackClosed (a / 2 ^ 36) then 8
  else if !headerGood w then 2
  else if stackEnd < a + n ∨ d.stackClosed ((a + n - 1) / 2 ^ 36) then 8
  else
    let zero : List Byte := List.replicate 32 0
    let ed := fld (w 3) 1 0
    let ml := fld (w 3) 9 8
    let hdr := d.bytes a 256
    let edKey := d.bytes (a + 256) 32
    let mlKey := d.bytes (a + 288) 1952
    if sha3 edKey ≠ sec.edDigests.getD ed zero ∨ sec.revEd.testBit ed then 3
    else if sha3 mlKey ≠ sec.mlDigests.getD ml zero ∨ sec.revMl.testBit ml then 3
    else if (w 2).toNat < sec.rollback then 4
    else if !Config.edVerify edKey (d.bytes (a + 2240) 64) hdr then 5
    else if !Config.mldsaVerify mlKey (d.bytes (a + 2304) 3309) hdr then 6
    else if sha3 (d.bytes (a + bootHead) (w 4).toNat) ≠ d.bytes (a + 24) 32 then 7
    else 1

/-- Record a source's code in `SEC_BOOT`; the hold state has no field there (log 46). -/
def bootCode (b : Word) (src code : Nat) : Word :=
  match src with
  | 0 => setFld b 27 24 code
  | 1 => setFld b 19 16 code
  | 3 => setFld b 23 20 code
  | _ => b

/-- An image at `a` has passed: `SEC_BOOT`, the measurement and the boot SVN are written, and hart 0 leaves
the ROM (14 R416, R417). -/
def State.bootPass (s : State) (src a : Nat) : State :=
  let w3 := s.d.mword (a + 12)
  let svn := (s.d.mword (a + 8)).toNat
  let m := sha3 (s.d.bytes a 256)
  s.updSec (fun x =>
    let b := setFld (setFld (setFld (bootCode x.boot src 1) 31 31 1) 30 28 src) 7 0 svn
    { x with boot := b, measurement := m, bootEd := fld w3 1 0, bootMldsa := fld w3 9 8, heldBoot := decide (src = 2),
             rom := .none, harts := x.harts ||| 1 })

/-- Hart 0 reads the image at `a` over the host port: its header, and the rest once the header is good; `es` are the
errors its bursts show. Answers whether one is uncorrectable. -/
def Die.readBoot (d : Die) (a : Nat) (es : List BurstErr) : Die × Bool :=
  let n := imageLen (d.mword (a + 16)).toNat
  let len := if !d.rangeOpen a bootHead then 0
    else if headerGood (fun i => d.mword (a + 4 * i)) ∧ d.rangeOpen a n then n else bootHead
  let r := d.readRange true a len es
  (r.1, !r.2.isEmpty)

/-- Verify the image at `a` as that of a source; answers whether it passed. -/
def State.tryImage (s : State) (src a : Nat) (es : List BurstErr) : State × Bool :=
  let rd := s.d.readBoot a es
  let s : State := { s with d := rd.1 }
  let c := s.d.verifyImage s.a.sec a rd.2
  if c = 1 then (s.bootPass src a, true) else (s.updSec (fun x => { x with boot := bootCode x.boot src c }), false)

/-- Load a flash slot's image into stack 0 (14 R415, 08 R246, R257). -/
def Die.loadSlot (d : Die) (src : Nat) : Die :=
  let from_ := if src = 3 then 512 * 65536 else 0
  let n := imageLen (leNat (sgetList d.flash 0 (from_ + 16) 4))
  if d.stackClosed 0 then d
  else
    let bs := burstsOf bootBase n
    let d : Die := { d with mem := cellCopy d.flash d.mem from_ bootBase n }
    ((d.count (pgStk 0) 2 bs.length).markChanged bootBase).updStk 0 (fun k =>
      { k with corrs := k.corrs.map (fun c => if bs.contains (c.burst * 64) then { c with stale := true } else c) })

/-- The network boot REQUEST (14 Table 14-4). -/
def State.bootRequest (s : State) (off : Nat) : State :=
  let pay := leBytes 4 1 ++ leBytes 8 s.d.part.serial.toNat ++ leBytes 4 off ++ leBytes 1 s.a.sec.rollback
  let f := wireFrame (List.replicate 6 0xFF ++ beBytes 6 s.d.part.mac.toNat ++ beBytes 2 0x88B5 ++ pay)
  let d := (s.d.count pgMgmt 1).count pgMgmt 3 f.length
  { s with d := d.updMg (fun m => { m with sent := f :: m.sent }) }

/-- Hart 0 tries the sources in order and stops at the first image that passes (14 R414). -/
def State.bootFrom (es : List BurstErr) : List Nat → State → State
  | [], s => s.updSec (fun x => { x with rom := .hold })
  | src :: rest, s =>
    if src = 1 then (s.updSec (fun x => { x with rom := .net 0 rest })).bootRequest 0
    else
      let s : State := { s with d := s.d.loadSlot src }
      let r := s.tryImage src bootBase es
      if r.2 then r.1 else State.bootFrom es rest r.1

/-- The ROM goes on once stack 0, which holds the image, is trained or failed (log 46). -/
def State.bootGo (s : State) (es : List BurstErr) : State :=
  match s.a.sec.rom with
  | .wait rest =>
    if rest = [] ∨ (s.d.stack 0).trained ∨ (s.d.stack 0).failed then s.bootFrom es rest else s
  | _ => s

/-- Step 7 of a module release: hart 0 begins the boot sequence (13 Table 13-7, 14 R414, R417, R424). -/
def State.bootStart (s : State) : State :=
  (s.updSec (fun x => { x with
    boot := 0, measurement := [], bootEd := 0, bootMldsa := 0, heldBoot := false, harts := 0,
    debugSeen := x.debugSeen && decide (s.d.pw.relCode = 6), rom := .wait (bootSources s.a.bootSrc) })).bootGo []

/-- STACK_BRINGUP (08 R250, R251): the sequence of Table 8-4 ends, with the channels that failed a step, the failed pins
and the eyes measured; the boot ROM waits for stack 0, and `es` are the errors of the image it then reads. -/
def execStackBringup (n : Nat) (pins eyes : List (Nat × Nat)) (s : State) (chans : List Nat := []) (es : List BurstErr := []) :
    Host.Outcome State Fault Refusal :=
  .next (if s.d.live (64 + n) then State.bootGo { s with d := s.d.bringUp n chans pins eyes } es else s)

/-- Payload of a boot DATA frame that answers the request for `off` (14 R418): broadcast, EtherType 0x88B5,
a good FCS, and the fields of Table 14-4. -/
def bootPayload (serial : DWord) (off : Nat) (bs : List Byte) : Option (List Byte) :=
  let n := bs.length
  let p := (bs.take (n - 4)).drop 14
  let len := leNat ((p.drop 16).take 2)
  if 64 ≤ n ∧ word (leNat (bs.drop (n - 4))) = crc32 (bs.take (n - 4)) ∧ frameDst bs = 2 ^ 48 - 1 ∧
      beNat ((bs.drop 12).take 2) = 0x88B5 ∧ leNat (p.take 4) = 2 ∧ leNat ((p.drop 4).take 8) = serial.toNat ∧
      leNat ((p.drop 12).take 4) = off ∧ 1 ≤ len ∧ len ≤ 8192 ∧ 18 + len ≤ p.length then some ((p.drop 18).take len)
  else none

/-- The network source ends with a code, and the next one is tried. -/
def State.netFail (s : State) (rest : List Nat) (code : Nat) (es : List BurstErr) : State :=
  (s.updSec (fun x => { x with boot := bootCode x.boot 1 code })).bootFrom es rest

/-- An accepted DATA frame: its bytes are stored, and the next REQUEST is sent or the image is verified. -/
def State.bootData (s : State) (off : Nat) (rest : List Nat) (data : List Byte) (es : List BurstErr) : State :=
  if s.d.stackClosed 0 then s.netFail rest 8 es
  else
    let d := (s.d.stackPut (bootBase + off) data).1
    let s : State := { s with d }
    let next := off + data.length
    if 20 ≤ next ∧ imageLen (d.mword (bootBase + 16)).toNat ≤ next then
      let r := s.tryImage 1 bootBase es
      if r.2 then r.1 else r.1.bootFrom es rest
    else (s.updSec (fun x => { x with rom := .net next rest })).bootRequest next

/-- An event of the running host island that changes the whole state. -/
def State.atHost (s : State) (f : State → State) : Host.Outcome State Fault Refusal :=
  .next (if s.d.live 88 then f s else s)

/-- BOOT_DATA (14 R418): a frame, with its FCS, arrives at the management port. -/
def execBootData (bs : List Byte) (s : State) (es : List BurstErr := []) : Host.Outcome State Fault Refusal :=
  s.atHost (fun s => match s.a.sec.rom with
    | .net off rest => match bootPayload s.d.part.serial off bs with
      | some data => State.bootData { s with d := (s.d.count pgMgmt 2).count pgMgmt 4 bs.length } off rest data es
      | none => s
    | _ => s)

/-- BOOT_REQUEST_RETRY (14 R418): 100 ms without an accepted frame. -/
def execBootRequestRetry (s : State) : Host.Outcome State Fault Refusal :=
  s.atHost (fun s => match s.a.sec.rom with
    | .net off _ => s.bootRequest off
    | _ => s)

/-- NETWORK_BOOT_TIMEOUT (14 R418): 60 s without an accepted frame. -/
def execNetworkBootTimeout (s : State) (es : List BurstErr := []) : Host.Outcome State Fault Refusal :=
  s.atHost (fun s => match s.a.sec.rom with
    | .net _ rest => s.netFail rest 8 es
    | _ => s)

/-- A write of `DBG_BOOT_GO` (14 R419): in the hold state hart 0 verifies the image at `DBG_BOOT_LO` and
`DBG_BOOT_HI`; `es` are the errors its bursts show. -/
def State.dbgBoot (s : State) (v : Word) (es : List BurstErr) : State :=
  let a := fld (s.d.reg pgDbg 0x118) 15 0 * 2 ^ 32 + fld (s.d.reg pgDbg 0x114) 31 3 * 8
  if bit v 0 ∧ s.a.sec.rom = .hold ∧ s.d.live 88 then (s.tryImage 2 a es).1 else s

/-- DBG_BOOT_GO. -/
def execDbgBootGo (ini : Nat) (es : List BurstErr) (s : State) : Host.Outcome State Fault Refusal :=
  s.cpl ini pgDbg 0x11C (fun s => s.dbgBoot 1 es)

/-- A write of `SEC_HART_GO` (14 R416): harts leave the ROM for the entry of the image that passed. -/
def State.hartGo (s : State) (v : Word) : State :=
  if bit s.a.sec.boot 31 then s.updSec (fun x => { x with harts := x.harts ||| (fld v 15 1 * 2) }) else s

/-- SEC_HART_GO. -/
def execSecHartGo (ini : Nat) (v : Word) (s : State) : Host.Outcome State Fault Refusal :=
  s.cpl ini pgSec 0x114 (fun s => s.hartGo v)

end Sys2Proof.Machine
end

