-- ==== Sys2Proof/Machine/FabricLink.lean ====
section
/-!
DEFINITION. Frames of the Corsum fabric, routing, and the link layer of a port: reception, transmission,
credits and replay (10 R291-R295, R299, R303, R304, R314, R317, R318).
-/

namespace Sys2Proof.Machine

/-! ## Frames -/

/-- Header word `i`. -/
def Frame.w (f : Frame) (i : Nat) : Word := f.hdr.getD i 0
/-- `TYPE`. -/
def Frame.ty (f : Frame) : Nat := fld (f.w 0) 31 28
/-- `VC`. -/
def Frame.vc (f : Frame) : Nat := fld (f.w 0) 27 26
/-- `LEN`, payload units. -/
def Frame.len (f : Frame) : Nat := fld (f.w 0) 22 16
/-- `DST`. -/
def Frame.dst (f : Frame) : Nat := fld (f.w 0) 15 0
/-- `SRC`. -/
def Frame.src (f : Frame) : Nat := fld (f.w 1) 31 16
/-- `EPOCH`. -/
def Frame.epoch (f : Frame) : Nat := fld (f.w 1) 15 0
/-- `LSEQ`. -/
def Frame.lseq (f : Frame) : Nat := fld (f.w 2) 31 16
/-- `TTL`. -/
def Frame.ttl (f : Frame) : Nat := fld (f.w 2) 15 8
/-- `DKIND`, `CSUB` or `SUB`. -/
def Frame.sub (f : Frame) : Nat := fld (f.w 3) 31 28
/-- `FLOW`. -/
def Frame.flow (f : Frame) : Nat := fld (f.w 3) 23 0

/-- Replace header word `i`. -/
def Frame.setW (f : Frame) (i : Nat) (v : Word) : Frame :=
  { f with hdr := (List.range 16).map (fun k => if k = i then v else f.w k) }

/-- The bytes of the first `n` header words as they are sent (10 R292). -/
def Frame.hdrBytes (f : Frame) (n : Nat) : List Byte := (List.range n).flatMap (fun i => beBytes 4 (f.w i).toNat)

/-- The header CRC holds (10 R293). -/
def Frame.hOk (f : Frame) : Bool := f.w 15 = crc32 (f.hdrBytes 15)

/-- The payload has its length and its CRC holds. -/
def Frame.pOk (f : Frame) : Bool :=
  f.pay.length = 64 * f.len && (if f.len = 0 then f.w 14 = 0 else f.w 14 = crc32 f.pay)

/-- Compute both CRCs. -/
def Frame.seal (f : Frame) : Frame :=
  let f := f.setW 14 (if f.len = 0 then 0 else crc32 f.pay)
  f.setW 15 (crc32 (f.hdrBytes 15))

/-- Units of a frame, header included. -/
def Frame.units (f : Frame) : Nat := 1 + f.len

/-- Payload padded to whole units. -/
def padUnits (bs : List Byte) : List Byte := bs ++ List.replicate ((64 - bs.length % 64) % 64) 0

/-- The kind of a frame, type and subtype; none for one that Table 10-3 or 10-4 does not allow. -/
def Frame.kind (f : Frame) : Option (Nat × Nat) :=
  let link := f.dst = 0xFFFF
  if f.ty = 1 ∧ (f.vc = 2 ∨ f.vc = 3) ∧ ¬link ∧ f.sub ≤ 2 then some (1, f.sub)
  else if (f.ty = 2 ∨ f.ty = 3 ∨ f.ty = 6) ∧ f.vc = 0 ∧ link then some (f.ty, 0)
  else if f.ty = 4 ∧ f.vc = 0 ∧ f.sub ≤ 5 then some (4, f.sub)
  else if f.ty = 5 ∧ f.vc = 0 ∧ f.sub ≤ 2 then some (5, f.sub)
  else if f.ty = 7 ∧ (f.vc = 0 ∨ f.vc = 1) ∧ ¬link ∧ f.sub ≤ 3 then some (7, f.sub)
  else none

/-- DATA, ADDR, ROUTE and COLL frames are sequenced (10 Table 10-3). -/
def Frame.sequenced (f : Frame) : Bool := f.ty = 1 || f.ty = 4 || f.ty = 5 || f.ty = 7

/-- A frame of this module: type, channel, destination, words 3 to 13, payload. -/
def Die.mkFrame (d : Die) (ty vc dst : Nat) (ws : List Word) (pay : List Byte) : Frame :=
  let p := padUnits pay
  let w0 := packW [(28, ty), (26, vc), (16, p.length / 64), (0, dst)]
  let w1 := packW [(16, d.fab.addr), (0, d.fab.epoch)]
  let w2 := packW [(8, 64)]
  Frame.seal { hdr := [w0, w1, w2] ++ (List.range 11).map (fun i => ws.getD i 0) ++ [0, 0], pay := p }

/-! ## Transmission -/

/-- Port `p` is UP. -/
def Die.up (d : Die) (p : Nat) : Bool := (d.port p).link = 4

/-- Put a frame on the wire. -/
def Die.emit (d : Die) (p : Nat) (f : Frame) : Die :=
  (d.updPort p (fun x => { x with wire := f :: x.wire })).count (pgPort p) 1 f.units

/-- The partner's limit on channel `v`, in units (10 R295). -/
def Port.limit (x : Port) (v : Nat) : Nat := fld x.pLimits (8 * v + 7) (8 * v) * 64

/-- A frame may leave: its units fit the credit of its channel; both counts run modulo 2^32 (10 R295). -/
def Port.creditOk (x : Port) (f : Frame) : Bool :=
  (x.sent.getD f.vc 0 + 2 ^ 32 - x.pFreed.getD f.vc 0 % 2 ^ 32) % 2 ^ 32 + f.units ≤ x.limit f.vc

/-- Return `n` units on channel `v` to the partner of port `p`; channel 0 waits while the grant buffer is full (R308). -/
def Die.freeUnits (d : Die) (p v n : Nat) : Die :=
  if v = 0 ∧ 1024 ≤ d.fab.grants.length then d.updPort p (fun x => { x with owed := x.owed + n })
  else d.updPort p (fun x => { x with freed := setAt x.freed v (x.freed.getD v 0 + n), creditDue := true })

/-- A frame in transit leaves the ingress buffer it stands in. -/
def Die.freeVia (d : Die) (x : Frame × Option (Nat × Nat)) : Die :=
  match x.2 with
  | none => d
  | some (p, v) => d.freeUnits p v x.1.units

/-- Send the waiting frames that have credit, in order on each channel (10 R295, R318). -/
def Die.pump (d : Die) (p : Nat) : Die :=
  if !d.up p ∨ d.pw.asleep then d
  else
    let r := (d.port p).txq.foldl (fun (acc : Die × List (Frame × Option (Nat × Nat))) y =>
      let x := acc.1.port p
      if acc.2.any (fun g => decide (g.1.vc = y.1.vc)) ∨ !x.creditOk y.1 then (acc.1, acc.2 ++ [y])
      else
        let f := (y.1.setW 2 (setFld (y.1.w 2) 31 16 x.lseq)).seal
        let d := acc.1.updPort p (fun x => { x with
          lseq := (x.lseq + 1) % 65536, replay := x.replay ++ [(f, 0)],
          sent := setAt x.sent f.vc ((x.sent.getD f.vc 0 + f.units) % 2 ^ 32) })
        ((d.freeVia y).emit p f, acc.2)) (d, [])
    r.1.updPort p (fun x => { x with txq := r.2 })

/-- Hand a sequenced frame to port `p`; `via` names the ingress buffer of one in transit. -/
def Die.tx (d : Die) (p : Nat) (f : Frame) (via : Option (Nat × Nat) := none) : Die :=
  (d.updPort p (fun x => { x with txq := x.txq ++ [(f, via)] })).pump p

/-- The frame is one of the collective, sent by this module. -/
def Coll.owns (c : Coll) (addr : Nat) (f : Frame) : Bool :=
  (decide (f.ty = 1 ∧ f.sub = 0) || decide (f.ty = 7)) && decide (f.src = addr) && decide (fld (f.w 5) 31 20 = c.comm) &&
    decide (fld (f.w 4) 31 16 = c.seq)

/-- A frame of this module is lost before its first link acknowledged it: its collective cannot complete (10 R310). -/
def Die.loseFrame (d : Die) (f : Frame) : Die :=
  let hit (c : Coll) : Coll := if c.owns d.fab.addr f then { c with lost := true } else c
  (List.range 16).foldl (fun d q => d.updPort q (fun x => { x with coll := x.coll.map hit, waiting := x.waiting.map hit })) d

/-- A CREDIT frame (10 R294, R295). -/
def Die.sendCredit (d : Die) (p : Nat) (nak : Bool) : Die :=
  let x := d.port p
  let nak := nak || x.wakeNak
  let f := d.mkFrame 2 0 0xFFFF
    ([packW [(16, (x.rseq + 65535) % 65536), (15, b2n nak)]] ++ (x.freed.map word) ++ [d.reg (pgPort p) 0x108]) []
  (d.updPort p (fun x => { x with creditDue := false, wakeNak := false })).emit p f

/-! ## Routing (10 R303, R304) -/

/-- The flow hash of R304. -/
def flowHash (src dst flow m : Nat) : Nat :=
  let x := src * 65536 + dst
  let x := x ^^^ ((flow * 0x9E3779B1) % 2 ^ 32)
  let x := x ^^^ (x / 2 ^ 15)
  let x := (x * 0x2C1B3C6D) % 2 ^ 32
  let x := x ^^^ (x / 2 ^ 12)
  (x * m) / 2 ^ 32

/-- Choices of a route entry whose ports are UP: choice number and port. -/
def Die.choices (d : Die) (e : Word) : List (Nat × Nat) :=
  if bit e 31 then
    ((List.range (fld e 29 28 + 1)).map (fun c => (c, fld e (4 * c + 7) (4 * c + 4)))).filter (fun c => d.up c.2)
  else []

/-- The choice a frame leaves by. -/
def Die.routeOf (d : Die) (f : Frame) : Option (Nat × Nat) :=
  let u := d.choices (sget d.fab.route 0 f.dst)
  u[flowHash f.src f.dst f.flow u.length]?

/-- Send a DATA or COLL frame by its route entry; a dateline moves it to the second channel of its pair
(10 R295). Counters are those of port `p`. -/
def Die.sendRouted (d : Die) (p : Nat) (f : Frame) (transit : Bool) : Die :=
  match d.routeOf f with
  | none => (if transit then d else d.loseFrame f).count (pgPort p) 9
  | some (c, q) =>
    let e := sget d.fab.route 0 f.dst
    let via := if transit then some (p, f.vc) else none
    let f := if bit e (24 + c) ∧ f.vc % 2 = 0 then (f.setW 0 (setFld (f.w 0) 27 26 (f.vc + 1))).seal else f
    (if transit then d.count (pgPort q) 0xD else d).tx q f via

/-- Egress port nibble `h` of a path in words from `base` (10 Table 10-4). -/
def Frame.nib (f : Frame) (base h : Nat) : Nat := fld (f.w (base + h / 8)) (31 - 4 * (h % 8)) (28 - 4 * (h % 8))

/-- Write a path nibble. -/
def Frame.setNib (f : Frame) (base h v : Nat) : Frame :=
  f.setW (base + h / 8) (setFld (f.w (base + h / 8)) (31 - 4 * (h % 8)) (28 - 4 * (h % 8)) v)

/-- Forward a source-routed frame that entered by port `p` (10 R293, R299). -/
def Die.sourceRoute (d : Die) (p : Nat) (f : Frame) : Die :=
  let h := fld (f.w 3) 21 16
  let q := f.nib 4 h
  if !d.up q then d.count (pgPort p) 9
  else
    let g := (f.setNib 9 h p).setW 3 (setFld (f.w 3) 21 16 (h + 1))
    (d.count (pgPort q) 0xD).tx q ((g.setW 2 (setFld (g.w 2) 15 8 (f.ttl - 1))).seal) (some (p, f.vc))

/-- Write a frame whole into the receive ring, or drop it. -/
def Die.toRing (d : Die) (f : Frame) : Die :=
  let head := fld (d.reg pgFab 0x130) 13 0
  let tail := d.fab.rxTail
  let room := (head + 16384 - tail - 1) % 16384
  let base := fld (d.reg pgFab 0x12C) 27 0 * 2 ^ 20
  if room < f.units then d.count pgFab 6
  else
    let bs := f.hdrBytes 16 ++ f.pay
    let d := (List.range f.units).foldl (fun d u =>
      let a := base + (tail + u) % 16384 * 64
      (d.stackPut a ((bs.drop (64 * u)).take 64)).1) d
    d.updFab (fun x => { x with rxTail := (tail + f.units) % 16384 })

/-- A source-routed frame along a path of nibbles, from this module. -/
def Die.sendPath (d : Die) (ty sub tag : Nat) (path : List Nat) (dst : Nat) (pay : List Byte) : Die :=
  let f := d.mkFrame ty 0 dst [packW [(28, sub), (22, path.length), (0, tag)]] pay
  let f := (List.range path.length).foldl (fun f h => f.setNib 4 h (path.getD h 0)) f
  match path with
  | [] => d
  | q :: _ =>
    if !d.up q then d.count (pgPort q) 9
    else d.tx q ((f.setW 3 (setFld (f.w 3) 21 16 1)).seal)

/-- Path of a reply to a frame that arrived by port `p`: back out of that port, then the ingress ports that
the modules on the way wrote, in reverse order (R299, log 22: nibble 0 is the sender's own first hop). -/
def Frame.replyPath (f : Frame) (p : Nat) : List Nat :=
  p :: ((List.range (fld (f.w 3) 21 16 - 1)).map (fun h => f.nib 9 (h + 1))).reverse

/-- The stored path to the coordinator. -/
def Fab.pathNibs (x : Fab) : List Nat :=
  (List.range (min 40 x.pathLen)).map (fun h =>
    let b := (x.path.getD (h / 2) 0).toNat
    if h % 2 = 0 then b / 16 else b % 16)

/-- Recompute the best serial and distance (10 R297). -/
def Die.electBest (d : Die) : Die :=
  let own := (d.part.serial.toNat, 0)
  let cand := (List.range 16).filterMap (fun p =>
    if d.up p then
      match (d.port p).best with
      | some (s, k) => if k + 1 ≤ 63 then some (s, k + 1) else none
      | none => none
    else none)
  let b := cand.foldl (fun b c => if c.1 < b.1 ∨ (c.1 = b.1 ∧ c.2 < b.2) then c else b) own
  d.updFab (fun x => { x with best := b, coord := if b.1 = x.best.1 then x.coord else false })

/-- The link of port `p` leaves its state and bring-up restarts, with `EN` at 1; its ingress and replay buffers are
discarded (10 R290, R291). -/
def Die.restart (d : Die) (p : Nat) : Die :=
  let en := bit (d.reg (pgPort p) 0x104) 0
  let x := d.port p
  let d := ((x.replay.map (fun y => y.1)) ++ (x.txq.filter (fun y => y.2.isNone)).map (fun y => y.1)).foldl Die.loseFrame d
  let d := x.txq.foldl Die.freeVia d
  let stands (y : Frame × Option (Nat × Nat)) : Bool := match y.2 with
    | some (q, _) => decide (q = p)
    | none => false
  let d := (List.range 16).foldl (fun d q => d.updPort q (fun x => { x with txq := x.txq.filter (fun y => !stands y) })) d
  d.updPort p (fun x => { x with
    link := if en then 1 else 5, locks := 0, greeted := false, ackSent := false, heard := false, lseq := 0, rseq := 0,
    nakSent := false, replay := [], txq := [], sent := [0, 0, 0, 0], pFreed := [0, 0, 0, 0], pLimits := 0,
    freed := [0, 0, 0, 0], owed := 0, creditDue := false, wakeNak := false, pAsleep := false, best := none,
    lockRun := [0, 0, 0, 0, 0, 0, 0, 0], rxCw := [], asm := none, inFrames := [] })

/-- Set bits of `CP_ERR`. -/
def Die.cpErr (d : Die) (p b : Nat) : Die := (d.updPort p (fun x => { x with err := x.err ||| 2 ^ b })).trace (72 + p) 7 (word b)

/-- An UP link goes DOWN (10 R291); `b` is its `CP_ERR` bit, if it has one. The event of a
coordinator's own port goes to its own receive ring. -/
def Die.linkDown (d : Die) (p : Nat) (b : Option Nat) : Die :=
  let d := match b with
    | some k => d.cpErr p k
    | none => d
  let ser := (d.port p).pSerial.toNat
  let d := ((d.count (pgPort p) 0xC).restart p).electBest
  let pay := leBytes 1 p ++ leBytes 1 0 ++ beBytes 8 ser
  if d.fab.assigned ∧ d.fab.pathNibs = [] then d.toRing (d.mkFrame 4 0 d.fab.coordAddr [packW [(28, 5)]] pay)
  else d.sendPath 4 5 0 d.fab.pathNibs d.fab.coordAddr pay

/-! ## Reception -/

/-- A gap or a damaged frame: one NAK for each gap (10 R294), none in sleep (10 R317). -/
def Die.gap (d : Die) (p : Nat) : Die :=
  if (d.port p).nakSent ∨ !d.up p ∨ d.pw.asleep then d else (d.updPort p (fun x => { x with nakSent := true })).sendCredit p true

/-- A CRC failure is counted. -/
def Die.crcFail (d : Die) (p : Nat) : Die := ((d.count (pgPort p) 5).cpErr p 1).gap p

/-- The frame goes on through another port: it stays in its ingress buffer until it leaves (10 R295, R299, R303). -/
def Die.transits (d : Die) (f : Frame) : Bool :=
  if f.ty = 4 ∨ f.ty = 5 then decide (fld (f.w 3) 21 16 < fld (f.w 3) 27 22) && d.up (f.nib 4 (fld (f.w 3) 21 16))
  else decide (f.epoch = d.fab.epoch) && decide (f.dst ≠ d.fab.addr) && decide (1 < f.ttl) && (d.routeOf f).isSome

/-- A frame arrives at port `p`: the die after the link layer, and whether the frame is accepted. -/
def Die.rx (d : Die) (p : Nat) (f : Frame) : Die × Bool :=
  let d := d.count (pgPort p) 2 f.units
  if !f.hOk then (d.crcFail p, false)
  else if f.kind = none then ((d.count (pgPort p) 0xA).cpErr p 0, false)
  else if !f.sequenced then (if f.pOk then (d, true) else (d.crcFail p, false))
  else if !f.pOk then (d.crcFail p, false)
  else if f.lseq = (d.port p).rseq then
    let d := d.updPort p (fun x => { x with rseq := (x.rseq + 1) % 65536, nakSent := false })
    (if d.transits f then d else d.freeUnits p f.vc f.units, true)
  else (d.gap p, false)

/-- A fabric wake event: a DATA or COLL frame for this module in its epoch (13 R394). -/
def Die.wakesOn (d : Die) (f : Frame) : Bool :=
  bit (d.reg pgPwr 0x114) 2 && f.hOk && (f.ty = 1 || f.ty = 7) && decide (f.dst = d.fab.addr) &&
    decide (f.epoch = d.fab.epoch)

/-- A wake event, bit `b` of `WAKE_CAUSE`: it begins the wake, or is held during sleep entry (13 R394). -/
def Die.wakeEvent (d : Die) (b : Nat) : Die :=
  if d.pw.offBusy ∨ d.pw.off ∨ d.pw.waking then d
  else if d.pw.asleep then d.updPw (fun x => { x with waking := true, wakeCause := 2 ^ b })
  else if d.pw.sleepBusy then d.updPw (fun x => { x with wakeHeld := x.wakeHeld ||| 2 ^ b })
  else d

/-- A CREDIT frame is taken in; the link goes DOWN once a frame that has been replayed 8 times is not acknowledged (10 R291,
R294, R295). -/
def Die.takeCredit (d : Die) (p : Nat) (f : Frame) : Die :=
  let ack := fld (f.w 3) 31 16
  let rest := (d.port p).replay.dropWhile (fun g => decide ((ack + 65536 - g.1.lseq) % 65536 < 32768))
  let d := d.updPort p (fun x => { x with replay := rest, pFreed := [4, 5, 6, 7].map (fun i => (f.w i).toNat), pLimits := f.w 8 })
  let d := if bit (f.w 3) 15 ∧ rest ≠ [] then
      if rest.any (fun g => decide (8 ≤ g.2)) then d.linkDown p (some 3)
      else
        let d := d.updPort p (fun x => { x with replay := rest.map (fun g => (g.1, g.2 + 1)) })
        rest.foldl (fun d g => d.emit p g.1) (d.count (pgPort p) 6)
    else d
  d.pump p

end Sys2Proof.Machine
end

