-- ==== Sys2Proof/Machine/Skim.lean ====
section
/-!
DEFINITION. The Skim: adders, collection, record, fabric exchange, verdict and commit (09 R266-R285,
10 R313).
-/

namespace Sys2Proof.Machine

/-- A W320 element from its 40 stored bytes (02 Table 2-3). -/
def wideOf (n : Nat) : WideElt :=
  { v := signed 310 n, nan := n.testBit 310, pinf := n.testBit 311, ninf := n.testBit 312, ovf := n.testBit 313 }

/-- Enabled slots of a job, ascending. -/
def Die.jobSlots (d : Die) (j : Nat) : List Nat :=
  (List.range 64).filter (fun k =>
    let w := sget d.skimSlot 0 (k * 8)
    bit w 31 && decide (fld w 28 24 = j))

/-- `SLOT_MASK` of a job. -/
def Die.slotMask (d : Die) (j : Nat) : Nat := (d.jobSlots j).foldl (fun m k => m + 2 ^ k) 0

/-- Active Skim communicator of a job. -/
def Die.skimComm (d : Die) (j : Nat) : Nat := fld (d.skimW j 1) 11 0

/-- Fabric address of rank `r` of a communicator: its member list in stack memory (10 R305). -/
def Die.member (d : Die) (c r : Nat) : Nat :=
  leNat (d.bytes (fld (d.commW c 3) 15 0 * 2 ^ 32 + fld (d.commW c 2) 31 1 * 2 + 2 * r) 2)

/-- Add one list of slot sums into another by slot (02 R49). -/
def addSums (a b : List (Nat × WideElt)) : List (Nat × WideElt) :=
  b.foldl (fun l x =>
    if l.any (fun y => decide (y.1 = x.1)) then
      l.map (fun y => if y.1 = x.1 then (y.1, y.2.addRaw false false x.2) else y)
    else l ++ [x]) a

/-- Add counts. -/
def addCounts (a b : List Nat) : List Nat := (List.range 5).map (fun i => (a.getD i 0 + b.getD i 0) % 2 ^ 64)

/-- Change one of the five counts. -/
def bumpCount (l : List Nat) (i n : Nat) : List Nat := addCounts l ((List.range 5).map (fun k => if k = i then n else 0))

/-! ## Verdict and commit -/

/-- Enter ACCUMULATE (09 R274). -/
def SkimJob.accumulate (s : SkimJob) : SkimJob :=
  { s with st := 1, mbInStep := 0, notices := 0, forced := 0, updFault := false, replied := 0, sums := [], cnts := [],
           counts := [0, 0, 0, 0, 0], sentRec := false }

/-- The verdict of R272 from a completed record; `fab` says that the sums are those of the fabric. -/
def Die.verdict (d : Die) (j : Nat) (sums : List (Nat × WideElt)) (counts : List Nat) : Die :=
  let counts := if bit d.fab.fence j then bumpCount counts 4 1 else counts
  let t := sums.foldl (fun (a : WideElt) x => a.addRaw false false x.2) {}
  let s := toF32 (t.value false)
  let fin := !nonfin32 s
  let norm := sqrt32 s
  let mx := d.skimW j 2
  let clip := if fin ∧ fld mx 30 0 ≠ 0 ∧ !(numLt (f32 norm) (f32 mx) || decide (norm = mx)) then div32 mx norm else one32
  let c := fun i => counts.getD i 0
  let cause :=
    if c 3 ≠ 0 then 1 else if c 4 ≠ 0 then 2 else if c 2 ≠ 0 then 3 else if c 1 ≠ 0 ∨ !fin then 4
    else if c 0 ≠ 0 then 5 else 0
  let att := (d.job j).attempt
  let d := { d with
    skimSlot := sums.foldl (fun m (x : Nat × WideElt) => sset m 0 (x.1 * 8 + 5) (toF32 (x.2.value false))) d.skimSlot
    skimPend := d.skimPend ||| BitVec.ofNat 32 (2 ^ j)
    skimLast := packW [(31, 1), (24, j), (20, cause), (0, att)] }
  let d := d.updJob j (fun x => { x with attempt := (att + 1) % 65536 })
  (d.updSkim j (fun x => { x with
    st := if cause = 0 then 4 else 5, cause, norm, clip, fabPoisoned := satAdd (2 ^ 32 - 1) 0 (c 0),
    fabNonfin := satAdd (2 ^ 32 - 1) 0 (c 1) })).count pgSkim 1

/-- A commit sets `SECURE_DUE` when the job's first line is in use and the step is a multiple of `K`
(11 R328). -/
def Die.secureDue (d : Die) (j : Nat) : Die :=
  let w n := sget d.flCfg 0 (j * 32 + n)
  let k := fld (w 8) 15 0
  if bit (w 0) 31 ∧ k ≠ 0 ∧ (d.skimJ j).step.toNat % k = 0 then
    d.updSg (fun s => { s with due := s.due ||| BitVec.ofNat 32 (2 ^ j) })
  else d

/-- A release of `COMMIT_BAR` (09 R274). -/
def Die.skimCommit (d : Die) (j : Nat) : Die :=
  let s := d.skimJ j
  if s.st = 5 then (d.count pgSkim (0x120 + j)).updSkim j SkimJob.accumulate
  else if s.updFault then d.updSkim j (fun s => { s with st := 6 })
  else (d.updSkim j (fun s => { s.accumulate with step := bump s.step 1 })).secureDue j

/-- A release of `MB_BAR` counts a micro-batch and advances the enabled generators (09 R281). -/
def Die.microBatch (d : Die) (j : Nat) : Die :=
  let d := (d.updSkim j (fun s => { s with mbInStep := (s.mbInStep + 1) % 65536 })).count pgSkim (0x140 + j)
  (List.range 8).foldl (fun d g =>
    let k := (j * 8 + g) * 4
    if bit (sget d.skimGen 0 k) 31 then
      let n := (sget d.skimGen 0 (k + 2)).toNat + (sget d.skimGen 0 (k + 3)).toNat * 2 ^ 32 + 1
      { d with skimGen := sset (sset d.skimGen 0 (k + 2) (word n)) 0 (k + 3) (word (n / 2 ^ 32)) }
    else d) d

/-- A barrier of a job has released: its effect on the Skim (09 R270, R271, R274, R281). -/
def Die.skimRelease (d : Die) (j b : Nat) : Die :=
  let s := d.skimJ j
  let w := d.skimW j 0
  if s.st = 0 then d
  else if b = fld w 5 0 then
    if s.st = 1 then
      (List.range 64).foldl (fun d i => d.send dkNode (islNode i) (.collect j))
        (d.updSkim j (fun s => { s with st := 2, replied := 0, sums := [], cnts := [] }))
    else d.count pgSkim 4
  else if b = fld w 11 6 then (if s.st = 4 ∨ s.st = 5 then d.skimCommit j else d.count pgSkim 4)
  else if b = fld w 17 12 ∧ bit w 29 then (if s.st = 1 then d.microBatch j else d.count pgSkim 4)
  else d

/-! ## The fabric exchange (10 R313) -/

/-- The bytes of a Skim record. -/
def recordBytes (sums : List (Nat × WideElt)) (counts : List Nat) : List Byte :=
  sums.flatMap (fun x => leBytes 40 (x.2.code false)) ++ (List.range 5).flatMap (fun i => leBytes 8 (counts.getD i 0))

/-- A DATA SKIM frame of job `j` to rank `r`. -/
def Die.skimFrame (d : Die) (j r : Nat) (complete leave : Bool) (sums : List (Nat × WideElt)) (counts : List Nat) : Frame :=
  let c := d.skimComm j
  let m := d.slotMask j
  d.mkFrame 1 2 (d.member c r)
    [packW [(28, 1), (0, (c * 4096) % 2 ^ 24)],
     packW [(16, (d.job j).attempt), (15, b2n complete), (14, b2n leave), (0, fld (d.commW c 1) 13 0)],
     packW [(20, c), (13, sums.length)], word (m / 2 ^ 32), word m]
    (recordBytes sums counts)

/-- The job's exchange leaves its engine. -/
def Die.skimLeave (d : Die) (j : Nat) : Die :=
  (d.updPort (d.skimComm j % 16) (fun x => { x with skims := x.skims.filter (fun i => decide (i ≠ j)) })).count pgFab 8

/-- The records at the root that the present exchange combines, the first of each rank and every LEAVE; and the rest, which
later exchanges use. -/
def SkimJob.split (s : SkimJob) : List SkimRec × List SkimRec :=
  s.inbox.foldl (fun a r =>
    if r.leave || a.1.all (fun x => decide (x.rank ≠ r.rank)) then (a.1 ++ [r], a.2) else (a.1, a.2 ++ [r])) ([], [])

/-- The combined sums and counts of records: one mismatch for each whose attempt or slots differ from the root's own (10 R313). -/
def Die.combine (d : Die) (j : Nat) (l : List SkimRec) : List (Nat × WideElt) × List Nat :=
  l.foldl (fun a r => (addSums a.1 r.sums,
    bumpCount (addCounts a.2 r.counts) 3 (b2n (decide (r.attempt ≠ (d.job j).attempt) || decide (r.mask ≠ d.slotMask j)))))
    ([], [0, 0, 0, 0, 0])

/-- The record of the exchange at the root is complete, with `forced` skips added: it goes to every other member. Answers
its sums and counts. -/
def Die.skimSendAll (d : Die) (j forced : Nat) : Die × List (Nat × WideElt) × List Nat :=
  let x := (d.skimJ j).split
  let y := d.combine j x.1
  let counts := bumpCount y.2 4 forced
  let c := d.skimComm j
  let own := fld (d.commW c 1) 13 0
  let d := d.updSkim j (fun s => { s with inbox := x.2 })
  let d := (List.range (d.commG c)).foldl (fun d r =>
    if r = own then d else d.sendRouted (c % 16) (d.skimFrame j r true false y.1 counts) false) d
  (d.skimLeave j, y.1, counts)

/-- The root, in FABRIC, has a record of every rank, or a LEAVE (10 R313). -/
def Die.skimReady (d : Die) (j : Nat) : Bool :=
  let s := d.skimJ j
  let t := s.split.1
  decide (s.st = 3) && s.sentRec &&
    (t.any (fun r => r.leave) || decide ((t.map (fun r => r.rank)).dedup.length = d.commG (d.skimComm j)))

/-- A record joins the exchange at the root. One that comes before the root has entered FABRIC waits for it; a job whose
Skim is OFF takes none (log 140). -/
def Die.skimJoin (d : Die) (j : Nat) (r : SkimRec) : Die :=
  let d := d.updSkim j (fun s => { s with inbox := s.inbox ++ [r] })
  if d.skimReady j then
    let x := d.skimSendAll j 0
    x.1.verdict j x.2.1 x.2.2
  else d

/-- The completed record reaches a member in FABRIC. -/
def Die.skimUse (d : Die) (j : Nat) (r : SkimRec) : Die :=
  ((d.updSkim j (fun s => { s with inbox := [] })).skimLeave j).verdict j r.sums r.counts

/-- Records of jobs in FABRIC that have not been sent enter their engine, which holds at most four. A member that a LEAVE has
already completed the record for uses that (log 140). -/
def Die.skimEnter (d : Die) (j : Nat) : Die :=
  let s := d.skimJ j
  let c := d.skimComm j
  let p := c % 16
  if s.st ≠ 3 ∨ s.sentRec ∨ 4 ≤ (d.port p).skims.length then d
  else
    let own := fld (d.commW c 1) 13 0
    let root := fld (d.commW c 1) 29 16
    let d := d.updPort p (fun x => { x with skims := x.skims ++ [j] })
    let counts := bumpCount s.counts 4 s.forced
    let d := d.updSkim j (fun s => { s with sentRec := true })
    if own = root then d.skimJoin j { rank := own, attempt := (d.job j).attempt, mask := d.slotMask j, sums := s.sums, counts }
    else match s.inbox.find? (fun r => r.complete) with
      | some r => d.skimUse j r
      | none => d.sendRouted p (d.skimFrame j root false false s.sums counts) false

/-- Every waiting record enters if it can. -/
def Die.skimEnterAll (d : Die) : Die := (List.range 32).foldl Die.skimEnter d

/-- A DATA SKIM frame for this module (10 R313): the root adds a record, a member uses the completed one. -/
def Die.takeSkim (d : Die) (f : Frame) : Die :=
  let c := fld (f.w 5) 31 20
  match (List.range 32).find? (fun j => decide ((d.skimJ j).st ≠ 0) && decide (d.skimComm j = c) && decide (c ≠ 0)) with
  | none => d
  | some j =>
    let n := fld (f.w 5) 19 13
    let mask := (f.w 6).toNat * 2 ^ 32 + (f.w 7).toNat
    let slots := (List.range 64).filter (fun k => mask.testBit k)
    let sums := (List.range n).map (fun i => (slots.getD i i, wideOf (leNat ((f.pay.drop (40 * i)).take 40))))
    let counts := (List.range 5).map (fun i => leNat ((f.pay.drop (40 * n + 8 * i)).take 8))
    let r : SkimRec := { rank := fld (f.w 4) 13 0, attempt := fld (f.w 4) 31 16, mask, complete := bit (f.w 4) 15,
                         leave := bit (f.w 4) 14, sums, counts }
    if !r.complete then (d.skimJoin j r).skimEnterAll
    else if (d.skimJ j).st = 3 ∧ (d.skimJ j).sentRec then (d.skimUse j r).skimEnterAll
    else if (d.skimJ j).st ≤ 3 then d.updSkim j (fun s => { s with inbox := s.inbox ++ [r] })
    else d

/-- An epoch change completes every exchange in flight here, with the forced-skip count raised (10 R313). -/
def Die.skimEpoch (d : Die) : Die :=
  (List.range 32).foldl (fun d j =>
    let d := d.updSkim j (fun s => { s with inbox := [] })
    let s := d.skimJ j
    if s.st = 3 then (d.skimLeave j).verdict j s.sums (bumpCount s.counts 4 (s.forced + 1)) else d) d

/-! ## Collection (09 R271) -/

/-- Every island has replied: sums, counts and mismatches; then the verdict, or the fabric. -/
def Die.collected (d : Die) (j : Nat) : Die :=
  let s := d.skimJ j
  let cnt (k : Nat) : Nat × Nat × Nat := match s.cnts.find? (fun x => decide (x.1 = k)) with
    | some x => x.2
    | none => (0, 0, 0)
  let slots := d.jobSlots j
  let sums := slots.map (fun k => (k, match s.sums.find? (fun x => decide (x.1 = k)) with
    | some x => x.2
    | none => ({} : WideElt)))
  let per := fld (d.skimW j 3) 15 0
  let mis := (slots.filter (fun k => decide ((cnt k).1 ≠ fld (sget d.skimSlot 0 (k * 8)) 19 0))).length +
    (if per ≠ 0 ∧ per ≠ s.mbInStep then 1 else 0)
  let d : Die := { d with skimSlot := sums.foldl (fun m (x : Nat × WideElt) =>
    ssetList m 0 (x.1 * 8 + 1) [word (cnt x.1).1, word (cnt x.1).2.1, word (cnt x.1).2.2, toF32 (x.2.value false)]) d.skimSlot }
  let counts := [(slots.map (fun k => (cnt k).2.1)).sum, (slots.map (fun k => (cnt k).2.2)).sum, s.notices, mis, 0]
  let d := if mis ≠ 0 then d.count pgSkim 2 else d
  if d.skimComm j ≠ 0 then (d.updSkim j (fun x => { x with st := 3, sums, counts, sentRec := false })).skimEnter j
  else d.verdict j sums (bumpCount counts 4 s.forced)

/-- An island's reply reaches the Skim unit. -/
def Die.skimReply (d : Die) (i j : Nat) (l : List (Nat × WideElt × Nat × Nat × Nat)) : Die :=
  if (d.skimJ j).st ≠ 2 ∨ (d.skimJ j).replied.testBit i then d
  else
    let add (cs : List (Nat × Nat × Nat × Nat)) (x : Nat × Nat × Nat × Nat) : List (Nat × Nat × Nat × Nat) :=
      if cs.any (fun y => decide (y.1 = x.1)) then
        cs.map (fun y => if y.1 = x.1 then (y.1, y.2.1 + x.2.1, y.2.2.1 + x.2.2.1, y.2.2.2 + x.2.2.2) else y)
      else cs ++ [x]
    let d := d.updSkim j (fun s => { s with
      replied := s.replied + 2 ^ i
      sums := addSums s.sums (l.map (fun x => (x.1, x.2.1)))
      cnts := (l.map (fun x => (x.1, x.2.2.1, x.2.2.2.1, x.2.2.2.2))).foldl add s.cnts })
    if (d.skimJ j).replied = 2 ^ 64 - 1 then d.collected j else d

/-- An island receives the collect message: it replies and zeroes its entries. -/
def Die.islandCollect (d : Die) (i j : Nat) : Die :=
  let slots := d.jobSlots j
  let l := slots.map (fun k =>
    let a := sget d.sadd {} (i * 64 + k)
    (k, a.e, a.cnt, a.poisoned, a.nonfin))
  let d := { d with sadd := slots.foldl (fun m k => serase m (i * 64 + k)) d.sadd }
  d.send (islNode i) dkNode (.reply j l)

/-- An issued descriptor's outstanding part is done. -/
def Die.settle (d : Die) (r : DescRef) : Die :=
  d.updQueue r.core r.queue (fun x => { x with infl := x.infl.map (fun e =>
    if e.id = r.id then { e with left := e.left - 1 } else e) })

/-- The adder of island `i` accepts a contribution (09 R268). -/
def Die.acceptPart (d : Die) (i slot : Nat) (sum : Word) (nonfin : Bool) (pois : Nat) (r : DescRef) : Die :=
  Die.settle { d with sadd := supd d.sadd {} (i * 64 + slot) (fun a =>
    { e := a.e.add false (f32 sum), cnt := a.cnt + 1, poisoned := a.poisoned + pois, nonfin := a.nonfin + b2n nonfin }) } r

/-! ## Commands -/

/-- SKIM_CONTRIBUTION (09 R268): the first contribution that has reached island `i`. -/
def execSkimContribution (i : Nat) (s : State) : Host.Outcome State Fault Refusal :=
  s.at_ i (fun d =>
    match d.takeArr (islNode i) (fun m => match m.body with | .skimPart _ _ _ _ _ => true | _ => false) with
    | none => d
    | some (m, d) => match m.body with
      | .skimPart k v nf n r => (d.hear i m.s).acceptPart i k v nf n r
      | _ => d)

/-- COLLECT (09 R271): the collect message that has reached island `i`. -/
def execCollect (i : Nat) (s : State) : Host.Outcome State Fault Refusal :=
  s.at_ i (fun d =>
    match d.takeArr (islNode i) (fun m => match m.body with | .collect _ => true | _ => false) with
    | none => d
    | some (m, d) => match m.body with
      | .collect j => (d.hear i m.s).islandCollect i j
      | _ => d)

/-- An ignored Skim command. -/
def Die.skimIgnored (d : Die) : Die := d.count pgSkim 7

/-- `SKIM_CMD` ENABLE (09 R275, R282). -/
def Die.skimEnable (d : Die) (j : Nat) : Die :=
  let w := d.skimW j 0
  let s := fld w 5 0
  let c := fld w 11 6
  let m := fld w 17 12
  if (d.skimJ j).st ≠ 0 ∨ s = c ∨ s = m ∨ c = m then d.skimIgnored
  else
    let step : DWord := BitVec.ofNat 64 ((d.skimW j 14).toNat * 2 ^ 32 + (d.skimW j 13).toNat)
    ((d.updSkim j (fun x => { x.accumulate with step, inbox := [] })).setCtr pgSkim (0x120 + j) 0).setCtr pgSkim (0x140 + j) 0

/-- `SKIM_CMD` DISABLE (09 R282, 10 R313): a module in FABRIC leaves the exchange. -/
def Die.skimDisable (d : Die) (j : Nat) : Die :=
  let s := d.skimJ j
  let c := d.skimComm j
  let zeros := (d.jobSlots j).map (fun k => (k, ({} : WideElt)))
  let d := if s.st = 3 then
      let own := fld (d.commW c 1) 13 0
      let root := fld (d.commW c 1) 29 16
      let d := if own = root then (d.skimSendAll j 1).1
        else d.sendRouted (c % 16) (d.skimFrame j root false true zeros [0, 0, 0, 0, 1]) false
      d.updPort (c % 16) (fun x => { x with skims := x.skims.filter (fun i => decide (i ≠ j)) })
    else d
  (d.updSkim j (fun x => { x.accumulate with st := 0, inbox := [] })).skimEnterAll

/-- `SKIM_CMD` FORCE_SKIP (09 R282). -/
def Die.forceSkip (d : Die) (j : Nat) : Die :=
  let s := d.skimJ j
  if 1 ≤ s.st ∧ s.st ≤ 3 then (if s.sentRec then d else d.updSkim j (fun x => { x with forced := x.forced + 1 }))
  else d.skimIgnored

/-- `SKIM_CMD` ACK (09 R282). -/
def Die.skimAck (d : Die) (j : Nat) : Die := { d with skimPend := d.skimPend &&& ~~~(BitVec.ofNat 32 (2 ^ j)) }

/-- A write of `SKIM_CMD`. -/
def Die.skimCmd (d : Die) (v : Word) : Die :=
  let j := fld v 4 0
  match fld v 31 29 with
  | 1 => d.skimEnable j
  | 2 => d.skimDisable j
  | 3 => d.forceSkip j
  | 4 => d.skimAck j
  | _ => d

/-- SKIM_ENABLE. -/
def execSkimEnable (ini j : Nat) (s : State) : Host.Outcome State Fault Refusal := s.cplD ini pgSkim 0x10C (fun d => d.skimEnable j)
/-- SKIM_DISABLE. -/
def execSkimDisable (ini j : Nat) (s : State) : Host.Outcome State Fault Refusal := s.cplD ini pgSkim 0x10C (fun d => d.skimDisable j)
/-- FORCE_SKIP. -/
def execForceSkip (ini j : Nat) (s : State) : Host.Outcome State Fault Refusal := s.cplD ini pgSkim 0x10C (fun d => d.forceSkip j)
/-- SKIM_ACK. -/
def execSkimAck (ini j : Nat) (s : State) : Host.Outcome State Fault Refusal := s.cplD ini pgSkim 0x10C (fun d => d.skimAck j)

end Sys2Proof.Machine
end

