-- ==== Sys2Proof/Machine/Circuits.lean ====
section
/-!
DEFINITION. Nodes, links and transit circuits of the Lath: node entries, routes, the mapping of slots, and the circuits
the Deckle opens for fills, write-backs, COPY and the port engines, or for one access of the host window or a descriptor
fetch (07 R208-R213, R221-R223).
-/

namespace Sys2Proof.Machine

/-! ## Nodes and links (07 R208-R212) -/

/-- The node an output leads to: 0 E, 1 W, 2 N, 3 S. -/
def outNode (n o : Nat) : Option Nat :=
  match o with
  | 0 => if cx n < 63 then some (n + 1) else none
  | 1 => if 0 < cx n then some (n - 1) else none
  | 2 => if 0 < cy n then some (n - 64) else none
  | 3 => if cy n < 63 then some (n + 64) else none
  | _ => none

/-- Port code on which what an output sends arrives (Table 7-1). -/
def arrPort (o : Nat) : Nat :=
  match o with
  | 0 => 2
  | 1 => 1
  | 2 => 4
  | _ => 3

/-- The output that leads back to where a port's flits come from. -/
def backOut (port : Nat) : Nat :=
  match port with
  | 1 => 0
  | 2 => 1
  | 3 => 2
  | _ => 3

/-- Node entry of output `o` in slot `s` (07 Table 7-4). -/
def Die.nodeEnt (d : Die) (n o s : Nat) : Word := sget d.nent 0 (n * 96 + o * 16 + s)
/-- `OWNER`. -/
def entOwner (w : Word) : Nat := fld w 18 9
/-- `SRC_PORT`. -/
def entPort (w : Word) : Nat := fld w 6 4
/-- `SRC_SLOT`. -/
def entSlot (w : Word) : Nat := fld w 3 0

/-- Entries of a node, as output and slot, that satisfy `p`. -/
def Die.entries (d : Die) (n : Nat) (p : Nat → Word → Bool) : List (Nat × Nat) :=
  (List.range 96).filterMap (fun i =>
    let w := sget d.nent 0 (n * 96 + i)
    if entOwner w ≠ 0 ∧ p (i % 16) w = true then some (i / 16, i % 16) else none)

/-- Entries that take what arrives on a port in a slot. -/
def Die.takers (d : Die) (n port slot : Nat) : List (Nat × Nat) :=
  d.entries n (fun _ w => decide (entPort w = port) && decide (entSlot w = slot))

/-- Entries that carry the next flit of a stream, injected at port L or R, in slot `s` (07 R216). -/
def Die.injectors (d : Die) (n port s stream : Nat) : List (Nat × Nat) :=
  d.entries n (fun q w => decide (q = s) && decide (entPort w = port) && decide (entOwner w = stream))

/-- The flits that wait at an arrival port (5 and 6: injected), or at a reducer input (7). -/
def Die.atPort (d : Die) (n port : Nat) : List Flit := sget d.links [] (n * 8 + port)
/-- Replace them. -/
def Die.setPort (d : Die) (n port : Nat) (l : List Flit) : Die := { d with links := sset d.links [] (n * 8 + port) l }
/-- Add a flit. -/
def Die.pushFlit (d : Die) (n port : Nat) (f : Flit) : Die := d.setPort n port (d.atPort n port ++ [f])
/-- Add flits. -/
def Die.pushFlits (d : Die) (n port : Nat) (l : List Flit) : Die := d.setPort n port (d.atPort n port ++ l)

/-- The 64 bytes of a flit. -/
def Flit.bytes (f : Flit) : List Byte := f.data.flatMap (fun w => leBytes 4 w.toNat)

/-- Payload words of a flit that carries `bs`. -/
def flitWords (bs : List Byte) : List Word := (List.range 16).map (fun i => word (leNat ((bs.drop (4 * i)).take 4)))

/-- A flit that reaches island `i` is discarded at its wrapper (07 R220). -/
def Die.wrapShut (d : Die) (i : Nat) : Bool := (d.ist i).inReset || (d.ist i).isolated || !(d.ist i).locked

/-- Seam lane and direction of an output, if it crosses the seam: row * 2, plus 1 for westward. -/
def seamLane (n o : Nat) : Option Nat :=
  if cx n = 31 ∧ o = 0 then some (cy n * 2) else if cx n = 32 ∧ o = 1 then some (cy n * 2 + 1) else none

/-- Lane and direction whose flits arrive at a port, if it lies on the seam. -/
def seamInto (n port : Nat) : Option Nat :=
  if cx n = 32 ∧ port = 2 then some (cy n * 2) else if cx n = 31 ∧ port = 1 then some (cy n * 2 + 1) else none

/-- The receiving node of a seam lane has forwarded `k` flits: their credits are on the way back (07 R231). -/
def Die.seamFreed (d : Die) (n port k : Nat) : Die :=
  match seamInto n port with
  | none => d
  | some l => { d with seamBack := sset d.seamBack 0 l (sget d.seamBack 0 l + k) }

/-- The bank plan gives the bank of a frame to the Lath port in a slot (05 R136). -/
def Die.lathBank (d : Die) (n s frame : Nat) : Bool :=
  let b := frame % 32 / 2
  fld (d.planWord n s) (2 * b + 1) (2 * b) = 3

/-! ## Routes (01 Table 1-2, 07 R221) -/

/-- Attachment of a stack (0-7) or of a port (8 + p): edge 0 W, 1 N, 2 E, 3 S, first position, links
(01 Table 1-2). -/
def attachment (a : Nat) : Nat × Nat × Nat :=
  if a < 8 then (a / 2, if a % 2 = 0 then 0 else 40, 24) else ((a - 8) / 4, 24 + 4 * ((a - 8) % 4), 4)

/-- Steps from one node to another along one line: the nodes left and the outputs used. -/
def straight (n o : Nat) : Nat → List (Nat × Nat)
  | 0 => []
  | k + 1 => (n, o) :: (match outNode n o with
    | none => []
    | some m => straight m o k)

/-- Steps along the row to a column. -/
def alongRow (m x : Nat) : List (Nat × Nat) := if cx m < x then straight m 0 (x - cx m) else straight m 1 (cx m - x)
/-- Steps along the column to a row. -/
def alongCol (m y : Nat) : List (Nat × Nat) := if cy m < y then straight m 3 (y - cy m) else straight m 2 (cy m - y)

/-- Edge node where a circuit of an attachment to a target enters, and the port code of the edge. -/
def edgeEntry (a n : Nat) : Nat × Nat :=
  let t := attachment a
  let row := t.1 % 2 = 0
  let p := if row then cy n else cx n
  let e := t.2.1 + ((p + t.2.2 * 64 - t.2.1) % t.2.2)
  if t.1 = 0 then (coreAt 0 e, 2) else if t.1 = 1 then (coreAt e 0, 3)
  else if t.1 = 2 then (coreAt 63 e, 1) else (coreAt e 63, 4)

/-- Outputs of a circuit from an attachment to a target node, the last one L. -/
def fillRoute (a n : Nat) : List (Nat × Nat) :=
  let e := (edgeEntry a n).1
  let row := (attachment a).1 % 2 = 0
  (if row then alongRow e (cx n) ++ alongCol (coreAt (cx n) (cy e)) (cy n)
   else alongCol e (cy n) ++ alongRow (coreAt (cx e) (cy n)) (cx n)) ++ [(n, 4)]

/-- The same path in reverse: from L of the node out of the edge link. -/
def wbRoute (a n : Nat) : List (Nat × Nat) :=
  let f := fillRoute a n
  let e := edgeEntry a n
  let back := (f.filter (fun x => decide (x.2 < 4))).reverse.filterMap (fun x =>
    match outNode x.1 x.2 with
    | none => none
    | some m => some (m, arrPort x.2 - 1))
  back ++ [(e.1, e.2 - 1)]

/-- The path of a COPY between two slices: along the row, then along the column. -/
def copyRoute (m n : Nat) : List (Nat × Nat) :=
  alongRow m (cx n) ++ alongCol (coreAt (cx n) (cy m)) (cy n) ++ [(n, 4)]

/-- Attachment by which the host window reaches a slice: stack 0 in the west half, stack 4 in the east half. -/
def windowStack (n : Nat) : Nat := if westCore n then 0 else 4

/-! ## Slots a circuit can use (07 R213, R222) -/

/-- A region being placed or placed covers a node. -/
def Die.covered (d : Die) (n : Nat) : Option Nat :=
  let hit (r : Region) : Bool := decide (r.x ≤ cx n) && decide (cx n < r.x + r.w) && decide (r.y ≤ cy n) && decide (cy n < r.y + r.h)
  match (List.range 64).find? (fun k => match d.region k with
      | some r => hit r
      | none => false) with
  | some k => some k
  | none => match d.dk.cmd with
    | .placing k r _ => if hit r then some k else none
    | _ => none

/-- A placed region owns the plan slots of an output (07 R213). -/
def Die.planOwned (d : Die) (n o : Nat) : Bool :=
  match d.covered n with
  | none => false
  | some k => if 4 ≤ o then true else match outNode n o with
    | none => false
    | some m => decide (d.covered m = some k)

/-- Slot `s` of an output is free and usable by a circuit (07 R222). -/
def Die.slotFree (d : Die) (n o s : Nat) : Bool :=
  decide (d.nodeEnt n o s = 0) && (decide (12 ≤ s) || (o < 4 && (outNode n o).isNone) || !d.planOwned n o)

/-- Slots of an edge link into a node that no circuit uses. -/
def Die.edgeFree (d : Die) (n port : Nat) : List Nat := (List.range 16).filter (fun s => d.takers n port s = [])

/-- First free usable slot of an output after `p` that is not in `used`; `skip` slots are passed over first. An L slot
must satisfy `okL`. -/
def Die.nextSlot (d : Die) (n o p skip : Nat) (used : List Nat) (okL : Nat → Bool) : Option Nat :=
  ((List.range 16).map (fun k => (p + 1 + skip + k) % 16)).find? (fun s =>
    d.slotFree n o s && !used.contains s && (decide (o ≠ 4) || okL s))

/-- Map the slots `ps` of an arrival onto an output. -/
def Die.mapSlots (d : Die) (n o skip : Nat) (okL : Nat → Bool) (ps : List Nat) : Option (List Nat) :=
  ps.foldl (fun (acc : Option (List Nat)) p => match acc with
    | none => none
    | some l => match d.nextSlot n o p skip l okL with
      | none => none
      | some s => some (l ++ [s])) (some [])

/-- Slots passed over first where an output crosses into another island (07 R219). -/
def crossSkip (n o : Nat) : Nat :=
  match outNode n o with
  | some m => if islOf m = islOf n then 0 else 3
  | none => 0

/-- Map `ps` along a route: for each output its arrival port and the slots before and after. -/
def Die.mapRoute (d : Die) (okL : Nat → Bool) : List (Nat × Nat) → Nat → Nat → List Nat →
    Option (List (Nat × Nat × Nat × List Nat × List Nat))
  | [], _, _, _ => some []
  | (n, o) :: t, port, skip, ps =>
    match d.mapSlots n o skip okL ps with
    | none => none
    | some qs =>
      match d.mapRoute okL t (arrPort o) (crossSkip n o) qs with
      | none => none
      | some r => some ((n, o, port, ps, qs) :: r)

/-- Map `k` slots along a route that starts at an edge link's port, or at L (port 5): the lowest-numbered free slots of
its first link, and onward from there. -/
def Die.mapFrom (d : Die) (route : List (Nat × Nat)) (src : Nat × Nat) (okL : Nat → Bool) (k : Nat) :
    Option (List (Nat × Nat × Nat × List Nat × List Nat)) :=
  if src.2 = 5 then
    match route with
    | [] => none
    | (n, o) :: t =>
      let free := (List.range 16).filter (fun s => d.slotFree n o s && (decide (o ≠ 4) || okL s))
      if free.length < k then none
      else match d.mapRoute okL t (arrPort o) (crossSkip n o) (free.take k) with
        | none => none
        | some r => some ((n, o, 5, free.take k, free.take k) :: r)
  else
    let free := d.edgeFree src.1 src.2
    if free.length < k then none else d.mapRoute okL route src.2 0 (free.take k)

/-- Seam lane limit for the two levels, in slots (07 Table 7-8). -/
def seamLimit (a b : Nat) : Nat :=
  match min a b, max a b with
  | 0, 1 => 14
  | 0, 2 => 10
  | 0, 3 => 7
  | 1, 2 => 12
  | 1, 3 => 8
  | 2, 3 => 10
  | _, _ => 16

/-- Slots that open circuits hold on the seam output of a node. -/
def Die.seamHeld (d : Die) (n o : Nat) : Nat := ((List.range 16).filter (fun s => decide (512 ≤ entOwner (d.nodeEnt n o s)))).length

/-- The seam lanes of a route have room for `k` more slots (07 R233). -/
def Die.seamRoom (d : Die) (route : List (Nat × Nat)) (k : Nat) : Bool :=
  route.all (fun x => match seamLane x.1 x.2 with
    | none => true
    | some _ => decide (d.seamHeld x.1 x.2 + k ≤ seamLimit d.pw.levW d.pw.levE))

/-- The largest mapping of a route, `k` slots or fewer. -/
def Die.mapBest (d : Die) (route : List (Nat × Nat)) (src : Nat × Nat) (okL : Nat → Bool) :
    Nat → Option (Nat × List (Nat × Nat × Nat × List Nat × List Nat))
  | 0 => none
  | k + 1 =>
    match (if d.seamRoom route (k + 1) then d.mapFrom route src okL (k + 1) else none) with
    | some m => some (k + 1, m)
    | none => d.mapBest route src okL k

/-- A circuit can run along the route: no island on it is in reset, and no bank plan is pending at its target
(07 R223, 05 R162). -/
def Die.routeOpen (d : Die) (route : List (Nat × Nat)) (node : Option Nat) : Bool :=
  route.all (fun x => !d.wrapShut (islOf x.1)) && (match node with
    | some n => decide (sget d.heldPlan [] n = [])
    | none => true)

/-! ## Opening and closing (07 R222, R223) -/

/-- What is counted when a circuit opens: the circuit, and whether it is paced at the seam (07 Table 7-12). -/
def Die.countCircuit (d : Die) (route : List (Nat × Nat)) : Die :=
  let d := d.count pgDk 0xA
  if route.any (fun x => (seamLane x.1 x.2).isSome) ∧ d.pw.levW ≠ d.pw.levE then d.count pgDk 0xD else d

/-- The lowest free circuit number. -/
def Die.freeCircuit (d : Die) : Option Nat := (List.range 512).find? (fun k => d.circs.all (fun c => decide (c.id ≠ 512 + k)))

/-- The node entries of a mapped circuit: position and word. -/
def circEnts (id : Nat) (m : List (Nat × Nat × Nat × List Nat × List Nat)) : List (Nat × Word) :=
  m.flatMap (fun x => (List.zip x.2.2.2.1 x.2.2.2.2).map (fun pq =>
    (x.1 * 96 + x.2.1 * 16 + pq.2, packW [(9, id), (4, x.2.2.1), (0, if 5 ≤ x.2.2.1 then 0 else pq.1)])))

/-- Set up the circuit `c`, whose number is still to be chosen, along a route of at most `ask` slots: its entries are
reserved, and the Deckle sends a message to every node of the route. None when nothing maps. -/
def Die.openWith (d : Die) (c : Circ) (route : List (Nat × Nat)) (src : Nat × Nat) (okL : Nat → Bool) (ask : Nat) : Option (Die × Nat) :=
  match (if d.routeOpen route c.node then d.mapBest route src okL ask else none), d.freeCircuit with
  | some (k, m), some i =>
    let ents := circEnts (512 + i) m
    let nodes := (route.map (fun x => x.1)).dedup
    let slots := match m with
      | [] => []
      | x :: _ => x.2.2.2.1
    let d : Die := { d with
      nent := ents.foldl (fun mm x => sset mm 0 x.1 x.2) d.nent
      circs := d.circs ++ [{ c with id := 512 + i, ents := ents.map (fun x => x.1), isls := (nodes.map islOf).dedup, k, src, slots, unacked := nodes }] }
    some (nodes.foldl (fun d v => d.send dkNode v (.circuit (512 + i) false)) (d.countCircuit route), 512 + i)
  | _, _ => none

/-- Change the circuit of a number. -/
def Die.updCirc (d : Die) (id : Nat) (f : Circ → Circ) : Die :=
  { d with circs := d.circs.map (fun c => if c.id = id then f c else c) }

/-- The circuit of a number. -/
def Die.circ (d : Die) (id : Nat) : Option Circ := d.circs.find? (fun c => decide (c.id = id))

/-- Give a circuit the units of a sheet to carry, for frame and sheet address `g`. -/
def Die.loadCirc (d : Die) (id g : Nat) (units : List (Nat × List Byte)) (ref : DescRef) (p : Option Poison) : Die :=
  let fl := units.map (fun u => ({ stream := id, kind := 0, addr := g % 512 * 1024 + u.1 * 8, data := flitWords u.2, ref, poison := p } : Flit))
  d.updCirc id (fun c => { c with hold := fl, left := fl.length })

/-- Cut an image of a sheet (05 R146) into its units. -/
def imageUnits (bs : List Byte) : List (Nat × List Byte) :=
  (List.range (bs.length / 64)).map (fun u => (u, (bs.drop (64 * u)).take 64))

/-- Every node has acknowledged a circuit: its flits enter at its first link. -/
def Die.startCirc (d : Die) (c : Circ) : Die :=
  let fl := (List.range c.hold.length).map (fun i =>
    { c.hold.getD i {} with slot := if c.src.2 = 5 then 0 else c.slots.getD (i % max 1 c.k) 0 })
  (d.updCirc c.id (fun c => { c with hold := [] })).pushFlits c.src.1 c.src.2 fl

/-- Node `v` has acknowledged circuit `id`. -/
def Die.ackCircuit (d : Die) (id v : Nat) : Die :=
  match d.circ id with
  | none => d
  | some c =>
    let rest := c.unacked.filter (fun x => decide (x ≠ v))
    let d := d.updCirc id (fun c => { c with unacked := rest })
    if rest = [] ∧ c.unacked ≠ [] then d.startCirc c else d

/-- The flits of circuits that are gone leave the links; those at the seam give their credits back. -/
def Die.purge (d : Die) (gone : List Nat) : Die :=
  let dead (f : Flit) : Bool := gone.contains f.stream
  let d := d.links.foldl (fun d x => d.seamFreed (x.1 / 8) (x.1 % 8) (x.2.filter dead).length) d
  { d with
    links := (d.links.map (fun x => (x.1, x.2.filter (fun f => !dead f)))).filter (fun x => decide (x.2 ≠ []))
    seamWait := (d.seamWait.map (fun x => (x.1, x.2.filter (fun f => !dead f)))).filter (fun x => decide (x.2 ≠ [])) }

/-- Close the circuits that satisfy `p`: their entries are freed. -/
def Die.closeCircuits (d : Die) (p : Circ → Bool) : Die :=
  let out := d.circs.filter p
  let left := d.circs.filter (fun c => !p c)
  let d : Die := { d with
    nent := (out.flatMap (fun c => c.ents)).foldl serase d.nent, circs := left
    heldPlan := skeep d.heldPlan (fun n => left.any (fun c => decide (c.node = some n))) }
  if out = [] then d else d.purge (out.map (fun c => c.id))

/-- Circuits that satisfy `p` close before they have carried their sheets, which are sent again (07 R223). -/
def Die.cutCircuits (d : Die) (p : Circ → Bool) : Die :=
  ((d.circs.filter p).foldl (fun d _ => d.count pgDk 0xC) d).closeCircuits p

/-! ## A circuit of one access (07 R221, R222) -/

/-- The Deckle opens circuits: its island runs, and the module neither enters sleep nor is switched off
(13 R392, 15 R441). -/
def Die.mayOpen (d : Die) : Bool := d.live 89 && !d.workHeld

/-- A circuit of one slot can open from attachment `a` to node `n`, into its slice when `node` is `n`. -/
def Die.oneShot (d : Die) (a n : Nat) (node : Option Nat) (okL : Nat → Bool) : Bool :=
  d.mayOpen && d.routeOpen (fillRoute a n) node && (d.mapBest (fillRoute a n) (edgeEntry a n) okL 1).isSome && d.freeCircuit.isSome

/-- A flit is dropped at a node: counted, latched and traced (07 R218). -/
def Die.noteDrop (d : Die) (n stream : Nat) : Die := ((d.count (pgIsl (islOf n)) 1).islErr (islOf n) 2).trace (islOf n) 6 (word stream)

/-- A circuit of one slot opens, carries `k` flits to node `n`, and closes; one of them is dropped at node `v`, if that
lies on the route. Answers whether one was. -/
def Die.oneShotRun (d : Die) (a n k : Nat) (v : Option Nat) : Die × Bool :=
  let nodes := ((fillRoute a n).map (fun x => x.1)).dedup
  let lost := v.filter nodes.contains
  let passed := match lost with
    | none => nodes
    | some v => nodes.takeWhile (fun m => decide (m ≠ v))
  let d := passed.foldl (fun d m => d.count (pgIsl (islOf m)) 0xA k) (d.countCircuit (fillRoute a n))
  match lost with
  | none => (d, false)
  | some v => (d.noteDrop v (512 + d.freeCircuit.getD 0), true)

end Sys2Proof.Machine
end

