-- ==== Sys2Proof/Machine/FabricColl.lean ====
section
/-!
DEFINITION. Collectives at the port engines: checks at issue, windows, grants, contributions, results, the sheets
moved to and from the Vat in circuits, failure and completion (10 R286, R305-R312).
-/

namespace Sys2Proof.Machine

/-! ## At issue (10 R306) -/

/-- Form of a COLL: 1 for W192. -/
def collForm (x : Desc) : Nat := if dOpc x = opcColl then dOpx x 3 3 else 0

/-- Operation of a COLL or GATHER: a GATHER is an all-gather. -/
def collOp (x : Desc) : Nat := if dOpc x = opcGather then 2 else dOpx x 2 0

/-- Faults of a COLL or GATHER at issue (10 R306). -/
def Die.collFault (d : Die) (j : Nat) (x : Desc) : Option (Nat × Nat) :=
  let c := collComm x
  let w0 := d.commW c 0
  let k := dK x
  let sh := d.collSheets x
  let red := collOp x ≤ 1
  if 4096 ≤ c ∨ bit w0 31 = false ∨ (c ≠ 0 ∧ fld w0 30 26 ≠ j) then some (stUnmapped, 0)
  else if c ≠ 0 ∧ fld (d.commW c 4) 31 16 ≠ d.fab.epoch then some (stAborted, bdEpoch)
  else if bit d.fab.fence j then some (stAborted, bdFenced)
  else if k % max 1 (d.commG c) ≠ 0 ∨ (decide (sh.1 = 0) != absentOp x 1) ∨ (decide (sh.2 = 0) != absentOp x 3) then
    some (stAborted, bdField)
  else if (red ∧ dFmtA x = 0 ∧ dFmtB x = 2) ∨ (¬red ∧ (dFmtA x ≠ 0 ∨ dFmtB x ≠ 0)) then some (stAborted, bdFmt)
  else none

/-- Port engine of a core's region (10 R311); a core in no region uses engine 0. -/
def Die.engineOfCore (d : Die) (n : Nat) : Nat :=
  match d.regionOf n with
  | some (r, _) => r % 16
  | none => 0

/-- The collective a descriptor that issues starts; it takes the entry's next sequence number (10 R306). -/
def Die.newColl (d : Die) (n q : Nat) (e : Infl) : Die × Coll :=
  let x := e.d
  let c := collComm x
  let w4 := d.commW c 4
  let d := { d with comms := sset d.comms 0 (c * 8 + 4) (setFld w4 15 0 ((fld w4 15 0 + 1) % 65536)) }
  (d, { ref := { core := n, queue := q, id := e.id }, comm := c, seq := fld w4 15 0, op := collOp x,
        fmt := dFmtA x + 16 * dFmtB x, form := collForm x, k := dK x, g := max 1 (d.commG c),
        rank := fld (d.commW c 1) 13 0, root := fld (d.commW c 1) 29 16, job := e.job, tag := dTag x,
        pass := e.pass, isGather := decide (dOpc x = opcGather), vsnA := e.vsn 1, vsnOut := e.vsn 3 })

/-! ## Indices -/

/-- `S`. -/
def Coll.s (c : Coll) : Nat := c.k / c.g
/-- A reduction. -/
def Coll.red (c : Coll) : Bool := c.op ≤ 1
/-- The rank that owns, or holds the source of, collective index `i`. -/
def Coll.holder (c : Coll) (i : Nat) : Nat := if c.op = 3 then c.root else if c.s = 0 then 0 else i / c.s
/-- Virtual sheet of the source of index `i` at this rank. -/
def Coll.srcSheet (c : Coll) (i : Nat) : Nat := c.vsnA + (if c.red ∨ c.op = 3 then i else i % max 1 c.s)
/-- Virtual sheet of index `i` in OUT at this rank. -/
def Coll.outSheet (c : Coll) (i : Nat) : Nat := c.vsnOut + (if c.op = 1 then i - c.rank * c.s else i)
/-- Indices due in OUT at this rank. -/
def Coll.due (c : Coll) : List Nat :=
  match c.op with
  | 1 => (List.range c.s).map (fun i => c.rank * c.s + i)
  | 4 => if c.rank = c.root then List.range c.k else []
  | _ => List.range c.k
/-- Source format: elements per sheet and vectors. -/
def Coll.fmtA (c : Coll) : Nat := c.fmt % 16
/-- Delivery format. -/
def Coll.fmtB (c : Coll) : Nat := c.fmt / 16
/-- Elements of a source sheet: 1,024 of fp32, 2,048 of bf16. -/
def Coll.elts (c : Coll) : Nat := if c.fmtA = 2 then 1024 else 2048
/-- Tiles of a window (10 R308). -/
def Coll.window (c : Coll) (w320 : Bool) : Nat := 2040 * 1024 / (c.elts * (if w320 then 40 else 24))
/-- Phase-1 sheets this rank sends in all. -/
def Coll.sends (c : Coll) : Nat :=
  match c.op with
  | 0 => (c.g - 1) * c.s
  | 1 => 0
  | 2 => (c.g - 1) * c.s
  | 3 => if c.rank = c.root then (c.g - 1) * c.k else 0
  | _ => if c.rank = c.root then 0 else c.s

/-- The global sheet of a virtual sheet whose page the collective's descriptor may use. -/
def Die.usableSheet (d : Die) (c : Coll) (v : Nat) : Option Nat :=
  match d.liveKey c.job (v / 16) with
  | none => none
  | some k => if d.usable (d.dueOf c.ref) k then d.sheetOf c.job v else none

/-! ## Frames of a collective -/

/-- Words 3 to 6 of a DATA SHEET or COLL frame. -/
def Coll.words (c : Coll) (sub phase idx : Nat) (nf : Bool) : List Word :=
  [packW [(28, sub), (27, b2n nf), (0, (c.comm * 4096 + idx % 4096) % 2 ^ 24)],
   packW [(16, c.seq), (14, phase), (0, c.rank)],
   packW [(20, c.comm), (0, idx % 65536)],
   packW [(24, c.fmt), (23, c.form), (20, c.op), (0, c.k)]]

/-- Send a COLL frame to rank `r`. -/
def Die.collSend (d : Die) (p : Nat) (c : Coll) (r sub phase first count reason : Nat) : Die :=
  d.sendRouted p (d.mkFrame 7 0 (d.member c.comm r)
    (c.words sub phase first false ++ [packW [(16, first), (0, count)], packW [(0, reason)]]) []) false

/-- The other ranks. -/
def Coll.others (c : Coll) : List Nat := (List.range c.g).filter (fun r => decide (r ≠ c.rank))

/-- A COLL frame to every other rank. -/
def Die.collSendAll (d : Die) (p : Nat) (c : Coll) (sub phase first count reason : Nat) : Die :=
  c.others.foldl (fun d r => d.collSend p c r sub phase first count reason) d

/-- Send a sheet's image to rank `r`. -/
def Die.sheetSend (d : Die) (p : Nat) (c : Coll) (r phase idx : Nat) (nf : Bool) (bs : List Byte) : Die :=
  (d.sendRouted p (d.mkFrame 1 2 (d.member c.comm r) (c.words 0 phase idx nf) bs) false).count (pgPort p) 0x11

/-! ## Sheets moved to and from the Vat (10 R286, 07 R221) -/

/-- A sheet the engine reads for a collective, or writes with an image. -/
def Coll.move (c : Coll) (step : PeStep) (g : Nat) (out : Bool) (image : List Byte := []) (poison : Option Poison := none) : PeMove :=
  { step, comm := c.comm, seq := c.seq, g, out, image, poison }

/-- The move belongs to the collective. -/
def PeMove.of (m : PeMove) (c : Coll) : Bool := decide (m.comm = c.comm) && decide (m.seq = c.seq)

/-- Moves wait for their circuits. -/
def Die.addMoves (d : Die) (p : Nat) (ms : List PeMove) : Die := d.updPort p (fun x => { x with moves := x.moves ++ ms })

/-- The moves of a collective end, and the circuits that carry them. -/
def Die.dropMoves (d : Die) (p : Nat) (c : Coll) : Die :=
  (d.updPort p (fun x => { x with moves := x.moves.filter (fun m => !m.of c) })).closeCircuits (fun y => match y.port with
    | some (q, m) => decide (q = p) && m.of c
    | none => false)

/-! ## Windows at the owner -/

/-- The fp32 values of a source sheet's elements. -/
def sheetElts (fmt : Nat) (bs : List Byte) : List Num :=
  if fmt = 2 then (List.range 1024).map (fun i => (fmtOf 2).decode (leNat ((bs.drop (4 * i)).take 4)))
  else (List.range 2048).map (fun i => (fmtOf 0).decode (leNat ((bs.drop (2 * i)).take 2)))

/-- The poison record that arrives in a sheet's check area. -/
def imagePoison (bs : List Byte) : Option Poison :=
  let w (i : Nat) : Word := word (leNat ((bs.drop (4096 + 64 + 4 * (i - 48))).take 4))
  if bit (w 61) 31 then
    some { cause := fld (w 61) 27 24, depth := fld (w 61) 23 16, tag := fld (w 62) 31 16, core := fld (w 62) 11 0,
           island := fld (w 63) 6 0 }
  else none

/-- Add a contribution of rank `r` to index `idx` of a window. -/
def Win.contribute (w : Win) (c : Coll) (r idx : Nat) (vals : List Num) (p : Option Poison) : Win :=
  if w.got.contains (r, idx) then w
  else
    let base := (idx - w.first) * 2048
    { w with
      got := w.got ++ [(r, idx)]
      elts := (List.range c.elts).foldl (fun m i =>
        supd m {} (base + i) (fun e => e.add (!w.wide) (vals.getD i .nan))) w.elts
      pz := supd w.pz none idx (fun q => mergePoison [q, p]) }

/-- A window has every contribution. -/
def Win.full (w : Win) (c : Coll) : Bool := w.got.length = c.g * w.count

/-- Open the next window, if the reducer and the own sources allow it (10 R308 step 1, R309). -/
def Die.openWin (d : Die) (p : Nat) (c : Coll) : Die × Coll :=
  if !c.red ∨ 2 ≤ c.wins.length then (d, c)
  else
    let pick : Option (Nat × Nat × Bool × Coll) :=
      match c.again with
      | (f, n) :: t =>
        let m := min n (c.window true)
        some (f, m, true, { c with again := if n ≤ m then t else (f + m, n - m) :: t })
      | [] =>
        if c.opened < c.s then
          let wide := decide (c.form = 0)
          let m := min (c.s - c.opened) (c.window wide)
          some (c.rank * c.s + c.opened, m, wide, { c with opened := c.opened + m })
        else none
    match pick with
    | none => (d, c)
    | some (f, n, wide, c') =>
      let srcs := (List.range n).map (fun i => d.usableSheet c (c.srcSheet (f + i)))
      if srcs.any Option.isNone then (d, c)
      else
        let ms := (List.range n).filterMap (fun i => (srcs.getD i none).map (fun g => c.move (.contrib (f + i)) g true))
        ((d.addMoves p ms).collSendAll p c' 0 0 f n 0, { c' with wins := c'.wins ++ [{ first := f, count := n, wide }] })

/-- Records of a landed or delivered sheet: cause FABRIC in place of INHERITED (10 R310). -/
def fabricPoison (p : Option Poison) : Option Poison := (inherit p).map (fun q => { q with cause := 5 })

/-- Writer of a port engine. -/
def Coll.writer (c : Coll) : Writer := { job := c.job, tag := c.tag, queue := c.ref.queue % 4, pass := c.pass }

/-- The image of index `idx` of a window as it is delivered, and whether a value is non-finite (02 R48, 10 R307). -/
def Coll.result (c : Coll) (w : Win) (idx : Nat) : List Byte × Bool :=
  let base := (idx - w.first) * 2048
  let f := c.fmtB
  let codes := (List.range c.elts).map (fun i => (fmtOf f).narrow .rne ((sget w.elts {} (base + i)).value (!w.wide)))
  let bs := codes.flatMap (fun x => leBytes (fmtBits f / 8) x)
  let head := leBytes 4 (pack [(24, 2 ^ (vecsPerSheet f / 32) - 1), (0, f)])
  ((bs ++ List.replicate (4096 - bs.length) 0).take 4096 ++ head ++ List.replicate 124 0,
    codes.any (fun x => ((fmtOf f).decode x).nonfinite))

/-- A phase-1 result of the window is still to be sent to a rank that has asked for it. -/
def Die.winSends (d : Die) (p : Nat) (c : Coll) (w : Win) : Bool :=
  let in_ (i : Nat) : Bool := decide (w.first ≤ i) && decide (i < w.first + w.count)
  c.toSend.any (fun t => decide (t.2.1 = 1) && in_ t.2.2) ||
    (d.port p).moves.any (fun m => m.of c && (match m.step with
      | .send _ 1 i _ => in_ i
      | _ => false))

/-- A full window: REPEAT when a W192 tile shows `OOW`, else its results go to OUT once OUT is there; when they have
landed, and have gone to the ranks that have asked for them, FINAL ends it (10 R308 step 3, R309). The flag says that
the window is gone. -/
def Die.closeWin (d : Die) (p : Nat) (c : Coll) (w : Win) : Die × Coll × Bool :=
  let ids := (List.range w.count).map (fun i => w.first + i)
  let keep (w' : Win) : Coll := { c with wins := c.wins.map (fun v => if v.first = w.first then w' else v) }
  if w.done then
    if ids.all (fun i => sget c.landed false i) ∧ !d.winSends p c w then (d.collSendAll p c 1 0 w.first w.count 0, c, true)
    else (d, c, false)
  else if !w.full c then (d, c, false)
  else if !w.wide ∧ w.elts.any (fun e => e.2.oow) then
    ((d.collSendAll p c 2 0 w.first w.count 0).count (pgPort p) 0x13,
      { c with again := c.again ++ [(w.first, w.count)] }, true)
  else
    let outs := ids.map (fun i => d.usableSheet c (c.outSheet i))
    if outs.any Option.isNone then (d, c, false)
    else
      let ms := ids.filterMap (fun i => (outs.getD (i - w.first) none).map (fun g =>
        c.move (.result i (c.result w i).2) g false (c.result w i).1 (sget w.pz none i)))
      (d.addMoves p ms, keep { w with done := true, elts := [] }, false)

/-- Close every window that can close. -/
def Die.closeWins (d : Die) (p : Nat) (c : Coll) : Die × Coll :=
  c.wins.foldl (fun (acc : Die × Coll) w =>
    let y := acc.1.closeWin p acc.2 w
    (y.1, if y.2.2 then { y.2.1 with wins := y.2.1.wins.filter (fun v => decide (v.first ≠ w.first)) } else y.2.1)) (d, c)

/-! ## Sending, granting and local copies -/

/-- Read the granted sheets whose source is there, to be sent (10 R308 steps 2 to 4). -/
def Die.sendSheets (d : Die) (p : Nat) (c : Coll) : Die × Coll :=
  if d.workHeld then (d, c)
  else c.toSend.foldl (fun (acc : Die × Coll) t =>
    let i := t.2.2
    let src := if t.2.1 = 0 ∨ !c.red then acc.1.usableSheet c (c.srcSheet i)
      else if sget acc.2.landed false i then acc.1.usableSheet c (c.outSheet i) else none
    match src with
    | none => (acc.1, { acc.2 with toSend := acc.2.toSend ++ [t] })
    | some g => (acc.1.addMoves p [c.move (.send t.1 t.2.1 i (decide (t.2.1 = 1) && sget acc.2.nfIdx false i)) g true], acc.2))
    (d, { c with toSend := [] })

/-- Ask for the sheets due from other ranks whose OUT page is there, in windows of at most 64 sheets
(10 R308 step 4). -/
def Die.askSheets (d : Die) (p : Nat) (c : Coll) : Die × Coll :=
  c.due.foldl (fun (acc : Die × Coll) i =>
    if sget acc.2.asked false i ∨ c.holder i = c.rank ∨ (acc.1.usableSheet c (c.outSheet i)).isNone then acc
    else
      let run := ((List.range 64).map (fun k => i + k)).takeWhile (fun k =>
        c.due.contains k && !sget acc.2.asked false k && decide (c.holder k = c.holder i) &&
          (acc.1.usableSheet c (c.outSheet k)).isSome)
      (acc.1.collSend p c (c.holder i) 0 1 i run.length 0,
        { acc.2 with asked := run.foldl (fun m k => sset m false k true) acc.2.asked })) (d, c)

/-- Copy the sheets whose source is this rank's own: read, then written. -/
def Die.ownCopies (d : Die) (p : Nat) (c : Coll) : Die × Coll :=
  if c.red then (d, c)
  else c.due.foldl (fun (acc : Die × Coll) i =>
    if c.holder i ≠ c.rank ∨ sget acc.2.asked false i then acc
    else match acc.1.usableSheet c (c.srcSheet i), acc.1.usableSheet c (c.outSheet i) with
      | some a, some b =>
        if a = b then (acc.1, { acc.2 with
          asked := sset acc.2.asked false i true, landed := sset acc.2.landed false i true
          poison := mergePoison [acc.2.poison, acc.1.sheetPoison a] })
        else (acc.1.addMoves p [c.move (.own i) a true], { acc.2 with asked := sset acc.2.asked false i true })
      | _, _ => acc) (d, c)

/-! ## Completion and failure (10 R310, R312) -/

/-- A frame of the collective waits at a port or is not acknowledged, or was lost before that (10 R310). -/
def Die.unacked (d : Die) (c : Coll) : Bool :=
  c.lost || d.ports.any (fun x => (x.2.txq.map (fun y => y.1) ++ x.2.replay.map (fun y => y.1)).any (c.owns d.fab.addr))

/-- Every condition of R310 holds, and every sheet due from this rank has been sent (log 21). -/
def Die.collDone (d : Die) (p : Nat) (c : Coll) : Bool :=
  !(d.port p).moves.any (fun m => m.of c) &&
  c.due.all (fun i => sget c.landed false i) && c.toSend.isEmpty && c.wins.isEmpty && c.again.isEmpty &&
    (!c.red || (decide (c.opened = c.s) && decide (c.finals = (c.g - 1) * c.s))) && decide (c.sends ≤ c.sent1) &&
    !d.unacked c

/-- The engine's collective ends: the descriptor may complete. -/
def Die.collEnd (d : Die) (p : Nat) (c : Coll) : Die :=
  let d := d.updPort p (fun x => { x with coll := none })
  let d := if c.sec = 0 then d.count (pgPort p) 0x10 else d
  if c.sec = 1 then d.updSg (fun s => { s with sendSt := if c.poison.isSome then 3 else 2 })
  else if c.sec = 2 then d.updSg (fun s => { s with recvSt := if c.poison.isSome then 3 else 2 })
  else d.updQueue c.ref.core c.ref.queue (fun x => { x with infl := x.infl.map (fun e =>
    if e.id = c.ref.id then { e with left := 0, nonfin := e.nonfin || c.nf, poison := mergePoison [e.poison, c.poison] } else e) })

/-- A collective fails with a reason; `told` when the failure came from another rank's ABORT. -/
def Die.collFail (d : Die) (p : Nat) (reason : Nat) (told : Bool) : Die :=
  match (d.port p).coll with
  | none => d
  | some c =>
    let d := if told then d else d.collSendAll p c 3 0 0 0 reason
    let rec_ : Poison := { cause := 5, island := 72 + p }
    let d := c.due.foldl (fun d i =>
      if sget c.landed false i then d
      else match d.sheetOf c.job (c.outSheet i) with
        | none => d
        | some g => (d.markPoison g rec_ (d.job c.job).attempt).dirtyFrame g) d
    let d := (d.updPort p (fun x => { x with peFailV := true, peFail := (reason, c.seq) })).count (pgPort p) 0x14
    (d.dropMoves p c).collEnd p { c with poison := mergePoison [c.poison, some rec_] }

/-- A collective that waits in the engine's slot fails. -/
def Die.failWaiting (d : Die) (p : Nat) (c : Coll) (reason : Nat) (told : Bool) : Die :=
  let now := (d.port p).coll
  let d := d.updPort p (fun x => { x with coll := some c, waiting := x.waiting.filter (fun y => decide (y ≠ c)) })
  (d.collFail p reason told).updPort p (fun x => { x with coll := now })

/-- Every collective that has been issued fails at engine `p`; no ABORT is sent when `quiet`. -/
def Die.failAll (d : Die) (p : Nat) (reason : Nat) (quiet : Bool) : Die :=
  (d.port p).waiting.foldl (fun d c => d.failWaiting p c reason quiet) (d.collFail p reason quiet)

/-- A frame's fields agree with the collective's own (10 R312). -/
def Coll.agrees (c : Coll) (f : Frame) : Bool :=
  fld (f.w 6) 31 24 = c.fmt && fld (f.w 6) 23 23 = c.form && fld (f.w 6) 22 20 = c.op && fld (f.w 6) 16 0 = c.k

/-- A GRANT applies to the collective. -/
def Coll.grant (c : Coll) (f : Frame) : Coll :=
  let r := fld (f.w 4) 13 0
  let ph := fld (f.w 4) 15 14 % 2
  { c with toSend := c.toSend ++ (List.range (fld (f.w 7) 15 0)).map (fun i => (r, ph, fld (f.w 7) 31 16 + i)) }

/-- The engine and collective that a frame names: its communicator and sequence number. -/
def Die.findColl (d : Die) (f : Frame) : Option (Nat × Coll) :=
  (List.range 16).findSome? (fun p => match (d.port p).coll with
    | some c => if c.comm = fld (f.w 5) 31 20 ∧ c.seq = fld (f.w 4) 31 16 then some (p, c) else none
    | none => none)

/-- Start the next waiting collective, taking the grants kept for it. -/
def Die.peStart (d : Die) (p : Nat) : Die :=
  match (d.port p).coll, (d.port p).waiting with
  | none, c :: t =>
    let mine (f : Frame) : Bool := decide (fld (f.w 5) 31 20 = c.comm) && decide (fld (f.w 4) 31 16 = c.seq)
    let gs := d.fab.grants.filter mine
    let bad := gs.any (fun f => !c.agrees f)
    let c := gs.foldl Coll.grant c
    let d := d.updFab (fun x => { x with grants := x.grants.filter (fun f => !mine f) })
    let d := d.updPort p (fun x => { x with coll := some c, waiting := t })
    let d := (List.range 16).foldl (fun d q =>
      let o := (d.port q).owed
      if o = 0 ∨ 1024 ≤ d.fab.grants.length then d
      else d.updPort q (fun x => { x with freed := setAt x.freed 0 (x.freed.getD 0 0 + o), owed := 0, creditDue := true })) d
    if bad then d.collFail p 0x12 false else d
  | _, _ => d

/-- One pass over everything the engine's collective can do now. -/
def Die.pePass (d : Die) (p : Nat) : Die :=
  let d := d.peStart p
  match (d.port p).coll with
  | none => d
  | some c =>
    let r := d.ownCopies p c
    let r := r.1.openWin p r.2
    let r := r.1.openWin p r.2
    let r := r.1.closeWins p r.2
    let r := r.1.askSheets p r.2
    let r := r.1.sendSheets p r.2
    let d := r.1.updPort p (fun x => { x with coll := some r.2 })
    if d.collDone p r.2 then d.collEnd p r.2 else d

/-- Engine `p` does all it can: what one pass lands, a later one may send. -/
def Die.peStep (d : Die) (p : Nat) : Die :=
  if d.live (72 + p) ∧ !d.pw.asleep then (((d.pePass p).pePass p).pePass p).pePass p else d

/-- Every engine. -/
def Die.peAll (d : Die) : Die := (List.range 16).foldl Die.peStep d

/-- COLL and GATHER, at issue: the collective joins its engine's queue; the descriptor waits for it (10 R306, R311). -/
def Die.runColl (d : Die) (n q : Nat) (e : Infl) : Die × Infl :=
  let r := d.newColl n q e
  let p := d.engineOfCore n
  (r.1.updPort p (fun x => { x with waiting := x.waiting ++ [r.2] }), { e with left := 1 })

/-! ## Frames that reach their collective -/

/-- A DATA SHEET frame for this module: a contribution, or a sheet of OUT (10 R308, R310). -/
def Die.takeSheet (d : Die) (q : Nat) (f : Frame) : Die :=
  match d.findColl f with
  | none => d.count (pgPort q) 0x15
  | some (p, c) =>
    if !c.agrees f then d.collFail p 0x12 false
    else
      let i := fld (f.w 5) 15 0
      let r := fld (f.w 4) 13 0
      if fld (f.w 4) 15 14 % 2 = 0 then
        let d := d.count (pgPort p) 0x12
        let pz := imagePoison f.pay
        let vals := sheetElts c.fmtA f.pay
        let c := { c with wins := c.wins.map (fun w =>
          if w.first ≤ i ∧ i < w.first + w.count then w.contribute c r i vals pz else w) }
        d.updPort p (fun x => { x with coll := some c })
      else
        match if c.due.contains i then d.usableSheet c (c.outSheet i) else none with
        | none => d.count (pgPort q) 0x15
        | some g =>
          let m := c.move (.land i (bit (f.w 3) 27)) g false f.pay (imagePoison f.pay)
          let d := d.count (pgPort p) 0x12
          if (d.port p).moves.any (fun y => decide (y.step = m.step) && y.of c) then d else d.addMoves p [m]

/-- A sheet the engine has written is complete: its header, and its index in the collective (10 R307, R310). -/
def Die.sheetWritten (d : Die) (p : Nat) (c : Coll) (m : PeMove) (i : Nat) (nf : Bool) : Die :=
  let h := word (leNat ((m.image.drop 4096).take 4))
  let d := d.stampRec m.g (c.outSheet i) (fld h 3 0) (fld h 4 4) (fld h 27 24) c.writer (fabricPoison m.poison)
  d.updPort p (fun x => { x with coll := some { c with
    landed := sset c.landed false i true, nfIdx := sset c.nfIdx false i nf, nf := c.nf || nf, poison := mergePoison [c.poison, m.poison] } })

/-- The circuit of a move has carried its sheet; `bs` is the image the engine has read. -/
def Die.peMoved (d : Die) (p : Nat) (m : PeMove) (bs : List Byte) : Die :=
  let d := d.updPort p (fun x => { x with moves := x.moves.filter (fun y => decide (y ≠ m)) })
  match (d.port p).coll with
  | none => d
  | some c =>
    if !m.of c then d
    else
      let set (c : Coll) : Die := d.updPort p (fun x => { x with coll := some c })
      match m.step with
      | .contrib i => set { c with wins := c.wins.map (fun w =>
          if w.first ≤ i ∧ i < w.first + w.count then w.contribute c c.rank i (sheetElts c.fmtA bs) (imagePoison bs) else w) }
      | .send r ph i nf =>
        if d.workHeld then set { c with toSend := c.toSend ++ [(r, ph, i)] }
        else Die.sheetSend (set { c with sent1 := c.sent1 + ph }) p c r ph i nf bs
      | .own i => match d.usableSheet c (c.outSheet i) with
        | some g => d.addMoves p [c.move (.put i) g false bs (imagePoison bs)]
        | none => set { c with asked := sset c.asked false i false }
      | .put i => d.sheetWritten p c m i false
      | .result i nf => d.sheetWritten p c m i nf
      | .land i nf => d.sheetWritten p c m i nf

/-- A flit of a move's circuit was dropped: the engine's descriptor completes with SLOT_VIOLATION (07 Table 7-5). -/
def Die.peLost (d : Die) (p : Nat) (m : PeMove) : Die :=
  match (d.port p).coll with
  | none => d
  | some c =>
    if !m.of c then d
    else
      let d := (d.dropMoves p c).updPort p (fun x => { x with coll := none })
      if c.sec = 1 then d.updSg (fun s => { s with sendSt := 3 })
      else if c.sec = 2 then d.updSg (fun s => { s with recvSt := 3 })
      else d.updQueue c.ref.core c.ref.queue (fun x => { x with infl := x.infl.map (fun e =>
        if e.id = c.ref.id then { e with fault := some (stSlot, 0), left := 0, waits := false } else e) })

/-- A COLL frame for this module. -/
def Die.takeColl (d : Die) (f : Frame) : Die :=
  match d.findColl f with
  | none =>
    if f.sub = 0 then d.updFab (fun x => { x with grants := x.grants ++ [f] })
    else if f.sub = 3 then
      (List.range 16).foldl (fun d p => (d.port p).waiting.foldl (fun d c =>
        if c.comm = fld (f.w 5) 31 20 ∧ c.seq = fld (f.w 4) 31 16 then d.failWaiting p c 0x13 true else d) d) d
    else d
  | some (p, c) =>
    let set (c : Coll) : Die := d.updPort p (fun x => { x with coll := some c })
    match f.sub with
    | 0 => if c.agrees f then set (c.grant f) else d.collFail p 0x12 false
    | 1 => set { c with finals := c.finals + fld (f.w 7) 15 0 }
    | 2 => d
    | _ => d.collFail p 0x13 true

end Sys2Proof.Machine
end

