-- ==== Sys2Proof/Machine/Codeword.lean ====
section
/-!
DEFINITION. The lanes of a port: codewords, their block control, the units they carry, rounds, and the frames that
complete out of them (10 R288-R290).
-/

namespace Sys2Proof.Machine

/-! ## RS(544,514) over GF(2^10) (10 R288; log 139) -/

/-- Product in GF(2^10), modulo x^10 + x^3 + 1. -/
def rsMul (a b : Nat) : Nat :=
  let p := (List.range 10).foldl (fun x i => if b.testBit i then x ^^^ (a <<< i) else x) 0
  (List.range 9).foldl (fun x k => if x.testBit (18 - k) then x ^^^ (0x409 <<< (8 - k)) else x) p

/-- The generator polynomial without its leading 1, highest power first: the product of x + 2^j for j = 0 to 29. -/
def rsGen : List Nat :=
  [575, 552, 187, 230, 552, 1, 108, 565, 282, 249, 593, 132, 94, 720, 495] ++
  [385, 942, 503, 883, 361, 788, 610, 193, 392, 127, 185, 158, 128, 834, 523]

/-- One message symbol enters the division by the generator polynomial. -/
def rsStep (st : List Nat) (m : Nat) : List Nat :=
  let fb := m ^^^ st.headD 0
  (List.zip (st.drop 1 ++ [0]) rsGen).map (fun x => x.1 ^^^ rsMul fb x.2)

/-- The 30 parity symbols of a message. -/
def rsParity (msg : List Nat) : List Nat := msg.foldl rsStep (List.replicate 30 0)

/-! ## A codeword (10 R288) -/

/-- Bit 10 + u of the block control: unit u starts a frame. -/
def Codeword.sof (c : Codeword) (u : Nat) : Bool := c.ctl.toNat.testBit (10 + u)
/-- The lane number. -/
def Codeword.lane (c : Codeword) : Nat := c.ctl.toNat / 128 % 8
/-- The round number, modulo 128. -/
def Codeword.round (c : Codeword) : Nat := c.ctl.toNat % 128

/-- The 5,140 message bits: the block control, then the ten units (order of the bits: log 139). -/
def Codeword.bits (c : Codeword) : List Bool :=
  (List.range 20).map (fun i => c.ctl.toNat.testBit (19 - i)) ++
    (c.units.flatten.flatMap (fun b => (List.range 8).map (fun i => b.toNat.testBit i)))

/-- The 514 message symbols. -/
def Codeword.message (c : Codeword) : List Nat :=
  (List.range 514).map (fun k => ((List.range 10).map (fun i => if (c.bits.getD (10 * k + i) false) then 2 ^ (9 - i) else 0)).sum)

/-- The 544 symbols sent on the lane. -/
def Codeword.symbols (c : Codeword) : List Nat := c.message ++ rsParity c.message

/-- The symbols received when noise adds `bad`: position and difference. -/
def Codeword.received (c : Codeword) (bad : List (Fin 544 × BitVec 10)) : List Nat :=
  bad.foldl (fun l e => l.set e.1 (l.getD e.1 0 ^^^ e.2.toNat)) c.symbols

/-- Symbols in error: the positions at which the differences do not cancel. -/
def symbolErrors (bad : List (Fin 544 × BitVec 10)) : Nat :=
  ((bad.map (fun e => e.1)).dedup.filter (fun i =>
    decide (((bad.filter (fun e => decide (e.1 = i))).foldl (fun x e => x ^^^ e.2) 0) ≠ 0))).length

/-- Lane and unit of the codeword that carry unit `i` of a round. -/
def unitPlace (i : Nat) : Nat × Nat := (i % 8, i / 8)

/-- Cut the units of a round, and where frames start in them, into the codewords of its lanes. -/
def roundCodewords (r : Nat) (us : List (Bool × List Byte)) : List Codeword :=
  (List.range 8).map (fun l =>
    let mine := (List.range 10).map (fun u => us.getD (8 * u + l) (false, []))
    { ctl := BitVec.ofNat 20 (pack [(10, ((List.range 10).map (fun u => bitAt (mine.getD u (false, [])).1 u)).sum), (7, l), (0, r % 128)])
      units := mine.map (fun x => x.2) })

/-! ## Reception (10 R288, R289) -/

/-- The codewords of round `r` that have arrived. -/
def Port.ofRound (x : Port) (r : Nat) : List RxCw := x.rxCw.filter (fun c => decide (c.cw.round = r))

/-- The 80 units of a round in order: whether a frame starts, the bytes, whether its codeword was discarded. -/
def roundUnits (cs : List RxCw) : List (Bool × List Byte × Bool) :=
  (List.range 80).filterMap (fun i =>
    (cs.find? (fun c => decide (c.cw.lane = (unitPlace i).1))).map (fun c =>
      (c.cw.sof (unitPlace i).2, c.cw.units.getD (unitPlace i).2 [], c.lost)))

/-- Payload units that a frame's first unit announces. -/
def unitLen (bs : List Byte) : Nat := beNat (bs.take 4) / 65536 % 128

/-- The frame that units make. -/
def unitsFrame (bs : List Byte) : Frame :=
  { hdr := (List.range 16).map (fun i => word (beNat ((bs.drop (4 * i)).take 4))), pay := bs.drop 64 }

/-- A frame's last unit has come: it waits for the link layer, or it has failed its CRC (10 R289). -/
def Die.endFrame (d : Die) (p : Nat) (a : RxAsm) : Die :=
  let d := d.updPort p (fun x => { x with asm := none })
  if a.lost then d.crcFail p else d.updPort p (fun x => { x with inFrames := x.inFrames ++ [unitsFrame a.bytes] })

/-- A unit joins the frame under way, starts a frame, or is idle. A frame that another one cuts short fails. -/
def Die.takeUnit (d : Die) (p : Nat) (u : Bool × List Byte × Bool) : Die :=
  let go (d : Die) (a : RxAsm) : Die :=
    if a.left = 0 then d.endFrame p a else d.updPort p (fun x => { x with asm := some a })
  if u.1 then
    let d := match (d.port p).asm with
      | some _ => (d.updPort p (fun x => { x with asm := none })).crcFail p
      | none => d
    go d { bytes := u.2.1, left := unitLen u.2.1, lost := u.2.2 }
  else match (d.port p).asm with
    | none => d
    | some a => go d { bytes := a.bytes ++ u.2.1, left := a.left - 1, lost := a.lost || u.2.2 }

/-- A codeword joins its round; a round that every lane has brought is taken unit by unit, and older rounds that never
became complete are gone. -/
def Die.takeCodeword (d : Die) (p : Nat) (c : RxCw) : Die :=
  let d := d.updPort p (fun x => { x with rxCw := x.rxCw.filter (fun y => !(decide (y.cw.lane = c.cw.lane) && decide (y.cw.round = c.cw.round))) ++ [c] })
  let cs := (d.port p).ofRound c.cw.round
  if cs.length < 8 then d
  else
    let newer (y : RxCw) : Bool := decide (0 < (y.cw.round + 128 - c.cw.round) % 128) && decide ((y.cw.round + 128 - c.cw.round) % 128 < 64)
    let d := d.updPort p (fun x => { x with rxCw := x.rxCw.filter newer })
    (roundUnits cs).foldl (fun d u => d.takeUnit p u) d

/-- Lane `l` counts a codeword towards its lock (10 Table 10-1 step 2). -/
def Port.lockCount (x : Port) (l : Nat) (ok : Bool) : Port :=
  let n := if ok then min 64 (x.lockRun.getD l 0 + 1) else 0
  { x with lockRun := setAt x.lockRun l n, locks := if n = 64 then x.locks ||| 2 ^ l else x.locks }

/-- CODEWORD (10 R288-R290): codeword `c` arrives at port `p` with the errors `bad`. -/
def execCodeword (p : Nat) (c : Codeword) (bad : List (Fin 544 × BitVec 10)) (s : State) : Host.Outcome State Fault Refusal :=
  s.at_ (72 + p) (fun d =>
    let l := (d.port p).link
    let n := symbolErrors bad
    if l ≠ 2 ∧ l ≠ 3 ∧ l ≠ 4 then d
    else
      let d := if n ≤ 15 then d.count (pgPort p) 3 n else (d.count (pgPort p) 4).cpErr p 2
      if l = 2 then d.updPort p (fun x => x.lockCount c.lane (decide (n ≤ 15)))
      else d.takeCodeword p { cw := c, lost := decide (15 < n) })

end Sys2Proof.Machine
end

