-- ==== Sys2Proof/Machine/Resilience.lean ====
section
/-!
DEFINITION. Surviving failures: the code of a protection group, securing, local flash, recovery, fill and
resume (11).
-/

namespace Sys2Proof.Machine

/-! ## GF(2^16) (11 R326, R327) -/

/-- Multiply by x. -/
def gfX (a : Nat) : Nat := if a < 0x8000 then 2 * a else (2 * a) ^^^ 0x1100B

/-- Product, over the bits of the first factor from the top. -/
def gfMulGo : Nat → Nat → Nat → Nat
  | 0, _, _ => 0
  | n + 1, a, b => (if a.testBit 0 then b else 0) ^^^ gfMulGo n (a / 2) (gfX b)

/-- Product in GF(2^16). -/
def gfMul (a b : Nat) : Nat := gfMulGo 16 a b

/-- `a` to the power `2 ^ n - 2`-style inverse: the product of `a ^ (2 ^ k)` for k = 1 to 15. -/
def gfInvGo : Nat → Nat → Nat
  | 0, _ => 1
  | n + 1, s => let t := gfMul s s; gfMul t (gfInvGo n t)

/-- The inverse of a nonzero element. -/
def gfInv (a : Nat) : Nat := gfInvGo 15 a

/-- `2 ^ i`, the coefficient of member `i` in piece 1. -/
def gfC (j i : Nat) : Nat := if j = 0 then 1 else 2 ^ i

/-- Coefficients of the members and of pieces 0 and 1 in the recovery of member `o`, for the erasures and
pieces given (11 R327); source `8 + j` is piece `j`. -/
def recoverCoef (erase : List Nat) (shards : Nat) (o src : Nat) : Nat :=
  match erase with
  | [_] =>
    if shards.testBit 0 then (if src = 9 then 0 else 1)
    else
      let inv := gfInv (2 ^ o)
      if src = 8 then 0 else if src = 9 then inv else gfMul (2 ^ src) inv
  | [a, b] =>
    let inv := gfInv ((2 ^ a) ^^^ (2 ^ b))
    let cb := if src = 8 then gfMul (2 ^ a) inv else if src = 9 then inv else gfMul ((2 ^ src) ^^^ (2 ^ a)) inv
    if o = b then cb else (if src = 9 then 0 else 1) ^^^ cb
  | _ => 0

/-- Symbols of bytes: little-endian halfwords (11 R325). -/
def symbols : List Byte → List Nat
  | a :: b :: t => (a.toNat + 256 * b.toNat) :: symbols t
  | _ => []

/-- Bytes of symbols. -/
def symBytes (l : List Nat) : List Byte := l.flatMap (fun x => leBytes 2 x)

/-- `acc` plus a coefficient times a page. -/
def gfAxpy (acc : List Nat) (c : Nat) (page : List Nat) : List Nat :=
  (List.range (max acc.length page.length)).map (fun i => acc.getD i 0 ^^^ gfMul c (page.getD i 0))

/-! ## Configuration (11 Table 11-9) -/

/-- Reset value of a configuration word. -/
def flDef (k : Nat) : Word := if k % 32 = 8 then 0x20080000 else 0
/-- Configuration word `w` of job `j`. -/
def Die.flW (d : Die) (j w : Nat) : Word := sget d.flCfg (flDef (j * 32 + w)) (j * 32 + w)
/-- Set a configuration word. -/
def Die.setFlW (d : Die) (j w : Nat) (v : Word) : Die :=
  { d with flCfg := sset d.flCfg (flDef (j * 32 + w)) (j * 32 + w) v }

/-- `RANK`. -/
def Die.flRank (d : Die) (j : Nat) : Nat := fld (d.flW j 0) 29 27
/-- `PROT_PAGES`. -/
def Die.flP (d : Die) (j : Nat) : Nat := fld (d.flW j 2) 22 0
/-- Current `VERSION`. -/
def Die.flVersion (d : Die) (j : Nat) : Nat := fld (d.flW j 9) 15 0
/-- `PHASE`. -/
def Die.flPhase (d : Die) (j : Nat) : Nat := fld (d.flW j 10) 3 0
/-- Set `PHASE`. -/
def Die.setPhase (d : Die) (j p : Nat) : Die := d.setFlW j 10 (setFld (d.flW j 10) 3 0 p)
/-- Stack address of the check area. -/
def Die.chkBase (d : Die) (j : Nat) : Nat := fld (d.flW j 6) 15 0 * 2 ^ 32 + fld (d.flW j 5) 31 16 * 65536
/-- Address of piece `p` of stripe `s` in its holder's check area (11 R326). -/
def Die.pieceAddr (d : Die) (j s p : Nat) : Nat := d.chkBase j + (2 * (s / 8) + p) * 65536

/-! ## Flash (11 R334) -/

/-- Bytes of flash. -/
def Die.flashBytes (d : Die) (a n : Nat) : List Byte := sgetList d.flash 0 a n
/-- Write flash. -/
def Die.flashWrite (d : Die) (a : Nat) (bs : List Byte) : Die := { d with flash := ssetList d.flash 0 a bs }
/-- Units of a slot: header, CRC table, pages. -/
def Die.slotUnits (d : Die) (j : Nat) : Nat := 1 + (4 * d.flP j + 65535) / 65536 + d.flP j
/-- Flash address of slot `n` of a job. -/
def Die.slotAddr (d : Die) (j n : Nat) : Nat :=
  ((d.flW j 12).toNat + (d.flW j 13).toNat * 2 ^ 32 + n * d.slotUnits j) * 65536
/-- Flash address of page `s` of a slot. -/
def Die.slotPage (d : Die) (j n s : Nat) : Nat :=
  d.slotAddr j n + (1 + (4 * d.flP j + 65535) / 65536 + s) * 65536
/-- Header word `i` of a slot. -/
def Die.slotW (d : Die) (j n i : Nat) : Word := word (leNat (d.flashBytes (d.slotAddr j n + 4 * i) 4))
/-- `STATE` of a slot. -/
def Die.slotState (d : Die) (j n : Nat) : Nat := fld (d.slotW j n 0) 15 8
/-- The header's CRC holds. -/
def Die.slotOk (d : Die) (j n : Nat) : Bool := d.slotW j n 63 = crc32 (d.flashBytes (d.slotAddr j n) 252)
/-- Slots of a job. -/
def Die.slotsOf (d : Die) (j : Nat) : List Nat := List.range (fld (d.flW j 14) 7 0)
/-- A free slot. -/
def Die.freeSlot (d : Die) (j : Nat) : Option Nat := (d.slotsOf j).find? (fun n => decide (d.slotState j n = 0))
/-- The complete, current or retained slot that names a version, whether its header checks or not. -/
def Die.slotOf (d : Die) (j v : Nat) : Option Nat :=
  (d.slotsOf j).find? (fun n => decide (2 ≤ d.slotState j n) && decide (fld (d.slotW j n 3) 15 0 = v))
/-- Rewrite a header unit from its words 0 to 62, with its CRC; the rest of the unit is 0. -/
def Die.writeHeader (d : Die) (j n : Nat) (ws : List Word) : Die :=
  let bs := (List.range 63).flatMap (fun i => leBytes 4 (ws.getD i 0).toNat)
  Die.flashWrite { d with flash := sclear d.flash (d.slotAddr j n) 65536 } (d.slotAddr j n) (bs ++ leBytes 4 (crc32 bs).toNat)
/-- Change the state of a slot. -/
def Die.setSlotState (d : Die) (j n st : Nat) : Die :=
  d.writeHeader j n ((List.range 63).map (fun i => if i = 0 then setFld (d.slotW j n 0) 15 8 st else d.slotW j n i))
/-- Page `s` of a slot and whether its CRC holds. -/
def Die.slotRead (d : Die) (j n s : Nat) : List Byte × Bool :=
  let bs := d.flashBytes (d.slotPage j n s) 65536
  (bs, word (leNat (d.flashBytes (d.slotAddr j n + 65536 + 4 * s) 4)) = crc32 bs)
/-- Write page `s` of a slot and its CRC. -/
def Die.slotWrite (d : Die) (j n s : Nat) (bs : List Byte) : Die :=
  (d.flashWrite (d.slotPage j n s) bs).flashWrite (d.slotAddr j n + 65536 + 4 * s) (leBytes 4 (crc32 bs).toNat)

/-! ## Pages in stack memory -/

/-- Stack address of the sheet slot `t` of protected page `s`, if the page is declared. -/
def Die.protSheet (d : Die) (j s t : Nat) : Option (Nat × Nat) :=
  match d.objKey j (fld (d.flW j 1) 22 0 + s) with
  | none => none
  | some k => match d.obj k with
    | none => none
    | some o => some (k, d.pageAddr o.stack o.spage + t * 4352)

/-- Stack addresses of the sheets of a protected page that hold valid data: none for a page without a stack copy. -/
def Die.protAddr (d : Die) (j s t : Nat) : Option Nat :=
  match d.protSheet j s t with
  | none => none
  | some (k, a) => match d.obj k with
    | some o => if o.stackValid then some a else none
    | none => none

/-- Read the payload of a protected page from stack memory; a page with no valid stack data is zeros. -/
def Die.protRead (d : Die) (j s : Nat) (es : List BurstErr) : Die × List Byte :=
  (List.range 16).foldl (fun (acc : Die × List Byte) t => match acc.1.protAddr j s t with
    | none => (acc.1, acc.2 ++ List.replicate 4096 0)
    | some a => let r := acc.1.stackGet false a 4224 es; (r.1, acc.2 ++ r.2.1.take 4096)) (d, [])

/-- No access waits at the stack copy of a protected page (08 R242). -/
def Die.protClear (d : Die) (j s : Nat) : Bool :=
  (List.range 16).all (fun t => match d.protAddr j s t with
    | none => true
    | some a => d.orderClear a 4224)

/-- Write a restored or filled page to its stack page, with the side band of R325. -/
def Die.putProtPage (d : Die) (j s : Nat) (bs : List Byte) : Die :=
  (List.range 16).foldl (fun d t => match d.protSheet j s t with
    | none => d
    | some (k, a) =>
      let hdr := leBytes 4 0 ++ leBytes 4 j ++ leBytes 4 ((fld (d.flW j 1) 22 0 + s) * 16 + t) ++ List.replicate 52 0
      let r := d.stackPut a ((bs.drop (4096 * t)).take 4096 ++ hdr ++ List.replicate 64 0)
      if r.2 then r.1.updObj k (fun o => { o with stackValid := true, dirty := false }) else r.1) d

/-- A captured sheet of the page has `POISON` at 1 in its stored check area. -/
def Die.protPoisoned (d : Die) (j s : Nat) : Bool :=
  (List.range 16).any (fun t => match d.protSheet j s t with
    | none => false
    | some (k, a) => (match d.obj k with | some o => o.stackValid | none => false) && bit (d.mword (a + 4096 + 64 + 52)) 31)

/-- The changed map's bit of a protected page (11 R330). -/
def Die.changedBit (d : Die) (j s : Nat) : Option Nat :=
  match d.protSheet j s 0 with
  | none => none
  | some (k, _) => (d.obj k).map (fun o => o.stack * 2 ^ 20 + o.spage)

/-- The page has had a stack write since the last capture (11 R330). -/
def Die.protChanged (d : Die) (j s : Nat) : Bool :=
  match d.changedBit j s with
  | none => false
  | some b => sget d.changed false b

/-- Set or clear the bit of a page. -/
def Die.noteChanged (d : Die) (j s : Nat) (v : Bool) : Die :=
  match d.changedBit j s with
  | none => d
  | some b => { d with changed := sset d.changed false b v }

/-! ## Ends and the event log -/

/-- Write an entry of the event log (11 R345). -/
def Die.sgLog (d : Die) (kind j v w1 : Nat) : Die :=
  let h := (d.sg.logHead + 1) % 256
  let f := d.takeFree
  let t := f.2.toNat
  let d : Die := { f.1 with
    flLog := ssetList f.1.flLog 0 (h * 4) [packW [(24, kind), (16, j), (0, v % 65536)], word w1, word t, word (t / 2 ^ 32)] }
  d.updSg (fun s => { s with logHead := h })

/-- Port engine `p` gives up the transfers of the securing controller. -/
def Die.sgCancel (d : Die) (p : Nat) : Die :=
  d.updPort p (fun x => { x with
    coll := x.coll.filter (fun c => decide (c.sec = 0)), waiting := x.waiting.filter (fun c => decide (c.sec = 0)) })

/-- An operation ends with a result. -/
def Die.sgEnd (d : Die) (result : Nat) : Die :=
  ((List.range 16).foldl Die.sgCancel d).updSg (fun s => { s with busy := false, donePend := true, result, sends := [], recvs := [], sendSt := 0, recvSt := 0, acc := [] })

/-- A CRC failure of flash (11 R335). -/
def Die.flashCrc (d : Die) (j stripe : Nat) : Die :=
  ((d.count pgFlash 9).updSg (fun s => { s with err := s.err ||| 2 })).sgLog 4 j (d.flVersion j) stripe

/-- Clear `SECURE_DUE` of a job. -/
def Die.clearDue (d : Die) (j : Nat) : Die := d.updSg (fun s => { s with due := s.due &&& ~~~(BitVec.ofNat 32 (2 ^ j)) })

/-! ## Starting an operation -/

/-- Communicator of the pair of this source and a holder, and of a source and this holder (11 R331). -/
def Die.commOut (d : Die) (j h : Nat) : Nat := fld (d.flW j 7) 11 0 + 8 * d.flRank j + h
/-- As above, for a source of this holder. -/
def Die.commIn (d : Die) (j i : Nat) : Nat := fld (d.flW j 7) 27 16 + 8 * i + d.flRank j

/-- Stripes of a job whose piece `p` this module holds. -/
def Die.heldStripes (d : Die) (j p : Nat) : List Nat :=
  (List.range (d.flP j)).filter (fun s => decide ((s + p) % 8 = d.flRank j))

/-- Begin an operation. -/
def Die.sgBegin (d : Die) (op j : Nat) : Die :=
  let a := d.reg pgFlash 0x110
  d.updSg (fun s => { s with
    busy := true, op, job := j, result := 0, index := 0, version := fld a 31 16, erase := fld a 15 8,
    shards := fld a 7 6, holder := bit a 5, last := fld (d.reg pgFlash 0x118) 22 0,
    comm := fld (d.reg pgFlash 0x11C) 11 0, sends := [], recvs := [], sendSt := 0, recvSt := 0, acc := [] })

/-- The operation ends at once with a result, and changes nothing else (11 R329). -/
def Die.sgRefuse (d : Die) (op result : Nat) : Die := d.updSg (fun s => { s with op, result, donePend := true })

/-- Erased ranks, ascending. -/
def eraseList (e : Nat) : List Nat := (List.range 8).filter (fun r => e.testBit r)

/-- The header words of a slot that is being written (11 Table 11-4). -/
def Die.newHeader (d : Die) (j v : Nat) : List Word :=
  let s := d.skimJ j
  let dw (x : DWord) : List Word := [word x.toNat, word (x.toNat / 2 ^ 32)]
  let gen (g : Nat) : Nat := (j * 8 + g) * 4
  let en := ((List.range 8).map (fun g => if bit (sget d.skimGen 0 (gen g)) 31 then 2 ^ g else 0)).sum
  [packW [(16, 1), (8, 1), (5, d.flRank j), (0, j)]] ++ dw d.part.serial ++ [packW [(0, v)]] ++ dw s.step ++
    dw (d.ctrOf pgSkim (0x120 + j)) ++ dw (d.ctrOf pgSkim (0x140 + j)) ++ [word en, word (d.flP j)] ++
    (List.range 8).flatMap (fun g => [sget d.skimGen 0 (gen g + 2), sget d.skimGen 0 (gen g + 3)]) ++
    (List.range 16).map (fun i => d.flW j (16 + i)) ++ List.replicate 19 0

/-- CAPTURE begins: snapshot, and write-back requests for the dirty resident pages (11 Table 11-2 step 1). -/
def Die.sgCapture (d : Die) (j : Nat) : Die :=
  if d.flPhase j ≠ 0 ∨ d.sg.due.toNat.testBit j = false then d.sgRefuse 1 1
  else match d.freeSlot j with
    | none => d.sgRefuse 1 9
    | some n =>
      let v := (d.flVersion j + 1) % 65536
      let d := (d.sgBegin 1 j).updSg (fun s => { s with slot := n, version := v })
      let d := d.writeHeader j n (d.newHeader j v)
      let d := d.setFlW j 10 (setFld (d.flW j 10) 31 16 v)
      (List.range (d.flP j)).foldl (fun d s => match d.objKey j (fld (d.flW j 1) 22 0 + s) with
        | none => d
        | some k => match d.obj k with
          | none => d
          | some o => if o.st = .resident ∧ o.dirty ∧ d.requested k = false then
              (d.updObj k (fun o => { o with rewritten := false })).request .writeback k o j
            else d) d

/-- FOLD0 and FOLD1 begin: the pages to send and to receive (11 Table 11-2, R330, R331). -/
def Die.sgFold (d : Die) (j p : Nat) : Die :=
  if d.flPhase j ≠ p + 1 then d.sgRefuse (2 + p) 1
  else
    let sends := (List.range (d.flP j)).map (fun s => (d.commOut j ((s + p) % 8), s, 4 + p))
    let recvs := (d.heldStripes j p).flatMap (fun s => (List.range 8).map (fun i => (d.commIn j i, s, p, i)))
    (d.sgBegin (2 + p) j).updSg (fun s => { s with sends, recvs, version := fld (d.flW j 10) 31 16 })

/-- SERVE begins (11 R339). -/
def Die.sgServe (d : Die) (j : Nat) : Die :=
  let d := d.sgBegin 6 j
  let g := d.sg
  let first := fld (d.reg pgFlash 0x114) 22 0
  let stripes := (List.range (d.flP j)).filter (fun s => decide (first ≤ s) && decide (s ≤ g.last))
  let sends := stripes.flatMap (fun s =>
    if g.holder then ([0, 1].filter (fun p => g.shards.testBit p && decide ((s + p) % 8 = d.flRank j))).map (fun p => (g.comm, s, p))
    else [(g.comm, s, 2)])
  d.updSg (fun s => { s with sends, index := first })

/-- The slot of a version that FILL writes: the one it wrote a part of, whatever its state, else a free one. -/
def Die.fillSlot (d : Die) (j v : Nat) : Option Nat :=
  match (d.slotsOf j).find? (fun n => decide (1 ≤ d.slotState j n) && decide (fld (d.slotW j n 3) 15 0 = v)) with
  | some n => some n
  | none => d.freeSlot j

/-- Rank of the source of a page in the communicator of a fill: members 0 to 7, and holder `h` of the partner group
`8 + h`; piece `p` of stripe `s` lies with holder `(s + p) mod 8` (11 R326, log 131). -/
def fillSource (s what src : Nat) : Nat := if what < 2 then 8 + (s + what) % 8 else src

/-- FILL begins (11 R339): sources 0 to 7 are the members, 8 and 9 the pieces. -/
def Die.sgFill (d : Die) (j : Nat) : Die :=
  let a := d.reg pgFlash 0x110
  let er := eraseList (fld a 15 8)
  let pieces := [0, 1].filter (fun p => (fld a 7 6).testBit p)
  if !er.contains (d.flRank j) ∨ pieces.length < er.length then d.sgRefuse 7 8
  else
    match d.fillSlot j (fld a 31 16) with
    | none => d.sgRefuse 7 9
    | some n =>
      let d := d.sgBegin 7 j
      let g := d.sg
      let first := fld (d.reg pgFlash 0x114) 22 0
      let used := if er.length = 1 then pieces.take 1 else pieces
      let recvs := ((List.range (d.flP j)).filter (fun s => decide (first ≤ s) && decide (s ≤ g.last))).flatMap (fun s =>
        ((List.range 8).filter (fun r => !er.contains r)).map (fun r => (g.comm, s, 2, r)) ++
          used.map (fun p => (g.comm, s, p, 8 + p)))
      (d.writeHeader j n (d.newHeader j g.version)).updSg (fun s => { s with recvs, slot := n, index := first })

/-- REBUILD begins: the holder's pieces of the selected shards are set to zero (11 R332). -/
def Die.sgRebuild (d : Die) (j : Nat) : Die :=
  let d := d.sgBegin 8 j
  let g := d.sg
  let ps := [0, 1].filter (fun p => g.shards.testBit p)
  let d := ps.foldl (fun d p => (d.heldStripes j p).foldl (fun d s =>
    (d.stackPut (d.pieceAddr j s p) (List.replicate 65536 0)).1) d) d
  let recvs := ps.flatMap (fun p => (d.heldStripes j p).flatMap (fun s => (List.range 8).map (fun i => (g.comm, s, p, i))))
  d.updSg (fun s => { s with recvs })

/-- A region of the job is placed. -/
def Die.jobPlaced (d : Die) (j : Nat) : Bool :=
  d.regions.any (fun c => match c.2 with | some r => decide (r.job = j) | none => false)

/-- RESTORE begins (11 R338). -/
def Die.sgRestore (d : Die) (j : Nat) : Die :=
  let v := fld (d.reg pgFlash 0x110) 31 16
  let busy := (List.range (d.flP j)).any (fun s => match d.objKey j (fld (d.flW j 1) 22 0 + s) with
    | none => false
    | some k => match d.obj k with
      | some o => decide (o.st ≠ .absent)
      | none => false)
  if d.jobPlaced j then d.sgRefuse 9 1
  else if busy then d.sgRefuse 9 5
  else match d.slotOf j v with
    | none => d.sgRefuse 9 6
    | some n => if d.slotOk j n then (d.sgBegin 9 j).updSg (fun s => { s with slot := n }) else (d.flashCrc j 0).sgRefuse 9 3

/-- RESUME begins (11 R341): only with the Skim OFF and every generator of the job disabled. -/
def Die.sgResume (d : Die) (j : Nat) : Die :=
  if (d.skimJ j).st ≠ 0 ∨ (List.range 8).any (fun g => bit (sget d.skimGen 0 ((j * 8 + g) * 4)) 31) then d.sgRefuse 10 1
  else d.sgBegin 10 j

/-- A write of `SG_CMD` (11 R343). -/
def Die.sgCmd (d : Die) (op j : Nat) : Die :=
  if d.sg.busy then d.refuse
  else match op with
    | 1 => d.sgCapture j
    | 2 => d.sgFold j 0
    | 3 => d.sgFold j 1
    | 4 => if d.flPhase j = 3 then d.sgBegin 4 j else d.sgRefuse 4 1
    | 5 => d.sgBegin 5 j
    | 6 => d.sgServe j
    | 7 => d.sgFill j
    | 8 => d.sgRebuild j
    | 9 => d.sgRestore j
    | 10 => d.sgResume j
    | 11 => d.updSg (fun s => { s with donePend := false })
    | _ => d

/-! ## Pages on the fabric -/

/-- A page of the slot of a version: none when its header or its CRC does not check; zeros with no such slot. -/
def Die.slotBytes (d : Die) (j s : Nat) (slot : Option Nat) : Option (List Byte) :=
  match slot with
  | none => some (List.replicate 65536 0)
  | some n => let r := d.slotRead j n s; if d.slotOk j n && r.2 then some r.1 else none

/-- The page to send can be read now: no access waits at its bursts. -/
def Die.sgPageClear (d : Die) (j s what : Nat) : Bool :=
  if what ≤ 1 then d.orderClear (d.pieceAddr j s what) 65536 else d.protClear j s

/-- The bytes of a page to send: a piece, a member page, or the delta of a shard; none when a flash page
fails its CRC. FOLD0 takes the new image from the stack page, FOLD1 from flash (11 Table 11-2). -/
def Die.sgPage (d : Die) (j s what : Nat) (es : List BurstErr) : Die × Option (List Byte) :=
  let g := d.sg
  if what ≤ 1 then let r := d.stackGet false (d.pieceAddr j s what) 65536 es; (r.1, some r.2.1)
  else if what = 2 then
    match d.slotOf j g.version with
    | none => let r := d.protRead j s es; (r.1, some r.2)
    | some n => (d, d.slotBytes j s (some n))
  else if !g.delta.contains (j, s) then (d, some (List.replicate 65536 0))
  else
    let new : Die × Option (List Byte) :=
      if what = 4 then let r := d.protRead j s es; (r.1, some r.2)
      else (d, d.slotBytes j s ((d.slotsOf j).find? (fun n => decide (d.slotState j n = 2) && decide (fld (d.slotW j n 3) 15 0 = g.version))))
    match new.2, d.slotBytes j s (d.slotOf j (d.flVersion j)) with
    | some b, some a => (new.1, some ((List.range 65536).map (fun i => (b.getD i 0) ^^^ (a.getD i 0))))
    | _, _ => (new.1, none)

/-- A transfer of one page at a port engine (11 R331): `sec` 1 to send, 2 to receive from rank `src`. -/
def Die.secColl (d : Die) (j comm s what sec src vp : Nat) : Die :=
  let pair := d.sg.op = 2 ∨ d.sg.op = 3
  let me := fld (d.commW comm 1) 13 0
  let c : Coll := { ref := { core := 0xFFFF }, comm, seq := (2 * s + (if d.sg.op = 8 then 0 else what % 2)) % 65536, op := 3, k := 16, g := 2, rank := me,
                    root := (if sec = 1 then me else if pair then 0 else src),
                    job := j, vsnA := vp * 16, vsnOut := vp * 16, sec }
  (d.updPort (comm % 16) (fun x => { x with waiting := x.waiting ++ [c] })).peStep (comm % 16)

/-- Make a staging page resident; answers whether it is. -/
def Die.staged (d : Die) (j vp : Nat) : Die × Bool :=
  match d.objKey j vp with
  | none => (d, false)
  | some k => if d.isResident k then (d, true) else (if d.requested k then d else d.promote j k false, false)

/-- Write a page's payload into a staging page. -/
def Die.putStage (d : Die) (j vp : Nat) (bs : List Byte) : Die :=
  (List.range 16).foldl (fun d t => match d.sheetOf j (vp * 16 + t) with
    | none => d
    | some g => (d.setBytes (sheetAddr g) ((bs.drop (4096 * t)).take 4096)).stampRec g (vp * 16 + t) 0 0 3 { job := j } none) d

/-- The payload of a staging page. -/
def Die.getStage (d : Die) (j vp : Nat) : List Byte :=
  (List.range 16).flatMap (fun t => match d.sheetOf j (vp * 16 + t) with
    | none => List.replicate 4096 0
    | some g => d.bytes (sheetAddr g) 4096)

/-- Move the sending side on; `es` when the page to send may be read now, with the errors its bursts show. -/
def Die.sgSend (d : Die) (es : Option (List BurstErr)) : Die :=
  let g := d.sg
  let j := g.job
  let vp := fld (d.flW j 3) 22 0
  match g.sends with
  | [] => d
  | (c, s, what) :: t =>
    match g.sendSt, es with
    | 0, some es =>
      let r := d.staged j vp
      if !r.2 ∨ !r.1.sgPageClear j s what then r.1
      else match r.1.sgPage j s what es with
        | (d, none) => (d.flashCrc j s).sgEnd 3
        | (d, some bs) =>
          let d := d.putStage j vp bs
          let d := if 4 ≤ what then d.count pgFlash 3 else d
          (d.updSg (fun x => { x with sendSt := 1, index := if x.op = 7 ∨ x.op = 8 then x.index else s })).secColl j c s what 1 0 vp
    | 2, _ => d.updSg (fun x => { x with sends := t, sendSt := 0, index := if x.op = 6 then s + 1 else x.index })
    | 3, _ => d.sgEnd 4
    | _, _ => d

/-- The holder folds a received page into its piece, with one read-modify-write of each burst (11 R331, 08 R242); a
burst that cannot be read stays as it is (08 Table 8-3). -/
def Die.foldPiece (d : Die) (a : Nat) (new : List Byte) (es : List BurstErr) : Die :=
  let r := d.readRange false a 65536 es
  let d := (burstsOf a 65536).foldl (fun d b =>
    if r.2.contains b then d else ((d.putPiece b ((new.drop (b - a)).take 64)).1).count (pgStk (b / 2 ^ 36)) 7) r.1
  d.count pgFlash 4

/-- A page has been received from a source: folded into a piece, or into the stripe being filled. -/
def Die.sgTake (d : Die) (j s what src : Nat) (more : Bool) (bs : List Byte) (es : List BurstErr) : Die :=
  let g := d.sg
  if g.op = 7 then
    let acc := gfAxpy g.acc (recoverCoef (eraseList g.erase) g.shards (d.flRank j) src) (symbols bs)
    if more then d.updSg (fun x => { x with acc })
    else
      let out := symBytes acc
      (((d.putProtPage j s out).slotWrite j g.slot s out).count pgFlash 5).updSg (fun x => { x with acc := [], index := s + 1 })
  else
    let d := d.updSg (fun x => { x with index := s })
    if bs.all (fun b => decide (b = 0)) then d
    else
      let a := d.pieceAddr j s what
      d.foldPiece a (symBytes (gfAxpy (symbols (d.bytes a 65536)) (gfC what src) (symbols bs))) es

/-- Move the receiving side on; `es` as for the sending side. -/
def Die.sgRecv (d : Die) (es : Option (List BurstErr)) : Die :=
  let g := d.sg
  let j := g.job
  let vp := fld (d.flW j 3) 22 0 + 1
  match g.recvs with
  | [] => d
  | (c, s, what, src) :: t =>
    match g.recvSt, es with
    | 0, _ =>
      let r := d.staged j vp
      if !r.2 then r.1
      else (r.1.updSg (fun x => { x with recvSt := 1 })).secColl j c s what 2 (if g.op = 7 then fillSource s what src else src) vp
    | 2, some es =>
      let more := match t with
        | (_, s', _, _) :: _ => decide (s' = s)
        | [] => false
      if g.op ≠ 7 ∧ !d.orderClear (d.pieceAddr j s what) 65536 then d
      else (d.sgTake j s what src more (d.getStage j vp) es).updSg (fun x => { x with recvs := t, recvSt := 0 })
    | 3, _ => d.sgEnd 4
    | _, _ => d

/-- Move a running operation on as far as it goes; what reads stack memory waits for SG_OPERATION_END, which tells of
the errors met (log 132). -/
def Die.sgMove (d : Die) (es : Option (List BurstErr)) : Die :=
  if d.sg.busy ∧ d.live 89 ∧ !d.workHeld then (((d.sgSend es).sgRecv es).sgSend es).sgRecv es else d

/-- As above, without a read of stack memory. -/
def Die.sgStep (d : Die) : Die := d.sgMove none

/-! ## Ends -/

/-- A dirty page of the range still has its write-back ahead. -/
def Die.captureWaits (d : Die) (j : Nat) : Bool :=
  (List.range (d.flP j)).any (fun s => match d.objKey j (fld (d.flW j 1) 22 0 + s) with
    | none => false
    | some k => d.dk.reqs.any (fun r => decide (r.obj = k) && decide (r.kind = .writeback)))

/-- The pages that the job's captured version changed count as changed again. -/
def Die.undoDelta (d : Die) (j : Nat) : Die :=
  let d := (d.sg.delta.filter (fun x => decide (x.1 = j))).foldl (fun d x => d.noteChanged j x.2 true) d
  d.updSg (fun g => { g with delta := g.delta.filter (fun x => decide (x.1 ≠ j)) })

/-- The next page of a CAPTURE is copied and its changed bit cleared; a poisoned sheet ends it (11 Table 11-2). -/
def Die.capturePage (d : Die) (j s : Nat) (es : List BurstErr) : Die :=
  let n := d.sg.slot
  if d.protPoisoned j s then ((d.undoDelta j).setSlotState j n 0).sgEnd 2
  else
    let moved := (d.slotOf j (d.flVersion j)).isNone || d.protChanged j s
    let r := d.protRead j s es
    let d := (r.1.slotWrite j n s r.2).noteChanged j s false
    d.updSg (fun g => { g with index := s + 1, delta := if moved then g.delta ++ [(j, s)] else g.delta })

/-- CAPTURE ends. -/
def Die.endCapture (d : Die) (j : Nat) : Die := ((d.setSlotState j d.sg.slot 2).setPhase j 1).sgEnd 0

/-- Free the oldest retained slots until no more than `KEEP` remain. -/
def Die.pruneSlots (d : Die) (j : Nat) : Nat → Die
  | 0 => d
  | n + 1 =>
    let l := (d.slotsOf j).filter (fun k => decide (d.slotState j k = 4))
    let age (k : Nat) : Nat := (d.flVersion j + 65536 - fld (d.slotW j k 3) 15 0) % 65536
    if l.length ≤ fld (d.flW j 8) 31 28 then d
    else match l with
      | [] => d
      | k :: t => (d.setSlotState j (t.foldl (fun b k => if age b < age k then k else b) k) 0).pruneSlots j n

/-- Slot of the version in progress that CAPTURE has completed. -/
def Die.newSlot (d : Die) (j : Nat) : Option Nat :=
  (d.slotsOf j).find? (fun k => decide (d.slotState j k = 2) && decide (fld (d.slotW j k 3) 15 0 = fld (d.flW j 10) 31 16))

/-- The version in progress becomes current; the slot of the one before takes state `old` (11 R334). -/
def Die.makeCurrent (d : Die) (j old : Nat) : Die :=
  let v := d.flVersion j
  let new := fld (d.flW j 10) 31 16
  let n := d.newSlot j
  let d := match d.slotOf j v with
    | none => d
    | some k => d.setSlotState j k old
  let d := match n with
    | none => d
    | some k => d.setSlotState j k 3
  let d := (d.setFlW j 9 (packW [(0, new)])).setPhase j 0
  d.updSg (fun g => { g with delta := g.delta.filter (fun x => decide (x.1 ≠ j)) })

/-- COMMIT ends: the new version is current, and the version before it retained or freed (11 R334). -/
def Die.endCommit (d : Die) (j : Nat) : Die :=
  let n := fld (d.flW j 8) 23 16
  let keep := decide (n ≠ 0) && decide (d.flVersion j % n = 0)
  let d := d.makeCurrent j (if keep then 4 else 0)
  (((if keep then d.pruneSlots j 256 else d)).count pgFlash 1).sgEnd 0

/-- ABANDON ends (11 R332, R333). Before this module has folded shard 0, the version before stays current and the
abandoned one's slot is freed; after, the abandoned version is made current (Table 11-3, row 3), and the slot of the
version before is kept as a retained one (log 133). -/
def Die.endAbandon (d : Die) (j : Nat) : Die :=
  let new := fld (d.flW j 10) 31 16
  let d :=
    if 2 ≤ d.flPhase j then d.makeCurrent j 4
    else
      let d := d.undoDelta j
      match (d.slotsOf j).find? (fun k => decide (1 ≤ d.slotState j k ∧ d.slotState j k ≤ 2) && decide (fld (d.slotW j k 3) 15 0 = new)) with
      | none => d
      | some k => d.setSlotState j k 0
  (((d.setPhase j 0).count pgFlash 2).sgLog 3 j new 0).sgEnd 0

/-- The next page of a RESTORE is copied to its stack page, or a CRC failure ends it (11 R335, R336, R338). -/
def Die.restorePage (d : Die) (j s : Nat) : Die :=
  let r := d.slotRead j d.sg.slot s
  if r.2 then (d.putProtPage j s r.1).updSg (fun g => { g with index := s + 1 }) else (d.flashCrc j s).sgEnd 3

/-- RESTORE ends: the version is current, and later ones are freed (11 R338). -/
def Die.endRestore (d : Die) (j : Nat) : Die :=
  let n := d.sg.slot
  let v := d.sg.version
  let later (k : Nat) : Bool :=
    let x := (fld (d.slotW j k 3) 15 0 + 65536 - v) % 65536
    decide (d.slotState j k ≠ 0) && decide (0 < x ∧ x < 32768)
  let d := (d.slotsOf j).foldl (fun d k => if later k then d.setSlotState j k 0 else d) d
  (((d.setSlotState j n 3).setFlW j 9 (packW [(0, v)])).clearDue j).sgEnd 0

/-- RESUME ends (11 Table 11-7). -/
def Die.endResume (d : Die) (j : Nat) : Die :=
  match (d.slotsOf j).find? (fun n => decide (2 ≤ d.slotState j n) && decide (fld (d.slotW j n 3) 15 0 = d.flVersion j)) with
  | none => d.sgEnd 6
  | some n =>
    if !d.slotOk j n then (d.flashCrc j 0).sgEnd 3
    else if (d.slotW j n 1).toNat + (d.slotW j n 2).toNat * 2 ^ 32 ≠ d.part.serial.toNat ∨ fld (d.slotW j n 0) 7 5 ≠ d.flRank j then
      d.sgEnd 6
    else
      let pos := (d.reg pgFlash 0x128).toNat + (d.reg pgFlash 0x12C).toNat * 2 ^ 32
      let gens := (List.range 8).filter (fun g => bit (d.slotW j n 10) g)
      let dw (i : Nat) : Nat := (d.slotW j n i).toNat + (d.slotW j n (i + 1)).toNat * 2 ^ 32
      let want (g : Nat) : Nat := (dw (28 + 2 * g) + pos) % 2 ^ 64
      let have_ (g : Nat) : Nat := dw (12 + 2 * g)
      let far (g : Nat) : Bool := decide (have_ g ≠ want g) && decide (have_ g ≠ (want g + 1) % 2 ^ 64)
      if gens.any far ∧ bit (d.flW j 0) 30 = false then (d.count pgFlash 7).sgEnd 7
      else
        let d := gens.foldl (fun d g =>
          let d := if have_ g = want g then d
            else if far g then (d.count pgFlash 8).sgLog 2 j (d.flVersion j) g
            else (d.count pgFlash 6).sgLog 1 j (d.flVersion j) g
          { d with skimGen := ssetList d.skimGen 0 ((j * 8 + g) * 4 + 2) [word (want g), word (want g / 2 ^ 32)] }) d
        let d := { d with skimCfg := ssetList d.skimCfg 0 (j * 16 + 13) [d.slotW j n 4, d.slotW j n 5] }
        d.sgEnd 0

/-- FILL ends: the header last, and the slot current. -/
def Die.endFill (d : Die) (j : Nat) : Die :=
  ((d.setSlotState j d.sg.slot 3).setFlW j 9 (packW [(0, d.sg.version)])).sgEnd 0

/-- The running operation goes on by one page, and ends once nothing it waits for is ahead (11 R329). -/
def Die.sgFinish (d : Die) (es : List BurstErr) : Die :=
  let g := d.sg
  let j := g.job
  if !g.busy ∨ g.sends ≠ [] ∨ g.recvs ≠ [] then d
  else match g.op with
    | 1 =>
      if d.captureWaits j ∨ (g.index < d.flP j ∧ !d.protClear j g.index) then d
      else if g.index < d.flP j then d.capturePage j g.index es
      else d.endCapture j
    | 2 => ((d.setPhase j 2).clearDue j).sgEnd 0
    | 3 => (d.setPhase j 3).sgEnd 0
    | 4 => d.endCommit j
    | 5 => d.endAbandon j
    | 7 => d.endFill j
    | 9 => if g.index < d.flP j then d.restorePage j g.index else d.endRestore j
    | 10 => d.endResume j
    | _ => d.sgEnd 0

/-- A media failure of the flash (11 R336); `x` when the access was an `FL_XFER` transfer's. -/
def Die.flashMedia (d : Die) (x : Bool) : Die :=
  let g := d.sg
  let log (d : Die) : Die := (d.updSg (fun s => { s with err := s.err ||| 1 })).sgLog 6 g.job g.version g.index
  if x then (if g.xfer.isSome then (log d).updSg (fun s => { s with xfer := none }) else d)
  else if g.busy ∧ [1, 2, 3, 6, 7, 8, 9, 10].contains g.op then
    let d := log d
    (if g.op = 1 then (d.undoDelta g.job).setSlotState g.job g.slot 0 else d).sgEnd 10
  else d

/-! ## `FL_XFER` (11 R343) -/

/-- A write of `FL_XFER`. -/
def Die.flXfer (d : Die) (v : Word) : Die :=
  if bit v 31 = false ∨ d.sg.xfer.isSome ∨ fld v 15 0 = 0 then d
  else
    let a := fld (d.reg pgFlash 0x144) 15 0 * 2 ^ 32 + fld (d.reg pgFlash 0x140) 31 16 * 65536
    d.updSg (fun s => { s with xfer := some (bit v 30, a, (d.reg pgFlash 0x148).toNat, fld v 15 0) })

/-- Unit `u` of flash to or from a stack address: a stack page that cannot be read gives free contents, and a burst
that refuses the write keeps its own (log 6, 04 R125, 08 R245, R253). -/
def Die.flUnit (d : Die) (toFlash : Bool) (sa u : Nat) (es : List BurstErr) : Die :=
  if toFlash then let r := d.stackGet false sa 65536 es; r.1.flashWrite (u * 65536) r.2.1
  else (d.stackPut sa (d.flashBytes (u * 65536) 65536)).1

/-- The transfer completes; `es` are the errors met in stack memory. It waits for the accesses ahead of it. -/
def Die.flXferDone (d : Die) (es : List BurstErr) : Die :=
  match d.sg.xfer with
  | none => d
  | some (toFlash, a, u, n) =>
    if toFlash ∧ !d.orderClear a (n * 65536) then d
    else ((List.range n).foldl (fun d i => d.flUnit toFlash (a + i * 65536) (u + i) es) d).updSg (fun s => { s with xfer := none })

/-! ## Commands -/

/-- CAPTURE. -/
def execCapture (ini j : Nat) (s : State) : Host.Outcome State Fault Refusal := s.cplD ini pgFlash 0x10C (fun d => d.sgCmd 1 j)
/-- FOLD0. -/
def execFold0 (ini j : Nat) (s : State) : Host.Outcome State Fault Refusal := s.cplD ini pgFlash 0x10C (fun d => (d.sgCmd 2 j).sgStep)
/-- FOLD1. -/
def execFold1 (ini j : Nat) (s : State) : Host.Outcome State Fault Refusal := s.cplD ini pgFlash 0x10C (fun d => (d.sgCmd 3 j).sgStep)
/-- SG_COMMIT. -/
def execSgCommit (ini j : Nat) (s : State) : Host.Outcome State Fault Refusal := s.cplD ini pgFlash 0x10C (fun d => d.sgCmd 4 j)
/-- ABANDON. -/
def execAbandon (ini j : Nat) (s : State) : Host.Outcome State Fault Refusal := s.cplD ini pgFlash 0x10C (fun d => d.sgCmd 5 j)
/-- SERVE. -/
def execServe (ini j : Nat) (s : State) : Host.Outcome State Fault Refusal := s.cplD ini pgFlash 0x10C (fun d => (d.sgCmd 6 j).sgStep)
/-- FILL. -/
def execFill (ini j : Nat) (s : State) : Host.Outcome State Fault Refusal := s.cplD ini pgFlash 0x10C (fun d => (d.sgCmd 7 j).sgStep)
/-- REBUILD. -/
def execRebuild (ini j : Nat) (s : State) : Host.Outcome State Fault Refusal := s.cplD ini pgFlash 0x10C (fun d => (d.sgCmd 8 j).sgStep)
/-- RESTORE. -/
def execRestore (ini j : Nat) (s : State) : Host.Outcome State Fault Refusal := s.cplD ini pgFlash 0x10C (fun d => d.sgCmd 9 j)
/-- SG_RESUME. -/
def execSgResume (ini j : Nat) (s : State) : Host.Outcome State Fault Refusal := s.cplD ini pgFlash 0x10C (fun d => d.sgCmd 10 j)
/-- SG_ACK. -/
def execSgAck (ini j : Nat) (s : State) : Host.Outcome State Fault Refusal := s.cplD ini pgFlash 0x10C (fun d => d.sgCmd 11 j)
/-- SG_OPERATION_END: the running operation moves on by a page, with the errors its stack reads show, or ends. -/
def execSgOperationEnd (s : State) (es : List BurstErr := []) : Host.Outcome State Fault Refusal :=
  s.at_ 89 (fun d => (d.sgMove (some es)).sgFinish es)
/-- FL_XFER: a write of `v`. -/
def execFlXfer (ini : Nat) (v : Word) (s : State) : Host.Outcome State Fault Refusal := s.cplD ini pgFlash 0x14C (fun d => d.flXfer v)
/-- FL_XFER_DONE. -/
def execFlXferDone (s : State) (es : List BurstErr := []) : Host.Outcome State Fault Refusal := s.at_ 89 (fun d => d.flXferDone es)
/-- FLASH_MEDIA. -/
def execFlashMedia (x : Bool) (s : State) : Host.Outcome State Fault Refusal := s.at_ 89 (fun d => d.flashMedia x)
/-- FL_ERR_CLR: a write of `v`. -/
def execFlErrClr (ini : Nat) (v : Word) (s : State) : Host.Outcome State Fault Refusal :=
  s.cplD ini pgFlash 0x108 (fun d => d.updSg (fun g => { g with err := g.err &&& ((2 ^ 2 - 1) ^^^ fld v 1 0) }))

end Sys2Proof.Machine
end

