-- ==== Sys2Proof/Machine/Fabric.lean ====
section
/-!
DEFINITION. The commands of the Corsum fabric: links, frames, the address and route frames, collectives,
election, the transmit ring (10).
-/

namespace Sys2Proof.Machine

/-! ## Links (10 R289-R291) -/

/-- A commit of the port page (12 R365, 10 Table 10-14): answers whether it is refused. -/
def Die.portCommit (d : Die) (p : Nat) : Die × Bool :=
  let pg := pgPort p
  let v := d.shadow pg 0x108
  if 128 < fld v 31 24 + fld v 23 16 + fld v 15 8 + fld v 7 0 then (d, true)
  else
    let d := d.commitPage pg
    let en := bit (d.reg pg 0x104) 0
    let l := (d.port p).link
    if en ∧ l = 5 ∨ ¬en ∧ l ≠ 5 then ((d.restart p).electBest, false) else (d, false)

/-- An HELLO or HEARTBEAT frame of this module. -/
def Die.greeting (d : Die) (p ty flag : Nat) : Frame :=
  let hi (x : DWord) : Word := word (x.toNat / 2 ^ 32)
  let lo (x : DWord) : Word := word x.toNat
  let ser := d.part.serial
  let x := d.port p
  d.mkFrame ty 0 0xFFFF
    [hi ser, lo ser, packW [(28, p), (26, flag), (0, d.fab.addr)], hi x.pSerial, lo x.pSerial,
     packW [(26, d.fab.best.2)], word (d.fab.best.1 / 2 ^ 32), word d.fab.best.1,
     hi d.fab.coordSerial, lo d.fab.coordSerial] []

/-- Two header words as a 64-bit value. -/
def Frame.dw (f : Frame) (i : Nat) : DWord := BitVec.ofNat 64 ((f.w i).toNat * 2 ^ 32 + (f.w (i + 1)).toNat)

/-- The condition of step 5 holds: the link comes UP with its sequences at 0 and sends its limits. -/
def Die.comeUp (d : Die) (p : Nat) : Die :=
  let x := d.port p
  if x.link = 3 ∧ x.heard ∧ x.ackSent then
    ((d.updPort p (fun x => { x with link := 4, lseq := 0, rseq := 0 })).sendCredit p false).electBest
  else d

/-- What a HELLO or HEARTBEAT says of the partner (10 R297). -/
def Die.meet (d : Die) (p : Nat) (f : Frame) (asleep : Bool) : Die :=
  (d.updPort p (fun x => { x with
    pSerial := f.dw 3, pPort := fld (f.w 5) 31 28, pAddr := fld (f.w 5) 15 0, pAsleep := asleep,
    best := some ((f.dw 9).toNat, fld (f.w 8) 31 26) })).electBest

/-- A HELLO frame (10 Table 10-1 steps 4 to 5L). -/
def Die.takeHello (d : Die) (p : Nat) (f : Frame) : Die :=
  if f.dw 3 = d.part.serial then d.cpErr p 6
  else
    let d := d.meet p f false
    let d := d.updPort p (fun x => { x with greeted := true, heard := x.heard || decide (f.dw 6 = d.part.serial) })
    d.comeUp p

/-- Everything a landed frame, a credit or a page may let the engines and the securing controller do. -/
def Die.fabSettle (d : Die) : Die := (d.peAll).sgStep

/-- The frame is the next that port `p` takes up: the oldest of those that came in by codewords given as commands; when
none waits, a frame whose codewords the commands do not tell (log 139). -/
def Die.nextIn (d : Die) (p : Nat) (f : Frame) : Bool :=
  match (d.port p).inFrames with
  | [] => true
  | g :: _ => decide (g = f)

/-- A frame of kind `k` arrives at port `p` (10 R291-R294, R317): asleep, only a wake event is looked for; a
frame of another kind is another command. -/
def Die.frameIn (d : Die) (p : Nat) (f : Frame) (k : Nat × Nat) (act : Die → Die) : Die :=
  let l := (d.port p).link
  if (l ≠ 4 ∧ ¬(l = 3 ∧ k.1 = 3)) ∨ (f.hOk ∧ f.kind.isSome ∧ f.kind ≠ some k) ∨ !d.nextIn p f then d
  else
    let d := d.updPort p (fun x => { x with inFrames := x.inFrames.drop 1 })
    let d := if d.wakesOn f then d.wakeEvent 2 else d
    if d.pw.asleep then d.count (pgPort p) 2 f.units
    else
      let r := d.rx p f
      if r.2 then (act r.1).fabSettle else r.1

/-- LINK_ENABLE (10 R290): the page of port `p` is committed. -/
def execLinkEnable (ini p : Nat) (s : State) : Host.Outcome State Fault Refusal :=
  s.cplD ini (pgPort p) 0x1C (fun d =>
    let r := d.portCommit p
    r.1.updHdr (pgPort p) (fun h => { h with refused := r.2 }))

/-- LINK_TRAINING (10 Table 10-1 step 2): every lane of port `p` is trained. -/
def execLinkTraining (p : Nat) (s : State) : Host.Outcome State Fault Refusal :=
  s.at_ (72 + p) (fun d => if (d.port p).link = 1 then d.updPort p (fun x => { x with link := 2, locks := 0 }) else d)

/-- LANE_LOCK (10 Table 10-1 step 3): every lane has locked, with a skew of `skew` rounds. -/
def execLaneLock (p skew : Nat) (s : State) : Host.Outcome State Fault Refusal :=
  s.at_ (72 + p) (fun d =>
    if (d.port p).link ≠ 2 then d
    else if 16 < skew then (d.cpErr p 5).restart p
    else d.updPort p (fun x => { x with link := 3, locks := 255, rxCw := [], asm := none }))

/-- CODEWORD_LOCK_LOSS (10 R290, R291): lane `lane` of port `p` loses codeword lock. -/
def execCodewordLockLoss (p lane : Nat) (s : State) : Host.Outcome State Fault Refusal :=
  s.at_ (72 + p) (fun d =>
    let l := (d.port p).link
    let d := d.updPort p (fun x => { x with locks := x.locks &&& (255 - 2 ^ lane) })
    if l = 4 then (d.linkDown p none).fabSettle else if l = 2 ∨ l = 3 then d.restart p else d)

/-- HELLO: a HELLO frame arrives at port `p`. -/
def execHello (p : Nat) (f : Frame) (s : State) : Host.Outcome State Fault Refusal :=
  s.at_ (72 + p) (fun d => d.frameIn p f (3, 0) (fun d => d.takeHello p f))

/-- HELLO_TIMER (10 R290 step 4). -/
def execHelloTimer (p : Nat) (s : State) : Host.Outcome State Fault Refusal :=
  s.at_ (72 + p) (fun d =>
    if (d.port p).link ≠ 3 then d
    else
      let g := (d.port p).greeted
      let d := d.emit p (d.greeting p 3 (if g then 2 else 0))
      (d.updPort p (fun x => { x with ackSent := x.ackSent || g })).comeUp p)

/-- FAB_SILENCE (10 R291). -/
def execFabSilence (p : Nat) (s : State) : Host.Outcome State Fault Refusal :=
  s.at_ (72 + p) (fun d => if d.up p then (d.linkDown p (some 4)).fabSettle else d)

/-- HEARTBEAT (10 R297). -/
def execHeartbeat (p : Nat) (f : Frame) (s : State) : Host.Outcome State Fault Refusal :=
  s.at_ (72 + p) (fun d => d.frameIn p f (6, 0) (fun d => d.meet p f (bit (f.w 5) 26)))

/-- HEARTBEAT_TIMER (10 R297, R317): on every UP link. -/
def execHeartbeatTimer (s : State) : Host.Outcome State Fault Refusal :=
  s.onDie (fun d => (List.range 16).foldl (fun d p =>
    if d.up p ∧ d.live (72 + p) then d.emit p (d.greeting p 6 (b2n d.pw.asleep)) else d) d)

/-- CREDIT (10 R294, R295). -/
def execCredit (p : Nat) (f : Frame) (s : State) : Host.Outcome State Fault Refusal :=
  s.at_ (72 + p) (fun d => d.frameIn p f (2, 0) (fun d => d.takeCredit p f))

/-- CREDIT_TIMER (10 R295). A sleeping module returns no credit (R317). -/
def execCreditTimer (p : Nat) (s : State) : Host.Outcome State Fault Refusal :=
  s.at_ (72 + p) (fun d => if d.up p ∧ !d.pw.asleep then d.sendCredit p false else d)

/-! ## Data and collective frames (10 R302-R314) -/

/-- An accepted DATA or COLL frame: dropped for its epoch, delivered, or forwarded (10 R302, R303). -/
def Die.routed (d : Die) (p : Nat) (f : Frame) (here : Die → Die) : Die :=
  if f.epoch ≠ d.fab.epoch then d.count (pgPort p) 8
  else if f.dst = d.fab.addr then here d
  else if f.ttl ≤ 1 then d.count (pgPort p) 7
  else d.sendRouted p ((f.setW 2 (setFld (f.w 2) 15 8 (f.ttl - 1))).seal) true

/-- DATA_SHEET (10 R308). -/
def execDataSheet (p : Nat) (f : Frame) (s : State) : Host.Outcome State Fault Refusal :=
  s.at_ (72 + p) (fun d => d.frameIn p f (1, 0) (fun d => d.routed p f (fun d => d.takeSheet p f)))
/-- DATA_SKIM (10 R313). -/
def execDataSkim (p : Nat) (f : Frame) (s : State) : Host.Outcome State Fault Refusal :=
  s.at_ (72 + p) (fun d => d.frameIn p f (1, 1) (fun d => d.routed p f (fun d => d.takeSkim f)))
/-- DATA_HOST (10 R314). -/
def execDataHost (p : Nat) (f : Frame) (s : State) : Host.Outcome State Fault Refusal :=
  s.at_ (72 + p) (fun d => d.frameIn p f (1, 2) (fun d => d.routed p f (fun d => d.toRing f)))
/-- GRANT (10 R308). -/
def execGrant (p : Nat) (f : Frame) (s : State) : Host.Outcome State Fault Refusal :=
  s.at_ (72 + p) (fun d => d.frameIn p f (7, 0) (fun d => d.routed p f (fun d => d.takeColl f)))
/-- FINAL (10 R308). -/
def execFinal (p : Nat) (f : Frame) (s : State) : Host.Outcome State Fault Refusal :=
  s.at_ (72 + p) (fun d => d.frameIn p f (7, 1) (fun d => d.routed p f (fun d => d.takeColl f)))
/-- REPEAT (10 R309). -/
def execRepeat (p : Nat) (f : Frame) (s : State) : Host.Outcome State Fault Refusal :=
  s.at_ (72 + p) (fun d => d.frameIn p f (7, 2) (fun d => d.routed p f (fun d => d.takeColl f)))
/-- COLL_ABORT (10 R312). -/
def execCollAbort (p : Nat) (f : Frame) (s : State) : Host.Outcome State Fault Refusal :=
  s.at_ (72 + p) (fun d => d.frameIn p f (7, 3) (fun d => d.routed p f (fun d => d.takeColl f)))

/-! ## Address and route frames (10 R299-R304, R316) -/

/-- The reply to an address or route frame: out of the port it came by, or straight into this module's own
receive ring for a frame the module sent itself. -/
def Die.answer (d : Die) (p : Option Nat) (f : Frame) (sub : Nat) (pay : List Byte) : Die :=
  let tag := fld (f.w 3) 15 0
  match p with
  | some p => d.sendPath 4 sub tag (f.replyPath p) f.src pay
  | none => d.toRing (d.mkFrame 4 0 f.src [packW [(28, sub), (0, tag)]] pay)

/-- An ACK: status 0 applied, 1 refused (10 R300). -/
def Die.ackFrame (d : Die) (p : Option Nat) (f : Frame) (applied : Bool) : Die :=
  d.answer p f 3 [BitVec.ofNat 8 (b2n (!applied)), BitVec.ofNat 8 f.sub]

/-- The payload of a REPORT (10 Table 10-5). -/
def Die.reportBytes (d : Die) : List Byte :=
  beBytes 8 d.part.serial.toNat ++ beBytes 2 d.fab.addr ++ beBytes 2 d.fab.epoch ++ beBytes 4 d.fab.fence.toNat ++
    (List.range 16).flatMap (fun p =>
      let x := d.port p
      beBytes 8 x.pSerial.toNat ++ beBytes 4 (pack [(31, b2n (d.up p)), (24, x.pPort), (0, x.pAddr)]))

/-- A big-endian field of a payload. -/
def Frame.be (f : Frame) (o n : Nat) : Nat := beNat ((f.pay.drop o).take n)

/-- Set and clear bits of `FAB_FENCE` (10 R316). -/
def Die.setFence (d : Die) (on off : Word) : Die :=
  let v := (d.fab.fence ||| on) &&& ~~~off
  d.updFab (fun x => { x with fence := v, event := if v = x.fence then x.event else x.event ||| 4 })

/-- The condition of an ASSIGN (10 R301). -/
def Die.assignOk (d : Die) (f : Frame) : Bool :=
  let t := (f.be 2 2 + 65536 - d.fab.epoch) % 65536
  decide (f.be 8 8 = d.fab.best.1) && decide (1 ≤ t) && decide (t ≤ 32767)

/-- An ASSIGN is applied (10 R301). -/
def Die.assign (d : Die) (f : Frame) : Die :=
  let d := d.updFab (fun x => { x with
    addr := f.be 0 2, epoch := f.be 2 2, coordAddr := f.be 4 2, coordSerial := BitVec.ofNat 64 (f.be 8 8),
    pathLen := f.be 24 1, path := (f.pay.drop 25).take 20, assigned := true, event := x.event ||| 2 })
  let d := (d.setFence (word (f.be 16 4)) (word (f.be 20 4))).count pgFab 5
  ((List.range 16).foldl (fun d p => d.failAll p 0x10 false) d).skimEpoch

/-- FENCE and ROUTE frames are applied only in the module's epoch and from its coordinator (10 R301). -/
def Die.fromCoord (d : Die) (f : Frame) : Bool := decide (f.epoch = d.fab.epoch) && decide (f.src = d.fab.coordAddr)

/-- Bits of a route entry (10 Table 10-6). -/
def routeMask : Word := 0xBF0FFFF0

/-- The records of a ROUTE WRITE. -/
def Die.routeWrite (d : Die) (f : Frame) : Die :=
  let sh := (List.range (8 * f.len)).foldl (fun m r =>
    let first := f.be (8 * r) 2
    let n := min (f.be (8 * r + 2) 2) (65536 - first)
    ssetList m 0 first (List.replicate n (word (f.be (8 * r + 4) 4) &&& routeMask))) d.fab.shadow
  d.updFab (fun x => { x with shadow := sh })

/-- An address or route frame for this module (10 R300); `p` is the port it came by, none for the transmit
ring. -/
def Die.takeAddr (d : Die) (p : Option Nat) (f : Frame) : Die :=
  if f.ty = 4 then
    match f.sub with
    | 0 => (d.answer p f 1 d.reportBytes).ackFrame p f true
    | 2 => if d.assignOk f then (d.assign f).ackFrame p f true else d.ackFrame p f false
    | 4 =>
      if d.fromCoord f then (d.setFence (word (f.be 0 4)) (word (f.be 4 4))).ackFrame p f true
      else d.ackFrame p f false
    | _ => d.toRing f
  else if d.fromCoord f then
    let d := match f.sub with
      | 0 => d.routeWrite f
      | 1 => d.updFab (fun x => { x with route := x.shadow, shadow := x.route })
      | _ => d.updFab (fun x => { x with shadow := x.route })
    d.ackFrame p f true
  else d.ackFrame p f false

/-- An accepted source-routed frame: forwarded, or this module's (10 R299). -/
def Die.sourced (d : Die) (p : Nat) (f : Frame) : Die :=
  if fld (f.w 3) 21 16 < fld (f.w 3) 27 22 then d.sourceRoute p f else d.takeAddr (some p) f

/-- QUERY. -/
def execQuery (p : Nat) (f : Frame) (s : State) : Host.Outcome State Fault Refusal :=
  s.at_ (72 + p) (fun d => d.frameIn p f (4, 0) (fun d => d.sourced p f))
/-- REPORT. -/
def execReport (p : Nat) (f : Frame) (s : State) : Host.Outcome State Fault Refusal :=
  s.at_ (72 + p) (fun d => d.frameIn p f (4, 1) (fun d => d.sourced p f))
/-- ASSIGN. -/
def execAssign (p : Nat) (f : Frame) (s : State) : Host.Outcome State Fault Refusal :=
  s.at_ (72 + p) (fun d => d.frameIn p f (4, 2) (fun d => d.sourced p f))
/-- ADDR_ACK. -/
def execAddrAck (p : Nat) (f : Frame) (s : State) : Host.Outcome State Fault Refusal :=
  s.at_ (72 + p) (fun d => d.frameIn p f (4, 3) (fun d => d.sourced p f))
/-- FENCE. -/
def execFence (p : Nat) (f : Frame) (s : State) : Host.Outcome State Fault Refusal :=
  s.at_ (72 + p) (fun d => d.frameIn p f (4, 4) (fun d => d.sourced p f))
/-- LINK_EVENT. -/
def execLinkEvent (p : Nat) (f : Frame) (s : State) : Host.Outcome State Fault Refusal :=
  s.at_ (72 + p) (fun d => d.frameIn p f (4, 5) (fun d => d.sourced p f))
/-- ROUTE_WRITE. -/
def execRouteWrite (p : Nat) (f : Frame) (s : State) : Host.Outcome State Fault Refusal :=
  s.at_ (72 + p) (fun d => d.frameIn p f (5, 0) (fun d => d.sourced p f))
/-- ROUTE_COMMIT. -/
def execRouteCommit (p : Nat) (f : Frame) (s : State) : Host.Outcome State Fault Refusal :=
  s.at_ (72 + p) (fun d => d.frameIn p f (5, 1) (fun d => d.sourced p f))
/-- ROUTE_SYNC. -/
def execRouteSync (p : Nat) (f : Frame) (s : State) : Host.Outcome State Fault Refusal :=
  s.at_ (72 + p) (fun d => d.frameIn p f (5, 2) (fun d => d.sourced p f))

/-! ## Election, time-outs, the transmit ring -/

/-- COORDINATOR (10 R298): the module's own serial has been the best for `FAB_SETTLE` port cycles. -/
def execCoordinator (s : State) : Host.Outcome State Fault Refusal :=
  s.at_ 90 (fun d =>
    if d.fab.best.1 = d.part.serial.toNat ∧ d.fab.coord = false then
      d.updFab (fun x => { x with coord := true, event := x.event ||| 1 })
    else d)

/-- COLL_TIMEOUT (10 R312): the collective of engine `p` has made no progress for `FAB_COLL_TIMEOUT` cycles. -/
def execCollTimeout (p : Nat) (s : State) : Host.Outcome State Fault Refusal :=
  s.at_ (72 + p) (fun d =>
    if d.reg pgFab 0x138 = 0 ∨ d.pw.asleep then d else (d.collFail p 0x14 false).fabSettle)

/-- A frame of the transmit ring is sent on its way (10 R299, R303, R314). -/
def Die.ringFrame (d : Die) (f : Frame) : Die :=
  let f := f.seal
  if f.ty = 1 ∧ f.sub = 2 then
    if f.dst = d.fab.addr then d.toRing f else d.sendRouted 0 f false
  else if f.ty = 4 ∨ f.ty = 5 then
    let h := fld (f.w 3) 21 16
    if fld (f.w 3) 27 22 ≤ h then d.takeAddr none f
    else
      let q := f.nib 4 h
      if !d.up q then d.count (pgPort q) 9 else d.tx q ((f.setW 3 (setFld (f.w 3) 21 16 (h + 1))).seal)
  else d.count pgFab 7

/-- Read `n` units of the transmit ring from unit `u`; `es` are the errors met. What no read delivers is free (log 6). -/
def Die.txUnits (d : Die) (u n : Nat) (es : List BurstErr) : Die × List Byte :=
  (List.range n).foldl (fun acc i =>
    let r := acc.1.stackGet false (fld (d.reg pgFab 0x120) 27 0 * 2 ^ 20 + (u + i) % 16384 * 64) 64 es
    (r.1, acc.2 ++ r.2.1)) (d, [])

/-- Hand whole frames of the transmit ring to the ports, at most `n` of them. -/
def Die.drainTx (d : Die) (es : List BurstErr) : Nat → Die
  | 0 => d
  | n + 1 =>
    let h := d.fab.txHead
    let m := (fld (d.reg pgFab 0x124) 13 0 + 16384 - h) % 16384
    if m = 0 then d
    else
      let hb := d.txUnits h 1 es
      let hdr := (List.range 16).map (fun i => word (beNat ((hb.2.drop (4 * i)).take 4)))
      let k := fld (hdr.getD 0 0) 22 16
      if m < 1 + k then hb.1
      else
        let b := hb.1.txUnits (h + 1) k es
        Die.drainTx ((b.1.updFab (fun x => { x with txHead := (h + 1 + k) % 16384 })).ringFrame { hdr, pay := b.2 }) es n

/-- A write of `TX_TAIL`; `es` are the errors met in the ring. -/
def Die.writeTxTail (d : Die) (v : Word) (es : List BurstErr) : Die :=
  ((d.setReg pgFab 0x124 (word (fld v 13 0))).drainTx es 16384).fabSettle

/-- TX_TAIL (10 R314): a write of `v`. -/
def execTxTail (ini : Nat) (v : Word) (s : State) (es : List BurstErr := []) : Host.Outcome State Fault Refusal :=
  s.cplD ini pgFab 0x124 (fun d => d.writeTxTail v es)

/-- A write of `FAB_CMD` (10 R319). -/
def Die.fabCmd (d : Die) (v : Word) : Die := if bit v 0 then d.updFab (fun x => { x with event := 0 }) else d

/-- EVENT_ACK. -/
def execEventAck (ini : Nat) (s : State) : Host.Outcome State Fault Refusal :=
  s.cplD ini pgFab 0x11C (fun d => d.fabCmd 1)

/-- A write of `CP_ERR_CLR` (10 R321). -/
def Die.cpErrClr (d : Die) (p : Nat) (v : Word) : Die :=
  d.updPort p (fun x => { x with err := x.err &&& (127 - fld v 6 0), peFailV := if bit v 7 then false else x.peFailV })

/-- CP_ERR_CLR: a write of `v`. -/
def execCpErrClr (ini p : Nat) (v : Word) (s : State) : Host.Outcome State Fault Refusal :=
  s.cplD ini (pgPort p) 0x110 (fun d => d.cpErrClr p v)

end Sys2Proof.Machine
end

