-- ==== Sys2Proof/Machine/Lath.lean ====
section
/-!
DEFINITION. Movement on the Lath: flits hop by hop, ownership and violations, crossings and the seam, what lands from
circuits, the sideband, island reducers, and the engines' REDUCE and COPY that use them (07, 02 R46-R55).
-/

namespace Sys2Proof.Machine

/-- A region's stream record, by a node of the region: kind, id, source, destination. -/
def Die.streamAt (d : Die) (n id : Nat) : Option (Nat × Nat × Nat × Nat) :=
  match d.regionOf n with
  | none => none
  | some (_, r) => r.streams.find? (fun s => decide (s.2.1 = id))

/-! ## Violations (07 R218) -/

/-- Node where the notice about a stream or circuit goes: where its flits enter. -/
def Die.sourceOf (d : Die) (n id : Nat) : Option Nat :=
  if 512 ≤ id then (d.circ id).map (fun c => c.src.1) else (d.streamAt n id).map (fun s => s.2.2.1)

/-- A notice to the source of a stream or circuit. -/
def Die.tellLoss (d : Die) (n id : Nat) (r : DescRef) (own : Bool) : Die :=
  match d.sourceOf n id with
  | none => d
  | some v => d.send n v (.violation id r n own)

/-- A dropped flit is counted and its owner and sender are told. -/
def Die.slotDrop (d : Die) (n owner : Nat) (f : Flit) : Die :=
  let d := d.noteDrop n f.stream
  let d := if owner ≠ 0 ∧ owner ≠ f.stream then d.tellLoss n owner {} false else d
  if f.par then d.tellLoss n f.stream f.ref true else d

/-- An issued descriptor by its name. -/
def Die.inflOf (d : Die) (r : DescRef) : Option Infl := (d.queue r.core r.queue).infl.find? (fun e => decide (e.id = r.id))

/-- A descriptor in flight completes with SLOT_VIOLATION. -/
def Die.slotFault (d : Die) (r : DescRef) : Die :=
  d.updQueue r.core r.queue (fun x => { x with infl := x.infl.map (fun e =>
    if e.id = r.id then { e with fault := some (stSlot, 0), left := 0, waits := false } else e) })

/-- A COPY in flight whose plan stream out of node `n` is `id`. -/
def Die.copyOn (d : Die) (n id : Nat) (e : Infl) : Bool :=
  decide (dOpc e.d = opcCopy) && (match d.sheetOf e.job (e.vsn 1), d.sheetOf e.job (e.vsn 3) with
    | some a, some b => decide (sliceOf a = n) && decide (d.planStream n 3 (fun v => decide (v = sliceOf b)) = some id)
    | _, _ => false)

/-- The descriptor in flight that sends stream `id` from node `n`: a REDUCE of that core, or a COPY of any core. -/
def Die.sender (d : Die) (n id : Nat) : Option DescRef :=
  match (d.inflight n).find? (fun y => decide (dOpc y.2.d = opcReduce) && decide (d.reduceStream n y.2.d = some id)) with
  | some y => some { core := n, queue := y.1, id := y.2.id }
  | none =>
    match d.queues.findSome? (fun x => (x.2.infl.find? (d.copyOn n id)).map (fun e => ({ core := x.1 / 4, queue := x.1 % 4, id := e.id } : DescRef))) with
    | some r => some r
    | none => d.cores.findSome? (fun x => (x.2.inj.infl.find? (d.copyOn n id)).map (fun e => { core := x.1, queue := 4, id := e.id }))

/-! ## Circuits that lose a flit or end (07 R218, R223, Table 7-5) -/

/-- Finish a sheet that a fill circuit has carried: the header a fill leaves, and poison from an uncorrectable burst or a
lost flit (05 R138, R146, 08 R245, R253). Its writer is none (05 Table 5-3). -/
def Die.filled (d : Die) (c : Circ) (g s : Nat) : Die :=
  let d := d.tidySheet g (fld (d.sideW g 0) 3 0)
  let d := (d.setSide g 0 (setFld (d.sideW g 0) 27 24 0)).setSide g 4 (setFld (d.sideW g 4) 11 0 0xFFF)
  let d := match c.lost with
    | none => d
    | some v => d.markPoison g { cause := 4, core := v, island := islOf v } (d.sheetAttempt g)
  if !c.ue then d
  else
    let e := d.putPoison g { cause := 1, core := 0xFFF, island := 64 + s } (d.sheetAttempt g)
    if (d.sheetPoison g).isSome then e.lastPoisoned g 1 else e.notePoisoned g 1

/-- A circuit has carried its sheet of the page of object `k`. -/
def Die.pageCarried (d : Die) (c : Circ) (k : Nat) : Die :=
  let step (d : Die) : Die := d.updDk (fun x => { x with reqs := x.reqs.map (fun r =>
    if r.obj = k ∧ r.granted = true then { r with sheets := r.sheets + 1, blocked := false } else r) })
  match d.obj k with
  | none => d
  | some o =>
    if !c.wback then step (d.filled c (o.frame * 16 + c.sheet) o.stack)
    else if c.lost.isSome then d.count pgDk 0xC
    else step d

/-- The image of a sheet that has left by an edge link. -/
def gotImage (l : List Flit) : List Byte :=
  (List.range 68).flatMap (fun u => match l.find? (fun f => decide (f.addr / 8 % 128 = u)) with
    | none => if u < 66 then List.replicate 64 0 else []
    | some f => f.bytes)

/-- The last flit of a circuit has landed: it closes. -/
def Die.endCirc (d : Die) (c : Circ) : Die :=
  let d := d.closeCircuits (fun x => decide (x.id = c.id))
  match c.obj, c.copy, c.port with
  | some k, _, _ => d.pageCarried c k
  | none, some r, _ => Die.settle { d with copyq := d.copyq.filter (fun x => !(decide (x.ref = r.ref) && decide (x.b = r.b))) } r.ref
  | none, none, some (p, m) =>
    (if c.lost.isSome then d.peLost p m else d.peMoved p m (if m.out then gotImage c.got else m.image)).fabSettle
  | none, none, none => d

/-- A flit of a circuit has landed, or its loss has been reported. -/
def Die.flitDone (d : Die) (id : Nat) : Die :=
  let d := d.updCirc id (fun c => { c with left := c.left - 1 })
  match d.circ id with
  | some c => if c.left = 0 then d.endCirc c else d
  | none => d

/-- A circuit is named by the notice of a dropped flit, its own or another's in its slot. -/
def Die.circLost (d : Die) (id v : Nat) (own : Bool) : Die :=
  match d.circ id with
  | none => d
  | some c =>
    let d := d.updCirc id (fun c => { c with lost := some v })
    let d := match c.copy with
      | some r => d.slotFault r.ref
      | none => d
    if own then d.flitDone id else d

/-! ## Crossings and the seam (07 R219, R220, R231-R234) -/

/-- The outcome of a flit lost at a crossing: as a dropped one (Table 7-5). -/
def Die.crossDrop (d : Die) (n : Nat) (f : Flit) : Die :=
  ((d.count (pgIsl (islOf n)) 2).islErr (islOf n) 5).tellLoss n f.stream f.ref true

/-- No seam lane passes a flit during a level change (07 R234). -/
def Pwr.seamShut (p : Pwr) : Bool := p.chgW.isSome || p.chgE.isSome

/-- A lane can pass a flit now: at one level no flit waits for a credit (07 R231, R232). -/
def Die.seamPasses (d : Die) (l : Nat) : Bool :=
  !d.pw.seamShut && (decide (d.pw.levW = d.pw.levE) || decide (sget d.seamUsed 0 l < 8))

/-- A flit passes a lane from node `n` by output `o`. -/
def Die.seamPass (d : Die) (n o l : Nat) (f : Flit) : Die :=
  match outNode n o with
  | none => d
  | some m => Die.pushFlit { d with seamUsed := sset d.seamUsed 0 l (sget d.seamUsed 0 l + 1) } m (arrPort o) f

/-- The flits that wait at a lane pass, oldest first, as far as they can. -/
def Die.seamDrain (d : Die) (n o l : Nat) : Nat → Die
  | 0 => d
  | k + 1 =>
    match sget d.seamWait [] l with
    | [] => d
    | f :: t =>
      if d.seamPasses l then (Die.seamPass { d with seamWait := sset d.seamWait [] l t } n o l f).seamDrain n o l k else d

/-- Node and output that feed lane `l`. -/
def seamFrom (l : Nat) : Nat × Nat := (coreAt (if l % 2 = 1 then 32 else 31) (l / 2), l % 2)

/-- Every lane passes what waits at it, once a level change has ended (07 R234). -/
def Die.seamRestart (d : Die) : Die :=
  (List.range 128).foldl (fun d l => d.seamDrain (seamFrom l).1 (seamFrom l).2 l (sget d.seamWait [] l).length) d

/-- A flit of a write-back circuit reaches its stack, one of a port engine's circuit its engine. -/
def Die.edgeOut (d : Die) (f : Flit) : Die :=
  match d.circ f.stream with
  | none => d
  | some c =>
    let d := match c.obj with
      | none => d.updCirc c.id (fun c => { c with got := c.got ++ [f] })
      | some k => match d.obj k with
        | none => d
        | some o =>
          if o.released then d else (d.stackPut (d.pageAddr o.stack o.spage + 4352 * c.sheet + f.addr / 8 % 128 * 64) f.bytes).1
    d.flitDone c.id

/-- A flit leaves node `n` by output `o` in slot `s`. -/
def Die.sendFlit (d : Die) (n o s : Nat) (f : Flit) : Die :=
  let f := { f with slot := s }
  match outNode n o with
  | none => d.edgeOut f
  | some m =>
    if islOf m ≠ islOf n ∧ d.wrapShut (islOf m) then d.crossDrop n f
    else match seamLane n o with
      | none => d.pushFlit m (arrPort o) f
      | some l =>
        if sget d.seamWait [] l = [] ∧ d.seamPasses l then d.seamPass n o l f
        else
          let d : Die := { d with seamWait := pushAt d.seamWait l f }
          if d.pw.seamShut then d else d.count (pgIsl (islOf n)) 0xB

/-! ## Consumption at L and R (05 R138, 07 R217) -/

/-- A commit of a slice's page while a circuit into it is open leaves the old plan in force (05 R162). -/
def Die.holdPlan (d : Die) (n : Nat) : Die :=
  if d.circs.any (fun c => decide (c.node = some n)) then
    { d with heldPlan := sset d.heldPlan [] n ((List.range 16).map (d.planWord n)) }
  else d

/-- The header of a sheet that a COPY has written, by R143 and R149. -/
def Die.copyHeader (d : Die) (g : Nat) (f : Flit) : Die :=
  let r := f.ref
  match (d.queue r.core r.queue).infl.find? (fun e => decide (e.id = r.id)) with
  | none => d
  | some e =>
    let f0 := dFmtA e.d
    let base := e.vsn 3
    let vsn := match (List.range (dK e.d)).find? (fun k => decide (d.sheetOf e.job (base + k) = some g)) with
      | none => base
      | some k => base + k
    d.stamp g vsn f0 0 (2 ^ (vecsPerSheet f0 / 32) - 1) (writerOf r.core e) f.poison

/-- A unit of a sheet is written: payload, scale area, and for a fill the header and the check area as they arrive; a COPY
writes the header by its own rule, and a port engine writes it last (05 R146, 07 Table 7-2). -/
def Die.landUnit (d : Die) (g unit : Nat) (f : Flit) (fill copy : Bool) : Die :=
  if unit < 64 then d.setBytes (sheetAddr g + 64 * unit) f.bytes
  else if unit = 64 then (if fill then d.setSideBytes g 0 16 f.bytes else if copy then d.copyHeader g f else d)
  else if unit = 65 then (if fill then d.setSideBytes g 61 3 (f.bytes.drop 52) else d)
  else d.setSideBytes g (16 + 16 * (unit - 66)) 16 f.bytes

/-- A flit lands in its slice, from a plan stream's COPY or from a circuit. -/
def Die.landSlice (d : Die) (n : Nat) (f : Flit) : Die :=
  let g := n * 512 + f.addr / 1024 % 512
  let unit := f.addr / 8 % 128
  match d.circ f.stream with
  | some c => (d.landUnit g unit f c.obj.isSome c.copy.isSome).flitDone c.id
  | none => if 512 ≤ f.stream then d else (d.landUnit g unit f false true).settle f.ref

/-- A flit that meets a bank the Lath port does not own is dropped (05 R138). -/
def Die.bankDrop (d : Die) (n : Nat) (f : Flit) : Die :=
  let d := d.count (pgCore n) 0x42
  if 512 ≤ f.stream then d.circLost f.stream n true else d.slotFault f.ref

/-- A flit leaves through L in slot `s`; answers false when it is dropped by R218. -/
def Die.intoCore (d : Die) (n s : Nat) (f : Flit) : Die × Bool :=
  match f.kind with
  | 0 => (if d.lathBank n s (f.addr / 16384 % 32) then d.landSlice n f else d.bankDrop n f, true)
  | 2 =>
    if (d.core n).landing.length < 64 then
      let isl := f.ref.core
      let t := d.rt isl f.ref.id
      let l : Landing := { slot := f.addr / 16384 % 32, index := f.addr / 256 % 64, cols := fld t.w0 19 15 + 1,
                           count := (fld t.w0 24 20 + 1) * (fld t.w0 19 15 + 1), data := f.data, island := isl,
                           entry := f.ref.id, pz := f.poison }
      (d.updCore n (fun c => { c with landing := c.landing ++ [l] }), true)
    else (d, false)
  | _ => (d, true)

/-- A checked flit leaves by one output of its node: to a neighbour, into the core, or into the reducer. -/
def Die.hopOut (n owner : Nat) (f : Flit) (d : Die) (e : Nat × Nat) : Die :=
  match e.1 with
  | 4 => if (d.intoCore n e.2 f).2 then (d.intoCore n e.2 f).1 else d.slotDrop n owner f
  | 5 => d.pushFlit n 7 f
  | o => d.sendFlit n o e.2 f

/-- Owner of the first entry that takes a flit; 0 for none. -/
def Die.ownerOf (d : Die) (n : Nat) (es : List (Nat × Nat)) : Nat :=
  match es with
  | [] => 0
  | e :: _ => entOwner (d.nodeEnt n e.1 e.2)

/-- A flit that has left its arrival port is checked against its slot's owner, then forwarded, consumed or
dropped (07 R218); a circuit's flit that passes is counted (07 Table 7-10). -/
def Die.route (d : Die) (n : Nat) (f : Flit) (es : List (Nat × Nat)) : Die :=
  if es.isEmpty || decide (d.ownerOf n es ≠ f.stream) || !f.par then d.slotDrop n (d.ownerOf n es) f
  else
    let owner := d.ownerOf n es
    es.foldl (Die.hopOut n owner f) (if 512 ≤ f.stream then d.count (pgIsl (islOf n)) 0xA else d)

/-- The flit at place `i` of an arrival port leaves by the entries `es`; `bad` when its tag is damaged (07 R218). -/
def Die.leave (d : Die) (n port i : Nat) (es : Flit → List (Nat × Nat)) (bad : Bool) : Die :=
  match (d.atPort n port)[i]? with
  | none => d
  | some f =>
    ((d.setPort n port (dropAt (d.atPort n port) i)).seamFreed n port 1).route n { f with par := f.par && !bad } (es f)

/-- A flit that arrived in slot `p` leaves its port, whatever order the others have arrived in (07 R211). -/
def Die.hopFrom (d : Die) (n port p : Nat) (bad : Bool) : Die :=
  match (d.atPort n port).findIdx? (fun f => decide (f.slot = p)) with
  | none => d
  | some i => d.leave n port i (fun _ => d.takers n port p) bad

/-- In slot `s` the next flit of a stream that owns it is injected at L or R; a flit without such an entry stays (07 R216). -/
def Die.inject1 (d : Die) (n port s : Nat) (bad : Bool) : Die :=
  match (d.atPort n port).findIdx? (fun f => decide (d.injectors n port s f.stream ≠ [])) with
  | none => d
  | some i => d.leave n port i (fun f => d.injectors n port s f.stream) bad

/-- The port's link joins two islands. -/
def crossing (n port : Nat) : Bool :=
  match outNode n (backOut port) with
  | none => false
  | some m => decide (port < 5) && decide (islOf m ≠ islOf n)

/-- LATH_FLIT (07 R211, R216, R218): at port E to S of node `n`, the flit that arrived in slot `slot`; at L or R, the
flit that is injected in it. -/
def execLathFlit (n port : Nat) (bad : Bool) (s : State) (slot : Nat := 0) : Host.Outcome State Fault Refusal :=
  s.at_ (islOf n) (fun d =>
    if crossing n port ∨ port = 0 ∨ 7 ≤ port then d
    else if 5 ≤ port then d.inject1 n port slot bad
    else d.hopFrom n port slot bad)

/-- CROSSING_EXIT (07 R219): the flit at the head of the crossing channel into `port` of node `n` leaves. -/
def execCrossingExit (n port : Nat) (s : State) (bad : Bool := false) : Host.Outcome State Fault Refusal :=
  s.at_ (islOf n) (fun d => if crossing n port then d.leave n port 0 (fun f => d.takers n port f.slot) bad else d)

/-- SEAM_CREDIT (07 R231, R233): a credit returns on lane `row`, eastward or westward, and the oldest flit that waits for
one passes. -/
def execSeamCredit (row : Nat) (west : Bool) (s : State) : Host.Outcome State Fault Refusal :=
  s.onDie (fun d =>
    let l := row * 2 + b2n west
    if sget d.seamBack 0 l = 0 ∨ d.pw.seamShut ∨ !d.live (islOf (seamFrom l).1) then d
    else
      Die.seamDrain { d with seamBack := sset d.seamBack 0 l (sget d.seamBack 0 l - 1),
                             seamUsed := sset d.seamUsed 0 l (sget d.seamUsed 0 l - 1) } (seamFrom l).1 (seamFrom l).2 l 1)

/-! ## Island reducers (02 R46-R53, 07 R226-R230) -/

/-- Share of the reducer that a region at a node owns: first entry, entries, first byte, bytes. -/
def Die.share (d : Die) (n : Nat) : Nat × Nat × Nat × Nat :=
  match d.regionOf n with
  | none => (0, 0, 0, 0)
  | some (_, r) =>
    if 8 ≤ r.w then (0, 256, 0, 262144)
    else if r.w = 4 then
      let m := (r.y % 8 / 4) * 2 + r.x % 8 / 4
      (64 * m, 64, 65536 * m, 65536)
    else (0, 0, 0, 0)

/-- The record is valid. -/
def RTile.valid (t : RTile) : Bool := bit t.w0 31
/-- `ROWS`. -/
def RTile.rows (t : RTile) : Nat := fld t.w0 24 20 + 1
/-- `COLS`. -/
def RTile.cols (t : RTile) : Nat := fld t.w0 19 15 + 1
/-- The tile accumulates as W192 now. -/
def RTile.w192 (t : RTile) : Bool := bit t.w0 30 && !t.fallback
/-- Bytes of the tile in a form. -/
def RTile.bytes (t : RTile) (w192 : Bool) : Nat := t.rows * t.cols * (if w192 then 24 else 40)
/-- Flits of a REDUCE contribution. -/
def RTile.flits (t : RTile) : Nat := (t.rows * t.cols + 15) / 16

/-- The stored form of a wide element (02 Tables 2-3, 2-4). -/
def wideStored (e : WideElt) (w192 : Bool) : Nat :=
  if w192 then unsigned 184 e.v + bitAt e.nan 184 + bitAt e.pinf 185 + bitAt e.ninf 186 + bitAt e.oow 187 + bitAt e.ovf 188
  else unsigned 310 e.v + bitAt e.nan 310 + bitAt e.pinf 311 + bitAt e.ninf 312 + bitAt e.ovf 313

/-- Flits of a delivery: fp32 values, or raw elements packed end to end, each flit with those that end in it. -/
def RTile.delivery (t : RTile) (i e : Nat) : List Flit :=
  let n := t.rows * t.cols
  let w := t.w192
  let ref : DescRef := { core := i, queue := 9, id := e }
  if fld t.w2 31 30 = 0 then
    (List.range t.flits).map (fun k =>
      { stream := fld t.w2 29 21, kind := 2, addr := fld t.w2 20 16 * 16384 + k * 256,
        data := (List.range 16).map (fun c => toF32 ((sget t.elts {} (16 * k + c)).value w)),
        ref, poison := t.poison, last := decide (k + 1 = t.flits) })
  else
    let sz := if w then 24 else 40
    let f := (n * sz + 63) / 64
    let bs := (List.range n).flatMap (fun x => leBytes sz (wideStored (sget t.elts {} x) w))
    (List.range f).map (fun k =>
      { stream := fld t.w2 29 21, kind := 1, addr := fld t.w2 15 8 * 2048 + k * 2 + 1, data := flitWords ((bs.drop (64 * k)).take 64),
        raw := ((List.range n).filter (fun x => decide ((x * sz + sz - 1) / 64 = k))).map (fun x => (x, sget t.elts {} x)),
        rawNarrow := w, ref, poison := t.poison, last := decide (k + 1 = f) })

/-- The refs of a round complete: their contribution has been accepted into a delivered tile. -/
def Die.settleRefs (d : Die) (rs : List DescRef) (nf : Bool) : Die :=
  rs.foldl (fun d r => d.updQueue r.core r.queue (fun x => { x with infl := x.infl.map (fun e =>
    if e.id = r.id then { e with left := 0, waits := false, nonfin := e.nonfin || nf } else e) })) d

/-- Node where a tile's deliveries leave: the source of its `OUT_STREAM`. -/
def Die.deliverFrom (d : Die) (i : Nat) (t : RTile) : Option Nat :=
  match d.streamAt (islNode i) (fld t.w2 29 21) with
  | some s => some s.2.2.1
  | none => ((islCores i).findSome? (fun n => d.streamAt n (fld t.w2 29 21))).map (fun s => s.2.2.1)

/-- A tile's last contribution has arrived, `last` its REDUCE if it is one (02 Table 2-5 steps 2, 3 and 6; 07 R228, R230).
A delivered value that is not finite counts in the REDUCEs that complete with it (02 R40, R48). -/
def Die.roundDone (d : Die) (i e : Nat) (last : Option DescRef) : Die :=
  let t := d.rt i e
  let elts := (List.range (t.rows * t.cols)).map (fun x => sget t.elts {} x)
  if t.w192 ∧ elts.any (fun x => x.oow) then
    (d.updRt i e (fun t => { t with elts := [], count := 0, poison := none })).updIsl i (fun s => { s with fbq := s.fbq ++ [e] })
  else
    let fl := t.delivery i e
    let nf := fl.any (fun f => decide (f.kind = 2) && f.data.any (fun w => (f32 w).nonfinite))
    let d := d.count (pgIsl i) 4
    let d := if elts.any (fun x => x.ovf) then d.islErr i 6 else d
    let d := if t.fallback then (d.count (pgIsl i) 5).islErr i 7 else d
    let d := d.settleRefs (if bit t.w0 30 then t.refs else last.toList) nf
    let src := d.deliverFrom i t
    let d := d.updRt i e (fun t => { t with
      elts := [], count := 0, poison := none, refs := [], rawCount := 0, rawElts := [], rawPz := none, nonfin := nf
      fallback := t.fallback && src.isSome, delivering := if src.isSome then fl.length else 0 })
    match src with
    | none => d
    | some m => d.pushFlits m 6 fl

/-- A flit of a tile's delivery has landed or been lost; with the last one a fallback's reserve is free again. -/
def Die.deliveryLess (d : Die) (i e : Nat) : Die :=
  d.updRt i e (fun t => { t with delivering := t.delivering - 1, fallback := t.fallback && decide (1 < t.delivering) })

/-- A flit of a delivery has landed, the last one or not: `DEL_EV` in the destination island (07 R230). -/
def Die.deliveryLanded (d : Die) (i e dst : Nat) (last : Bool) : Die :=
  let t := d.rt i e
  let d := d.deliveryLess i e
  if last ∧ bit t.w3 31 then
    let base := match d.region t.region with
      | some r => r.evBase
      | none => 0
    d.send (islNode i) (islNode (islOf dst)) (.signal (base + fld t.w3 11 0) 1)
  else d

/-- Add the raw elements of a flit to a tile. A W320 element is never added into a W192 tile: it makes the tile fall back
(02 R49); the sum of the raw elements is kept beside the tile for that (log 137). -/
def RTile.addRaws (t : RTile) (f : Flit) : RTile :=
  let w := t.w192
  let elts := f.raw.foldl (fun m x => supd m {} x.1 (fun a =>
    if w ∧ f.rawNarrow = false then { a with oow := true } else a.addRaw w f.rawNarrow x.2)) t.elts
  if w then
    { t with elts, rawPz := mergePoison [t.rawPz, f.poison], rawCount := t.rawCount + b2n f.last
             rawElts := f.raw.foldl (fun m x => supd m {} x.1 (fun a => a.addRaw false f.rawNarrow x.2)) t.rawElts }
  else { t with elts }

/-- Add the values of a REDUCE contribution's flit to a tile. -/
def RTile.addVals (t : RTile) (f : Flit) : RTile :=
  let k := f.addr / 2 % 1024
  let cells := (List.range 16).filter (fun c => decide (16 * k + c < t.rows * t.cols))
  { t with elts := cells.foldl (fun m c => supd m {} (16 * k + c) (fun a => a.add t.w192 (f32 (f.data.getD c 0)))) t.elts }

/-- A contribution flit at a reducer is added; `ue` when an uncorrectable word of the tile is met, `ce` words
corrected (07 R228-R230). -/
def Die.reducerFlit (d : Die) (i n : Nat) (f : Flit) (ce : Nat) (ue : Bool) : Die :=
  let sh := d.share n
  let rel := f.addr / 2048 % 256
  let e := sh.1 + rel
  let t := d.rt i e
  let raw := f.addr % 2 = 1
  if sh.2.1 ≤ rel ∨ !t.valid then d.slotDrop n f.stream f
  else if 0 < t.delivering then
    let d := ((d.count (pgIsl i) 6).islErr i 3)
    if raw then d.deliveryLess f.ref.core f.ref.id else d.tellLoss n f.stream f.ref true
  else
    let d := d.count (pgIsl i) 7 ce
    let d := if ue then (d.count (pgIsl i) 8).islErr i 4 else d
    let hw : Option Poison := if ue then some { cause := 7, core := 0xFFF, island := i } else none
    let d := d.updRt i e (fun t => { (if raw then t.addRaws f else t.addVals f) with poison := mergePoison [t.poison, f.poison, hw] })
    let d := if raw then d.deliveryLanded f.ref.core f.ref.id n f.last else d
    if !f.last then d
    else
      let d := (d.count (pgIsl i) 3).updRt i e (fun t => { t with
        count := t.count + 1, refs := if raw ∨ !bit t.w0 30 then t.refs
          else if t.refs.contains f.ref then t.refs else t.refs ++ [f.ref] })
      let d := if raw ∨ bit t.w0 30 then d else d.settle f.ref
      if t.count + 1 = fld t.w1 31 20 then d.roundDone i e (if raw then none else some f.ref) else d

/-- Node of R port `r` of an island (Table 7-1). -/
def rNode (i r : Nat) : Nat := coreAt (i % 8 * 8 + 3 + r % 2) (i / 8 * 8 + 3 + r / 2)

/-- REDUCER_CONTRIBUTION (07 R228): the flit at R port `r` of island `i`; memory words found in error. -/
def execReducerContribution (i r ce : Nat) (ue : Bool) (s : State) : Host.Outcome State Fault Refusal :=
  s.at_ i (fun d =>
    match d.atPort (rNode i r) 7 with
    | [] => d
    | f :: t => (d.setPort (rNode i r) 7 t).reducerFlit i (rNode i r) f ce ue)

/-- The contribution a REDUCE sends, from its unchanged source, on its stream (07 R228). -/
def Die.sendReduce (d : Die) (n q : Nat) (e : Infl) : Die :=
  match reduceIsland n e.d, d.reduceStream n e.d with
  | some i, some id =>
    let dst := match d.streamAt n id with
      | some s => s.2.2.2
      | none => islNode i
    let t := d.rt i ((d.share dst).1 + dOpx e.d 15 8)
    let rows := if t.valid then t.rows else 32
    let cols := if t.valid then t.cols else 32
    let sheet := dOpx e.d 16 16 = 1
    let vals := (List.range rows).flatMap (fun r =>
      let row := if sheet then
          (match d.sheetOf e.job (e.vsn 1) with
          | none => List.replicate 32 0
          | some g => (d.vecCodes g 2 r).map word)
        else d.slotRow n (dSlot e.d) r
      row.take cols)
    let vals := vals.take (rows * cols)
    let d := d.latchNf n .convert (countNf vals)
    let f := (rows * cols + 15) / 16
    let p := mergePoison [if sheet then none else d.slotPoison n (dSlot e.d), d.inPoison e]
    d.pushFlits n 5 ((List.range f).map (fun k =>
      { stream := id, kind := 1, addr := dOpx e.d 15 8 * 2048 + k * 2, data := (vals.drop (16 * k)).take 16,
        ref := { core := n, queue := q, id := e.id }, poison := p, last := decide (k + 1 = f) }))
  | _, _ => d

/-- REDUCE runs: it waits for its contribution to be accepted, in W192 form for the verdict (02 R51). -/
def Die.runReduce (d : Die) (n q : Nat) (e : Infl) : Die × Infl :=
  let p := mergePoison [if dOpx e.d 16 16 = 1 then none else d.slotPoison n (dSlot e.d), d.inPoison e]
  (d.sendReduce n q e, { e with left := 1, poison := p })

/-- The units of a sheet that a COPY sends: payload, scale area, header. -/
def Die.copyUnits (d : Die) (g : Nat) (mx : Bool) : List (Nat × List Byte) :=
  ((List.range 64) ++ (if mx then [66, 67] else []) ++ [64]).map (fun u =>
    (u, if u < 64 then d.bytes (sheetAddr g + 64 * u) 64
        else if u = 64 then d.sideBytes g 0 16 else d.sideBytes g (16 + 16 * (u - 66)) 16))

/-- COPY runs: over a plan stream when one joins the two home nodes, else its sheets wait for circuits (07 R216). -/
def Die.runCopyAny (d : Die) (n q : Nat) (e : Infl) : Die × Infl :=
  let ref : DescRef := { core := n, queue := q, id := e.id }
  let p := d.inPoison e
  let pairs := (List.range (dK e.d)).filterMap (fun k =>
    match d.sheetOf e.job (e.vsn 1 + k), d.sheetOf e.job (e.vsn 3 + k) with
    | some a, some b => some (a, b)
    | _, _ => none)
  let plan := match pairs with
    | [] => none
    | (a, b) :: _ => (d.planStream (sliceOf a) 3 (fun v => decide (v = sliceOf b))).map (fun id => (sliceOf a, id))
  match plan with
  | none => ({ d with copyq := d.copyq ++ pairs.map (fun x => { ref, a := x.1, b := x.2, poison := p }) }, { e with left := pairs.length, poison := p })
  | some (m, id) =>
    let fl := pairs.flatMap (fun x => (d.copyUnits x.1 (fmtMx (dFmtA e.d))).map (fun u =>
      ({ stream := id, kind := 0, addr := x.2 % 512 * 1024 + u.1 * 8, data := flitWords u.2, ref, poison := p } : Flit)))
    (d.pushFlits m 5 fl, { e with left := fl.length, poison := p })

/-- A fallback of the reducer that satisfies `p` still runs or delivers. -/
def Die.fallbackBusy (d : Die) (i : Nat) (p : RTile → Bool) : Bool :=
  (List.range 256).any (fun e => (d.rt i e).fallback && p (d.rt i e))

/-- The share of tile `e` has room for a W320 tile of its shape, beside the other tiles (02 R53, log 19). -/
def Die.reserveFits (d : Die) (i e : Nat) : Bool :=
  let t := d.rt i e
  let r := d.region t.region
  let lo := match r with
    | some r => if r.w = 4 then 65536 * ((r.y % 8 / 4) * 2 + r.x % 8 / 4) else 0
    | none => 0
  let hi := lo + (match r with
    | some r => if r.w = 4 then 65536 else 262144
    | none => 0)
  let sz := t.bytes false
  let others := ((List.range 256).filter (fun k => decide (k ≠ e) && (d.rt i k).valid)).map (fun k =>
    let u := d.rt i k
    let b := fld u.w0 14 0 * 8 + (match d.region u.region with
      | some r => if r.w = 4 then 65536 * (k / 64) else 0
      | none => 0)
    (b, b + u.bytes (bit u.w0 30)))
  (lo :: others.map (fun o => (o.2 + 7) / 8 * 8)).any (fun b =>
    decide (lo ≤ b) && decide (b + sz ≤ hi) && others.all (fun o => decide (b + sz ≤ o.1) || decide (o.2 ≤ b)))

/-- FALLBACK_START (02 Table 2-5 steps 4 and 4F): the reserve is one of the region's share (07 R230); a request that finds
no room there fails once no earlier fallback of the reducer delivers any more. The specification does not say who sends
the raw part of the round again: the new tile starts from it (DESIGN CHOICE, log 137). -/
def execFallbackStart (i : Nat) (s : State) : Host.Outcome State Fault Refusal :=
  s.at_ i (fun d =>
    match (d.island i).fbq with
    | [] => d
    | e :: t =>
      let tl := d.rt i e
      if d.fallbackBusy i (fun u => decide (u.region = tl.region)) then d
      else if d.reserveFits i e then
        let d := d.updRt i e (fun t => { t with
          fallback := true, elts := t.rawElts, count := t.rawCount, poison := t.rawPz, rawCount := 0, rawElts := [], rawPz := none })
        let d := d.updIsl i (fun s => { s with fbq := t })
        let d := tl.refs.foldl (fun d r => d.send (islNode i) r.core (.reexec r)) d
        if tl.rawCount = fld tl.w1 31 20 then d.roundDone i e none else d
      else if d.fallbackBusy i (fun _ => true) then d
      else
        let d := (d.updIsl i (fun s => { s with fbq := t })).islErr i 0
        (tl.refs.foldl Die.slotFault d).updRt i e (fun t => { t with refs := [], rawCount := 0, rawElts := [], rawPz := none }))

/-- REEXEC (02 Table 2-5 step 5): the notice that has reached core `n`. -/
def execReexec (n : Nat) (s : State) : Host.Outcome State Fault Refusal :=
  s.at_ (islOf n) (fun d =>
    match d.takeArr n (fun m => match m.body with | .reexec _ => true | _ => false) with
    | none => d
    | some (m, d) => match m.body with
      | .reexec r =>
        let d := d.hear (islOf n) m.s
        match (d.queue n r.queue).infl.find? (fun e => decide (e.id = r.id)) with
        | none => d
        | some e => d.sendReduce n r.queue e
      | _ => d)

/-- ACC_LANDING (07 R217, R230): the oldest flit of core `n`'s landing buffer is written, unless its slot is
bound. -/
def execAccLanding (n : Nat) (s : State) : Host.Outcome State Fault Refusal :=
  s.at_ (islOf n) (fun d =>
    match (d.core n).landing with
    | [] => d
    | l :: t =>
      if d.slotBound n l.slot then d
      else
        let d := d.updCore n (fun c => { c with landing := t })
        let cells := (List.range 16).filter (fun c => decide (16 * l.index + c < l.count))
        let d : Die := { d with acc := cells.foldl (fun m c =>
          let x := 16 * l.index + c
          sset m 0 (n * 32768 + l.slot * 1024 + x / l.cols * 32 + x % l.cols) (l.data.getD c 0)) d.acc }
        let last := decide (l.count ≤ 16 * l.index + 16)
        let d := if last then d.slotWrote n l.slot (if l.cols = 32 then l.count / 32 else 0) l.pz else d
        d.deliveryLanded l.island l.entry n last)

/-- A flit of a DELIVER stream was dropped: the destination slot or tile is poisoned (07 Table 7-5, 05 R150). -/
def Die.deliverLost (d : Die) (n id dst at_ : Nat) (own : Bool) : Die :=
  let pz : Poison := { cause := 4, core := at_, island := islOf at_ }
  let i := islOf n
  match (List.range 256).find? (fun e => (d.rt i e).valid && decide (fld (d.rt i e).w2 29 21 = id)) with
  | none => d
  | some e =>
    let t := d.rt i e
    let d := if own then d.deliveryLess i e else d
    if fld t.w2 31 30 = 0 then
      d.setSlotPoison dst (fld t.w2 20 16) (mergePoison [d.slotPoison dst (fld t.w2 20 16), some pz])
    else d.updRt (islOf dst) ((d.share dst).1 + fld t.w2 15 8) (fun u => { u with poison := mergePoison [u.poison, some pz] })

/-- What a violation notice at node `n` brings about (07 Table 7-5). A notice that does not know the descriptor faults the
one that sends the stream. -/
def Die.violated (d : Die) (n id : Nat) (r : DescRef) (at_ : Nat) (own : Bool) : Die :=
  if 512 ≤ id then d.circLost id at_ own
  else match d.streamAt n id with
    | none => d
    | some s =>
      if s.1 = 2 then d.deliverLost n id s.2.2.2 at_ own
      else if own ∧ (d.inflOf r).isSome then d.slotFault r
      else match d.sender n id with
        | none => d
        | some r => d.slotFault r

/-- VIOLATION (07 R218): the notice that has reached node `n`. -/
def execViolation (n : Nat) (s : State) : Host.Outcome State Fault Refusal :=
  s.at_ (islOf n) (fun d =>
    match d.takeArr n (fun m => match m.body with | .violation _ _ _ _ => true | _ => false) with
    | none => d
    | some (m, d) => match m.body with
      | .violation id r v own => (d.hear (islOf n) m.s).violated n id r v own
      | _ => d)

/-! ## The sideband (07 R225, 13 R403) -/

/-- Output a message takes at a node: along the row, then along the column; 4 for its own node. -/
def sbOut (n dst : Nat) : Nat :=
  if cx n < cx dst then 0 else if cx dst < cx n then 1 else if cy dst < cy n then 2 else if cy n < cy dst then 3 else 4

/-- Expected count of a job barrier (06 R197). -/
def Die.barExpect (d : Die) (j b : Nat) : Nat :=
  (d.bar j b).hostExpect + (d.regions.filterMap (fun c => match c.2 with
    | some r => if r.job = j then some (r.bars.getD b 0) else none
    | none => none)).sum

/-- One arrival at a job barrier (06 R197, R199). -/
def Die.barArrive (d : Die) (j b : Nat) (r : Option DescRef) : Die :=
  let x := d.bar j b
  let room := decide (x.now.length < d.barExpect j b) || (decide (d.barExpect j b = 0) && x.now.isEmpty)
  d.updBar j b (fun x => if room then { x with now := x.now ++ [r] } else { x with held := x.held ++ [r] })

/-- The message is a notice. -/
def SbMsg.isNotice (m : SbMsg) : Bool := match m.body with
  | .notice _ _ => true
  | _ => false

/-- The message is for the Deckle or the Skim unit. -/
def SbMsg.forUnit (m : SbMsg) : Bool := match m.body with
  | .circuit _ ack => ack
  | .notice _ _ => true
  | .arrival _ _ _ => true
  | .reply _ _ => true
  | _ => false

/-- An arrival counts at its barrier, unless its descriptor has ended meanwhile (06 R197, R200). -/
def Die.countArrival (d : Die) (m : SbMsg) : Die :=
  match m.body with
  | .arrival j b r =>
    let d := d.hear 89 m.s
    if (d.inflOf r).isSome then d.barArrive j b (some r) else d
  | _ => d

/-- The arrivals that have reached the Deckle count, up to the first notice the Skim unit has not taken: notices
and arrivals keep the order in which they came (09 R276). -/
def Die.takeArrivals (d : Die) : Die :=
  let l := sget d.sbArr [] dkNode
  let isArr (m : SbMsg) : Bool := m.forUnit && !m.isNotice
  let front := l.takeWhile (fun m => !m.isNotice)
  let d : Die := { d with sbArr := sset d.sbArr [] dkNode (front.filter (fun m => !isArr m) ++ l.dropWhile (fun m => !m.isNotice)) }
  (front.filter isArr).foldl Die.countArrival d

/-- A BARRIER learns of its release and leaves its queue (06 R198). -/
def Die.released (d : Die) (r : DescRef) : Die :=
  match d.inflOf r with
  | some e => if e.left = 0 ∧ e.waits then d.finish r.core r.queue { e with waits := false } stOk 0 else d
  | none => d

/-- A message reaches its target node. One for the Deckle or the Skim unit is dropped while their island is in
reset (13 R403). -/
def Die.sbArrive (d : Die) (n : Nat) (m : SbMsg) : Die :=
  if m.forUnit ∧ ((d.ist 89).inReset ∨ (d.ist 89).isolated) then d.count pgRst (0x100 + 89)
  else match m.body with
    | .reply j l => (d.hear 89 m.s).skimReply (islOf m.src) j l
    | .circuit id true => (d.hear 89 m.s).ackCircuit id m.src
    | .circuit id false => (d.hear (islOf n) m.s).send n dkNode (.circuit id true)
    | .release r => (d.hear (islOf n) m.s).released r
    | .arrival _ _ _ => Die.takeArrivals { d with sbArr := pushAt d.sbArr n m }
    | _ => { d with sbArr := pushAt d.sbArr n m }

/-- SCREED_NOTICE (09 R276): the first notice that has reached the Skim unit. -/
def execScreedNotice (s : State) : Host.Outcome State Fault Refusal :=
  s.at_ 89 (fun d =>
    match d.takeArr dkNode (fun m => match m.body with | .notice _ _ => true | _ => false) with
    | none => d
    | some (m, d) => match m.body with
      | .notice j _ =>
        let d := d.hear 89 m.s
        Die.takeArrivals (if (d.skimJ j).st = 1 then d.updSkim j (fun x => { x with notices := x.notices + 1 }) else d.count pgSkim 3)
      | _ => d)

/-- Output `o` of node `n` serves its inputs in island cycle `t`. -/
def Die.sbServe (d : Die) (n o t : Nat) : Die :=
  let ins := (List.range 6).map (fun k => (t + o + k) % 6)
  match ins.find? (fun i => match sget d.sbq [] (n * 6 + i) with
      | [] => false
      | m :: _ => decide (sbOut n m.dst = o)) with
  | none => d
  | some i =>
    match sget d.sbq [] (n * 6 + i) with
    | [] => d
    | m :: rest =>
      let popped : Die := { d with sbq := sset d.sbq [] (n * 6 + i) rest }
      if o = 4 then popped.sbArrive n m
      else match outNode n o with
        | none => d
        | some v =>
          let key := v * 6 + (arrPort o - 1)
          if islOf v ≠ islOf n ∧ ((d.ist (islOf v)).inReset ∨ (d.ist (islOf v)).isolated) then
            popped.count pgRst (0x100 + islOf v)
          else if (sget d.sbq [] key).length < 8 then { popped with sbq := pushAt popped.sbq key m }
          else d

/-- SIDEBAND_MESSAGE (07 R225). -/
def execSidebandMessage (n o t : Nat) (s : State) : Host.Outcome State Fault Refusal :=
  s.at_ (islOf n) (fun d => d.sbServe n o t)

/-! ## Transit circuits (07 R221-R223) -/

/-- The transfer of an object waits for a circuit: the wait counts once (07 R222). -/
def Die.circuitWait (d : Die) (obj : Nat) : Die :=
  if d.dk.reqs.any (fun r => decide (r.obj = obj) && r.granted && !r.blocked) then
    (d.count pgDk 0xB).updDk (fun x => { x with
      reqs := x.reqs.map (fun r => if r.obj = obj ∧ r.granted then { r with blocked := true } else r) })
  else d

/-- The granted transfer of an object that has a sheet to carry and no circuit. -/
def Die.uncarried (d : Die) (k : Nat) : Option Req :=
  if d.circs.any (fun c => decide (c.obj = some k)) then none
  else d.dk.reqs.find? (fun r => decide (r.obj = k) && r.granted && decide (r.sheets < 16))

/-- Bursts of a sheet in stack memory, by the format it was spilled in. -/
def Die.sheetBursts (d : Die) (a : Nat) : Nat := if fmtMx (fld (d.mword (a + 4096)) 3 0) then 68 else 66

/-- The circuit of the next sheet of a fill; its stack reads the sheet, with errors `es`. -/
def Die.openFill (d : Die) (k : Nat) (o : PObj) (r : Req) (es : List BurstErr) : Die :=
  let n := o.frame / 32
  let a := d.pageAddr o.stack o.spage + 4352 * r.sheets
  let len := 64 * d.sheetBursts a
  if !d.orderClear a len then d
  else match d.openWith { obj := some k, sheet := r.sheets, node := some n } (fillRoute r.stack n) (edgeEntry r.stack n)
      (fun s => d.lathBank n s o.frame) 16 with
    | none => d.circuitWait k
    | some (d, id) =>
      let x := d.stackGet false a len es
      (x.1.loadCirc id (o.frame * 16 + r.sheets) (imageUnits x.2.1) {} none).updCirc id (fun c => { c with ue := !x.2.2 })

/-- The circuit of the next sheet of a write-back; its slice reads the sheet, with errors `vs`. -/
def Die.openWback (d : Die) (k : Nat) (o : PObj) (r : Req) (vs : List VatErr) : Die :=
  let n := o.frame / 32
  let g := o.frame * 16 + r.sheets
  match d.openWith { obj := some k, sheet := r.sheets, wback := true } (wbRoute r.stack n) (n, 5) (fun _ => true) 16 with
  | none => d.circuitWait k
  | some (d, id) =>
    let d := d.vatErrs (d.sheetAttempt g) [g] vs
    d.loadCirc id g (imageUnits (d.sheetImage g (fmtMx (fld (d.sideW g 0) 3 0)))) {} none

/-- The circuit of the next sheet of an object's granted transfer. -/
def Die.openPage (d : Die) (k : Nat) (es : List BurstErr) (vs : List VatErr) : Die :=
  match d.uncarried k, d.obj k with
  | some r, some o =>
    if r.kind = .writeback then (if d.stackClosed r.stack then d else d.openWback k o r vs) else d.openFill k o r es
  | _, _ => d

/-- Errors that the reads of an open COPY sheet meet: they mark the source, and the descriptor counts as one that read a
poisoned sheet from then on (05 R147-R149; log 138). -/
def Die.copyErrs (d : Die) (r : CopyReq) (e : Infl) (vs : List VatErr) : Die × Option Poison :=
  let d := d.vatErrs (d.job e.job).attempt [r.a] vs
  let p := mergePoison [e.poison, d.inPoison e]
  (d.putInfl r.ref.core r.ref.queue { e with poison := p }, p)

/-- The circuit of the next sheet of a COPY that queue `q` of core `n` has in flight; its source meets the errors `vs`. -/
def Die.openCopy (d : Die) (n q : Nat) (vs : List VatErr) : Die :=
  let mine (x : CopyReq) : Bool := decide (x.ref.core = n) && decide (x.ref.queue = q)
  let idle (x : CopyReq) : Bool := mine x && d.circs.all (fun c => match c.copy with
    | some y => !(decide (y.ref = x.ref) && decide (y.b = x.b))
    | none => true)
  match d.copyq.find? idle with
  | none => d
  | some r =>
    match d.inflOf r.ref with
    | none => { d with copyq := d.copyq.filter (fun x => decide (x.ref ≠ r.ref)) }
    | some e =>
      match d.openWith { copy := some r, node := some (sliceOf r.b) } (copyRoute (sliceOf r.a) (sliceOf r.b)) (sliceOf r.a, 5)
          (fun s => d.lathBank (sliceOf r.b) s (frameOf r.b)) 16 with
      | none =>
        if r.blocked then d
        else Die.count { d with copyq := d.copyq.map (fun x => if x = r then { x with blocked := true } else x) } pgDk 0xB
      | some (d, id) =>
        let x := d.copyErrs r e vs
        x.1.loadCirc id r.b (x.1.copyUnits r.a (fmtMx (dFmtA e.d))) r.ref x.2

/-- A sheet is read from its frame: the unread mark of its page (06 R193). -/
def Die.readFrame (d : Die) (g : Nat) : Die :=
  match d.frameObj (frameOf g) with
  | none => d
  | some k => d.readSheet k (g % 16)

/-- The circuit of the next sheet of port engine `p`; a sheet it reads meets the errors `vs`. -/
def Die.openPort (d : Die) (p : Nat) (vs : List VatErr) : Die :=
  match (d.port p).moves.find? (fun m => d.circs.all (fun c => decide (c.port ≠ some (p, m)))) with
  | none => d
  | some m =>
    let n := sliceOf m.g
    match d.openWith { port := some (p, m), node := if m.out then none else some n }
        (if m.out then wbRoute (8 + p) n else fillRoute (8 + p) n) (if m.out then (n, 5) else edgeEntry (8 + p) n)
        (fun s => d.lathBank n s (frameOf m.g)) 16 with
    | none =>
      if m.blocked then d
      else (d.count pgDk 0xB).updPort p (fun x => { x with moves := x.moves.map (fun y => if y = m then { y with blocked := true } else y) })
    | some (d, id) =>
      let d := if m.out then (d.vatErrs (d.sheetAttempt m.g) [m.g] vs).readFrame m.g else d
      let img := if m.out then d.sheetImage m.g (fmtMx (fld (d.sideW m.g 0) 3 0)) else m.image
      d.loadCirc id m.g (imageUnits img) {} none

/-- CIRCUIT_OPEN (07 R221-R223): the Deckle sets up the circuit of the next sheet of a granted page transfer, of a COPY, or
of a port engine; `es` and `vs` are the errors met where the sheet is read. -/
def execCircuitOpen (who : Carrier) (s : State) (es : List BurstErr := []) (vs : List VatErr := []) : Host.Outcome State Fault Refusal :=
  s.at_ 89 (fun d =>
    if !d.mayOpen then d
    else match who with
      | .page k => d.openPage k es vs
      | .copy n q => d.openCopy n q vs
      | .port p => d.openPort p vs)

/-- ISL_ERR_CLR (07 R235): a write of `v`. -/
def execIslErrClr (ini i : Nat) (v : Word) (s : State) : Host.Outcome State Fault Refusal :=
  s.cplD ini (pgIsl i) 0x108 (fun d => d.updIsl i (fun x => { x with err := x.err &&& (255 - fld v 7 0) }))

end Sys2Proof.Machine
end

