-- ==== Sys2Proof/Machine/EngineCmds.lean ====
section
/-!
DEFINITION. The descriptor operations as commands: issue of each operation of 04 Table 4-5, and the events
of the array, the matrix-vector path, the batch pools and the function tables (03, 04, 06 R197).
-/

namespace Sys2Proof.Machine

/-! ## What runs -/

/-- A page of a disabled core has no sequencer and no engines (03 R95). -/
def Die.onCore (d : Die) (n : Nat) (f : Die → Die) : Die := if d.enabled n then f d else d

/-- Global sheets a descriptor reads. -/
def Die.sheetsRead (d : Die) (e : Infl) : List Nat :=
  (List.range 6).flatMap (fun k => if readsOp e.d (k + 1) then
    (d.opSheets e.d e.ops (k + 1)).filterMap (fun v => d.sheetOf e.job v) else [])

/-- Errors met in the sheets a descriptor reads (05 R147, R148). What circuits carry is read when they are set up. -/
def Die.meetErrs (d : Die) (e : Infl) (errs : List VatErr) : Die :=
  if fabricOp e.d = true ∨ (dOpc e.d = opcCopy ∧ d.copyPlanned e = false) then d
  else d.vatErrs (d.job e.job).attempt (d.sheetsRead e) errs

/-- A matrix-vector run is left to its passes, the first of which begins (03 R75), or to its pool core (03 R77). -/
def Die.runMatvec (d : Die) (n q : Nat) (e : Infl) : Die × Infl :=
  if dOpx e.d 6 6 = 1 then (d, { e with left := 1, poison := d.inPoison e })
  else (d.updCore n (fun c => { c with mv := some ({ core := n, queue := q, id := e.id }, 0) }), { e with left := dOpx e.d 4 0 })

/-- A SKIM_PART sends its contribution to its island's adder (09 R266). -/
def Die.runSkimPart (d : Die) (n q : Nat) (e : Infl) : Die × Infl :=
  let r := d.skimPart e
  let ref : DescRef := { core := n, queue := q, id := e.id }
  let ops := 32 * vecsPerSheet (dFmtA e.d) * dK e.d
  ((d.count (pgCore n) 9 ops).send n (islNode (islOf n)) (.skimPart (dOpx e.d 5 0) r.1 r.2.1 r.2.2 ref),
    { e with left := 1, nonfin := r.2.1, poison := d.inPoison e })

/-- What an engine does with a descriptor that runs. -/
def Die.runOp (d : Die) (n q : Nat) (e : Infl) : Die × Infl :=
  let o := dOpc e.d
  if o = opcOpa ∨ o = opcOpaT then d.runOpa n q e
  else if o = opcLoadacc then d.runLoadacc n e
  else if o = opcDrain ∨ o = opcTable then d.runScreed n e
  else if o = opcMatvec then d.runMatvec n q e
  else if o = opcVec then d.runVec n e
  else if o = opcCopy then d.runCopyAny n q e
  else if o = opcConvert then d.runConvert n e
  else if o = opcRng then d.runRng n e
  else if o = opcReduce then d.runReduce n q e
  else if o = opcSkim then d.runSkimPart n q e
  else if o = opcUpdate then d.runUpdate n e
  else if o = opcGather ∨ o = opcColl then d.runColl n q e
  else if o = opcBarrier then
    (d.send n dkNode (.arrival e.job (dOpx e.d 5 0) { core := n, queue := q, id := e.id }), { e with left := 1 })
  else (d, e)

/-- Issue of an operation by core `n`, with the errors its reads meet. -/
def Die.issueOp (d : Die) (n opc : Nat) (errs : List VatErr) : Die :=
  d.onCore n (fun d => d.issue n opc noExtra (fun q d e => (d.meetErrs e errs).runOp n q e))

/-- Issue of a fabric operation: its communicator is checked too (10 R307). -/
def Die.issueColl (d : Die) (n opc : Nat) : Die :=
  d.onCore n (fun d => (d.issue n opc Die.collFault (fun q d e => d.runOp n q e)).peAll)

/-- An issued descriptor that has waited for pages or for its engine runs once it can (04 R116, 01 R21). -/
def Die.runWaiting (d : Die) (n q : Nat) (e : Infl) (errs : List VatErr) : Die :=
  if e.ran then d
  else d.tryRun n q e (d.engineHeld n (engineOf (dOpc e.d)) (some e.id)) (fun d e => (d.meetErrs e errs).runOp n q e)

/-! ## Issue (04 R111-R117) -/

/-- NOP. -/
def execNop (n : Nat) (s : State) : Host.Outcome State Fault Refusal :=
  s.at_ (islOf n) (fun d => d.onCore n (fun d => d.issueNow n opcNop))

/-- SIGNAL. -/
def execSignal (n : Nat) (s : State) : Host.Outcome State Fault Refusal :=
  s.at_ (islOf n) (fun d => d.onCore n (fun d => d.issueNow n opcSignal))

/-- BARRIER (06 R197). -/
def execBarrier (n : Nat) (s : State) : Host.Outcome State Fault Refusal :=
  s.at_ (islOf n) (fun d => d.issueOp n opcBarrier [])

/-- OPA (03 R62-R69). -/
def execOpa (n : Nat) (errs : List VatErr) (s : State) : Host.Outcome State Fault Refusal :=
  s.at_ (islOf n) (fun d => d.issueOp n opcOpa errs)

/-- OPA_T (03 R74). -/
def execOpaT (n : Nat) (errs : List VatErr) (s : State) : Host.Outcome State Fault Refusal :=
  s.at_ (islOf n) (fun d => d.issueOp n opcOpaT errs)

/-- LOADACC. -/
def execLoadacc (n : Nat) (errs : List VatErr) (s : State) : Host.Outcome State Fault Refusal :=
  s.at_ (islOf n) (fun d => d.issueOp n opcLoadacc errs)

/-- DRAIN (03 R82-R87). -/
def execDrain (n : Nat) (errs : List VatErr) (s : State) : Host.Outcome State Fault Refusal :=
  s.at_ (islOf n) (fun d => d.issueOp n opcDrain errs)

/-- MATVEC (03 R75-R78). -/
def execMatvec (n : Nat) (errs : List VatErr) (s : State) : Host.Outcome State Fault Refusal :=
  s.at_ (islOf n) (fun d => d.issueOp n opcMatvec errs)

/-- VEC (03 R79-R81, 04 R114). -/
def execVec (n : Nat) (errs : List VatErr) (s : State) : Host.Outcome State Fault Refusal :=
  s.at_ (islOf n) (fun d => d.issueOp n opcVec errs)

/-- TABLE_APPLY (04 R113). -/
def execTableApply (n : Nat) (errs : List VatErr) (s : State) : Host.Outcome State Fault Refusal :=
  s.at_ (islOf n) (fun d => d.issueOp n opcTable errs)

/-- COPY. -/
def execCopy (n : Nat) (errs : List VatErr) (s : State) : Host.Outcome State Fault Refusal :=
  s.at_ (islOf n) (fun d => d.issueOp n opcCopy errs)

/-- CONVERT (04 R115). -/
def execConvert (n : Nat) (errs : List VatErr) (s : State) : Host.Outcome State Fault Refusal :=
  s.at_ (islOf n) (fun d => d.issueOp n opcConvert errs)

/-- RNG_FILL (09 R280). -/
def execRngFill (n : Nat) (errs : List VatErr) (s : State) : Host.Outcome State Fault Refusal :=
  s.at_ (islOf n) (fun d => d.issueOp n opcRng errs)

/-- REDUCE (07 R216, 02 R51). -/
def execReduce (n : Nat) (errs : List VatErr) (s : State) : Host.Outcome State Fault Refusal :=
  s.at_ (islOf n) (fun d => d.issueOp n opcReduce errs)

/-- The SKIM_PART just issued completes at once, with an empty contribution, after a notice (09 R276). -/
def Die.finishEarly (d : Die) (n id : Nat) : Die :=
  match (d.inflight n).find? (fun y => decide (y.2.id = id) && d.partSkipped y.2.job y.2.d) with
  | none => d
  | some (q, e) =>
    (d.send n (islNode (islOf n)) (.skimPart (dOpx e.d 5 0) 0 false 0 { core := n, queue := q, id := e.id })).finish n q
      { e with reads := [] } stOk 0

/-- SKIM_PART (09 R266, R276). -/
def execSkimPart (n : Nat) (errs : List VatErr) (s : State) : Host.Outcome State Fault Refusal :=
  s.at_ (islOf n) (fun d => (d.issueOp n opcSkim errs).finishEarly n (d.freshId n))

/-- The UPDATE just issued completes at once when its step was skipped (09 R270, step 6S). -/
def Die.finishSkipped (d : Die) (n id : Nat) : Die :=
  match (d.inflight n).find? (fun y => decide (y.2.id = id) && d.updateSkipped y.2.job y.2.d) with
  | none => d
  | some (q, e) => (d.count pgSkim 5).finish n q { e with reads := [] } stOk 0

/-- UPDATE (09 R260-R264, R273). -/
def execUpdate (n : Nat) (errs : List VatErr) (s : State) : Host.Outcome State Fault Refusal :=
  s.at_ (islOf n) (fun d => (d.issueOp n opcUpdate errs).finishSkipped n (d.freshId n))

/-- GATHER (09 R259). Its sheets move in circuits, whose CIRCUIT_OPEN tells the errors met: `told` tells none. -/
def execGather (n : Nat) (_told : Unit) (s : State) : Host.Outcome State Fault Refusal :=
  s.at_ (islOf n) (fun d => d.issueColl n opcGather)

/-- COLL (10 R307). The errors met are told as for GATHER. -/
def execColl (n : Nat) (_told : Unit) (s : State) : Host.Outcome State Fault Refusal :=
  s.at_ (islOf n) (fun d => d.issueColl n opcColl)

/-! ## The array (03 R67-R69, R74) -/

/-- SWAP_TOKEN_ENTRY (03 R67, R68): the next tile becomes active, the one before is written back. -/
def execSwapTokenEntry (n : Nat) (s : State) : Host.Outcome State Fault Refusal :=
  s.at_ (islOf n) (fun d => d.swapTiles n)

/-- A descriptor, or the drain of a batch, waits only for a slot to leave the active accumulators (03 R69, R77). -/
def Die.slotWanted (d : Die) (n slot : Nat) : Bool :=
  (d.core n).batch.any (fun r => (List.range r.rows.length).any (fun t => decide ((r.slot + t) % 32 = slot))) ||
  [0, 1, 2, 3, 4].any (fun q =>
    let x := d.queue n q
    (decide (x.st = .running) || decide (x.st = .draining) || decide (4 ≤ q)) &&
      x.window.any (fun e => decide (engineOf (dOpc e.d) ≠ 1) && d.waitsMet n q e && (namedSlots e.d).contains slot))

/-- No array operation has issued that still waits to enter. -/
def Die.arrayFree (d : Die) (n : Nat) : Bool :=
  (d.core n).next.isNone && (d.inflight n).all (fun y => decide (engineOf (dOpc y.2.d) ≠ 1) || y.2.ran)

/-- FLUSH_TOKEN (03 R69). -/
def execFlushToken (n : Nat) (s : State) : Host.Outcome State Fault Refusal :=
  s.at_ (islOf n) (fun d =>
    match (d.core n).active with
    | some t =>
      if d.arrayFree n ∧ d.slotWanted n t.slot then
        (((d.writeBack n t).updCore n (fun c => { c with active := none, lastSlot := none })).count (pgCore n) 5).arrayTime n
      else d
    | none => d)

/-- TBUF_HALF_FILL (03 R74). -/
def execTbufHalfFill (n : Nat) (s : State) : Host.Outcome State Fault Refusal :=
  s.at_ (islOf n) (fun d =>
    if 0 < (d.core n).tbuf then (d.updCore n (fun c => { c with tbuf := c.tbuf - 1 })).count (pgCore n) 0xA else d)

/-! ## The matrix-vector path (03 R75) -/

/-- The oldest MATVEC of a core that still has passes to make: its queue and record. -/
def Die.mvRunning (d : Die) (n : Nat) : Option (Nat × Infl) :=
  let l := (d.inflight n).filter (fun y => decide (dOpc y.2.d = opcMatvec) && decide (dOpx y.2.d 6 6 = 0) && y.2.ran && decide (0 < y.2.left))
  match (l.map (fun y => y.2.id)).min? with
  | none => none
  | some i => l.find? (fun y => decide (y.2.id = i))

/-- The next pass of the matrix-vector path. -/
def Die.mvPass (d : Die) (n : Nat) : Die :=
  match d.mvRunning n with
  | none => d
  | some (q, e) =>
    let p := dOpx e.d 4 0 - e.left
    let d := if p = 0 then d.loadVec n e else d
    let r := d.runPass n e p
    let left := e.left - 1
    let mv : Option (DescRef × Nat) := if left = 0 then none else some ({ core := n, queue := q, id := e.id }, p + 1)
    (r.1.updCore n (fun c => { c with mv })).putInfl n q { r.2 with left }

/-- MATVEC_PASS_END (03 R75). -/
def execMatvecPassEnd (n : Nat) (errs : List VatErr) (s : State) : Host.Outcome State Fault Refusal :=
  s.at_ (islOf n) (fun d => match d.mvRunning n with
    | none => d
    | some (_, e) => (d.meetErrs e errs).mvPass n)

/-! ## Batch pools (03 R76-R78, 06 R174, R175) -/

/-- Pool core of a pooled MATVEC in flight. -/
def Die.poolOfReq (d : Die) (e : Infl) : Option Nat :=
  if dOpc e.d = opcMatvec ∧ dOpx e.d 6 6 = 1 then d.poolCore e.job e.d (e.ops.getD 1 0) else none

/-- Two requests may share a batch: same job, matrix, K, formats and output range (03 R77). -/
def sameBatch (a b : Infl) : Bool :=
  decide (a.job = b.job) && decide (a.ops.getD 1 0 = b.ops.getD 1 0) && decide (dK a.d = dK b.d) &&
    decide (dFmtA a.d = dFmtA b.d) && decide (dFmtB a.d = dFmtB b.d) && decide (dOpx a.d 4 0 = dOpx b.d 4 0)

/-- Sheet of a pool core's slice that holds delivered vector `k`: frames 30 and 31 (06 R175). -/
def poolSheet (c k : Nat) : Nat := c * 512 + 480 + k

/-- The vector of a request is delivered into the pool core's slice (06 R175, log 125): the one of its sheet A, or of the
requester's vector register under `KEEP_VECTOR`. -/
def Die.deliverVec (d : Die) (c : Nat) (r : DescRef) (e : Infl) (k fmt : Nat) : Die :=
  let codes := if dOpx e.d 5 5 = 1 then sgetList (d.core r.core).vreg 0 0 (up32 (dK e.d)) else d.vecOfA e
  let g := poolSheet c k
  let d := (List.range (codes.length / 32)).foldl (fun d v => d.putVec g fmt v ((codes.drop (32 * v)).take 32)) d
  d.stamp g (e.vsn 1) fmt 0 (2 ^ ((codes.length / 32 + 31) / 32) - 1) (writerOf r.core e) (d.inPoison e)

/-- What a request of a batch computes, by the rules of the matrix-vector path (03 R78): its lane of each of the tiles. -/
def Die.poolRows (d : Die) (c : Nat) (r : PoolReq) (e : Infl) : List (List Word) :=
  let s := dSlot e.d
  let n := r.ref.core
  let vec := ((List.range ((dK e.d + 31) / 32)).flatMap (fun v => d.vecCodes (poolSheet c r.sheet) r.fmt v)).map (fun x => (fmtOf r.fmt).decode x)
  (List.range (dOpx e.d 4 0)).flatMap (fun p =>
    let start := if dZero e.d then List.replicate 64 0 else d.slotRow n s (2 * p) ++ d.slotRow n s (2 * p + 1)
    let out := d.matPass e vec p start
    [out.take 32, out.drop 32])

/-- A request as the batch computes it: its rows, the batch's first slot and its outputs' poison state. -/
def Die.poolRun (d : Die) (c slot : Nat) (r : PoolReq) : PoolReq :=
  match d.inflOf r.ref with
  | none => r
  | some e =>
    { r with rows := d.poolRows c r e, slot,
             pz := mergePoison [if dZero e.d then none else d.slotPoison r.ref.core (dSlot e.d), e.poison, d.inPoison e] }

/-- Tile `t` of a batch enters the array as a new tile: lane `i` holds request `i`, the lanes without a request hold
zeros (03 R65, R77, log 125). -/
def Die.batchTile (d : Die) (c : Nat) (rs : List PoolReq) (t : Nat) : Die :=
  let slot := ((rs.headD {}).slot + t) % 32
  let acc := (List.range 32).flatMap (fun i => (rs.getD i {}).rows.getD t (List.replicate 32 0))
  ((d.swapTiles c).updCore c (fun x => { x with
    next := some { slot, acc, poison := mergePoison (rs.map PoolReq.pz), by_ := (rs.headD {}).ref }, lastSlot := some slot })).arrayTime c

/-- The collected requests run as one batch on the array of the pool core (03 R77), unless an array operation waits
there to enter. `early`: the oldest has waited the pool's limit. -/
def Die.launchBatch (d : Die) (c : Nat) (early : Bool) : Die :=
  match (d.core c).pool with
  | [] => d
  | r :: t =>
    if !d.arrayFree c then d
    else
      let l := (r :: t).filter (fun r => (d.inflOf r.ref).isSome)
      let slot := match d.inflOf r.ref with
        | none => 0
        | some e => dSlot e.d
      let rs := l.map (d.poolRun c slot)
      let macs := (l.map (fun r => match d.inflOf r.ref with
        | none => 0
        | some e => 64 * dOpx e.d 4 0 * dK e.d)).sum
      let d := ((d.updCore c (fun x => { x with pool := [], batch := x.batch ++ rs })).count (pgCore c) 0xB).count (pgCore c) 2 macs
      let d := (List.range ((rs.headD {}).rows.length)).foldl (fun d t => d.batchTile c rs t) d
      if early ∧ rs.length < 32 then d.count (pgCore c) 0xC else d

/-- The outputs of a launched request leave through the Screed of the pool core, as bf16, once its tiles are written
back (03 R77, R78). The tiles of a batch count with its last request. -/
def Die.poolDrain (d : Die) (n q : Nat) (e : Infl) : Die :=
  match d.poolOfReq e with
  | none => d
  | some c =>
    match (d.core c).batch.find? (fun r => decide (r.ref = { core := n, queue := q, id := e.id })) with
    | none => d
    | some r =>
      if !d.live (islOf c) ∨ (List.range r.rows.length).any (fun t => d.slotBound c ((r.slot + t) % 32)) then d
      else
        let o := d.storeRows e.job (e.vsn 3) 0 0 0 r.rows false (writerOf n e) r.pz
        let d := (o.1.latchNf c .screed o.2).updCore c (fun x => { x with batch := x.batch.filter (fun y => decide (y.ref ≠ r.ref)) })
        let d := if (d.core c).batch.isEmpty then d.count (pgCore c) 6 r.rows.length else d
        d.putInfl n q { e with left := 0, nonfin := decide (o.2 ≠ 0), poison := r.pz }

/-- The pool core collects a request; with 32 it launches. A request that does not match those collected waits until
they have launched (log 125). -/
def Die.collectReq (d : Die) (c : Nat) (r : DescRef) : Die :=
  match d.inflOf r with
  | none => d
  | some e =>
    let l := (d.core c).pool
    let fits : Bool := match l with
      | [] => true
      | x :: _ => match d.inflOf x.ref with
        | none => false
        | some y => sameBatch y e
    if e.ran ∧ 0 < e.left ∧ d.poolOfReq e = some c ∧ fits ∧ (l ++ (d.core c).batch).all (fun x => decide (x.ref ≠ r)) ∧ l.length < 32 then
      let fmt := if dOpx e.d 5 5 = 1 then (d.core r.core).vfmt else dFmtA e.d
      let req : PoolReq := { ref := r, sheet := l.length, fmt }
      let d := (d.deliverVec c r e l.length fmt).updCore c (fun x => { x with pool := x.pool ++ [req] })
      if l.length = 31 then d.launchBatch c false else d
    else d

/-- BPOOL_REQUEST (03 R77): pool core `c` collects the request of the descriptor at position `i` of queue `q`
of core `n`. -/
def execBpoolRequest (c n q i : Nat) (errs : List VatErr) (s : State) : Host.Outcome State Fault Refusal :=
  s.at_ (islOf c) (fun d => match (d.queue n q).infl[i]? with
    | none => d
    | some e => (d.meetErrs e errs).collectReq c { core := n, queue := q, id := e.id })

/-- BPOOL_TIMEOUT (03 R77): the oldest request of pool core `c` has waited the pool's limit. -/
def execBpoolTimeout (c : Nat) (s : State) : Host.Outcome State Fault Refusal :=
  s.at_ (islOf c) (fun d => d.launchBatch c true)

/-! ## The non-finite latch and the function tables (03 R88-R92) -/

/-- A write of `NUM_CLEAR`. -/
def Die.numClear (d : Die) (n : Nat) (v : Word) : Die :=
  if bit v 0 then d.onCore n (fun d => d.updCore n (fun c => { c with
    nonfinite := false, srcArray := false, srcMv := false, srcVec := false, srcScreed := false, srcConvert := false })) else d

/-- NUM_CLEAR (03 R92). -/
def execNumClear (ini n : Nat) (s : State) : Host.Outcome State Fault Refusal :=
  s.cplD ini (pgCore n) 0x108 (fun d => d.numClear n 1)

/-- The staging image of a core breaks a constraint of Table 3-5. -/
def Die.stageBad (d : Die) (n : Nat) : Bool := tableBad (fun w => sget d.stage 0 (n * 1024 + w))

/-- A write of `FTAB_LOAD` (03 R90). -/
def Die.ftabLoad (d : Die) (n : Nat) (v : Word) : Die :=
  if bit v 0 ∧ (d.core n).swap = none ∧ !d.stageBad n then
    d.onCore n (fun d => d.updCore n (fun c => { c with swap := some (fld (d.reg (pgCore n) 0x110) 4 0) }))
  else d

/-- FTAB_SWAP_REQUEST (03 R90). -/
def execFtabSwapRequest (ini n : Nat) (s : State) : Host.Outcome State Fault Refusal :=
  s.cplD ini (pgCore n) 0x114 (fun d => d.ftabLoad n 1)

/-- The staging image replaces the target table. -/
def Die.ftabSwap (d : Die) (n : Nat) : Die :=
  match (d.core n).swap with
  | none => d
  | some t =>
    if (d.inflight n).any (fun y => dFnEn y.2.d && decide (dFn y.2.d = t)) then d
    else
      let f := ssetList d.ftab 0 (n * 32768 + t * 1024) (sgetList d.stage 0 (n * 1024) 776)
      Die.updCore { d with ftab := f } n (fun c => { c with swap := none, lastSwapped := t })

/-- FTAB_SWAP (03 R90): the first cycle in which no issued descriptor names the target table. -/
def execFtabSwap (n : Nat) (s : State) : Host.Outcome State Fault Refusal :=
  s.at_ (islOf n) (fun d => d.ftabSwap n)

end Sys2Proof.Machine
end

