-- ==== Sys2Proof/Machine/Place.lean ====
section
/-!
DEFINITION. Regions: the region image and its checks, the choice of an origin, placement and removal
(06 R166-R173, 07 R213-R215, R223, R226, R227).
-/

namespace Sys2Proof.Machine

/-! ## The region image (06 R168, 07 R214) -/

/-- A region image's header (06 Table 6-1). -/
structure Image where
  w : Nat := 0
  h : Nat := 0
  /-- `PLACE`: 0 ANY, 1 FIXED, 2 WEST, 3 EAST. -/
  mode : Nat := 0
  ox : Nat := 0
  oy : Nat := 0
  felts : Nat := 0
  events : Nat := 0
  auto : Bool := false
  nfAbort : Bool := false
  use : Nat := 0
  queue : Nat := 0
  bank : Nat := 0
  slot : Nat := 0
  felt : Nat := 0
  bar : Nat := 0
  deriving DecidableEq, Repr

/-- A 48-bit address held in two words. -/
def Die.addrAt (d : Die) (a : Nat) : Nat := fld (d.mword (a + 4)) 15 0 * 2 ^ 32 + (d.mword a).toNat

/-- The header at an address. -/
def Die.readImage (d : Die) (a : Nat) : Image :=
  let w (i : Nat) : Word := d.mword (a + 4 * i)
  { w := fld (w 0) 7 0, h := fld (w 0) 15 8, mode := fld (w 1) 31 30, ox := fld (w 1) 5 0, oy := fld (w 1) 11 6,
    felts := fld (w 2) 28 20, events := fld (w 2) 12 0, auto := bit (w 3) 1, nfAbort := bit (w 3) 0,
    use := d.addrAt (a + 16), queue := d.addrAt (a + 24), bank := d.addrAt (a + 32), slot := d.addrAt (a + 40),
    felt := d.addrAt (a + 48), bar := d.addrAt (a + 56) }

/-- A 2 x 2 or 4 x 4 region (06 R167). -/
def Image.sub (m : Image) : Bool := decide (m.w = m.h) && (decide (m.w = 2) || decide (m.w = 4))

/-- The shape is one of R167. -/
def Image.shapeOk (m : Image) : Bool :=
  m.sub || (decide (m.w % 8 = 0) && decide (m.h % 8 = 0) && decide (8 ≤ m.w) && decide (m.w ≤ 64) &&
    decide (8 ≤ m.h) && decide (m.h ≤ 64))

/-- The header's fields are well-formed (06 R168). -/
def Die.headerOk (d : Die) (a : Nat) : Bool :=
  let w (i : Nat) : Word := d.mword (a + 4 * i)
  let m := d.readImage a
  decide (fld (w 0) 31 24 = 1) && decide (fld (w 0) 23 16 = 0) && decide (fld (w 1) 29 12 = 0) &&
    decide (fld (w 2) 31 29 = 0) && decide (fld (w 2) 19 13 = 0) && decide (fld (w 3) 31 2 = 0) &&
    decide (m.felts ≤ 256) && decide (m.events ≤ 4096) && m.shapeOk &&
    (decide (m.mode = 1) || (decide (m.ox = 0) && decide (m.oy = 0))) &&
    [4, 6, 8, 10, 12, 14].all (fun i => decide (fld (w (i + 1)) 31 16 = 0) && decide (d.addrAt (a + 4 * i) % 8 = 0))

/-- Region-relative indices dy * W + dx of the cores the program uses. -/
def Die.useList (d : Die) (m : Image) : List Nat :=
  (List.range (m.w * m.h)).filter (fun i => (d.byte (m.use + i / 8)).toNat.testBit (i % 8))

/-- Streams of the plan, and its tile records. -/
def Die.planStreams (d : Die) (m : Image) : Nat := fld (d.mword m.slot) 8 0
/-- `TILES`. -/
def Die.planTiles (d : Die) (m : Image) : Nat := fld (d.mword (m.slot + 8)) 8 0

/-- The image's sections: address and length in bytes. -/
def Die.sections (d : Die) (a : Nat) (m : Image) : List (Nat × Nat) :=
  [(a, 64), (m.use, (m.w * m.h + 63) / 64 * 8), (m.queue, 128 * (d.useList m).length), (m.bank, 64),
   (m.slot, 16 + 8 * d.planStreams m + 288 * (m.w * m.h) + 16 * d.planTiles m), (m.felt, 8 * m.felts), (m.bar, 128)]

/-- Both words of stream record `i`. -/
def Die.strRec (d : Die) (m : Image) (i : Nat) : Word × Word :=
  (d.mword (m.slot + 16 + 8 * i), d.mword (m.slot + 20 + 8 * i))

/-- The stream records: kind, id, source and destination, region-relative as (dx, dy). -/
def Die.strRecs (d : Die) (m : Image) : List (Nat × Nat × (Nat × Nat) × (Nat × Nat)) :=
  (List.range (d.planStreams m)).map (fun i =>
    let r := d.strRec m i
    (fld r.1 10 9, fld r.1 8 0, (fld r.2 21 16, fld r.2 29 24), (fld r.2 5 0, fld r.2 13 8)))

/-- The entry of node (dx, dy) at output `o` and slot `s`. -/
def Die.planEnt (d : Die) (m : Image) (dx dy o s : Nat) : Word :=
  d.mword (m.slot + 16 + 8 * d.planStreams m + 288 * (dy * m.w + dx) + 4 * (12 * o + s))

/-- Word `w` of tile record `t`. -/
def Die.tileRec (d : Die) (m : Image) (t w : Nat) : Word :=
  d.mword (m.slot + 16 + 8 * d.planStreams m + 288 * (m.w * m.h) + 16 * t + 4 * w)

/-- The node has an R port in an island rectangle, region-relative (07 R215). -/
def rPort (p : Nat × Nat) : Bool :=
  (decide (p.1 % 8 = 3) || decide (p.1 % 8 = 4)) && (decide (p.2 % 8 = 3) || decide (p.2 % 8 = 4))

/-- The neighbour an E, W, N or S output leads to within the rectangle. -/
def Image.near (m : Image) (dx dy o : Nat) : Option (Nat × Nat) :=
  match o with
  | 0 => if dx + 1 < m.w then some (dx + 1, dy) else none
  | 1 => if 0 < dx then some (dx - 1, dy) else none
  | 2 => if 0 < dy then some (dx, dy - 1) else none
  | _ => if dy + 1 < m.h then some (dx, dy + 1) else none

/-- The node entries of the plan with their place: dx, dy, output, slot, word. -/
def Die.planEnts (d : Die) (m : Image) : List (Nat × Nat × Nat × Nat × Word) :=
  (List.range (m.w * m.h)).flatMap (fun n => (List.range 72).map (fun k =>
    (n % m.w, n / m.w, k / 12, k % 12, d.planEnt m (n % m.w) (n / m.w) (k / 12) (k % 12))))

/-- Nodes of the region that use an R port (06 R169 condition 7). -/
def Die.rNodes (d : Die) (m : Image) : List (Nat × Nat) :=
  ((d.strRecs m).filterMap (fun s => if s.1 = 1 then some s.2.2.2 else if s.1 = 2 then some s.2.2.1 else none) ++
    (d.planEnts m).filterMap (fun e =>
      if entOwner e.2.2.2.2 ≠ 0 ∧ (e.2.2.1 = 5 ∨ entPort e.2.2.2.2 = 6) then some (e.1, e.2.1) else none)).dedup

/-- A node entry has none of the faults of 07 R215. -/
def Die.entOk (d : Die) (m : Image) (ids : List Nat) (e : Nat × Nat × Nat × Nat × Word) : Bool :=
  let w := e.2.2.2.2
  let dx := e.1
  let dy := e.2.1
  let o := e.2.2.1
  let own := entOwner w
  let port := entPort w
  decide (fld w 31 19 = 0) && decide (fld w 8 7 = 0) && decide (port ≠ 7) &&
    (if own = 0 then decide (port = 0)
     else ids.contains own && (decide (4 ≤ o) || (m.near dx dy o).isSome) && !(decide (5 ≤ port) && decide (entSlot w ≠ 0)) &&
       (if 1 ≤ port ∧ port ≤ 4 then
          match m.near dx dy (port - 1) with
          | none => false
          | some p => decide (entSlot w < 12) && decide (entOwner (d.planEnt m p.1 p.2 (arrPort (port - 1) - 1) (entSlot w)) = own)
        else true))

/-- The share of a reducer the region's shape owns: entries and bytes (07 R226). -/
def Image.shareSize (m : Image) : Nat × Nat := if m.w = 2 then (0, 0) else if m.w = 4 then (64, 65536) else (256, 262144)

/-- Island within the region, entry, first byte and end of a tile record. -/
def Die.tileSpan (d : Die) (m : Image) (t : Nat) : Nat × Nat × Nat × Nat :=
  let w0 := d.tileRec m t 0
  let w1 := d.tileRec m t 1
  let b := fld w0 14 0 * 8
  let n := (fld w0 24 20 + 1) * (fld w0 19 15 + 1) * (if bit w0 30 then 24 else 40)
  (fld w1 16 14 * 8 + fld w1 13 11, fld w1 7 0, b, b + n)

/-- A tile record breaks no rule (07 R227, Table 7-7). -/
def Die.tileOk (d : Die) (m : Image) (t : Nat) : Bool :=
  let w (i : Nat) : Word := d.tileRec m t i
  let s := d.tileSpan m t
  let sz := m.shareSize
  bit (w 0) 31 && decide (fld (w 0) 29 25 = 0) && decide (fld (w 1) 19 17 = 0) && decide (fld (w 1) 10 8 = 0) &&
    decide (fld (w 2) 7 0 = 0) && decide (fld (w 3) 30 12 = 0) && decide (fld (w 1) 31 20 ≠ 0) && decide (fld (w 2) 31 30 < 2) &&
    decide (s.2.1 < sz.1) && decide (s.2.2.2 ≤ sz.2) &&
    decide (fld (w 1) 16 14 < max 1 (m.h / 8)) && decide (fld (w 1) 13 11 < max 1 (m.w / 8)) &&
    (d.strRecs m).any (fun r => decide (r.1 = 2) && decide (r.2.1 = fld (w 2) 29 21)) &&
    (List.range t).all (fun u =>
      let v := d.tileSpan m u
      decide (v.1 ≠ s.1) || (decide (v.2.1 ≠ s.2.1) && (decide (v.2.2.2 ≤ s.2.2.1) || decide (s.2.2.2 ≤ v.2.2.1))))

/-- The slot plan has none of the faults of 07 R215. -/
def Die.planOk (d : Die) (m : Image) : Bool :=
  let w (i : Nat) : Word := d.mword (m.slot + 4 * i)
  let rs := d.strRecs m
  let ids := rs.map (fun r => r.2.1)
  let rn := d.rNodes m
  decide (fld (w 0) 31 24 = 1) && decide (fld (w 0) 23 9 = 0) && decide (fld (w 1) 31 16 = 0) && decide (fld (w 2) 31 9 = 0) &&
    decide (w 3 = 0) && decide (fld (w 1) 15 0 = m.w * m.h) && decide (d.planTiles m ≤ 256) &&
    (List.range (d.planStreams m)).all (fun i =>
      let r := d.strRec m i
      decide (fld r.1 31 11 = 0) && decide (fld r.2 31 30 = 0) && decide (fld r.2 23 22 = 0) && decide (fld r.2 15 14 = 0) &&
        decide (fld r.2 7 6 = 0)) &&
    rs.all (fun r => decide (r.1 ≠ 0) && decide (r.2.1 ≠ 0) && decide (r.2.2.1.1 < m.w) && decide (r.2.2.1.2 < m.h) &&
      decide (r.2.2.2.1 < m.w) && decide (r.2.2.2.2 < m.h)) &&
    (d.planEnts m).all (d.entOk m ids) &&
    (if m.w = 2 then rn.isEmpty else if m.w = 4 then decide (rn.length ≤ 1) else rn.all rPort) &&
    (List.range (d.planTiles m)).all (d.tileOk m)

/-- Felt records: island within the region as row * 8 + column, queue, configuration (06 Table 6-1, word 12). -/
def Die.feltRecs (d : Die) (m : Image) : List (Nat × Nat × Word) :=
  (List.range m.felts).map (fun i =>
    let w := d.mword (m.felt + 8 * i)
    (fld w 13 8, fld w 7 0, d.mword (m.felt + 8 * i + 4)))

/-- An island within the region lies inside it. -/
def Image.hasIsl (m : Image) (i : Nat) : Bool := decide (i / 8 < max 1 (m.h / 8)) && decide (i % 8 < max 1 (m.w / 8))

/-- Felt records name islands of the region. -/
def Die.feltOk (d : Die) (m : Image) : Bool :=
  (d.feltRecs m).all (fun r => m.hasIsl r.1 && (!bit r.2.2 23 || m.hasIsl (fld r.2.2 21 16)))

/-- Every section lies in stack memory that answers. -/
def Die.sectionsOk (d : Die) (l : List (Nat × Nat)) : Bool := l.all (fun s => decide (s.1 + s.2 ≤ stackEnd) && d.rangeOpen s.1 s.2)

/-- The Deckle reads the sections; answers whether a burst of them is uncorrectable (08 Table 8-3). -/
def Die.readSections (d : Die) (l : List (Nat × Nat)) (es : List BurstErr) : Die × Bool :=
  l.foldl (fun acc s => let r := acc.1.readRange false s.1 s.2 es; (r.1, acc.2 || !r.2.isEmpty)) (d, false)

/-! ## The choice of an origin (06 R169, R170) -/

/-- A level change of a half is requested or under way (13 R388, R389). -/
def Pwr.changing (p : Pwr) : Bool :=
  p.busyW || p.busyE || p.deferW || p.deferE || p.goW.isSome || p.goE.isSome || p.chgW.isSome || p.chgE.isSome

/-- Islands a rectangle touches. -/
def rectIsls (x y w h : Nat) : List Nat :=
  (List.range (max 1 (h / 8))).flatMap (fun j => (List.range (max 1 (w / 8))).map (fun i => (y / 8 + j) * 8 + x / 8 + i))

/-- Cores of a rectangle, in row-major order. -/
def rectCores (x y w h : Nat) : List Nat := (List.range (w * h)).map (fun i => coreAt (x + i % w) (y + i / w))

/-- Placed regions. -/
def Die.placed (d : Die) : List (Nat × Region) :=
  d.regions.filterMap (fun c => match c.2 with
    | some r => some (c.1, r)
    | none => none)

/-- Event ranges in use in any of the islands. -/
def Die.evRanges (d : Die) (isls : List Nat) : List (Nat × Nat) :=
  d.placed.filterMap (fun r =>
    if r.2.events ≠ 0 ∧ (rectIsls r.2.x r.2.y r.2.w r.2.h).any isls.contains then some (r.2.evBase, r.2.evBase + r.2.events) else none)

/-- The lowest base at which `n` events are free in every island (06 R169 condition 5). -/
def Die.evFree (d : Die) (isls : List Nat) (n : Nat) : Option Nat :=
  let l := d.evRanges isls
  ((0 :: l.map (fun r => r.2)).filter (fun b => decide (b + n ≤ 4096) &&
    l.all (fun r => decide (r.2 ≤ b) || decide (b + n ≤ r.1)))).min?

/-- The R node of a 4 x 4 region, by the quadrant of its origin (06 R169 condition 7). -/
def quadR (x y : Nat) : Nat × Nat := (if x % 8 < 4 then 3 else 0, if y % 8 < 4 then 3 else 0)

/-- Home slice and frame pair of a page, had region `r` the rectangle given. -/
def Die.pinHome (d : Die) (r x y w h : Nat) (p : Page) : Option (Nat × Nat) :=
  if p.shared.isNone ∧ bit p.home 8 = false ∧ fld p.home 31 26 = r then
    let dx := fld p.home 25 20
    let dy := fld p.home 19 14
    if dx < w ∧ dy < h then some (coreAt (x + dx) (y + dy), fld p.home 13 9 / 2) else none
  else (d.homeSlice p).map (fun n => (n, match p.shared with
    | some id => (match d.obj (2 ^ 28 + id) with
      | some o => o.pref / 2
      | none => 0)
    | none => fld p.home 13 9 / 2))

/-- PIN pages with the object each of them is. -/
def Die.pins (d : Die) : List (Nat × Page) :=
  d.pages.filterMap (fun c => match c.2 with
    | some p => if p.hint = 1 then some ((match p.shared with
        | some id => 2 ^ 28 + id
        | none => c.1), p) else none
    | none => none)

/-- Two PIN pages would share a frame pair of a slice (06 R169 condition 8). -/
def Die.pinClash (d : Die) (r x y w h : Nat) : Bool :=
  d.pins.any (fun p => decide (p.2.shared.isNone) && !bit p.2.home 8 && decide (fld p.2.home 31 26 = r) &&
    (match d.pinHome r x y w h p.2 with
     | none => false
     | some a => d.pins.any (fun q => decide (q.1 ≠ p.1) && decide (d.pinHome r x y w h q.2 = some a))))

/-- Condition 4 of 06 R169. -/
def Die.seamOk (d : Die) (m : Image) (x : Nat) : Bool :=
  !(decide (x < 32) && decide (32 < x + m.w)) || (decide (d.pw.levW = d.pw.levE) && !d.pw.changing)

/-- The other conditions of 06 R169, for region number `r` at (x, y): the event base when they hold. -/
def Die.admits (d : Die) (m : Image) (r x y : Nat) : Option Nat :=
  let g := if m.w < 8 then m.w else 8
  let isls := rectIsls x y m.w m.h
  if x % g = 0 ∧ y % g = 0 ∧ x + m.w ≤ 64 ∧ y + m.h ≤ 64 ∧ (m.mode = 2 → x + m.w ≤ 32) ∧ (m.mode = 3 → 32 ≤ x) ∧
      d.placed.all (fun p => !(decide (p.2.x < x + m.w) && decide (x < p.2.x + p.2.w) &&
        decide (p.2.y < y + m.h) && decide (y < p.2.y + p.2.h))) ∧
      (rectCores x y m.w m.h).all (fun n => (d.poolMember n).isNone) ∧
      (d.useList m).all (fun i => d.enabled (coreAt (x + i % m.w) (y + i / m.w))) ∧
      (d.feltRecs m).all (fun f => !bit (d.feltQ ((y / 8 + f.1 / 8) * 8 + x / 8 + f.1 % 8) f.2.1).cfg 31) ∧
      (m.w = 4 → (d.rNodes m).all (fun p => decide (p = quadR x y))) ∧ d.pinClash r x y m.w m.h = false
  then d.evFree isls m.events else none

/-- Candidate origins in order (06 R170). -/
def Image.origins (m : Image) : List (Nat × Nat) :=
  let g := if m.w < 8 then m.w else 8
  if m.mode = 1 then [(m.ox, m.oy)]
  else (List.range (64 / g)).flatMap (fun j => (List.range (64 / g)).map (fun i => (g * i, g * j)))

/-- The first admissible origin with its event base; else the result code of Table 6-2, step 2. -/
def Die.search (d : Die) (m : Image) (r : Nat) : Except Nat (Nat × Nat × Nat) :=
  let l := m.origins.filterMap (fun o => (d.admits m r o.1 o.2).map (fun b => (o.1, o.2, b)))
  match l.find? (fun c => d.seamOk m c.1) with
  | some c => .ok c
  | none => .error (if l.isEmpty then 1 else 2)

/-! ## Commands of the Deckle (06 R171, R203) -/

/-- A Deckle command ends. -/
def Die.dkEnd (d : Die) (result index : Nat) : Die :=
  d.updDk (fun x => { x with cmd := .none, donePend := true, result, index })

/-- Active `CMD_ADDR`. -/
def Die.dkAddr (d : Die) : Nat := fld (d.reg pgDk 0x104) 15 0 * 2 ^ 32 + fld (d.reg pgDk 0x100) 31 3 * 8
/-- Active `CMD_ARG.REGION`. -/
def Die.dkRegion (d : Die) : Nat := fld (d.reg pgDk 0x108) 31 26
/-- Active `CMD_ARG.JOB`. -/
def Die.dkJob (d : Die) : Nat := fld (d.reg pgDk 0x108) 25 21
/-- Active `CMD_ARG.COUNT`. -/
def Die.dkCount (d : Die) : Nat := fld (d.reg pgDk 0x108) 16 0

/-- Write a slice's bank plan and commit it (05 R136, R162). -/
def Die.setPlan (d : Die) (n : Nat) (ws : List Word) : Die :=
  (List.range 16).foldl (fun d s => d.setBoth (pgCore n) (0x840 + 4 * s) (ws.getD s 0)) (d.holdPlan n)

/-- Registers of one queue from its eight record words (06 Table 6-2 step 3). -/
def Die.setQueueRegs (d : Die) (n q : Nat) (ws : List Word) (base events job : Nat) : Die :=
  let o := 0x400 + 0x80 * q
  let put (d : Die) (k : Nat) (v : Word) : Die := match queueRegs k with
    | none => d
    | some r => d.setShadow (pgCore n) (o + k) (v &&& r.cs)
  let d := [0, 1, 2, 3, 4, 5].foldl (fun d i => put d (4 * i) (ws.getD i 0)) d
  put (put d 0x18 (packW [(16, events), (0, base)])) 0x1C (word job)

/-- Step 3 for one used core: queue registers, bank plan, `SCREED_CFG`, commit. -/
def Die.setupCore (d : Die) (m : Image) (base job : Nat) (bank : List Word) (x : Nat × Nat) : Die :=
  let n := x.1
  let d := [0, 1, 2, 3].foldl (fun d q => d.setQueueRegs n q (d.mwords (m.queue + 128 * x.2 + 32 * q) 8) base m.events job) d
  let d := d.setShadow (pgCore n) 0x10C (if m.nfAbort then 1 else 0)
  (d.setPlan n bank).commitPage (pgCore n)

/-- The region an image makes at an origin. -/
def Die.mkRegion (d : Die) (m : Image) (job x y base : Nat) : Region :=
  let at_ (p : Nat × Nat) : Nat := coreAt (x + p.1) (y + p.2)
  { job, x, y, w := m.w, h := m.h, events := m.events, evBase := base,
    felts := (d.feltRecs m).map (fun f => ((y / 8 + f.1 / 8) * 8 + x / 8 + f.1 % 8, f.2.1)),
    bars := (List.range 64).map (fun b => leNat (d.bytes (m.bar + 2 * b) 2)),
    used := (d.useList m).map (fun i => coreAt (x + i % m.w) (y + i / m.w)),
    streams := (d.strRecs m).map (fun s => (s.1, s.2.1, at_ s.2.2.1, at_ s.2.2.2)) }

/-- Steps 0 to 3 of a placement (06 Table 6-2). -/
def Die.place (d : Die) (es : List BurstErr) : Die :=
  let r := d.dkRegion
  let job := d.dkJob
  let a := d.dkAddr
  if (d.job job).enabled = false then d.dkEnd 7 0
  else if (d.region r).isSome then d.dkEnd 4 0
  else if a % 64 ≠ 0 ∨ !d.sectionsOk [(a, 64)] ∨ !d.headerOk a then d.dkEnd 3 0
  else
    let m := d.readImage a
    let secs := d.sections a m
    let rd := d.readSections secs es
    let d := rd.1
    if rd.2 ∨ !d.sectionsOk secs ∨ !d.planOk m ∨ !d.feltOk m then d.dkEnd 3 0
    else match d.search m r with
      | .error c => d.dkEnd c 0
      | .ok (x, y, base) =>
        let reg := d.mkRegion m job x y base
        let bank := d.mwords m.bank 16
        let d := ((rectCores x y m.w m.h).filter (fun n => !reg.used.contains n)).foldl (fun d n => d.setPlan n bank) d
        let d := reg.used.zipIdx.foldl (fun d u => d.setupCore m base job bank u) d
        d.updDk (fun k => { k with cmd := .placing r reg a })

/-- A circuit holds a plan slot inside a rectangle (07 R223). -/
def Die.planHeld (d : Die) (r : Region) : Bool :=
  let inside (n : Nat) : Bool := decide (r.x ≤ cx n) && decide (cx n < r.x + r.w) && decide (r.y ≤ cy n) && decide (cy n < r.y + r.h)
  d.nent.any (fun c =>
    let n := c.1 / 96
    let o := c.1 % 96 / 16
    decide (c.1 % 16 < 12) && decide (512 ≤ entOwner c.2) && inside n &&
      (decide (4 ≤ o) || (match outNode n o with
        | none => false
        | some v => inside v)))

/-- The pages homed in a region, with their object keys. -/
def Die.homedIn (d : Die) (r : Nat) : List (Nat × Page) :=
  d.pages.filterMap (fun c => match c.2 with
    | some p => if p.shared.isNone ∧ bit p.home 8 = false ∧ fld p.home 31 26 = r then some (c.1, p) else none
    | none => none)

/-- A fill requested for a PIN page: a demand request (06 R183, R194). -/
def Die.pinFill (d : Die) (j k : Nat) : Die := d.demandPage j k [k]

/-- The pages homed in a region get their slice; its PIN pages are requested (06 R172, R183). -/
def Die.bindHomes (d : Die) (r : Nat) : Die :=
  let l := (d.homedIn r).filterMap (fun c => (d.homeSlice c.2).map (fun n => (c.1, c.2, n)))
  let d := l.foldl (fun d c => d.updObj c.1 (fun o => { o with slice := c.2.2 })) d
  (l.filter (fun c => decide (c.2.1.hint = 1))).foldl (fun d c => d.pinFill (c.1 / 2 ^ 23) c.1) d

/-- Step 4: the slot plan, the tile records, the felt queues and the events. -/
def Die.loadPlan (d : Die) (m : Image) (r : Nat) (g : Region) : Die :=
  let d : Die := { d with nent := (d.planEnts m).foldl (fun mm e =>
    sset mm 0 (coreAt (g.x + e.1) (g.y + e.2.1) * 96 + e.2.2.1 * 16 + e.2.2.2.1) e.2.2.2.2) d.nent }
  let first := if m.w = 4 then 64 * ((g.y % 8 / 4) * 2 + g.x % 8 / 4) else 0
  let d := (List.range (d.planTiles m)).foldl (fun d t =>
    let s := d.tileSpan m t
    let i := (g.y / 8 + s.1 / 8) * 8 + g.x / 8 + s.1 % 8
    d.updRt i (first + s.2.1) (fun _ => { w0 := d.tileRec m t 0, w1 := d.tileRec m t 1, w2 := d.tileRec m t 2,
                                          w3 := d.tileRec m t 3, region := r })) d
  let d := (d.feltRecs m).foldl (fun d f =>
    let nx := fld f.2.2 21 16
    let isl := (g.y / 8 + nx / 8) * 8 + g.x / 8 + nx % 8
    d.updFelt ((g.y / 8 + f.1 / 8) * 8 + g.x / 8 + f.1 % 8) f.2.1 (fun q =>
      { q with cfg := packW [(31, 1), (24, g.job), (23, fld f.2.2 23 23), (16, isl % 64), (8, fld f.2.2 15 8)] })) d
  { d with evt := (rectIsls g.x g.y g.w g.h).foldl (fun e i => sclear e (i * 4096 + g.evBase) g.events) d.evt }

/-- Steps 4 and 5 of a placement, once no circuit holds a plan slot of the rectangle. -/
def Die.placeEnd (d : Die) : Die :=
  match d.dk.cmd with
  | .placing r g a =>
    if d.planHeld g then d
    else
      let m := d.readImage a
      let d := d.loadPlan m r g
      let d : Die := { d with regions := sset d.regions none r (some g) }
      let d := d.bindHomes r
      let d := if m.auto then g.used.foldl (fun d n => [0, 1, 2, 3].foldl (fun d q =>
          if d.ringLen n q false ≠ 0 then d.onCore n (fun d => d.qStart n q) else d) d) d else d
      d.dkEnd 0 0
  | _ => d

/-! ## Removal (06 R172) -/

/-- Every queue of the used cores is quiet. -/
def Die.regionQuiet (d : Die) (g : Region) : Bool :=
  g.used.all (fun n => [0, 1, 2, 3].all (fun q =>
    let x := d.queue n q
    (decide (x.st = .idle) || decide (x.st = .halted)) && x.infl.isEmpty))

/-- Take the region's plan out of the nodes, its tiles and felt queues out of its islands. -/
def Die.unload (d : Die) (r : Nat) (g : Region) : Die :=
  let inside (n : Nat) : Bool := decide (g.x ≤ cx n) && decide (cx n < g.x + g.w) && decide (g.y ≤ cy n) && decide (cy n < g.y + g.h)
  let d : Die := { d with
    nent := d.nent.filter (fun c => !(inside (c.1 / 96) && decide (entOwner c.2 < 512)))
    rtile := d.rtile.filter (fun c => !(c.2.valid && decide (c.2.region = r) &&
      (rectIsls g.x g.y g.w g.h).contains (c.1 / 256))) }
  g.felts.foldl (fun d f => d.updFelt f.1 f.2 (fun q => { q with cfg := setFld q.cfg 31 31 0 })) d

/-- A page homed in a region leaves the Vat (06 R172). A fill that an issued descriptor of another core still waits
for goes on, and the page drains when it has landed (log 129). -/
def Die.evacuate (d : Die) (c : Nat × Page) : Die :=
  let k := c.1
  match d.obj k with
  | none => d
  | some o =>
    match o.st with
    | .absent => if o.unheld then d.setObj k (some { o with waiting := false }) else d
    | .filling =>
      if !o.unheld ∨ d.inFlight k .demand ∨ d.inFlight k .prefetch then d
      else (d.setObj k (some { o with st := .draining, dirty := false, zero := false })).withdraw k (fun _ => true)
    | .resident => if c.2.hint = 3 then d.dropDirty k else d.startDrain k
    | .draining =>
      let d := d.setObj k (some { o with keepAfter := false })
      if c.2.hint = 3 ∧ d.inFlight k .writeback = false then d.dropDirty k else d

/-- A region without a command leaves the tables: its cores are free again. -/
def Die.dropRegion (d : Die) (r : Nat) (g : Region) : Die :=
  let d := (rectCores g.x g.y g.w g.h).foldl (fun d n => d.setPlan n []) d
  { d with regions := sset d.regions none r none }

/-- REMOVE of Table 6-7. -/
def Die.remove (d : Die) : Die :=
  let r := d.dkRegion
  match d.region r with
  | none => d.dkEnd 5 0
  | some g =>
    if !d.regionQuiet g then d.dkEnd 6 0
    else
      let d := d.unload r g
      let d : Die := { d with regions := sset d.regions none r (some { g with events := 0, bars := [], felts := [], streams := [], removing := true }) }
      let d := (d.homedIn r).foldl Die.evacuate d
      d.updDk (fun x => { x with cmd := .removing r })

/-- A removal ends once every page homed in the region is ABSENT. -/
def Die.removeStep (d : Die) : Die :=
  match d.dk.cmd with
  | .removing r =>
    if (d.homedIn r).all (fun c => match d.obj c.1 with
        | none => true
        | some o => decide (o.st = .absent) && !o.waiting) then
      match d.region r with
      | none => d.dkEnd 0 0
      | some g => (d.dropRegion r g).dkEnd 0 0
    else d
  | _ => d

end Sys2Proof.Machine
end

