-- ==== Sys2Proof/Machine/Vat.lean ====
section
/-!
DEFINITION. The Vat seen from outside the engines: the host window, the scrubbers and the felt queues
(05 R145-R160).
-/

namespace Sys2Proof.Machine

/-! ## The host window (05 R145, R158, R159) -/

/-- `VAT_STATUS.SCRUB_STARVED` (05 R152, R160). -/
def Die.scrubStarved (d : Die) (n : Nat) : Bool :=
  (d.slice n).busy || (List.range 16).all (fun b => !d.bankSlot n b (fun o => decide (o = 0)))

/-- The window serves the slice and size: a natural alignment, and the slice's island runs. -/
def Die.windowOpen (d : Die) (off size : Nat) : Bool :=
  portSize size && decide (off % size = 0) && decide (off + size ≤ 2 ^ 33) && d.live (islOf (off / 2 ^ 21))

/-- The bank slots in which the window reaches the frame of an access: owned by none or by the Lath port (05 Table 5-1). -/
def Die.windowSlot (d : Die) (off s : Nat) : Bool :=
  let o := fld (d.planWord (off / 2 ^ 21) s) (2 * bankOf (off / 65536 % 32) + 1) (2 * bankOf (off / 65536 % 32))
  decide (o = 0) || decide (o = 3)

/-- A window circuit can open now, with its last slot among `okL` (05 R158, 07 R222). -/
def Die.windowServed (d : Die) (off : Nat) (okL : Nat → Bool) : Bool :=
  let n := off / 2 ^ 21
  !(d.slice n).busy && d.oneShot (windowStack n) n (some n) okL

/-- The access waits. It has no circuit, unless its slice is still being scrubbed (07 R222). -/
def Die.windowWait (d : Die) (off : Nat) : Die :=
  (if (d.slice (off / 2 ^ 21)).busy then d else d.count pgDk 0xB).respond .none

/-- A refused host access is counted (05 Table 5-11). -/
def Die.hostRefused (d : Die) (n : Nat) : Die := (d.count (pgCore n) 0x47).refuse

/-- An access of another size or alignment is refused and counted; one to an island that does not run finds no counter
(05 R158, Table 5-11). -/
def Die.windowShut (d : Die) (n : Nat) : Die := if d.live (islOf n) then d.hostRefused n else d.refuse


/-- The slice accepts host writes to a frame (05 R159). -/
def Die.hostWrites (d : Die) (g : Nat) : Bool :=
  bit (d.reg (pgCore (sliceOf g)) 0x800) 0 && !d.pw.asleep &&
    (match d.frameObj (frameOf g) with
    | none => true
    | some k => d.isResident k)

/-- A host access reads line `l` of sheet `g` (32: the side band); answers whether it is uncorrectable. -/
def Die.hostReads (d : Die) (g l : Nat) (err : Option Bool) : Die × Bool :=
  match err with
  | none => (d, false)
  | some ue => (d.vatErr (d.sheetAttempt g) (g, l, ue), ue)

/-- A window read of `size` bytes at window offset `off` (05 R158); `err` tells of an error in its line, `drop` of a flit
dropped at a node of its route. -/
def Die.windowRead (d : Die) (off size : Nat) (err : Option Bool) (drop : Option Nat) : Die :=
  let n := off / 2 ^ 21
  if !d.windowOpen off size then d.windowShut n
  else if !d.windowServed off (d.windowSlot off) then d.windowWait off
  else
    let c := d.oneShotRun (windowStack n) n 1 drop
    if c.2 then c.1.refuse
    else
      let r := c.1.hostReads (off / 4096) (off % 4096 / 128) err
      let d := r.1.count (pgCore n) 0x45
      if r.2 then d.refuse else d.respond (.ok (leNat (d.bytes (vatBase + off) size)))

/-- A window write (05 R159). -/
def Die.windowWrite (d : Die) (off size v : Nat) (err : Option Bool) (drop : Option Nat) : Die :=
  let n := off / 2 ^ 21
  let g := off / 4096
  if !d.windowOpen off size then d.windowShut n
  else if !d.hostWrites g then d.hostRefused n
  else if !d.windowServed off (d.windowSlot off) then d.windowWait off
  else
    let c := d.oneShotRun (windowStack n) n 1 drop
    if c.2 then c.1.refuse
    else
      let r := c.1.hostReads g (off % 4096 / 128) err
      if r.2 then r.1.hostRefused n
      else (((r.1.setBytes (vatBase + off) (leBytes size v)).dirtyFrame g).count (pgCore n) 0x46).respond (.ok 0)

/-- The window is reached through the control plane: its guard, as for a register page. A write that meets a slice
asleep is counted as refused (05 R159, R160). -/
def State.windowed (s : State) (ini off : Nat) (wr : Bool) (f : Die → Die) : State :=
  let shut := s.d.planeClosed ini 0
  let s := s.transfer ini
  if shut then { s with d := if wr && s.d.pw.asleep then s.d.hostRefused (off / 2 ^ 21) else s.d.refuse }
  else { s with d := f s.d }

/-- An access of requester `ini` to the window at `off`; the debug port's BUSY access there takes the answer. -/
def State.window (s : State) (ini off : Nat) (wr : Bool) (f : Die → Die) : Host.Outcome State Fault Refusal :=
  if s.d.live (iniIsland ini) = false ∨ s.d.hasGrant ini = false then .next s
  else
    let t := s.windowed ini off wr f
    .next (if ini = iniDebug ∧ s.a.tap.waitsFor (islOf (off / 2 ^ 21)) then t.tapTake else t)

/-- VAT_WINDOW_READ (05 R158). A read that no slot serves yet waits: nothing else happens. -/
def execVatWindowRead (ini off size : Nat) (err : Option Bool) (s : State) (drop : Option CoreNo := none) : Host.Outcome State Fault Refusal :=
  s.window ini off false (fun d => d.windowRead off size err (drop.map (fun v => v.val)))

/-- VAT_WINDOW_WRITE (05 R159). -/
def execVatWindowWrite (ini off size v : Nat) (err : Option Bool) (s : State) (drop : Option CoreNo := none) : Host.Outcome State Fault Refusal :=
  s.window ini off true (fun d => d.windowWrite off size v err (drop.map (fun v => v.val)))

/-- VAT_WINDOW_TIMEOUT (05 R158): an access ends with a bus error when no circuit to a slot owned by none can serve it; in a
slot of the Lath port flits may always be in its way. -/
def execVatWindowTimeout (ini off : Nat) (s : State) : Host.Outcome State Fault Refusal :=
  s.window ini off false (fun d =>
    let n := off / 2 ^ 21
    if d.live (islOf n) ∧ !d.windowServed off (fun s => decide (fld (d.planWord n s) (2 * bankOf (off / 65536 % 32) + 1)
        (2 * bankOf (off / 65536 % 32)) = 0))
    then d.hostRefused n else d.respond .none)

/-! ## Scrubbing (05 R152, R160) -/

/-- PATROL_SCRUB (05 R152): the scrubber of slice `n` reads its next line, which holds an error or not. The side band of
a sheet is due in the same cycles as the sheet's lines, those in which the bank of its frame is owned by none (DESIGN
CHOICE, log 136). -/
def execPatrolScrub (n : Nat) (err : Option Bool) (s : State) : Host.Outcome State Fault Refusal :=
  s.at_ (islOf n) (fun d =>
    let p := (d.slice n).pos
    let g := n * 512 + p / 33
    if !bit (d.reg (pgCore n) 0x800) 1 ∨ (d.slice n).busy ∨ !d.bankSlot n (bankOf (frameOf g)) (fun o => decide (o = 0)) then d
    else (((d.hostReads g (p % 33) err).1).count (pgCore n) 0x44).updSlice n (fun v => { v with pos := (p + 1) % (512 * 33) }))

/-- RESET_SCRUB_DONE (05 R160). -/
def execResetScrubDone (n : Nat) (s : State) : Host.Outcome State Fault Refusal :=
  s.at_ (islOf n) (fun d => d.updSlice n (fun v => { v with busy := false }))

/-! ## Felt queues (05 R153-R157) -/

/-- Put a handle at the tail of a felt queue that has room. -/
def Die.feltPut (d : Die) (i q : Nat) (h : Word) : Die :=
  let x := d.feltQ i q
  let k := (i * 256 + q) * 64 + (x.head + x.count) % 64
  Die.updFelt { d with feltMem := sset d.feltMem 0 k h } i q (fun x => { x with count := x.count + 1 })

/-- A push is discarded or refused (05 R156, R157). -/
def Die.feltDrop (d : Die) (i q : Nat) : Die :=
  (d.updFelt i q (fun x => { x with drops := x.drops + 1 })).islErr i 1

/-- The queue refuses a push: it is disabled, or belongs to another job than the handle's queue (05 R157). -/
def Die.feltRefuses (d : Die) (i q : Nat) (job : Option Nat) : Bool :=
  let c := (d.feltQ i q).cfg
  !bit c 31 || (match job with
    | none => false
    | some j => decide (fld c 28 24 ≠ j))

/-- A push arrives at a felt queue (05 R155-R157); `job` is that of the queue the handle was popped from. -/
def Die.feltPush (d : Die) (i q : Nat) (h : Word) (job : Option Nat) : Die :=
  let buf := (d.island i).pushBuf
  if d.feltRefuses i q job then d.feltDrop i q
  else if (d.feltQ i q).count < 64 ∧ buf.all (fun m => decide (m.queue ≠ q)) then d.feltPut i q h
  else if buf.length < 64 then d.updIsl i (fun x => { x with pushBuf := x.pushBuf ++ [{ queue := q, handle := h, job := job }] })
  else d.feltDrop i q

/-- FELT_PUSH (05 R155): the first push that has reached island `i`. -/
def execFeltPush (i : Nat) (s : State) : Host.Outcome State Fault Refusal :=
  s.at_ i (fun d =>
    match d.takeArr (islNode i) (fun m => match m.body with | .felt _ _ _ => true | _ => false) with
    | none => d
    | some (m, d) => match m.body with
      | .felt q h j => (d.hear i m.s).feltPush i (q % 256) h (some j)
      | _ => d)

/-- FELT_PUSH_BUFFER (05 R156): the first waiting push whose queue has room enters it. -/
def execFeltPushBuffer (i : Nat) (s : State) : Host.Outcome State Fault Refusal :=
  s.at_ i (fun d =>
    let buf := (d.island i).pushBuf
    match buf.findIdx? (fun m => decide ((d.feltQ i m.queue).count < 64)) with
    | none => d
    | some k => match buf[k]? with
      | none => d
      | some m =>
        let d := d.updIsl i (fun x => { x with pushBuf := dropAt x.pushBuf k })
        if d.feltRefuses i m.queue m.job then d.feltDrop i m.queue else d.feltPut i m.queue m.handle)

/-- A host write of `v` to the `PUSH` word of a queue (05 R157, Table 5-6). -/
def Die.hostPush (d : Die) (i q : Nat) (v : Word) : Die :=
  if bit (d.feltQ i q).cfg 31 then d.feltPush i q v none else d.refuse

/-- PUSH (05 R157, 12 R369): the host sets `IND_CTRL` to 8 and `IND_ADDR` to the word, and writes `IND_DATA`. -/
def execPush (ini i q : Nat) (v : Word) (s : State) : Host.Outcome State Fault Refusal :=
  s.cplD ini (pgIsl i) 0x44 (fun d =>
    let ok := bit (d.feltQ i q).cfg 31
    (d.updHdr (pgIsl i) (fun h => { h with
      indSpace := 8, indAddr := word (q * 128 + (if ok then 3 else 2)), lastErr := !ok })).hostPush i q v)

end Sys2Proof.Machine
end

