-- ==== Sys2Proof/Machine/PageCmds.lean ====
section
/-!
DEFINITION. Page records, the transfers between a stack and the Vat, stack bandwidth and the prefetch walk,
as shared operations (06 R176-R196).
-/

namespace Sys2Proof.Machine

/-! ## Stack pages (06 R177, R188) -/

/-- Stack pages of stack `s` in use. -/
def Die.stackPages (d : Die) (s : Nat) : List Nat :=
  d.objs.filterMap (fun c => match c.2 with
    | some o => if o.stack = s ∧ o.released = false then some o.spage else none
    | none => none)

/-- Pages of the pool of stack `s`: no more than fit below 64 GiB (06 Table 6-7). -/
def Die.poolPages (d : Die) (s : Nat) : Nat :=
  min (fld (d.reg pgDk (0x144 + 8 * s)) 19 0) ((2 ^ 36 - d.poolBase s) / 69632)

/-- The lowest free page of the pool. -/
def Die.freeSpage (d : Die) (s : Nat) : Option Nat :=
  let used := d.stackPages s
  match ((0 :: used.map (fun k => k + 1)).filter (fun k => !used.contains k)).min? with
  | none => none
  | some k => if k < d.poolPages s then some k else none

/-- Stack that holds a virtual page: entry `v mod 8` of the active `STACK_MAP`. -/
def Die.stackFor (d : Die) (j v : Nat) : Nat := fld (d.reg (pgJob j) 0x100) (3 * (v % 8) + 2) (3 * (v % 8))

/-! ## Page records (06 R176, Table 6-3) -/

/-- The four words of record `i` of a list. -/
def Die.recAt (d : Die) (a i : Nat) : List Word := d.mwords (a + 16 * i) 4
/-- `OP` of a record. -/
def recOp (r : List Word) : Nat := fld (r.getD 0 0) 31 28
/-- `VPAGE`. -/
def recPage (r : List Word) : Nat := fld (r.getD 0 0) 22 0
/-- `HINT`. -/
def recHint (r : List Word) : Nat := fld (r.getD 2 0) 18 16
/-- `USES`. -/
def recUses (r : List Word) : Nat := fld (r.getD 2 0) 15 0
/-- `SHARED_ID`. -/
def recShared (r : List Word) : Nat := fld (r.getD 3 0) 11 0
/-- Word 1: the home. -/
def recHome (r : List Word) : Word := r.getD 1 0

/-- A reserved field of a record is not 0. -/
def recReserved (r : List Word) : Bool :=
  decide (fld (r.getD 0 0) 27 23 ≠ 0) || decide (fld (r.getD 2 0) 31 19 ≠ 0) || decide (fld (r.getD 3 0) 31 12 ≠ 0)

/-- Word 2 gives a hint that does not exist, or uses that do not fit it. -/
def recHintBad (r : List Word) : Bool :=
  decide (5 ≤ recHint r) || (decide (recHint r = 3) && decide (recUses r = 0)) || (decide (recHint r ≠ 3) && decide (recUses r ≠ 0))

/-- The stream is disabled or belongs to another job. -/
def Die.streamBad (d : Die) (j : Nat) (home : Word) : Bool :=
  let s := d.strm (fld home 7 0)
  !s.en || decide (s.job ≠ j)

/-- The home names a region with `ABS`, or lies outside its placed region's shape. -/
def Die.homeBad (d : Die) (home : Word) : Bool :=
  if bit home 8 then decide (fld home 31 26 ≠ 0)
  else match d.region (fld home 31 26) with
    | none => false
    | some r => !r.removing && !(decide (fld home 25 20 < r.w) && decide (fld home 19 14 < r.h))

/-- Home of a page for the comparison of PIN pages: its slice and frame pair when known, else its region,
place and frame pair (06 R179). -/
def Die.pinPlace (d : Die) (p : Page) : Option (Nat × Nat × Nat × Nat × Nat) :=
  match d.homeSlice p with
  | some n => some (0, n, 0, 0, match p.shared with
    | some id => (match d.obj (2 ^ 28 + id) with
      | some o => o.pref / 2
      | none => fld p.home 13 9 / 2)
    | none => fld p.home 13 9 / 2)
  | none =>
    if (d.region (fld p.home 31 26)).isNone then
      some (1, fld p.home 31 26, fld p.home 25 20, fld p.home 19 14, fld p.home 13 9 / 2)
    else none

/-- A page that becomes PIN: VAT_QUOTA, HOME_PINNED, or no objection (06 R179, R183). -/
def Die.pinCheck (d : Die) (j key : Nat) (p : Page) : Option Nat :=
  if d.vatQuota j < d.pinPages j + 1 then some 0xB
  else match d.pinPlace p with
    | none => none
    | some a => if d.pins.any (fun q => decide (q.1 ≠ key) && decide (d.pinPlace q.2 = some a)) then some 0xC else none

/-- A stack page for job `j`: STACK_QUOTA, STACK_FULL, or the page (06 R188). -/
def Die.takeSpage (d : Die) (j s : Nat) : Except Nat Nat :=
  if d.stackQuota j < d.stackUsed j + 1 then .error 9
  else match d.freeSpage s with
    | none => .error 0xA
    | some k => .ok k

/-- A page that is PIN and has a home is requested. -/
def Die.pinPromote (d : Die) (j key : Nat) (p : Page) : Die :=
  if p.hint = 1 ∧ (d.homeSlice p).isSome then d.pinFill j key else d

/-- DECLARE: the result code of a record that fails, or the die after it. -/
def Die.recDeclare (d : Die) (j : Nat) (r : List Word) : Except Nat Die :=
  let v := recPage r
  let key := j * 2 ^ 23 + v
  let p : Page := { hint := recHint r, home := recHome r, uses := recUses r }
  if recReserved r ∨ recHintBad r ∨ (d.page j v).isSome ∨ 0x7FFC00 ≤ v ∨ d.streamBad j p.home ∨ d.homeBad p.home then .error 8
  else match (if p.hint = 1 then d.pinCheck j key p else none) with
    | some c => .error c
    | none =>
      let s := d.stackFor j v
      match d.takeSpage j s with
      | .error c => .error c
      | .ok k =>
        let d := d.setPage j v (some p)
        let o : PObj := { stack := s, spage := k, stream := fld p.home 7 0, owner := j, charged := j,
                          slice := (d.homeSlice p).getD 0, pref := fld p.home 13 9 }
        .ok ((d.setObj key (some o)).pinPromote j key p)

/-- SHARE (06 R182): a later mapping takes its home from the object, and of word 1 only `STREAM` from the record. -/
def Die.recShare (d : Die) (j : Nat) (r : List Word) : Except Nat Die :=
  let v := recPage r
  let key := 2 ^ 28 + recShared r
  let home := recHome r
  let p : Page := { hint := recHint r, home, uses := recUses r, shared := some (recShared r) }
  if recReserved r ∨ recHintBad r ∨ (d.page j v).isSome ∨ 0x7FFC00 ≤ v ∨ d.streamBad j home then .error 8
  else match d.obj key with
    | some o =>
      (match (if p.hint = 1 then d.pinCheck j key p else none) with
       | some c => .error c
       | none =>
         let p : Page := { p with home := packW [(20, cx o.slice), (14, cy o.slice), (9, o.pref), (8, 1), (0, fld home 7 0)] }
         let d := (d.setPage j v (some p)).setObj key (some { o with maps := o.maps + 1 })
         .ok (d.pinPromote j key p))
    | none =>
      if d.homeBad home ∨ bit home 8 = false then .error 8
      else match (if p.hint = 1 then d.pinCheck j key { p with shared := none } else none) with
        | some c => .error c
        | none =>
          let s := d.stackFor j v
          match d.takeSpage j s with
          | .error c => .error c
          | .ok k =>
            let o : PObj := { stack := s, spage := k, stream := fld home 7 0, owner := j, charged := j, maps := 1,
                              slice := coreAt (fld home 25 20) (fld home 19 14), pref := fld home 13 9 }
            .ok (((d.setPage j v (some p)).setObj key (some o)).pinPromote j key p)

/-- SET_HINT (06 R183). -/
def Die.recHintSet (d : Die) (j : Nat) (r : List Word) : Except Nat Die :=
  let v := recPage r
  match d.page j v, d.objKey j v with
  | some p, some key =>
    if recReserved r ∨ recHintBad r then .error 8
    else
      let p' : Page := { p with hint := recHint r, uses := recUses r }
      match (if p'.hint = 1 ∧ p.hint ≠ 1 then d.pinCheck j key p' else none) with
      | some c => .error c
      | none => .ok ((d.setPage j v (some p')).pinPromote j key p')
  | _, _ => .error 8

/-! ## RELEASE (06 R182, R186) -/

/-- A page object gets a key no record can name. -/
def Die.rekey (d : Die) (k : Nat) (o : PObj) : Die :=
  let k' := 2 ^ 29 + d.dk.clock
  let sub (l : List Nat) : List Nat := l.map (fun x => if x = k then k' else x)
  let d := (d.setObj k none).setObj k' (some o)
  let d := d.mapInfl (fun e => { e with span := sub e.span, due := sub e.due, reads := sub e.reads })
  let d := d.updDk (fun x => { x with
    clock := x.clock + 1
    reqs := x.reqs.map (fun r => if r.obj = k then { r with obj := k' } else r)
    former := x.former.map (fun c => if c.2 = k then (c.1, k') else c) })
  { d with circs := d.circs.map (fun c => if c.obj = some k then { c with obj := some k' } else c) }

/-- An object's last name is gone: it leaves the Vat without a write-back. -/
def Die.releaseObj (d : Die) (k : Nat) : Die :=
  match d.obj k with
  | none => d
  | some o =>
    match o.st with
    | .absent => if o.unheld then d.setObj k none else d.rekey k { o with released := true }
    | .filling =>
      if o.unheld ∧ o.zero = false ∧ d.inFlight k .demand = false ∧ d.inFlight k .prefetch = false then
        (d.withdraw k (fun _ => true)).setObj k none
      else d.rekey k { o with released := true }
    | .resident => (d.withdraw k (fun _ => true)).rekey k { o with released := true, st := .draining }
    | .draining => (d.withdraw k (fun _ => true)).rekey k { o with released := true, keepAfter := false }

/-- A descriptor in flight keeps the page object a released page named. -/
def Die.keepFormer (d : Die) (j v k : Nat) : Die :=
  match d.obj k with
  | none => d
  | some o => if o.unheld then d else d.updDk (fun x => { x with former := (j * 2 ^ 23 + v, k) :: x.former })

/-- Undeclare a page. -/
def Die.releasePage (d : Die) (j v : Nat) : Die :=
  match d.page j v, d.objKey j v with
  | some p, some k =>
    let d := (d.keepFormer j v k).setPage j v none
    (match p.shared, d.obj k with
     | some _, some o => if 1 < o.maps then d.setObj k (some { o with maps := o.maps - 1 }) else d.releaseObj k
     | _, _ => d.releaseObj k)
  | _, _ => d

/-- RELEASE. -/
def Die.recRelease (d : Die) (j : Nat) (r : List Word) : Except Nat Die :=
  if recReserved r ∨ (d.page j (recPage r)).isNone then .error 8 else .ok (d.releasePage j (recPage r))

/-- WRITEBACK. -/
def Die.recWriteback (d : Die) (j : Nat) (r : List Word) : Except Nat Die :=
  if recReserved r then .error 8
  else match d.objKey j (recPage r) with
    | none => .error 8
    | some k => match d.obj k with
      | none => .ok d
      | some o =>
        if o.st = .resident ∧ o.dirty ∧ d.requested k = false then
          .ok ((d.updObj k (fun o => { o with rewritten := false })).request .writeback k o j)
        else .ok d

/-! ## The PAGES command -/

/-- What follows a record: the end of the list, a record that cannot be read or has no operation, or a wait
for the next one. -/
def Die.pagesNext (d : Die) : Die :=
  match d.dk.cmd with
  | .pages j a n i bad =>
    if n ≤ i then d.dkEnd 0 0
    else if (d.job j).enabled = false then d.dkEnd 7 i
    else if bad ≤ i then d.dkEnd 3 i
    else if recOp (d.recAt a i) = 0 ∨ 5 < recOp (d.recAt a i) then d.dkEnd 8 i
    else d
  | _ => d

/-- First record of a list that lies in an uncorrectable burst or outside readable stack memory. -/
def Die.firstBad (d : Die) (a n : Nat) (es : List BurstErr) : Die × Nat :=
  let r := if d.rangeOpen a (16 * n) then d.readRange false a (16 * n) es else (d, [])
  let bad := (List.range n).find? (fun i =>
    let b := a + 16 * i
    decide (stackEnd < b + 16) || d.stackClosed (b / 2 ^ 36) || r.2.any (fun u => decide (u < b + 16) && decide (b < u + 64)))
  (r.1, bad.getD n)

/-- PAGES of Table 6-7. -/
def Die.pagesStart (d : Die) (es : List BurstErr) : Die :=
  let n := d.dkCount
  let j := d.dkJob
  if (d.job j).enabled = false then d.dkEnd 7 0
  else if n = 0 ∨ 65536 < n then d.dkEnd 8 0
  else
    let a := d.dkAddr
    let r := d.firstBad a n es
    (r.1.updDk (fun x => { x with cmd := .pages j a n 0 r.2 })).pagesNext

/-- The next record of the list is processed, if its operation is `op`. -/
def Die.record (d : Die) (op : Nat) (f : Die → Nat → List Word → Except Nat Die) : Die :=
  match d.dk.cmd with
  | .pages j a n i bad =>
    let r := d.recAt a i
    if (d.job j).enabled = false then d.dkEnd 7 i
    else if recOp r ≠ op then d
    else match f d j r with
      | .error c => d.dkEnd c i
      | .ok d' => (d'.updDk (fun x => { x with cmd := .pages j a n (i + 1) bad })).pagesNext
  | _ => d

/-! ## Transfers (05 R146, 06 R181, R186, 08 R245, R253) -/

/-- Remove the granted request of an object and its circuit. -/
def Die.endTransfer (d : Die) (k : Nat) : Die :=
  (d.updDk (fun x => { x with reqs := x.reqs.filter (fun r => !(decide (r.obj = k) && r.granted)) })).closeCircuits
    (fun c => decide (c.obj = some k))

/-- The granted request of an object whose sixteen sheets circuits have carried. -/
def Die.carried (d : Die) (k : Nat) (p : ReqKind → Bool) : Option Req :=
  d.dk.reqs.find? (fun r => decide (r.obj = k) && r.granted && decide (16 ≤ r.sheets) && p r.kind)

/-- A fill has landed: RESIDENT, or DRAINING when the page may not stay (06 R172, R186). No descriptor waits for the
page any longer. -/
def Die.nowResident (d : Die) (k : Nat) : Die :=
  let stays := !(d.mappings k).isEmpty && (d.mappings k).any (fun p => (d.homeSlice p.2).isSome)
  let d := d.updObj k (fun o => { o with st := if stays then .resident else .draining, unread := 0xFFFF, zero := false })
  (d.pageIn k).drainWb k

/-- FILL_DONE for object `k`: the last burst of its fill has landed. -/
def Die.fillDone (d : Die) (k : Nat) : Die :=
  match d.obj k, d.carried k (fun x => decide (x ≠ .writeback)) with
  | some o, some _ =>
    if o.st ≠ .filling ∨ o.zero then d else ((((d.count pgDk 1).endTransfer k).nowResident k).removeStep).fabSettle
  | _, _ => d

/-- The bank of a frame has a slot a zero fill can use: owned by none or by the Lath port (06 R186). -/
def Die.zeroSlot (d : Die) (f : Nat) : Bool := d.bankSlot (f / 32) (bankOf f) (fun o => decide (o = 0) || decide (o = 3))

/-- The side bands of frame `f` after the zero fill of object `k`: 0, but for the job and the virtual sheet of the page's
first mapping and the writer a fill names (05 Table 5-3; log 135). -/
def Die.zeroSides (d : Die) (k f : Nat) : Die :=
  let d : Die := { d with side := sclear d.side (f * 1024) 1024 }
  let key := ((d.mappings k).head?.map (fun p => p.1)).getD 0
  (List.range 16).foldl (fun d s =>
    let g := f * 16 + s
    ((d.setSide g 1 (packW [(0, key / 2 ^ 23 % 32)])).setSide g 2 (packW [(0, (key % 2 ^ 23 * 16 + s) % 2 ^ 27)])).setSide g 4 0xFFF) d

/-- ZERO_FILL_DONE for object `k`. -/
def Die.zeroFillDone (d : Die) (k : Nat) : Die :=
  match d.obj k with
  | none => d
  | some o =>
    if o.st ≠ .filling ∨ o.zero = false ∨ !d.zeroSlot o.frame ∨ !d.live (islOf (o.frame / 32)) then d
    else
      let d := d.zeroBytes (vatBase + o.frame * 65536) 65536
      let d := d.zeroSides k o.frame
      ((d.nowResident k).removeStep).fabSettle

/-- DRAIN_DONE for object `k`: its frame and its charge are freed. -/
def Die.drainDone (d : Die) (k : Nat) : Die :=
  match d.obj k with
  | none => d
  | some o =>
    if o.st ≠ .draining ∨ !o.unheld ∨ (o.dirty ∧ o.released = false) ∨ d.inFlight k .writeback ∨ d.inFlight k .demand ∨
        d.inFlight k .prefetch then d
    else
      let d := d.setObj k (if o.released then none else some { o with st := .absent, dirty := false, keepAfter := false, unread := 0, zero := false })
      d.removeStep

/-- WRITEBACK_DONE for object `k`: the last burst of its write-back has reached the stack. -/
def Die.writebackDone (d : Die) (k : Nat) : Die :=
  match d.obj k, d.carried k (fun x => decide (x = .writeback)) with
  | some o, some r =>
    if d.stackClosed r.stack then d
    else if o.released then (d.endTransfer k).drainDone k
    else
      let d := (d.count pgDk 3).endTransfer k
      let d := d.updObj k (fun o => { o with
        stackValid := o.stackValid || o.dirty, dirty := o.dirty && o.rewritten
        st := if o.keepAfter then .resident else o.st, keepAfter := false })
      (if o.keepAfter then d.pageIn k else d).drainWb k
  | _, _ => d

/-! ## Stack bandwidth (06 R193, R194) -/

/-- Bits set among the sixteen unread marks. -/
def marks (n : Nat) : Nat := ((List.range 16).filter (fun i => n.testBit i)).length

/-- `BUFFERED` of a stream. -/
def Die.buffered (d : Die) (x : Nat) : Nat :=
  (d.objs.map (fun c => match c.2 with
    | some o => if o.st = .resident ∧ o.stream = x then marks o.unread else 0
    | none => 0)).sum

/-- Dry time of a stream. -/
def Die.dryTime (d : Die) (x : Nat) : Nat :=
  if d.dk.reqs.any (fun r => decide (r.stream = x) && !r.granted && decide (r.kind = .demand)) then 0
  else if (d.strm x).rate16 = 0 then 2 ^ 32 - 1
  else min (2 ^ 32 - 1) (d.buffered x * 65536 / (d.strm x).rate16)

/-- Streams with a request pending on a stack. -/
def Die.pendStreams (d : Die) (s : Nat) : List Nat :=
  ((d.dk.reqs.filter (fun r => decide (r.stack = s) && !r.granted)).map (fun r => r.stream)).dedup

/-- A stream's deficit on a stack: 0 with no request pending there. -/
def Die.deficit (d : Die) (x s : Nat) : Nat := if d.streamPends x s then (d.strm x).deficit.getD s 0 else 0

/-- Share of a stream among those pending. -/
def Die.shareOf (d : Die) (p : List Nat) (x : Nat) : Nat :=
  let job (y : Nat) : Nat := (d.strm y).job
  let q := (((p.map job).dedup).map d.vatQuota).sum
  if q = 0 then 0 else 65536 * d.vatQuota (job x) / (q * (p.filter (fun y => decide (job y = job x))).length)

/-- The stream a grant goes to. -/
def Die.grantee (d : Die) (s : Nat) (p : List Nat) : Option Nat :=
  let ripe := p.filter (fun x => decide (65536 ≤ d.deficit x s))
  let cls (x : Nat) : Nat := fld (d.reg (pgJob (d.strm x).job) 0x100) 25 24
  let l := if ripe.isEmpty then p.map (fun x => ([d.dryTime x, cls x, x], x))
    else ripe.map (fun x => ([2 ^ 64 - d.deficit x s, cls x, x], x))
  match l with
  | [] => none
  | c :: t => some (t.foldl (fun b y => if lexLt y.1 b.1 then y else b) c).2

/-- The request of a stream that a grant serves: its oldest demand, else write-back, else prefetch. -/
def Die.oldestReq (d : Die) (x s : Nat) : Option Nat :=
  let at_ (k : ReqKind) : Option Nat :=
    d.dk.reqs.findIdx? (fun r => decide (r.stream = x) && decide (r.stack = s) && !r.granted && decide (r.kind = k))
  match at_ .demand with
  | some i => some i
  | none => match at_ .writeback with
    | some i => some i
    | none => at_ .prefetch

/-- Transfers of a stack in flight. -/
def Die.flying (d : Die) (s : Nat) : Nat := (d.dk.reqs.filter (fun r => decide (r.stack = s) && r.granted)).length

/-- One grant on a stack (06 R194). -/
def Die.grant (d : Die) (s : Nat) : Die :=
  let p := d.pendStreams s
  match d.grantee s p with
  | none => d
  | some g =>
    match d.oldestReq g s with
    | none => d
    | some i =>
      let d1 := p.foldl (fun e x =>
        let v := d.deficit x s + d.shareOf p x
        e.updStrm x (fun r => { r with deficit := setAt r.deficit s (if x = g then v - 65536 else v) })) d
      let d1 := d1.updDk (fun x => { x with reqs := x.reqs.modify i (fun r => { r with granted := true }) })
      (d1.count pgDk (0x200 + g)).trace 89 5 (packW [(16, s), (0, g)])

/-- The end of a window of 4,096 Deckle cycles (06 R193). -/
def Die.rateWindow (d : Die) : Die :=
  (d.strms.map (fun c => c.1)).foldl (fun d x => d.updStrm x (fun r =>
    { r with rate16 := (3 * r.rate16 + 16 * r.reads) / 4, reads := 0 })) d

/-! ## The prefetch walk (06 R190-R192) -/

/-- Prefetches of a job that have not ended. -/
def Die.pfOut (d : Die) (j : Nat) : Nat :=
  (d.dk.reqs.filter (fun r => decide (r.kind = .prefetch) && decide (r.job = j))).length +
    (d.objs.filter (fun c => match c.2 with
      | some o => o.waiting && o.pf && decide (o.charged = j)
      | none => false)).length

/-- A request stays below the quota (06 R191). -/
def Die.pfRoom (d : Die) (j : Nat) : Bool := decide (d.vatUsed j + d.vatReserved j + d.pfOut j < d.vatQuota j)

/-- A page of the job that a prefetch may evict: not named in the window. -/
def Die.pfVictim (d : Die) (j : Nat) : Option Nat :=
  d.victim j (fun k o => d.evictable k o && decide (o.charged = j) && !d.inWindow j k)

/-- The victim of the walk's own eviction still drains, charged to the job. -/
def Die.pfDraining (d : Die) (j : Nat) : Bool :=
  match (d.job j).pfEv.bind d.obj with
  | some o => decide (o.st = .draining) && decide (o.charged = j)
  | none => false

/-- The walk goes past the page it looks at. -/
def Die.pfStep (d : Die) (j : Nat) : Die := d.updJob j (fun x => { x with pfPos := x.pfPos + 1 })

/-- The walk requests an absent page, or evicts first and waits for that frame, or stops (06 R191). -/
def Die.pfAsk (d : Die) (j k : Nat) : Die :=
  if 1024 ≤ d.pfOut j ∨ d.overQuota j then d
  else if d.pfRoom j then (((d.promote j k true).count (pgJob j) 1).updJob j (fun x => { x with pfEv := none })).pfStep j
  else if d.pfDraining j then d
  else match d.pfVictim j with
    | some v => ((d.startDrain v).count (pgJob j) 4).updJob j (fun x => { x with pfEv := some v })
    | none => (d.updJob j (fun x => { x with pfBlocked := true })).count (pgJob j) 2

/-- Records of the schedule from record `i`, as far as the walk reads them: `n` layers and END, or up to a malformed
one. -/
def Die.pfRecords (d : Die) (j : Nat) : Nat → Nat → Nat
  | 0, i => i + 1
  | n + 1, i =>
    let r := d.pfRec j i
    if r / 2 ^ 60 = 1 then d.pfRecords j n (i + 1 + r % 2 ^ 16) else i + 1

/-- The walk reads its schedule when it starts at the first page of its window (log 134); answers whether all of it
can be read. -/
def Die.pfRead (d : Die) (j : Nat) (es : List BurstErr) : Die × Bool :=
  let base := fld (d.reg (pgJob j) 0x110) 15 0 * 2 ^ 32 + fld (d.reg (pgJob j) 0x10C) 31 3 * 8
  let len := 8 * d.pfRecords j (d.pfCount j) 0
  if (d.job j).pfPos ≠ 0 then (d, true)
  else if !d.rangeOpen base len then (d, false)
  else let r := d.readRange false base len es; (r.1, r.2.isEmpty)

/-- The walk looks at its next page (06 R190); `es` are the errors met in the schedule. -/
def Die.pfWalk (d : Die) (j : Nat) (es : List BurstErr) : Die :=
  let x := d.job j
  let rd := d.pfRead j es
  if !bit (d.reg (pgJob j) 0x114) 31 ∨ x.pfBlocked ∨ x.pfBad then d
  else if !rd.2 then rd.1.updJob j (fun x => { x with pfBad := true })
  else
   let d := rd.1
   match d.pfWindow j, d.pfLayers j (d.pfCount j) 0 with
    | some l, some (ls, lp) =>
      (match l[x.pfPos]? with
       | none =>
         if !lp ∧ ls.length ≤ x.pfCur + fld (d.reg (pgJob j) 0x114) 29 26 + 1 then d.updJob j (fun x => { x with pfDone := true }) else d
       | some v =>
         match d.page j v, d.objKey j v with
         | some p, some k =>
           if (d.homeSlice p).isNone then (d.count (pgJob j) 3).pfStep j
           else (match d.obj k with
             | none => (d.count (pgJob j) 3).pfStep j
             | some o =>
               if o.st = .resident ∨ o.st = .filling ∨ o.waiting then d.pfStep j else d.pfAsk j k)
         | _, _ => (d.count (pgJob j) 3).pfStep j)
    | _, _ => d.updJob j (fun x => { x with pfBad := true })

/-- The blocked walk resumes when headroom appears (06 R191). -/
def Die.pfResume (d : Die) (j : Nat) : Die :=
  if (d.job j).pfBlocked ∧ !d.overQuota j ∧ (d.pfRoom j ∨ (d.pfVictim j).isSome) then
    d.updJob j (fun x => { x with pfBlocked := false })
  else d

/-- Withdraw the prefetches of a job that are not granted and that `p` accepts: their pages return to ABSENT. -/
def Die.pfWithdraw (d : Die) (j : Nat) (p : Nat → Bool) : Die :=
  let l := (d.dk.reqs.filter (fun r => decide (r.kind = .prefetch) && decide (r.job = j) && !r.granted && p r.obj)).map (fun r => r.obj)
  let d := l.foldl (fun d k => (d.withdraw k (fun x => decide (x = .prefetch))).updObj k (fun o =>
    if o.st = .filling then { o with st := .absent } else o)) d
  let w := d.objs.filterMap (fun c => match c.2 with
    | some o => if o.waiting ∧ o.pf ∧ o.charged = j ∧ p c.1 then some c.1 else none
    | none => none)
  w.foldl (fun d k => d.updObj k (fun o => { o with waiting := false, pf := false })) d

/-- The walk restarts at the first page of its window (06 R192). -/
def Die.pfRestart (d : Die) (j : Nat) : Die :=
  (d.updJob j (fun x => { x with pfPos := 0, pfBlocked := false, pfDone := false })).pfWithdraw j (fun k => !d.inWindow j k)

/-- `PF_CUR` advances by one (06 R190, R192). -/
def Die.pfAdvance (d : Die) (j : Nat) : Die :=
  let loop := match d.pfLayers j (d.pfCount j) 0 with
    | some (ls, true) => ls.length
    | _ => 0
  (d.updJob j (fun x => { x with pfCur := if loop = 0 then (x.pfCur + 1) % 65536 else (x.pfCur + 1) % loop })).pfRestart j

/-- `JOB_CMD.PF_RESET`. -/
def Die.pfReset (d : Die) (j : Nat) : Die := (d.updJob j (fun x => { x with pfCur := 0, pfBad := false })).pfRestart j

end Sys2Proof.Machine
end

