-- ==== Sys2Proof/Machine/DeckleCmds.lean ====
section
/-!
DEFINITION. The commands of the Deckle: placement, page records, transfers, grants, the prefetch walk, jobs and
barriers (06).
-/

namespace Sys2Proof.Machine

/-! ## `CMD` (06 Table 6-7, R203) -/

/-- A write of `CMD`; `es` are the errors met in the image or list it reads. -/
def Die.dkCmd (d : Die) (v : Word) (es : List BurstErr) : Die :=
  if d.dk.cmd ≠ .none then d.refuse
  else
    let d := if bit v 2 then d.updDk (fun x => { x with donePend := false }) else d
    match fld v 1 0 with
    | 1 => d.place es
    | 2 => d.remove.removeStep
    | 3 => d.pagesStart es
    | _ => d

/-- PLACE (06 R171): steps 0 to 3 of Table 6-2. -/
def execPlace (ini : Nat) (es : List BurstErr) (s : State) : Host.Outcome State Fault Refusal :=
  s.cplD ini pgDk 0x10C (fun d => d.dkCmd 1 es)

/-- SLOT_PLAN_LOAD (06 Table 6-2 steps 4 and 5, 07 R223). -/
def execSlotPlanLoad (s : State) : Host.Outcome State Fault Refusal := s.at_ 89 Die.placeEnd

/-- REMOVE (06 R172). -/
def execRemove (ini : Nat) (s : State) : Host.Outcome State Fault Refusal :=
  s.cplD ini pgDk 0x10C (fun d => d.dkCmd 2 [])

/-- PAGES (06 R176). -/
def execPages (ini : Nat) (es : List BurstErr) (s : State) : Host.Outcome State Fault Refusal :=
  s.cplD ini pgDk 0x10C (fun d => d.dkCmd 3 es)

/-- DECLARE (06 R177): the next record of the list, if it is one. -/
def execDeclare (s : State) : Host.Outcome State Fault Refusal := s.at_ 89 (fun d => d.record 1 Die.recDeclare)
/-- SET_HINT (06 R183). -/
def execSetHint (s : State) : Host.Outcome State Fault Refusal := s.at_ 89 (fun d => d.record 2 Die.recHintSet)
/-- RELEASE (06 R186). -/
def execRelease (s : State) : Host.Outcome State Fault Refusal := s.at_ 89 (fun d => d.record 3 Die.recRelease)
/-- SHARE (06 R182). -/
def execShare (s : State) : Host.Outcome State Fault Refusal := s.at_ 89 (fun d => d.record 4 Die.recShare)
/-- WRITEBACK (06 R176). -/
def execWriteback (s : State) : Host.Outcome State Fault Refusal := s.at_ 89 (fun d => d.record 5 Die.recWriteback)

/-- CMD_ACK (06 Table 6-7). -/
def execCmdAck (ini : Nat) (s : State) : Host.Outcome State Fault Refusal :=
  s.cplD ini pgDk 0x10C (fun d => d.dkCmd 4 [])

/-! ## Frames and transfers (06 R179, R181, R186) -/

/-- A fill that waits for a home frame takes one that is free, or evicts one. -/
def Die.takeHome (d : Die) (k : Nat) : Die :=
  match d.obj k with
  | none => d
  | some o =>
    if o.st ≠ .absent ∨ o.waiting = false then d
    else match d.homeFrame o with
      | some f => d.enterFilling k o f o.charged o.pf
      | none =>
        let f := o.slice * 32 + o.pref
        if d.objs.any (fun c => match c.2 with
            | some x => decide (x.st = .draining) && (decide (x.frame = f) || decide (x.frame = f ^^^ 1))
            | none => false) then d
        else match d.homeVictim o.charged o o.pf with
          | none => d
          | some v => d.startDrain v

/-- HOME_FRAME_TAKEN (06 R179). -/
def execHomeFrameTaken (k : Nat) (s : State) : Host.Outcome State Fault Refusal := s.at_ 89 (fun d => d.takeHome k)
/-- FILL_DONE (06 R181). The errors met are told by the CIRCUIT_OPEN of each sheet: `told` tells none. -/
def execFillDone (k : Nat) (_told : Unit) (s : State) : Host.Outcome State Fault Refusal := s.at_ 89 (fun d => d.fillDone k)
/-- ZERO_FILL_DONE (06 R186). -/
def execZeroFillDone (k : Nat) (s : State) : Host.Outcome State Fault Refusal := s.at_ 89 (fun d => d.zeroFillDone k)
/-- DRAIN_DONE (06 R181). -/
def execDrainDone (k : Nat) (s : State) : Host.Outcome State Fault Refusal := s.at_ 89 (fun d => d.drainDone k)
/-- WRITEBACK_DONE (06 R186). The errors met are told as for FILL_DONE. -/
def execWritebackDone (k : Nat) (_told : Unit) (s : State) : Host.Outcome State Fault Refusal := s.at_ 89 (fun d => d.writebackDone k)

/-- STACK_GRANT (06 R194): one grant on stack `n`, with fewer than 32 transfers in flight there. -/
def execStackGrant (n : Nat) (s : State) : Host.Outcome State Fault Refusal :=
  s.at_ 89 (fun d => if d.workHeld ∨ 32 ≤ d.flying n ∨ (d.stackClosed n ∧ !(d.stack n).failed) then d else d.grant n)

/-- RATE_WINDOW (06 R193). -/
def execRateWindow (s : State) : Host.Outcome State Fault Refusal := s.at_ 89 Die.rateWindow

/-- SPILL_IDLE_WRITEBACK (06 R183): a dirty SPILL page has held no reference for 4,096 Deckle cycles. -/
def execSpillIdleWriteback (k : Nat) (s : State) : Host.Outcome State Fault Refusal :=
  s.at_ 89 (fun d => match d.obj k with
    | none => d
    | some o =>
      if o.st = .resident ∧ o.dirty ∧ o.refs = 0 ∧ d.objHint k = 4 ∧ d.requested k = false then
        (d.updObj k (fun o => { o with rewritten := false })).request .writeback k o o.charged
      else d)

/-! ## The prefetch walk (06 R189-R192) -/

/-- PREFETCH_REQUEST (06 R190): the walk of job `j` looks at its next page; `es` are the errors met in the schedule
(08 Table 8-3). -/
def execPrefetchRequest (j : Nat) (es : List BurstErr) (s : State) : Host.Outcome State Fault Refusal := s.at_ 89 (fun d => d.pfWalk j es)
/-- PF_WALK_RESUME (06 R191). -/
def execPfWalkResume (j : Nat) (s : State) : Host.Outcome State Fault Refusal := s.at_ 89 (fun d => d.pfResume j)

/-! ## Job commands (06 R200, R201, R205) -/

/-- Count an ignored command. -/
def Die.jobIgnored (d : Die) (j : Nat) : Die := d.count (pgJob j) 7

/-- Disable a job's streams and pools. -/
def Die.jobOff (d : Die) (j : Nat) : Die :=
  let d := ((d.strms.filter (fun c => decide (c.2.job = j))).map (fun c => c.1)).foldl (fun d x => d.updStrm x (fun r => { r with en := false })) d
  let pool := (List.range 64).filter (fun p => decide (fld (sget d.poolT 0 (2 * p)) 28 24 = j))
  { d with poolT := pool.foldl (fun m p => sset m 0 (2 * p) (setFld (sget m 0 (2 * p)) 31 31 0)) d.poolT }

/-- `JOB_CMD.ENABLE`. -/
def Die.jobEnable (d : Die) (j : Nat) : Die :=
  if (d.job j).enabled then d.jobIgnored j else d.updJob j (fun x => { x with enabled := true, attempt := 0 })

/-- `JOB_CMD.RETIRE` (06 R201). -/
def Die.jobRetire (d : Die) (j : Nat) : Die :=
  if d.jobPlaced j ∨ (d.job j).aborting then d.jobIgnored j
  else
    let vs := (d.pages.filter (fun c => decide (c.1 / 2 ^ 23 = j) && c.2.isSome)).map (fun c => c.1 % 2 ^ 23)
    let d := vs.foldl (fun d v => d.releasePage j v) d
    ((d.jobOff j).updJob j (fun x => { x with enabled := false }))

/-- Halt every queue of a region with `JOB_ABORT`. -/
def Die.abortRegion (d : Die) (g : Region) : Die :=
  (rectCores g.x g.y g.w g.h).foldl (fun d n => d.onCore n (fun d =>
    [0, 1, 2, 3].foldl (fun d q => d.abortQueue n q bdJob) d)) d

/-- The job's issued BARRIER descriptors that no release has left for, wherever they issued, complete with ABORTED
(06 R200). -/
def Die.abortBarriers (d : Die) (j : Nat) : Die :=
  let cores : List Nat := (d.queues.map (fun (c : Nat × Queue) => c.1 / 4) ++ d.cores.map (fun (c : Nat × Core) => c.1)).dedup
  cores.foldl (fun d n =>
    ((d.inflight n).filter (fun y => decide (dOpc y.2.d = opcBarrier) && decide (y.2.job = j) &&
      !(decide (y.2.left = 0) && y.2.waits))).foldl
      (fun d y => d.finish n y.1 y.2 stAborted bdJob) d) d

/-- `JOB_CMD.ABORT` (06 R200). -/
def Die.jobAbort (d : Die) (j : Nat) : Die :=
  let d := d.updJob j (fun x => { x with aborting := true })
  let d := (d.placed.filter (fun r => decide (r.2.job = j))).foldl (fun d r => d.abortRegion r.2) d
  let d := d.abortBarriers j
  let d := (List.range 64).foldl (fun d b => d.updBar j b (fun x =>
      { x with now := x.now.filter (fun a => a.isNone), held := x.held.filter (fun a => a.isNone) })) d
  let d := d.pfWithdraw j (fun _ => true)
  ((d.felt.filter (fun c => decide (fld c.2.cfg 28 24 = j))).map (fun c => c.1)).foldl
      (fun d k => d.updFelt (k / 256) (k % 256) (fun q => { q with count := 0 })) d

/-- A write of `JOB_CMD` (06 R205). -/
def Die.jobCmd (d : Die) (j : Nat) (v : Word) : Die :=
  match fld v 4 0 with
  | 0 => d
  | 1 => d.jobEnable j
  | 2 => d.jobRetire j
  | 4 => d.jobAbort j
  | 8 => d.pfAdvance j
  | 16 => d.pfReset j
  | _ => d.jobIgnored j

/-- PF_ADVANCE (06 R192). -/
def execPfAdvance (ini j : Nat) (s : State) : Host.Outcome State Fault Refusal := s.cplD ini (pgJob j) 0x118 (fun d => d.pfAdvance j)
/-- PF_RESET (06 R192). -/
def execPfReset (ini j : Nat) (s : State) : Host.Outcome State Fault Refusal := s.cplD ini (pgJob j) 0x118 (fun d => d.pfReset j)
/-- ENABLE (06 R166). -/
def execEnable (ini j : Nat) (s : State) : Host.Outcome State Fault Refusal := s.cplD ini (pgJob j) 0x118 (fun d => d.jobEnable j)
/-- RETIRE (06 R201). -/
def execRetire (ini j : Nat) (s : State) : Host.Outcome State Fault Refusal := s.cplD ini (pgJob j) 0x118 (fun d => d.jobRetire j)
/-- JOB_ABORT (06 R200). -/
def execJobAbort (ini j : Nat) (s : State) : Host.Outcome State Fault Refusal := s.cplD ini (pgJob j) 0x118 (fun d => d.jobAbort j)

/-- A descriptor of the job is in flight anywhere. -/
def Die.jobInFlight (d : Die) (j : Nat) : Bool :=
  d.queues.any (fun c => c.2.infl.any (fun e => decide (e.job = j))) ||
    d.cores.any (fun c => c.2.inj.infl.any (fun e => decide (e.job = j)))

/-- ABORTING_CLEAR (06 R200). -/
def execAbortingClear (j : Nat) (s : State) : Host.Outcome State Fault Refusal :=
  s.at_ 89 (fun d => if d.jobInFlight j then d else d.updJob j (fun x => { x with aborting := false }))

/-! ## Job barriers (06 R197-R199) -/

/-- A write of `BAR_ARRIVE`. -/
def Die.barWrite (d : Die) (j : Nat) (v : Word) : Die := if bit v 31 then d.barArrive j (fld v 5 0) none else d

/-- BAR_ARRIVE (06 R197). -/
def execBarArrive (ini j b : Nat) (s : State) : Host.Outcome State Fault Refusal :=
  s.cplD ini (pgJob j) 0x11C (fun d => d.barArrive j b none)

/-- A write-back of the job is pending or in flight. -/
def Die.wbBusy (d : Die) (j : Nat) : Bool := d.dk.reqs.any (fun r => decide (r.job = j) && decide (r.kind = .writeback))

/-- An arrival completes with OK; its core learns of it over the sideband (06 R198). -/
def Die.barComplete (d : Die) (a : Option DescRef) : Die :=
  match a with
  | none => d
  | some r =>
    if (d.inflOf r).isNone then d
    else
      let d := d.updQueue r.core r.queue (fun x => { x with infl := x.infl.map (fun e =>
        if e.id = r.id then { e with left := 0, waits := true } else e) })
      d.send dkNode r.core (.release r)

/-- Barrier `b` of job `j` releases when it can. -/
def Die.barRelease (d : Die) (j b : Nat) : Die :=
  let x := d.bar j b
  let n := d.barExpect j b
  if x.now.isEmpty ∨ x.now.length < n ∨ (x.waitWb ∧ d.wbBusy j) then d
  else
    let m := max 1 n
    let d := d.updBar j b (fun x => { x with gen := x.gen + 1, now := x.held.take m, held := x.held.drop m })
    let d := (d.count (pgJob j) 6).trace 89 4 (packW [(8, j), (0, b)])
    let d := x.now.foldl Die.barComplete d
    let d := if fld (d.reg (pgJob j) 0x114) 21 16 = b then d.pfAdvance j else d
    d.skimRelease j b

/-- BARRIER_RELEASE (06 R198). -/
def execBarrierRelease (j b : Nat) (s : State) : Host.Outcome State Fault Refusal := s.at_ 89 (fun d => d.barRelease j b)

/-! ## Start-up (08 R250) -/

/-- DECKLE_READY: every stack is trained or failed. -/
def execDeckleReady (s : State) : Host.Outcome State Fault Refusal :=
  s.at_ 89 (fun d => if (List.range 8).all (fun n => (d.stack n).trained || (d.stack n).failed) then
    d.updDk (fun x => { x with ready := true }) else d)

end Sys2Proof.Machine
end

