-- ==== Sys2Proof/Machine/Reset.lean ====
section
/-!
DEFINITION. Resets: what each scope discards and keeps, the trim load and the release of the module and of
an island (13 R383, R384, R397-R409).
-/

namespace Sys2Proof.Machine

/-! ## What a reset of an island discards -/

/-- Island that holds a register: the header registers are the control island's (12 R364). -/
def regIsland (key : Nat) : Nat :=
  if key % 4096 < 0x100 then 90
  else match pageKind (key / 4096) with
    | none => 91
    | some k => pageIsland k

/-- Island of a page; the always-on island for an index the page table does not list. -/
def isleOfPage (page : Nat) : Nat :=
  match pageKind page with
  | none => 91
  | some k => pageIsland k

/-- A counter that a reset of its island keeps: trace counters (14 R430), reports and fuses blown since
power-on (14 Table 14-8), and a stack's counters under 08 R251. -/
def ctrKept (cold : Bool) (key : Nat) : Bool :=
  let p := key / 65536
  let sel := key % 65536
  decide (p = pgDbg) || (decide (p = pgSec) && (decide (sel = 5) || decide (sel = 6))) ||
    (!cold && decide (0x20 ≤ p) && decide (p < 0x28))

/-- Registers, counters and header state of the pages of the islands `p`. -/
def Die.wipePages (d : Die) (p : Nat → Bool) (cold : Bool) : Die :=
  { d with
    regs := skeep d.regs (fun k => !p (regIsland k))
    shad := skeep d.shad (fun k => !p (regIsland k))
    ctr := skeep d.ctr (fun k => !p (isleOfPage (k / 65536)) || ctrKept cold k)
    hdr := skeep d.hdr (fun k => !p (isleOfPage k)) }

/-- Tile island of a byte of Vat payload. -/
def vatIsland (a : Nat) : Option Nat :=
  if vatBase ≤ a ∧ a < vatBase + 4096 * 2 ^ 21 then some (islOf ((a - vatBase) / 2 ^ 21)) else none

/-- A seam lane's key touches one of the islands `p`. -/
def seamTouches (p : Nat → Bool) (key : Nat) : Bool :=
  let r := key / 2 / 8 * 8
  p (r + 3) || p (r + 4)

/-- The cores, slices and islands of the tile islands `p` (03 R96, 05 R160, 07 R238). -/
def Die.wipeTiles (d : Die) (p : Nat → Bool) : Die :=
  let pc (n : Nat) : Bool := p (islOf n)
  { d with
    mem := d.mem.filter (fun c => match vatIsland c.1 with
      | none => true
      | some i => !p i)
    side := skeep d.side (fun k => !pc (k / 32768))
    acc := skeep d.acc (fun k => !pc (k / 32768))
    accPoison := skeep d.accPoison (fun k => !pc (k / 32))
    ftab := skeep d.ftab (fun k => !pc (k / 32768))
    stage := skeep d.stage (fun k => !pc (k / 1024))
    pshad := skeep d.pshad (fun k => !pc (k / 128))
    pact := skeep d.pact (fun k => !pc (k / 128))
    cores := skeep d.cores (fun k => !pc k)
    queues := skeep d.queues (fun k => !pc (k / 4))
    dcache := skeep d.dcache (fun k => !pc (k / 256))
    evt := skeep d.evt (fun k => !p (k / 4096))
    vslice := skeep d.vslice (fun k => !pc k)
    heldPlan := skeep d.heldPlan (fun k => !pc k)
    felt := skeep d.felt (fun k => !p (k / 256))
    feltMem := skeep d.feltMem (fun k => !p (k / 16384))
    nent := skeep d.nent (fun k => !pc (k / 96))
    rtile := skeep d.rtile (fun k => !p (k / 256))
    isl := skeep d.isl (fun k => !p k)
    sbq := skeep d.sbq (fun k => !pc (k / 6))
    sbArr := skeep d.sbArr (fun k => !pc k)
    links := skeep d.links (fun k => !pc (k / 8))
    copyq := d.copyq.filter (fun r => !pc r.ref.core)
    seamWait := skeep d.seamWait (fun k => !seamTouches p k)
    seamUsed := skeep d.seamUsed (fun k => !seamTouches p k)
    seamBack := skeep d.seamBack (fun k => !seamTouches p k)
    sadd := skeep d.sadd (fun k => !p (k / 64)) }

/-- The Deckle, the Skim and the securing controller (06 R202, 09, 11). -/
def Die.wipeDeckle (d : Die) (whole : Bool) : Die :=
  let sg : Sg := { d.sg with
    busy := false, donePend := d.sg.donePend || d.sg.busy, result := if d.sg.busy then 4 else 0, index := 0,
    due := 0, err := 0, sends := [], recvs := [], sendSt := 0, recvSt := 0, acc := [], xfer := none }
  let c : Die := { d with
    dk := {}, jobs := [], bars := [], pages := [], objs := [], regions := [], strms := [], poolT := [], fgen := []
    skim := [], skimCfg := [], skimSlot := [], skimGen := [], skimPend := 0, skimLast := 0, circs := [], heldPlan := [], sg
    sbArr := sset d.sbArr [] dkNode ((sget d.sbArr [] dkNode).filter (fun m => !m.forUnit)) }
  let c : Die := if whole then { c with flCfg := [], flLog := [] } else (List.range 32).foldl (fun d j => d.setPhase j 0) c
  { c with
    nent := c.nent.filter (fun x => decide (entOwner x.2 < 512))
    queues := c.queues.map (fun x => (x.1, { x.2 with infl := x.2.infl.map (fun e => { e with span := [], reads := [] }) }))
    cores := c.cores.map (fun x => (x.1, { x.2 with
      pool := [], inj := { x.2.inj with infl := x.2.inj.infl.map (fun e => { e with span := [], reads := [] }) } })) }

/-- The control plane's own blocks (10, 12 R380, 14). -/
def Die.wipeControl (d : Die) : Die :=
  { d with
    intc := {}, carb := {}, eaLast := 0, wbLo := 0, wbHi := 0, comms := [], injDesc := [], inj := {}
    fab := { best := (d.part.serial.toNat, 0) } }

/-- The host island: the management link goes down, and frames in flight are discarded (12 R380). -/
def Die.wipeHost (d : Die) : Die := { d with mgmt := { sent := d.mgmt.sent, modPresent := d.mgmt.modPresent } }

/-- A stack controller: its channels go to self-refresh and keep their contents, their error counts and the
scrubber's position, or, `cold`, lose them (08 R248, R250, R251, R257). -/
def Die.wipeStack (d : Die) (s : Nat) (cold : Bool) : Die :=
  let k := d.stack s
  let d := if k.retries.any (fun r => decide (r.reader = 1)) then d.respond .busError else d
  let d := d.updStk s (fun _ => {
    selfRefresh := !cold, temp := k.temp, hot := k.hot, warm := k.warm
    scrubPos := if cold then 0 else k.scrubPos, chan := if cold then [] else skeep k.chan (fun x => decide (x % 4 < 2)) })
  let d : Die := { d with changed := skeep d.changed (fun x => decide (x / 2 ^ 20 ≠ s)) }
  if cold then d.zeroBytes (s * 2 ^ 36) (2 ^ 36) else d

/-- A port island: its link goes down, and its buffers are discarded (10). -/
def Die.wipePort (d : Die) (p : Nat) : Die := d.updPort p (fun x => { wire := x.wire })

/-- Everything the islands `p` hold returns to its reset value. -/
def Die.wipe (d : Die) (p : Nat → Bool) (cold : Bool) : Die :=
  let d := (d.wipePages p cold).wipeTiles p
  let d := if p 89 then d.wipeDeckle (p 90) else d
  let d := if p 90 then d.wipeControl else d
  let d := if p 88 then d.wipeHost else d
  let d := (List.range 8).foldl (fun d s => if p (64 + s) then d.wipeStack s cold else d) d
  (List.range 16).foldl (fun d q => if p (72 + q) then d.wipePort q else d) d

/-! ## What a reset of one island does to the others -/

/-- Descriptors of a tile island are discarded, an injected one among them: the references they hold are
dropped (log 48). -/
def Die.dropInfl (d : Die) (i : Nat) : Die :=
  let d : Die := if d.inj.busy ∧ islOf d.inj.core = i then { d with inj := { d.inj with busy := false } } else d
  (islCores i).foldl (fun d n => (d.inflight n).foldl (fun d e => e.2.span.foldl (fun d k => d.dropRef e.2.due k) d) d) d

/-- The Deckle's regions are removed without write-back, and their queues halted (06 R202). -/
def Die.abandonRegions (d : Die) : Die :=
  d.placed.foldl (fun d r => (((d.abortRegion r.2).abortBarriers r.2.job).unload r.1 r.2).dropRegion r.1 r.2) d

/-- Transfers of a stack end with an error response: fills are requested again and write-backs repeated
(08 R251). -/
def Die.cutStack (d : Die) (s : Nat) : Die :=
  let objs := (d.dk.reqs.filter (fun r => decide (r.stack = s) && r.granted)).map (fun r => r.obj)
  let d := d.cutCircuits (fun c => match c.obj with
    | none => false
    | some k => objs.contains k)
  d.updDk (fun x => { x with reqs := x.reqs.map (fun r => if r.stack = s then { r with granted := false, sheets := 0 } else r) })

/-- What a reset of island `i` alone does besides discarding the island's state. -/
def Die.cutOff (d : Die) (i : Nat) : Die :=
  if i < 64 then
    (d.dropInfl i).cutCircuits (fun c => c.isls.contains i)
  else if i < 72 then d.cutStack (i - 64)
  else if i < 88 then
    let d := (d.failAll (i - 72) 0x14 true).cutCircuits (fun c => match c.port with
      | some (p, _) => decide (p = i - 72)
      | none => false)
    if d.up (i - 72) then d.linkDown (i - 72) none else d
  else if i = 89 then d.abandonRegions.closeCircuits (fun _ => true)
  else d

/-! ## Accepting a reset (13 R397, R400, R401) -/

/-- Change the always-on island. -/
def State.updAon (s : State) (f : Aon → Aon) : State := { s with a := f s.a }
/-- Change the power state. -/
def State.updPwr (s : State) (f : Pwr → Pwr) : State := { s with d := s.d.updPw f }

/-- Sleep, sleep entry or a wake ends without its own end; the stacks are still in self-refresh (13 R396). -/
def Die.endSleep (d : Die) : Die :=
  let was := d.pw.asleep
  let d := d.updPw (fun x => { x with sleepBusy := false, asleep := false, waking := false, wakeHeld := 0 })
  if was then
    (List.range 8).foldl (fun d s => if (d.stack s).selfRefresh then d.updStk s (fun k => { k with trained := false }) else d) d
  else d

/-- From the write of `MOD_CMD.OFF` only power-on and the pin reset are accepted (15 R441). -/
def State.refusesReset (s : State) (code : Nat) : Bool :=
  (s.d.pw.offBusy || s.d.pw.off) && !(decide (code = 1) || decide (code = 3))

/-- An accepted reset is counted by source and recorded in `HISTORY` (13 R400). -/
def State.noteReset (s : State) (code : Nat) : State :=
  let s : State := { s with d := s.d.count pgRst code }
  s.updAon (fun a => { a with history := a.history ||| 2 ^ (code - 1) })

/-- A trim load under way is cut (13 R409). -/
def Trim.cutLoad (t : Trim) : Trim := if t.loading then { t with loading := false, cut := true } else t

/-- Trim after a brown-out or power-on: the defaults. -/
def Trim.toDefault (t : Trim) : Trim := { t with active := defaultTrim, source := 0, seq := 0 }

/-- A fuse command that a reset cuts leaves every fuse either blown or intact (14 R420). -/
def State.cutFuse (s : State) : State :=
  match s.a.sec.cmd with
  | none => s
  | some (op, arg) =>
    let f := s.d.takeFreeW
    let x := s.a.sec
    let svn := fld x.boot 7 0
    let x := if op = 2 ∧ x.rollback < arg ∧ arg ≤ svn ∧ !x.debugSeen then
        { x with rollback := x.rollback + f.2.toNat % (arg - x.rollback + 1) }
      else if op = 3 ∧ !x.debugSeen ∧ arg < 4 ∧ ¬(bit x.boot 31 ∧ x.bootEd = arg) ∧ bit f.2 0 then { x with revEd := x.revEd ||| 2 ^ arg }
      else if op = 4 ∧ !x.debugSeen ∧ arg < 4 ∧ ¬(bit x.boot 31 ∧ x.bootMldsa = arg) ∧ bit f.2 0 then
        { x with revMl := x.revMl ||| 2 ^ arg }
      else x
    let blown := x.rollback - s.a.sec.rollback + b2n (decide (x.revEd ≠ s.a.sec.revEd)) + b2n (decide (x.revMl ≠ s.a.sec.revMl))
    { s with d := f.1.count pgSec 6 blown, a := { s.a with sec := x } }

/-- The SEC block's own fields after a reset of the control island (14). -/
def State.resetSec (s : State) : State :=
  s.cutFuse.updSec (fun x => { x with cmd := none, donePend := false, result := 0, report := [], nonce := [] })

/-- Every island but the always-on island goes into reset behind its closed wrapper. -/
def Die.holdAll (d : Die) (code : Nat) : Die :=
  (List.range 91).foldl (fun d i => d.updIst i (fun t => { t with inReset := true, isolated := true, locked := false, code })) d

/-- A module-scope reset, or the module part of a power-on reset (13 R397, R400, R401; Table 13-7a). -/
def State.moduleReset (s : State) (code : Nat) : State :=
  if s.refusesReset code then s
  else
    let s := s.noteReset code
    let inner := s.d.pw.release.isSome && decide (s.a.scope = 0)
    let cold := decide (code = 2)
    let dark := cold || s.d.pw.off
    let s := s.resetSec
    let d := s.d.endSleep.wipe (fun i => decide (i ≠ 91)) dark
    let d := (d.holdAll code).updPw (fun x => { x with
      levW := 3, levE := 3, busyW := false, busyE := false, deferW := false, deferE := false, goW := none, goE := none,
      chgW := none, chgE := none, lateResets := [], offBusy := false, off := false,
      release := some (if x.mated then 2 else 1), relCode := if inner then x.relCode else code })
    let t := if cold then s.a.trim.cutLoad.toDefault else s.a.trim.cutLoad
    let a : Aon := { s.a with
      last := if inner then s.a.last else code
      scope := if inner then s.a.scope else 1
      wdtRunning := false
      suspect := s.a.suspect || cold
      refFallback := s.a.refFallback && !(cold || decide (code = 3))
      refDead := false
      trim := t
      tap := { s.a.tap.cut with halted := 0, step := 0 }
      sec := { s.a.sec with rom := .none } }
    { s with d, a }

/-- A reset of island `i` runs (13 R403). -/
def State.resetIsland (s : State) (i code : Nat) : State :=
  let s : State := { s with d := s.d.endSleep }
  let s := if i = 90 then s.resetSec else s
  let s := if i = 90 ∨ s.a.tap.waitsFor i then s.updAon (fun a => { a with tap := a.tap.cut }) else s
  let s := if i = 88 then s.updAon (fun a => { a with tap := { a.tap with halted := 0, step := 0 } }) else s
  let s := if i = 88 then s.updSec (fun x => { x with rom := .none, harts := 0 }) else s
  let d := (s.d.cutOff i).wipe (fun k => decide (k = i)) false
  let d := d.updIst i (fun t => { t with inReset := true, isolated := true, locked := decide (code ≠ 7), code })
  ({ s with d } : State).updAon (fun a => { a with last := code, scope := 2, causeIsl := i })

/-- An island-scope reset is accepted: absorbed into a module release that still holds the island, applied
after a level change that has stopped it, or run (13 R391, R400). -/
def State.islandReset (s : State) (i code : Nat) : State :=
  if 90 < i ∨ s.refusesReset code then s
  else
    let s := s.noteReset code
    if s.d.pw.release.isSome ∧ (s.d.ist i).inReset then s
    else if s.d.pw.stopped i then s.updPwr (fun x => { x with lateResets := x.lateResets ++ [(i, code)] })
    else s.resetIsland i code

/-! ## Sources (13 Table 13-6) -/

/-- POWER_ON (13 R397): the always-on rail becomes good; `ga` is the geographic address. Everything but the
fuses and the flash is scrubbed. -/
def execPowerOn (ga : Nat) (s : State) : Host.Outcome State Fault Refusal :=
  let s := s.cutFuse
  let x := s.a.sec
  let sec : Sec := { edDigests := x.edDigests, mlDigests := x.mlDigests, revEd := x.revEd, revMl := x.revMl,
                     rollback := x.rollback, secret := x.secret }
  let trim : Trim := { fuseA := s.a.trim.fuseA, fuseB := s.a.trim.fuseB, cut := s.a.trim.loading }
  let a : Aon := { ga := ga % 8, trim, sec }
  let pw : Pwr := { precharge := s.d.pw.precharge, mainOn := false, mated := false, release := some 1, relCode := 1 }
  let d : Die := { part := s.d.part, flash := s.d.flash, free := s.d.free, resp := s.d.resp, pw,
                   fab := { best := (s.d.part.serial.toNat, 0) } }
  .next { s with d := d.holdAll 1, a }

/-- BROWN_OUT (13 R397): `VIN` below 50 V, or a core rail below 90 % of its setpoint. -/
def execBrownOut (s : State) : Host.Outcome State Fault Refusal := .next (s.moduleReset 2)

/-- PIN_RESET (13 R398): `RST_N` is low for `n` consecutive always-on samples; below 50 the pulse is rejected. -/
def execPinReset (n : Nat) (s : State) : Host.Outcome State Fault Refusal :=
  .next (if n < 50 then { s with d := s.d.count pgRst 0x11 } else s.moduleReset 3)

/-- A write of `RST_REQ` (13 R397). -/
def State.rstReq (s : State) (ini : Nat) (v : Word) : State :=
  let code := if ini = iniDebug then 6 else 5
  if bit v 31 = false then s
  else if bit v 30 then s.moduleReset code
  else if 90 < fld v 6 0 then s.respond .busError
  else s.islandReset (fld v 6 0) code

/-- The word a reset request writes. -/
def rstWord (whole : Bool) (i : Nat) : Word := packW [(31, 1), (30, b2n whole), (0, i % 128)]

/-- SOFTWARE_RESET (13 R397). -/
def execSoftwareReset (ini : Nat) (whole : Bool) (i : Nat) (s : State) : Host.Outcome State Fault Refusal :=
  s.cpl ini pgRst 0x108 (fun s => s.rstReq ini (rstWord whole i))

/-- DEBUG_RESET (13 R397). -/
def execDebugReset (whole : Bool) (i : Nat) (s : State) : Host.Outcome State Fault Refusal :=
  s.cpl iniDebug pgRst 0x108 (fun s => s.rstReq iniDebug (rstWord whole i))

/-- REFERENCE_FAILURE (13 R383): two consecutive windows out of range. -/
def execReferenceFailure (s : State) : Host.Outcome State Fault Refusal := .next (s.moduleReset 7)

/-- An island's clock monitor reports a fault (13 R384). -/
def State.clockFault (s : State) (i : Nat) : State :=
  let s := s.islandReset i 7
  { s with d := s.d.updIst i (fun t => { t with clkFault := decide (i < 64) }) }

/-- CLOCK_FAULT (13 R384). The monitor does not run while the island's clock is stopped. -/
def execClockFault (i : Nat) (s : State) : Host.Outcome State Fault Refusal :=
  .next (if s.d.live i ∧ i ≠ 91 then s.clockFault i else s)

/-- LOCK_UP (13 R407): host core `c` retires nothing for `LOCKUP_LIMIT` control cycles. -/
def execLockUp (c : Nat) (s : State) : Host.Outcome State Fault Refusal :=
  .next (if s.d.live 88 = false ∨ s.d.reg pgRst 0x120 = 0 ∨ s.a.tap.halted.testBit c ∨ s.refusesReset 8 then s
    else (s.updAon (fun a => { a with lockup := true, lockCore := c })).islandReset 88 8)

/-! ## Watchdog (13 R406) -/

/-- WATCHDOG: the count reaches 0. -/
def execWatchdog (s : State) : Host.Outcome State Fault Refusal :=
  .next (if s.a.wdtRunning ∧ !s.d.pw.asleep then s.moduleReset 4 else s)

/-- A write of `WDT_CMD`. -/
def State.wdtCmd (s : State) (v : Word) : State :=
  let load := (s.d.reg pgRst 0x114).toNat
  let s := if bit v 0 ∧ !s.d.pw.offBusy ∧ !s.d.pw.off then s.updAon (fun a => { a with wdtRunning := true, wdtFrom := load }) else s
  if bit v 1 ∧ s.a.wdtRunning then s.updAon (fun a => { a with wdtFrom := load }) else s

/-- WDT_START. -/
def execWdtStart (ini : Nat) (s : State) : Host.Outcome State Fault Refusal := s.cpl ini pgRst 0x118 (fun s => s.wdtCmd 1)
/-- KICK. -/
def execKick (ini : Nat) (s : State) : Host.Outcome State Fault Refusal := s.cpl ini pgRst 0x118 (fun s => s.wdtCmd 2)

/-! ## Acknowledgements (13 R410) -/

/-- A write of `RST_CMD`. -/
def State.rstCmd (s : State) (v : Word) : State :=
  s.updAon (fun a => { a with
    lockup := a.lockup && !bit v 2, suspect := a.suspect && !bit v 1, history := if bit v 0 then 0 else a.history })

/-- LOCKUP_ACK. -/
def execLockupAck (ini : Nat) (s : State) : Host.Outcome State Fault Refusal := s.cpl ini pgRst 0x10C (fun s => s.rstCmd 4)
/-- SUSPECT_ACK. -/
def execSuspectAck (ini : Nat) (s : State) : Host.Outcome State Fault Refusal := s.cpl ini pgRst 0x10C (fun s => s.rstCmd 2)
/-- HIST_ACK. -/
def execHistAck (ini : Nat) (s : State) : Host.Outcome State Fault Refusal := s.cpl ini pgRst 0x10C (fun s => s.rstCmd 1)

/-! ## Trim (13 R408, R409) -/

/-- An offset from -30 mV to +30 mV. -/
def offOk (b : Nat) : Bool := let v := signed 8 b; decide (-30 ≤ v) && decide (v ≤ 30)

/-- A copy is valid. -/
def trimOk (t : TrimImg) : Bool :=
  let w (i : Nat) : Word := t.getD i 0
  decide (fld (w 0) 31 16 = 0x54C1) && decide (fld (w 1) 7 4 = 1) && decide (fld (w 1) 31 8 = 0) &&
    decide (fld (w 7) 31 16 = 0) && (List.range 73).all (fun i => decide (w (54 + i) = 0)) &&
    [2, 3, 4, 5].all (fun i => (List.range 4).all (fun k => offOk (fld (w i) (8 * k + 7) (8 * k)))) &&
    decide (w 127 = crc32 ((List.range 127).flatMap (fun i => leBytes 4 (w i).toNat)))

/-- `SEQ` of a copy. -/
def trimSeq (t : TrimImg) : Nat := fld (t.getD 0 0) 15 0

/-- The copy chosen: 1 for A, 2 for B. -/
def trimPick (a b : Bool) (sa sb : Nat) : Option Nat :=
  if a ∧ b then some (if (sa + 65536 - sb) % 65536 ≤ 32767 then 1 else 2)
  else if a then some 1 else if b then some 2 else none

/-- The trim load runs to its end (13 Table 13-9). -/
def Trim.load (t : Trim) : Trim :=
  let a := trimOk t.fuseA
  let b := trimOk t.fuseB
  let t : Trim := { t with loading := false, cut := false, copyA := t.fuseA, copyB := t.fuseB, aOk := a, bOk := b }
  match trimPick a b (trimSeq t.fuseA) (trimSeq t.fuseB) with
  | none => { t with noneValid := true }
  | some 1 => { t with noneValid := false, active := t.fuseA, source := 1, seq := trimSeq t.fuseA }
  | some _ => { t with noneValid := false, active := t.fuseB, source := 2, seq := trimSeq t.fuseB }

/-- `LEVEL_OK` of the active trim. -/
def Trim.levelOk (t : Trim) : Nat := fld (t.active.getD 1 0) 3 0

/-! ## Release (13 R402, R405) -/

/-- Straps are sampled after power-on, brown-out and pin reset (13 R399, R382). -/
def Aon.sample (a : Aon) (boot clk : Nat) : Aon :=
  { a with bootSrc := boot % 4, clkMode := clk % 4, strapBad := decide (clk % 4 = 3), clkEff := if clk % 4 = 3 then 0 else clk % 4 }

/-- RELEASE_SEQUENCE (13 Table 13-7): the release moves on by one of steps 2, 4 and 5. `boot` and `clk` are
the strap pins. -/
def execReleaseSequence (boot clk : Nat) (s : State) : Host.Outcome State Fault Refusal :=
  .next (if s.d.pw.mainOn = false then s
    else match s.d.pw.release with
      | some 2 =>
        let c := s.d.pw.relCode
        let s := if c ≤ 3 then s.updAon (fun a => a.sample boot clk) else s
        (s.updAon (fun a => { a with trim := { a.trim with loading := true } })).updPwr (fun x => { x with release := some 4 })
      | some 4 => (s.updAon (fun a => { a with trim := a.trim.load })).updPwr (fun x => { x with release := some 5 })
      | some 5 => if s.a.refDead then s else s.updPwr (fun x => { x with release := some 6 })
      | _ => s)

/-- REF_FALLBACK (13 R383): no reference in range within 10 ms of step 5. -/
def execRefFallback (s : State) : Host.Outcome State Fault Refusal :=
  .next (if s.d.pw.release ≠ some 5 then s
    else if s.a.clkEff = 0 then s.updAon (fun a => { a with refDead := true })
    else s.updAon (fun a => { a with clkEff := 0, refFallback := true }))

/-- REFERENCE_IN_RANGE (13 R383). -/
def execReferenceInRange (s : State) : Host.Outcome State Fault Refusal :=
  .next (if s.d.pw.release = some 5 ∧ s.a.refDead then
      (s.updAon (fun a => { a with refDead := false })).updPwr (fun x => { x with release := some 6 })
    else s)

/-- Order of release: control, Deckle, stack controllers, ports, tiles, host. -/
def releaseRank (i : Nat) : Nat :=
  if i = 90 then 0 else if i = 89 then 1 else if i < 64 then 4 else if i < 72 then 2 else if i < 88 then 3 else 5

/-- Islands released before island `i` are out of reset. -/
def Die.turn (d : Die) (i : Nat) : Bool :=
  (List.range 91).all (fun k => !(d.ist k).inReset || decide (releaseRank i ≤ releaseRank k))

/-- The island leaves reset, and its wrapper opens. Its first record is that of the reset (14 Table 14-7a). -/
def Die.openIsland (d : Die) (i : Nat) : Die :=
  let c := (d.ist i).code
  (d.updIst i (fun t => { code := t.code })).trace i 9 (word c)

/-- Everything a released module does at step 7: the host island runs, and hart 0 boots. -/
def State.hostUp (s : State) : State := (s.updPwr (fun x => { x with release := none })).bootStart

/-- ISLAND_RELEASE (13 R405, Table 13-7 steps 6 and 7): the lock indicator of island `i`, which is held in
reset, is set. -/
def execIslandRelease (i : Nat) (s : State) : Host.Outcome State Fault Refusal :=
  .next (if (s.d.ist i).inReset = false ∨ 90 < i ∨ s.d.pw.mainOn = false ∨ s.d.pw.off ∨ s.d.pw.offBusy then s
    else match s.d.pw.release with
      | none => { s with d := s.d.openIsland i }
      | some 6 =>
        if s.d.turn i = false then s
        else
          let s : State := { s with d := s.d.openIsland i }
          if i = 88 then s.hostUp else s
      | some _ => s)

/-- A write of `RST_OVR` (13 R405): the island named is released at once, behind its closed wrapper. -/
def State.rstOvr (s : State) (ini : Nat) (v : Word) : State :=
  let i := fld v 6 0
  if ini ≠ iniDebug then s.respond .busError
  else if bit v 31 = false ∨ 90 < i ∨ (s.d.ist i).inReset = false then s
  else { s with d := (s.d.count pgRst 0x12).updIst i (fun t => { t with inReset := false, isolated := true, unstable := true }) }

/-- FORCE (13 R405). -/
def execForce (ini i : Nat) (s : State) : Host.Outcome State Fault Refusal :=
  s.cpl ini pgRst 0x128 (fun s => s.rstOvr ini (packW [(31, 1), (0, i % 128)]))

end Sys2Proof.Machine
end

