-- ==== Sys2Proof/Machine/Power.lean ====
section
/-!
DEFINITION. Performance levels, sleep and wake (13 R386-R396, R411).
-/

namespace Sys2Proof.Machine

/-- `PWR_CMD` and wake events are ignored: the module is being switched off or is OFF (15 R441). -/
def Pwr.gone (p : Pwr) : Bool := p.offBusy || p.off

/-- Count an ignored command. -/
def Die.pwrIgnored (d : Die) : Die := d.count pgPwr 6

/-- A spanning region is placed, or past its admission (06 R170; log 49). -/
def Die.spanning (d : Die) : Bool :=
  let across (g : Region) : Bool := decide (g.x < 32) && decide (32 < g.x + g.w)
  d.regions.any (fun c => match c.2 with
    | none => false
    | some g => across g) || (match d.dk.cmd with
    | .placing _ g _ => across g
    | _ => false)

/-- Level of a half. -/
def Pwr.lev (p : Pwr) (west : Bool) : Nat := if west then p.levW else p.levE
/-- `BUSY` of a half. -/
def Pwr.busy (p : Pwr) (west : Bool) : Bool := if west then p.busyW else p.busyE
/-- `DEFER` of a half. -/
def Pwr.deferred (p : Pwr) (west : Bool) : Bool := if west then p.deferW else p.deferE
/-- Target of the GO under way. -/
def Pwr.goal (p : Pwr) (west : Bool) : Option Nat := if west then p.goW else p.goE
/-- The clocks of the half are stopped for this level. -/
def Pwr.chg (p : Pwr) (west : Bool) : Option Nat := if west then p.chgW else p.chgE

/-- A level request of a half ends with a result. -/
def Die.levelResult (d : Die) (west : Bool) (r : Nat) : Die :=
  let d := d.updPw (fun p => if west then { p with resW := r, donePend := true } else { p with resE := r, donePend := true })
  if r = 0 then d else d.count pgPwr 2

/-- `PWR_CMD.GO_WEST` or `GO_EAST` (13 R388): `ok` is `LEVEL_OK` of the active trim. -/
def Die.go (d : Die) (ok : Nat) (west : Bool) : Die :=
  let p := d.pw
  let t := if west then fld (d.reg pgPwr 0x104) 1 0 else fld (d.reg pgPwr 0x104) 3 2
  if p.gone then d
  else if p.busy west ∨ p.deferred west ∨ p.sleepBusy then d.pwrIgnored
  else if t = p.lev west then d.levelResult west 0
  else if ok.testBit t = false then d.levelResult west 1
  else
    let d := d.updPw (fun p => if west then { p with busyW := true, goW := some t } else { p with busyE := true, goE := some t })
    if d.spanning then d.updPw (fun p => { p with deferW := true, deferE := true }) else d

/-- A queue is quiescent (13 R389). -/
def Queue.quiet (x : Queue) : Bool :=
  x.infl.isEmpty && (x.held || decide (x.st = .idle) || decide (x.st = .halted) || decide (x.st = .stopped) || decide (x.st = .brk))

/-- Every queue of the halves is quiescent; an island held in reset counts as quiescent. -/
def Die.quiescent (d : Die) (west east : Bool) : Bool :=
  d.queues.all (fun c =>
    let n := c.1 / 4
    c.2.quiet || !(if westCore n then west else east) || !(d.enabled n) || (d.ist (islOf n)).inReset)

/-- The hold on the halves lifts: their queues admit descriptors again. -/
def Die.liftHold (d : Die) (west east : Bool) : Die :=
  { d with queues := d.queues.map (fun c => if (if westCore (c.1 / 4) then west else east) then (c.1, { c.2 with held := false }) else c) }

/-- The request of a half is over: `BUSY`, and `DEFER` of both halves if it was set, are cleared. -/
def Die.levelOver (d : Die) (west : Bool) : Die :=
  let both := d.pw.deferred west
  let d := d.updPw (fun p => if west then { p with busyW := false, goW := none } else { p with busyE := false, goE := none })
  let d := if both then d.updPw (fun p => { p with deferW := false, deferE := false }) else d
  d.liftHold (west || both) (!west || both)

/-- The held halves are quiescent (13 R390). -/
def Die.levelQuiet (d : Die) (west : Bool) : Die :=
  let p := d.pw
  let both := p.deferred west
  match p.goal west with
  | none => d
  | some t =>
    if p.busy west = false ∨ (p.chg west).isSome ∨ !d.quiescent (west || both) (!west || both) then d
    else if both ∧ d.spanning then
      if bit (d.reg pgPwr 0x104) 8 then d.updPw (fun p => { p with chgW := some t, chgE := some t })
      else (d.levelOver west).levelResult west 2
    else d.updPw (fun p => if west then { p with chgW := some t } else { p with chgE := some t })

/-- LEVEL_QUIESCENT: the hold of the half's request has become quiescent. -/
def execLevelQuiescent (west : Bool) (s : State) : Host.Outcome State Fault Refusal := s.onDie (fun d => d.levelQuiet west)

/-- A half takes the level its clocks stopped for. -/
def Die.levelTake (d : Die) (west : Bool) : Die :=
  match d.pw.chg west with
  | none => d
  | some t =>
    (d.updPw (fun p => if west then { p with levW := t, chgW := none } else { p with levE := t, chgE := none })).count pgPwr 1

/-- Steps 3 to 6 of Table 13-3 end. Islands in `bad` have not locked. -/
def State.levelDone (s : State) (west : Bool) (bad : List Nat) : State :=
  if (s.d.pw.chg west).isNone ∨ s.d.pw.busy west = false then s
  else
    let both := s.d.pw.deferred west && (s.d.pw.chg (!west)).isSome
    let sides := if both then [west, !west] else [west]
    let late := s.d.pw.lateResets
    let bad := bad.filter (fun i => decide (i < 64) && sides.any (fun w => decide (westIsl i = w)))
    let d := sides.foldl (fun d w => d.levelTake w) s.d
    let d := sides.foldl (fun d w => d.levelResult w (if bad.any (fun i => decide (westIsl i = w)) then 5 else 0)) d
    let d := ((d.levelOver west).updPw (fun p => { p with lateResets := [] })).seamRestart
    let d := d.trace 91 8 (packW [(2, d.pw.levE), (0, d.pw.levW)])
    let s : State := { s with d }
    let s := bad.foldl State.clockFault s
    late.foldl (fun s r => s.resetIsland r.1 r.2) s

/-- LEVEL_CHANGE_DONE (13 R391). -/
def execLevelChangeDone (west : Bool) (bad : List Nat) (s : State) : Host.Outcome State Fault Refusal :=
  .next (s.levelDone west bad)

/-- LEVEL_TIMEOUT (13 R389): not quiescent within `PWR_TIMEOUT` samples. -/
def execLevelTimeout (west : Bool) (s : State) : Host.Outcome State Fault Refusal :=
  s.onDie (fun d =>
    if d.pw.busy west = false ∨ (d.pw.chg west).isSome ∨ d.reg pgPwr 0x110 = 0 then d
    else (d.levelOver west).levelResult west 3)

/-- `PWR_CMD.SLEEP` (13 R392). A module that sleeps, or enters sleep, already does so (log 74). -/
def State.sleep (s : State) : State :=
  let p := s.d.pw
  if p.gone ∨ p.sleepBusy ∨ p.asleep then s
  else if p.busyW ∨ p.busyE ∨ p.deferW ∨ p.deferE ∨ p.release.isSome ∨ s.a.trim.loading ∨
      (List.range 91).any (fun i => (s.d.ist i).inReset) then
    s.updPwr (fun p => { p with resS := 4, donePend := true })
  else s.updPwr (fun p => { p with sleepBusy := true, wakeHeld := 0 })

/-- Accepted transfers and open circuits are done: the stacks refresh themselves, clocks stop and rails go to
retention (13 Table 13-4 steps 2 to 4). -/
def Die.fallAsleep (d : Die) : Die :=
  let d := (List.range 8).foldl (fun d s => d.updStk s (fun k => if k.trained then { k with selfRefresh := true } else k)) d
  let d := (d.trace 91 0xB 0).count pgPwr 4
  let d := d.updMg (fun m => { m with linkUp := false, blockLock := false, fecLock := false })
  d.updPw (fun p => { p with sleepBusy := false, asleep := true, donePend := true, resS := 0,
                             waking := decide (p.wakeHeld ≠ 0), wakeCause := if p.wakeHeld = 0 then p.wakeCause else p.wakeHeld,
                             wakeHeld := 0 })

/-- SLEEP_QUIET (13 R392). -/
def execSleepQuiet (s : State) : Host.Outcome State Fault Refusal :=
  s.onDie (fun d =>
    if d.pw.sleepBusy = false ∨ d.circs ≠ [] ∨ (List.range 8).any (fun n => decide ((d.stack n).retries ≠ [])) then d
    else d.fallAsleep)

/-- SLEEP_TIMEOUT (13 R392): step 2 not reached within `PWR_TIMEOUT` samples. -/
def execSleepTimeout (s : State) : Host.Outcome State Fault Refusal :=
  s.onDie (fun d =>
    if d.pw.sleepBusy = false ∨ d.reg pgPwr 0x110 = 0 then d
    else d.updPw (fun p => { p with sleepBusy := false, wakeHeld := 0, resS := 3, donePend := true }))

/-- `PWR_CMD.WAKE`: only the debug port wakes the module (13 R411). -/
def Die.wakeCmd (d : Die) (ini : Nat) : Die := if ini = iniDebug then d.wakeEvent 3 else d

/-- WAKE (13 R394). -/
def execWake (ini : Nat) (s : State) : Host.Outcome State Fault Refusal := s.cplD ini pgPwr 0x108 (fun d => d.wakeCmd ini)

/-- WAKE_PIN (13 R394): `WAKE_N` is low for 2 samples. -/
def execWakePin (s : State) : Host.Outcome State Fault Refusal :=
  s.onDie (fun d => if bit (d.reg pgPwr 0x114) 1 then d.wakeEvent 1 else d)

/-- WAKE_TIMER (13 R394): the countdown that started when the module became asleep runs out. -/
def execWakeTimer (s : State) : Host.Outcome State Fault Refusal :=
  s.onDie (fun d => if d.pw.asleep ∧ bit (d.reg pgPwr 0x114) 0 ∧ d.reg pgPwr 0x118 ≠ 0 then d.wakeEvent 0 else d)

/-- WAKE_FRAME (13 R394, 10 R317): a frame arrives at an UP port; asleep, it is discarded. -/
def execWakeFrame (p : Nat) (f : Frame) (s : State) : Host.Outcome State Fault Refusal :=
  s.at_ (72 + p) (fun d =>
    if !d.up p ∨ !d.wakesOn f then d
    else (if d.pw.asleep then d.count (pgPort p) 2 f.units else d).wakeEvent 2)

/-- A run of Table 8-5 on a stack in self-refresh: a stack in `lost` has failed it, and so has one with a failed pin
among those `runs` gives it; the eyes measured are recorded (08 R252, Table 8-9). -/
def Die.wakeStack (d : Die) (lost : List Nat) (runs : List (Nat × List (Nat × Nat) × List (Nat × Nat))) (n : Nat) : Die :=
  if (d.stack n).selfRefresh = false then d
  else
    let run := match runs.find? (fun r => decide (r.1 = n)) with
      | some r => r.2
      | none => ([], [])
    let d := d.setEyes n run.1 run.2
    if lost.contains n ∨ anyFailed [] run.1 then d.updStk n (fun k => { k with selfRefresh := false, failed := true, trained := false })
    else d.updStk n (fun k => { k with selfRefresh := false })

/-- A wake ends (13 Table 13-5): islands in `bad` have not locked, stacks in `lost` have failed Table 8-5, and `runs`
holds the failed pins and the eyes its runs have found. -/
def State.wakeDone (s : State) (bad lost : List Nat) (runs : List (Nat × List (Nat × Nat) × List (Nat × Nat))) : State :=
  if s.d.pw.waking = false then s
  else
    let d := s.d.updPw (fun p => { p with asleep := false, waking := false, wokePend := true })
    let d := (List.range 8).foldl (fun d n => d.wakeStack lost runs n) d
    let d := (List.range 16).foldl (fun d p => if d.up p then d.updPort p (fun x => { x with wakeNak := true, creditDue := true }) else d) d
    let d := d.trace 91 0xB 1
    let d := ((List.range 16).foldl Die.pump d).fabSettle
    (bad.filter (fun i => decide (i < 72 ∨ 88 ≤ i))).foldl State.clockFault { s with d }

/-- WAKE_DONE (13 R395). -/
def execWakeDone (bad lost : List Nat) (s : State) (runs : List (Nat × List (Nat × Nat) × List (Nat × Nat)) := []) :
    Host.Outcome State Fault Refusal := .next (s.wakeDone bad lost runs)

/-- `PWR_CMD.ACK`. -/
def Die.pwrAck (d : Die) : Die := d.updPw (fun p => { p with donePend := false })
/-- `PWR_CMD.WAKE_ACK`. -/
def Die.wakeAck (d : Die) : Die := d.updPw (fun p => { p with wokePend := false })

/-- A write of `PWR_CMD` (13 R411). A write that sets more than one bit has no other effect than to be
counted (log 50). -/
def State.pwrCmd (s : State) (ini : Nat) (v : Word) : State :=
  if s.d.pw.gone then s
  else
    let ok := s.a.trim.levelOk
    let bits := (List.range 6).filter (bit v)
    if 1 < bits.length then { s with d := s.d.pwrIgnored }
    else match bits with
      | [0] => { s with d := s.d.go ok true }
      | [1] => { s with d := s.d.go ok false }
      | [2] => s.sleep
      | [3] => { s with d := s.d.pwrAck }
      | [4] => { s with d := s.d.wakeAck }
      | [5] => { s with d := s.d.wakeCmd ini }
      | _ => s

/-- GO_WEST (13 R388). -/
def execGoWest (ini : Nat) (s : State) : Host.Outcome State Fault Refusal := s.cpl ini pgPwr 0x108 (fun s => s.pwrCmd ini 1)
/-- GO_EAST (13 R388). -/
def execGoEast (ini : Nat) (s : State) : Host.Outcome State Fault Refusal := s.cpl ini pgPwr 0x108 (fun s => s.pwrCmd ini 2)
/-- SLEEP (13 R392). -/
def execSleep (ini : Nat) (s : State) : Host.Outcome State Fault Refusal := s.cpl ini pgPwr 0x108 (fun s => s.pwrCmd ini 4)
/-- PWR_ACK (13 R411). -/
def execPwrAck (ini : Nat) (s : State) : Host.Outcome State Fault Refusal := s.cpl ini pgPwr 0x108 (fun s => s.pwrCmd ini 8)
/-- WAKE_ACK (13 R411). -/
def execWakeAck (ini : Nat) (s : State) : Host.Outcome State Fault Refusal := s.cpl ini pgPwr 0x108 (fun s => s.pwrCmd ini 16)

end Sys2Proof.Machine
end

