-- ==== Sys2Proof/Machine/Module.lean ====
section
/-!
DEFINITION. Power entry, trips, hot-plug, the prepared power-off and PMBus telemetry (15 R435-R446).
-/

namespace Sys2Proof.Machine

/-! ## The main switch (15 R435-R437, R440, R442) -/

/-- PRECHARGE_MATE (15 R435): the precharge current source is enabled. -/
def execPrechargeMate (s : State) : Host.Outcome State Fault Refusal := s.onDie (fun d => d.updPw (fun p => { p with precharge := true }))

/-- MAIN_SWITCH_CLOSE (15 R436): `VIN` and the bulk node are at `vin` and `bulk` millivolts. -/
def execMainSwitchClose (vin bulk : Nat) (s : State) : Host.Outcome State Fault Refusal :=
  s.onDie (fun d =>
    if vin < 52000 ∨ 66000 < vin ∨ vin + 2000 < bulk ∨ bulk + 2000 < vin ∨ d.pw.tripHold ∨ d.pw.off then d
    else d.updPw (fun p => { p with mainOn := true }))

/-- A trip: bit `b` of `MOD_STATUS`; the switch opens and is held open (15 R437). -/
def Die.trip (d : Die) (b : Nat) : Die :=
  (d.count pgPwr 0x10).updPw (fun p => { p with mainOn := false, trips := p.trips ||| 2 ^ b, tripHold := true })

/-- MAIN_SWITCH_OPEN (15 R436, R437): `VIN` is at `vin` millivolts, or the input current has exceeded 60 A for
50 us. -/
def execMainSwitchOpen (vin : Nat) (heavy : Bool) (s : State) : Host.Outcome State Fault Refusal :=
  s.onDie (fun d =>
    if d.pw.mainOn = false then d
    else
      let d := if heavy then d.trip 0 else d
      let d := if 68000 < vin then d.trip 1 else d
      if vin < 45000 then d.updPw (fun p => { p with mainOn := false }) else d)

/-- THERMAL_TRIP (15 R437): the halves' hottest junctions, in degrees, for 2 samples. -/
def execThermalTrip (west east : Nat) (s : State) : Host.Outcome State Fault Refusal :=
  s.onDie (fun d =>
    let d := d.updPw (fun p => { p with tempW := min 255 west, tempE := min 255 east })
    if 110 ≤ max west east ∧ d.pw.mainOn then d.trip 2 else d)

/-- TRIP_HOLD_EXPIRY (15 R437). -/
def execTripHoldExpiry (s : State) : Host.Outcome State Fault Refusal := s.onDie (fun d => d.updPw (fun p => { p with tripHold := false }))

/-- MATED_DEBOUNCE (15 R440): `MATED_N` has been low for 2,500 samples; once the main switch is closed as well, the
release goes on from step 2. -/
def execMatedDebounce (s : State) : Host.Outcome State Fault Refusal :=
  s.onDie (fun d => d.updPw (fun p => { p with mated := true, release := if p.release = some 1 then some 2 else p.release }))

/-- SURPRISE_REMOVAL (15 R442): the main switch opens; the core rails collapse, and a brown-out follows. -/
def execSurpriseRemoval (s : State) : Host.Outcome State Fault Refusal :=
  s.onDie (fun d => if d.pw.off then d else d.updPw (fun p => { p with mainOn := false, mated := false }))

/-! ## Prepared power-off (15 R441) -/

/-- `MOD_CMD.OFF`. -/
def State.offCmd (s : State) : State :=
  if s.d.pw.gone then { s with d := s.d.pwrIgnored }
  else
    let d := s.d.liftHold true true
    let d := d.updPw (fun p => { p with
      offBusy := true, sleepBusy := false, wakeHeld := 0, busyW := false, busyE := false, deferW := false, deferE := false,
      goW := none, goE := none, chgW := none, chgE := none })
    ({ s with d } : State).updAon (fun a => { a with wdtRunning := false })

/-- `MOD_CMD.TRIP_ACK`. -/
def Die.tripAck (d : Die) : Die := d.updPw (fun p => { p with trips := 0 })

/-- A write of `MOD_CMD`. -/
def State.modCmd (s : State) (v : Word) : State :=
  let s : State := if bit v 1 then { s with d := s.d.tripAck } else s
  if bit v 0 then s.offCmd else s

/-- OFF. -/
def execOff (ini : Nat) (s : State) : Host.Outcome State Fault Refusal := s.cpl ini pgPwr 0x144 (fun s => s.modCmd 1)
/-- TRIP_ACK (15 R445). -/
def execTripAck (ini : Nat) (s : State) : Host.Outcome State Fault Refusal := s.cpl ini pgPwr 0x144 (fun s => s.modCmd 2)

/-- OFF_POWER_DOWN (15 Table 15-7 steps 3 and 4): the flash has finished its unit; islands enter reset, the
rails ramp down and the main switch opens. -/
def execOffPowerDown (s : State) : Host.Outcome State Fault Refusal :=
  .next (if s.d.pw.offBusy = false then s
    else
      let s := s.resetSec
      let c := s.a.last
      let d := (s.d.endSleep.wipe (fun i => decide (i ≠ 91)) true).holdAll c
      let d := d.updPw (fun p => { p with
        levW := 3, levE := 3, offBusy := false, off := true, mainOn := false, release := none, lateResets := [] })
      ({ s with d } : State).updAon (fun a => { a with trim := a.trim.cutLoad, sec := { a.sec with rom := .none }, refDead := false }))

/-- `REMOVE_OK_N` is driven low (15 Table 15-4). -/
def Pwr.removeOk (p : Pwr) : Bool := p.off

/-! ## PMBus (15 R443, R444) -/

/-- Change the PMBus side. -/
def State.updPmb (s : State) (f : Pmb → Pmb) : State := s.updAon (fun a => { a with pmb := f a.pmb })

/-- A status byte of a page: 0 the CML flag, 1 `STATUS_VOUT`, 2 `STATUS_IOUT`, 3 `STATUS_INPUT`,
4 `STATUS_TEMPERATURE`. -/
def Pmb.st (p : Pmb) (page r : Nat) : Nat := sget p.status 0 (page * 8 + r)
/-- Set a status byte. -/
def Pmb.setSt (p : Pmb) (page r v : Nat) : Pmb := { p with status := sset p.status 0 (page * 8 + r) v }

/-- An access is refused: not acknowledged, and CML is set. -/
def Pmb.refuse (p : Pmb) : Pmb := { p.setSt p.page 0 1 with reply := none }

/-- An access is answered. -/
def Pmb.answer (p : Pmb) (bs : List Nat) : Pmb := { p with reply := some (bs.map (BitVec.ofNat 8)) }

/-- A word of two bytes, low byte first. -/
def Pmb.answerW (p : Pmb) (v : Nat) : Pmb := p.answer [v % 256, v / 256 % 256]

/-- `STATUS_WORD` of a page (PMBus 1.3, log 52): VOUT, IOUT and INPUT summaries, VIN_UV_FAULT, TEMPERATURE and
CML. -/
def Pmb.word (p : Pmb) (page : Nat) : Nat :=
  pack [(15, b2n (decide (p.st page 1 ≠ 0))), (14, b2n (decide (p.st page 2 ≠ 0))), (13, b2n (decide (p.st page 3 ≠ 0))),
        (3, b2n ((p.st page 3).testBit 4)), (2, b2n (decide (p.st page 4 ≠ 0))), (1, p.st page 0)]

/-- `PMB_ALERT_N` is driven low. -/
def Pmb.alert (p : Pmb) : Bool :=
  (List.range 7).any (fun g => decide (p.word g / 4 ≠ 0) || (p.word g).testBit 0)

/-- `STATUS_INPUT` bits of an input voltage in millivolts and an overcurrent (15 R444, R436). -/
def inputBits (vin : Nat) (heavy : Bool) : Nat :=
  pack [(7, b2n (decide (68000 < vin))), (6, b2n (decide (64000 < vin))), (5, b2n (decide (vin < 54000))),
        (4, b2n (decide (vin < 45000))), (2, b2n heavy)]

/-- The bits of the present input are latched. -/
def Pmb.sense (p : Pmb) (vin : Nat) (heavy : Bool) : Pmb := p.setSt 0 3 (p.st 0 3 ||| inputBits vin heavy)

/-- The nearest integer to `n / d`, a tie going to the even one. -/
def nearEven (n : Int) (d : Nat) : Int :=
  let q := n / d
  let r := (n % d).toNat
  if 2 * r < d ∨ (2 * r = d ∧ q % 2 = 0) then q else q + 1

/-- The mantissa of `v` thousandths at exponent `e - 16`. -/
def mantissa (v : Int) (e : Nat) : Int :=
  if 16 ≤ e then nearEven v (1000 * 2 ^ (e - 16)) else nearEven (v * 2 ^ (16 - e)) 1000

/-- LINEAR11 of `v` thousandths (15 R444): the smallest exponent whose mantissa holds the value. -/
def linear11 (v : Int) : Nat :=
  match (List.range 32).find? (fun e => decide (-1024 ≤ mantissa v e) && decide (mantissa v e ≤ 1023)) with
  | some e => unsigned 5 ((e : Int) - 16) * 2048 + unsigned 11 (mantissa v e)
  | none => 15 * 2048 + 1023

/-- LINEAR16 of `v` millivolts at exponent -12. -/
def linear16 (v : Nat) : Nat := unsigned 16 (nearEven (v * 4096) 1000)

/-- Answer a reading when the page supports it. -/
def State.pmbRead (s : State) (ok : Nat → Bool) (v : Nat) : State :=
  s.updPmb (fun p => if ok p.page then p.answerW v else p.refuse)

/-- A rail page. -/
def railPage (g : Nat) : Bool := decide (1 ≤ g) && decide (g ≤ 6)
/-- The input page. -/
def inputPage (g : Nat) : Bool := decide (g = 0)

/-- A status byte whose conditions the specification leaves to PMBus is a free value (log 52). -/
def State.pmbStatus (s : State) (r : Nat) : State :=
  let f := s.d.takeFreeW
  let v := f.2.toNat % 256
  State.updPmb { s with d := f.1 } (fun p => (p.setSt p.page r v).answer [v])

/-- PAGE: a write of `v`, or a read. -/
def execPage (rd : Bool) (v : Nat) (s : State) : Host.Outcome State Fault Refusal :=
  .next (s.updPmb (fun p => if rd then p.answer [p.page] else if 6 < v then p.refuse else { p.answer [] with page := v }))
/-- CLEAR_FAULTS: the status bits of the page are cleared. -/
def execClearFaults (s : State) : Host.Outcome State Fault Refusal :=
  .next (s.updPmb (fun p => { p.answer [] with status := sclear p.status (p.page * 8) 8 }))
/-- VOUT_MODE: linear, exponent -12. -/
def execVoutMode (s : State) : Host.Outcome State Fault Refusal :=
  .next (s.updPmb (fun p => if railPage p.page then p.answer [0x14] else p.refuse))
/-- STATUS_WORD. -/
def execStatusWord (s : State) : Host.Outcome State Fault Refusal := .next (s.updPmb (fun p => p.answerW (p.word p.page)))
/-- STATUS_VOUT. -/
def execStatusVout (s : State) : Host.Outcome State Fault Refusal := .next (s.pmbStatus 1)
/-- STATUS_IOUT. -/
def execStatusIout (s : State) : Host.Outcome State Fault Refusal := .next (s.pmbStatus 2)
/-- STATUS_INPUT: `VIN` is at `vin` millivolts, `heavy` an input overcurrent. -/
def execStatusInput (vin : Nat) (heavy : Bool) (s : State) : Host.Outcome State Fault Refusal :=
  .next (s.updPmb (fun p => let p := p.sense vin heavy; p.answer [p.st p.page 3]))
/-- STATUS_TEMPERATURE. -/
def execStatusTemperature (s : State) : Host.Outcome State Fault Refusal := .next (s.pmbStatus 4)
/-- READ_VIN, of `v` millivolts. -/
def execReadVin (v : Nat) (s : State) : Host.Outcome State Fault Refusal := .next ((s.updPmb (fun p => p.sense v false)).pmbRead inputPage (linear11 v))
/-- READ_IIN, of `v` milliamperes. -/
def execReadIin (v : Nat) (s : State) : Host.Outcome State Fault Refusal := .next (s.pmbRead inputPage (linear11 v))
/-- READ_VOUT, of `v` millivolts. -/
def execReadVout (v : Nat) (s : State) : Host.Outcome State Fault Refusal := .next (s.pmbRead railPage (linear16 v))
/-- READ_IOUT, of `v` milliamperes. -/
def execReadIout (v : Nat) (s : State) : Host.Outcome State Fault Refusal := .next (s.pmbRead railPage (linear11 v))
/-- READ_TEMPERATURE_1, of `v` thousandths of a degree. -/
def execReadTemperature1 (v : Int) (s : State) : Host.Outcome State Fault Refusal := .next (s.pmbRead (fun _ => true) (linear11 v))
/-- READ_POUT, of `v` milliwatts. -/
def execReadPout (v : Nat) (s : State) : Host.Outcome State Fault Refusal := .next (s.pmbRead railPage (linear11 v))
/-- READ_PIN, of `v` milliwatts. -/
def execReadPin (v : Nat) (s : State) : Host.Outcome State Fault Refusal := .next (s.pmbRead inputPage (linear11 v))
/-- MFR_ID: block "STVQ". -/
def execMfrId (s : State) : Host.Outcome State Fault Refusal := .next (s.updPmb (fun p => p.answer [4, 0x53, 0x54, 0x56, 0x51]))
/-- MFR_MODEL: block of the part number, "SQ-EG1-A" or "SQ-EG1-B" (00 Table 0-1). -/
def execMfrModel (s : State) : Host.Outcome State Fault Refusal :=
  .next (s.updPmb (fun p => p.answer [8, 0x53, 0x51, 0x2D, 0x45, 0x47, 0x31, 0x2D, 0x41 + s.d.part.grade % 2]))

/-! ## Lamps (15 R446) -/

/-- Green, amber and blue are lit; green blinks while the module sleeps. -/
def State.lamps (s : State) : Bool × Bool × Bool :=
  (s.d.pw.mainOn, decide (s.d.pw.trips ≠ 0) || s.a.pmb.alert || s.a.refDead, s.d.pw.removeOk)

end Sys2Proof.Machine
end

