-- ==== Sys2Proof/Machine/Security.lean ====
section
/-!
DEFINITION. Security commands, attestation, descriptor injection, trace commands and the TAP's instructions
(14 R420-R431).
-/

namespace Sys2Proof.Machine

/-! ## Identity and attestation (14 R422, R423) -/

/-- The 256-bit identity secret. -/
def Sec.secretBytes (x : Sec) : List Byte := (List.range 32).map (fun i => x.secret.getD i 0)

/-- The seed of the Ed25519 identity key pair: SHAKE256 of the secret and "EG1-ID-ED". -/
def Sec.edSeed (x : Sec) : List Byte := shake (x.secretBytes ++ [0x45, 0x47, 0x31, 0x2D, 0x49, 0x44, 0x2D, 0x45, 0x44])

/-- The seed of the ML-DSA-65 identity key pair: SHAKE256 of the secret and "EG1-ID-MLDSA". -/
def Sec.mlSeed (x : Sec) : List Byte :=
  shake (x.secretBytes ++ [0x45, 0x47, 0x31, 0x2D, 0x49, 0x44, 0x2D, 0x4D, 0x4C, 0x44, 0x53, 0x41])

/-- The words of a list of bytes, the last one filled with zeros. -/
def bytesWords : List Byte → List Word
  | a :: b :: c :: e :: t => word (leNat [a, b, c, e]) :: bytesWords t
  | [] => []
  | l => [word (leNat l)]

/-- A word of the boot measurement. -/
def Sec.measure (x : Sec) (i : Nat) : Word := word (leNat ((x.measurement.drop (4 * i)).take 4))

/-- The report body (14 Table 14-5); `aon` is `AON_SAMPLES`. -/
def State.reportBody (s : State) (aon : DWord) : List Word :=
  let x := s.a.sec
  let ser := s.d.part.serial.toNat
  let no := (x.reportNo + 1).toNat
  let unstable := (List.range 92).any (fun i => (s.d.ist i).unstable)
  [0x45474154, 1, word ser, word (ser / 2 ^ 32),
   packW [(24, 0x0B), (0, s.d.part.grade % 4)],
   packW [(24, x.rollback), (8, fld x.boot 7 0), (0, fld x.boot 30 28)],
   packW [(3, b2n x.heldBoot), (2, b2n unstable), (1, b2n (decide (s.d.pw.relCode = 6))), (0, b2n x.debugSeen)],
   packW [(4, x.revMl % 16), (0, x.revEd % 16)]] ++
  (List.range 8).map x.measure ++ (List.range 16).map (fun i => sget x.nonce 0 i) ++
  [word no, word (no / 2 ^ 32), word aon.toNat, word (aon.toNat / 2 ^ 32)] ++ List.replicate 28 0

/-- ATTEST starts: the report is built from the nonce and the claim (14 R423). -/
def State.attest (s : State) : State :=
  let f := s.d.takeFree
  let g := f.1.takeFree
  let body := s.reportBody f.2
  let msg := body.flatMap (fun w => leBytes 4 w.toNat)
  let x := s.a.sec
  let ed := leBytes 64 (Config.edSign x.edSeed msg).toNat
  let ml := leBytes 3309 (Config.mldsaSign f.1.free x.mlSeed msg).toNat
  let report := ssetList [] 0 0 (body ++ bytesWords (ed ++ ml))
  { s with d := g.1, a := { s.a with sec := { x with report, cmd := some (1, 0) } } }

/-- A write of `SEC_CMD` (14 Table 14-7). -/
def State.secCmd (s : State) (v : Word) : State :=
  let op := fld v 31 28
  if s.a.sec.cmd.isSome then s.respond .busError
  else match op with
    | 1 => s.attest
    | 2 => s.updSec (fun x => { x with cmd := some (2, fld v 7 0) })
    | 3 => s.updSec (fun x => { x with cmd := some (3, fld v 7 0) })
    | 4 => s.updSec (fun x => { x with cmd := some (4, fld v 7 0) })
    | 5 => s.updSec (fun x => { x with donePend := false })
    | _ => s

/-- The word a SEC command writes. -/
def secWord (op arg : Nat) : Word := packW [(28, op), (0, arg % 256)]

/-- ATTEST. -/
def execAttest (ini : Nat) (s : State) : Host.Outcome State Fault Refusal := s.cpl ini pgSec 0x10C (fun s => s.secCmd (secWord 1 0))
/-- ROLLBACK_ADVANCE. -/
def execRollbackAdvance (ini arg : Nat) (s : State) : Host.Outcome State Fault Refusal :=
  s.cpl ini pgSec 0x10C (fun s => s.secCmd (secWord 2 arg))
/-- REVOKE_ED. -/
def execRevokeEd (ini arg : Nat) (s : State) : Host.Outcome State Fault Refusal :=
  s.cpl ini pgSec 0x10C (fun s => s.secCmd (secWord 3 arg))
/-- REVOKE_MLDSA. -/
def execRevokeMldsa (ini arg : Nat) (s : State) : Host.Outcome State Fault Refusal :=
  s.cpl ini pgSec 0x10C (fun s => s.secCmd (secWord 4 arg))
/-- SEC_ACK. -/
def execSecAck (ini : Nat) (s : State) : Host.Outcome State Fault Refusal := s.cpl ini pgSec 0x10C (fun s => s.secCmd (secWord 5 0))

/-- The result of a revocation of slot `arg`: `rev` are the fuses, `used` the slot that verified the running
image. -/
def revokeResult (x : Sec) (rev used arg : Nat) : Nat :=
  if x.debugSeen then 1 else if 3 < arg then 2 else if rev.testBit arg then 0
  else if bit x.boot 31 ∧ used = arg then 3 else 0

/-- Fuses blown and the result of a command (14 R420, R421). -/
def Sec.ended (x : Sec) (op arg : Nat) : Sec × Nat × Nat :=
  match op with
  | 2 =>
    if x.debugSeen then (x, 1, 0)
    else if x.rollback < arg ∧ arg ≤ fld x.boot 7 0 then ({ x with rollback := arg }, 0, arg - x.rollback)
    else (x, 2, 0)
  | 3 =>
    let r := revokeResult x x.revEd x.bootEd arg
    if r = 0 ∧ x.revEd.testBit arg = false then ({ x with revEd := x.revEd ||| 2 ^ arg }, 0, 1) else (x, r, 0)
  | 4 =>
    let r := revokeResult x x.revMl x.bootMldsa arg
    if r = 0 ∧ x.revMl.testBit arg = false then ({ x with revMl := x.revMl ||| 2 ^ arg }, 0, 1) else (x, r, 0)
  | _ => ({ x with reportNo := x.reportNo + 1 }, 0, 0)

/-- The running command ends. -/
def State.secEnd (s : State) : State :=
  match s.a.sec.cmd with
  | none => s
  | some (op, arg) =>
    let r := s.a.sec.ended op arg
    let d := if op = 1 then s.d.count pgSec 5 else s.d.count pgSec 6 r.2.2
    { s with d, a := { s.a with sec := { r.1 with cmd := none, donePend := true, result := r.2.1 } } }

/-- SEC_COMMAND_END. -/
def execSecCommandEnd (s : State) : Host.Outcome State Fault Refusal := .next (if s.d.live 90 then s.secEnd else s)

/-! ## The TAP (14 R424, R425) -/

/-- Update-IR with an instruction; every one but IDCODE and BYPASS sets `DEBUG_SEEN`. -/
def State.tapIr (s : State) (ir : Nat) : State :=
  let s := s.updAon (fun a => { a with tap := { a.tap with ir } })
  if ir = 2 ∨ ir = 0xFF then s else s.updSec (fun x => { x with debugSeen := true })

/-- EXTEST. -/
def execExtest (s : State) : Host.Outcome State Fault Refusal := .next (s.tapIr 0x00)
/-- SAMPLE/PRELOAD: the boundary-scan register holds `cells`. -/
def execSamplePreload (cells : Nat) (s : State) : Host.Outcome State Fault Refusal :=
  .next ((s.tapIr 0x01).updAon (fun a => { a with tap := { a.tap with bound := cells } }))
/-- IDCODE. -/
def execIdcode (s : State) : Host.Outcome State Fault Refusal := .next (s.tapIr 0x02)
/-- DBGPORT. -/
def execDbgport (s : State) : Host.Outcome State Fault Refusal := .next (s.tapIr 0x10)
/-- DMI. -/
def execDmi (s : State) : Host.Outcome State Fault Refusal := .next (s.tapIr 0x11)
/-- BYPASS. -/
def execBypass (s : State) : Host.Outcome State Fault Refusal := .next (s.tapIr 0xFF)

/-- The identification register (14 Table 14-6). -/
def idcode : Word := 0xBE6105AB

/-- EXTEST drives the pins only while `RST_N` is low (14 Table 14-6). -/
def Tap.drives (t : Tap) (rstLow : Bool) : Bool := decide (t.ir = 0) && rstLow

/-- What Capture-DR loads, with the register's width (0 for the boundary-scan register, whose length is the
part's): the boundary-scan cells, `idcode`, the DBGPORT status, the last DMI answer, or the bypass bit (14 Table
14-6, R426). EXTEST acts as BYPASS while `RST_N` is high. -/
def Tap.capture (t : Tap) (rstLow : Bool) : Nat × Nat :=
  match t.ir with
  | 0x00 => if t.drives rstLow then (0, t.bound) else (1, 0)
  | 0x01 => (0, t.bound)
  | 0x02 => (32, idcode.toNat)
  | 0x10 => (116, t.status * 2 ^ 114 + (t.addr % 2 ^ 48) * 2 ^ 64 + t.data.toNat)
  | 0x11 => (41, (t.dmiAddr % 128) * 2 ^ 34 + t.dmiData.toNat * 4 + t.dmiOp % 4)
  | _ => (1, 0)

/-! ## Injection (14 R427) -/

/-- The injected descriptor ends at once. -/
def Die.injEnd (d : Die) (core status detail : Nat) : Die :=
  { d with inj := { busy := false, donePend := true, detail, status, core } }

/-- A write of `INJ_CMD` with `GO`. -/
def Die.inject (d : Die) : Die :=
  let n := fld (d.reg pgDbg 0x100) 11 0
  let q := fld (d.reg pgDbg 0x100) 13 12
  if d.inj.busy ∨ (d.ist (islOf n)).inReset then d.refuse
  else if !d.enabled n then (d.injEnd n stAbsent 0).noteAbsent n q true
  else
    let x : Desc := (List.range 16).map (fun i => sget d.injDesc 0 i)
    let waits := decide (fld (dWait x 0) 31 30 ≠ 0) || decide (fld (dWait x 1) 31 30 ≠ 0)
    match minCause (cause waits bdEvent ++ (d.entryCause n q x).toList) with
    | some c => d.injEnd n stAborted c
    | none =>
      let e : WinEnt := { d := x, pass := (d.queue n q).pass.toNat }
      let d := d.updCore n (fun c => { c with injCtx := q, inj := { c.inj with window := [e] } })
      { d with inj := { d.inj with busy := true, core := n } }

/-- A write of `INJ_CMD`. -/
def Die.injCmd (d : Die) (v : Word) : Die :=
  let d : Die := if bit v 1 then { d with inj := { d.inj with donePend := false } } else d
  if bit v 0 then d.inject else d

/-- INJECT. -/
def execInject (ini : Nat) (s : State) : Host.Outcome State Fault Refusal := s.cplD ini pgDbg 0x104 (fun d => d.injCmd 1)
/-- INJ_ACK. -/
def execInjAck (ini : Nat) (s : State) : Host.Outcome State Fault Refusal := s.cplD ini pgDbg 0x104 (fun d => d.injCmd 2)

/-! ## Trace commands (14 R429) -/

/-- The order to freeze or thaw reaches every island whose wrapper is open (log 51). -/
def Die.freezeAll (d : Die) (v : Nat) : Die :=
  (List.range 92).foldl (fun d i =>
    if (d.ist i).inReset ∨ (d.ist i).isolated then d else { d with trc := sset d.trc 0 (i * 2) (setFld (d.trcCfg i) 29 29 v) }) d

/-- A write of `TRC_CMD`. -/
def Die.trcCmd (d : Die) (v : Word) : Die :=
  let d := if bit v 0 then d.freezeAll 1 else d
  if bit v 1 then d.freezeAll 0 else d

/-- FREEZE. -/
def execFreeze (ini : Nat) (s : State) : Host.Outcome State Fault Refusal := s.cplD ini pgDbg 0x10C (fun d => d.trcCmd 1)
/-- THAW. -/
def execThaw (ini : Nat) (s : State) : Host.Outcome State Fault Refusal := s.cplD ini pgDbg 0x10C (fun d => d.trcCmd 2)
/-- MARK: a write of `TRC_MARK`. -/
def execMark (ini : Nat) (v : Word) (s : State) : Host.Outcome State Fault Refusal := s.cplD ini pgDbg 0x110 (fun d => d.trace 90 0xA v)

end Sys2Proof.Machine
end

