-- ==== Sys2Proof/Machine/BusRead.lean ====
section
/-!
DEFINITION. What a register, a mailbox value and a word of an indirect space read as (12 R364-R369, and the
register, mailbox and space tables of 03 to 15).
-/

namespace Sys2Proof.Machine

/-! ## Capabilities (12 Table 12-8) -/

/-- `INT_BITS` of a page (12 Table 12-9, 13 R413, 14 R431). -/
def intBits (k : PageKind) : Nat :=
  match k with
  | .sys => 2
  | .reset => 4
  | .power => 4
  | .trim => 2
  | .intc => 0
  | .carb => 1
  | .sec => 2
  | .debug => 2
  | .mgmt => 4
  | .flash => 3
  | .skim => 2
  | .fabric => 1
  | .deckle => 2
  | .cport _ => 4
  | .stack _ => 8
  | .job _ => 1
  | .island _ => 8
  | .core _ => 0

/-- `IND_SPACES` of a page. -/
def indSpaces (k : PageKind) : Nat :=
  match k with
  | .core _ => 0x7F
  | .island _ => 0x10F
  | .deckle => 0x1F
  | .job _ => 3
  | .stack _ => 1
  | .skim => 7
  | .fabric => 7
  | .flash => 3
  | .mgmt => 1
  | .trim => 7
  | .sec => 7
  | .debug => 0xF
  | _ => 0

/-- The mailbox of a page returns values; TRIM's does not (13 R412). -/
def hasMbox (k : PageKind) : Bool := k != .trim

/-- Words of an indirect space (12 R369). -/
def spaceLen (k : PageKind) (sp : Nat) : Nat :=
  match k, sp with
  | .core _, 0 => 32768
  | .core _, 1 => 32768
  | .core _, 2 => 776
  | .core _, 3 => 256
  | .core _, 4 => 256
  | .core _, 5 => 32768
  | .core _, 6 => 64
  | .island _, 0 => 4096
  | .island _, 1 => 65536
  | .island _, 2 => 2048
  | .island _, 3 => 6144
  | .island _, 8 => 32768
  | .deckle, 0 => 524288
  | .deckle, 1 => 256
  | .deckle, 2 => 320
  | .deckle, 3 => 4096
  | .deckle, 4 => 16384
  | .job _, 0 => 33554432
  | .job _, 1 => 256
  | .stack _, 0 => 512
  | .skim, 0 => 512
  | .skim, 1 => 512
  | .skim, 2 => 1024
  | .fabric, 0 => 65536
  | .fabric, 1 => 65536
  | .fabric, 2 => 32768
  | .flash, 0 => 1024
  | .flash, 1 => 1024
  | .mgmt, 0 => 128
  | .trim, 0 => 128
  | .trim, 1 => 128
  | .trim, 2 => 128
  | .sec, 0 => 488
  | .sec, 1 => 1024
  | .sec, 2 => 16
  | .debug, 0 => 16
  | .debug, 1 => 184
  | .debug, 2 => 1507328
  | .debug, 3 => 368
  | _, _ => 0

/-! ## Live and read-only registers -/

/-- A descriptor in flight on a core satisfies `p`. -/
def Die.busyWith (d : Die) (n : Nat) (p : Infl → Bool) : Bool := (d.inflight n).any (fun y => p y.2)

/-- Tile of the shadows: one that awaits its swap (03 Table 3-13). -/
def tileBits (t : Option Tile) (v s : Nat) : Nat :=
  match t with
  | none => 0
  | some t => 2 ^ v + t.slot % 32 * 2 ^ s

/-- `QSTAT.STATE` (04 Table 4-12). -/
def QState.code (x : QState) : Nat :=
  match x with
  | .idle => 0
  | .running => 1
  | .draining => 2
  | .stopped => 3
  | .brk => 4
  | .halted => 5

/-- Read-only registers of a queue block (04 Table 4-14). -/
def Queue.live (x : Queue) (o : Nat) : Word :=
  match o with
  | 0x24 => packW [(17, x.infl.length), (12, x.window.length), (7, b2n x.irq), (6, b2n x.fault.isSome), (5, b2n x.armed),
      (4, b2n x.flip), (3, b2n x.half), (0, x.st.code)]
  | 0x28 => packW [(8, x.gen1 % 256), (0, x.gen0 % 256)]
  | 0x2C => x.pass
  | 0x30 => word (x.index % 8192)
  | 0x34 => x.done
  | 0x40 => match x.fault with
    | none => 0
    | some f => packW [(29, b2n f.half), (16, f.idx % 8192), (8, f.detail % 256), (0, f.status % 8)]
  | 0x44 => match x.fault with
    | none => 0
    | some f => word (f.tag % 65536)
  | _ => 0

/-- Read-only registers of an enabled core's page (03 Tables 3-8 to 3-14). `FLUSHING` is 0: a flush token and
its write-back are one command (log 1). -/
def Die.coreLive (d : Die) (n o : Nat) : Word :=
  let c := d.core n
  if 0x400 ≤ o ∧ o < 0x600 then (d.queue n ((o - 0x400) / 0x80)).live (o % 0x80)
  else match o with
    | 0x100 =>
      let eng (k : Nat) : Bool := d.busyWith n (fun e => decide (engineOf (dOpc e.d) = k))
      packW [(5, b2n (d.busyWith n (fun e => decide (dOpc e.d = opcOpaT)))), (4, b2n (eng 3)),
        (3, b2n (d.busyWith n (fun e => decide (dOpc e.d = opcVec)))), (2, b2n c.mv.isSome),
        (1, b2n (eng 1 || c.next.isSome)), (0, 1)]
    | 0x104 => packW [(5, b2n c.srcConvert), (4, b2n c.srcScreed), (3, b2n c.srcVec), (2, b2n c.srcMv),
        (1, b2n c.srcArray), (0, b2n c.nonfinite)]
    | 0x118 => packW [(31, b2n c.swap.isSome), (9, b2n (d.stageBad n)), (0, c.lastSwapped % 32)]
    | 0x11C => word (tileBits c.next 21 16 + tileBits c.active 5 0)
    | 0x120 => match (List.range 64).find? (fun p => (d.poolOf p).contains n) with
      | none => 0
      | some p => packW [(31, 1), (16, p), (0, c.pool.length % 64)]
    | 0x124 =>
      let u := d.portUse n []
      packW [(16, u.2 % 256), (0, u.1 % 256)]
    | _ => 0

/-- Read-only registers of a slice (05 Tables 5-8, 5-9), in service on every core page. -/
def Die.sliceLive (d : Die) (n o : Nat) : Word :=
  match o with
  | 0x804 => packW [(2, b2n (d.scrubStarved n)), (1, b2n (!d.enabled n)), (0, b2n (d.slice n).busy)]
  | 0x808 => d.reg (pgCore n) 0x808
  | _ => 0

/-- Read-only registers of the `DECKLE` page (06 Table 6-7). -/
def Die.deckleLive (d : Die) (o : Nat) : Word :=
  match o with
  | 0x110 => packW [(31, b2n (decide (d.dk.cmd ≠ .none))), (30, b2n d.dk.donePend), (8, d.dk.index % 65536), (0, d.dk.result % 256)]
  | 0x114 => packW [(16, d.placed.length % 128), (1, b2n (decide (d.pw.levW ≠ d.pw.levE))), (0, b2n d.dk.ready)]
  | _ => 0

/-- Read-only registers of a job page (06 Table 6-11). -/
def Die.jobLive (d : Die) (j o : Nat) : Word :=
  let x := d.job j
  match o with
  | 0x120 => packW [(31, b2n x.enabled), (30, b2n x.aborting), (29, b2n (d.overQuota j)), (28, b2n x.pfBlocked), (27, b2n x.pfBad),
      (26, b2n x.pfDone), (16, (d.placed.filter (fun r => decide (r.2.job = j))).length % 128), (0, x.pfCur % 65536)]
  | 0x124 => word (x.attempt % 65536)
  | 0x128 => word (d.vatUsed j)
  | 0x12C => word (d.vatReserved j)
  | 0x130 => word (d.stackUsed j)
  | _ => 0

/-- Read-only registers of an island page (07 Table 7-9). A message in a node's queue is held (log 11). -/
def Die.islandLive (d : Die) (i o : Nat) : Word :=
  match o with
  | 0x100 =>
    let held := (islCores i).any (fun n => [0, 1, 2, 3, 4, 5].any (fun k => !(sget d.sbq [] (n * 6 + k)).isEmpty))
    packW [(7, b2n (d.ist i).clkFault), (6, b2n (d.ist i).locked), (4, if westIsl i then d.pw.levW else d.pw.levE),
      (3, b2n (!westIsl i)), (2, b2n ((List.range 256).any (fun e => decide (0 < (d.rt i e).delivering)))),
      (1, b2n (!(d.island i).fbq.isEmpty)), (0, b2n held)]
  | 0x104 => word ((d.island i).err % 256)
  | _ => 0

/-- Read-only registers of a stack page (08 Table 8-6). -/
def Die.stackLive (d : Die) (s o : Nat) : Word :=
  let k := d.stack s
  match o with
  | 0x100 => packW [(24, k.temp % 256), (7, b2n (decide (d.decMode s = 3))), (6, b2n k.hot), (5, b2n k.warm),
      (4, b2n (decide (k.scrubPos ≠ 0))), (3, b2n k.selfRefresh), (2, b2n (!k.trained && !k.failed)), (1, b2n k.failed),
      (0, b2n k.trained)]
  | 0x114 => packW [(31, b2n k.errValid), (30, b2n k.errHost), (0, k.errBurst % 128)]
  | 0x118 => word (k.errBurst % 2 ^ 30)
  | _ => 0

/-- Read-only registers of the SKIM page (09 Table 9-8). -/
def Die.skimLive (d : Die) (o : Nat) : Word :=
  let jobs (p : Nat → Bool) : Word := word (((List.range 32).map (fun j => bitAt (p (d.skimJ j).st) j)).sum)
  match o with
  | 0x100 => jobs (fun st => decide (st = 2) || decide (st = 3))
  | 0x104 => d.skimPend
  | 0x108 => jobs (fun st => decide (st = 6))
  | 0x110 => d.skimLast
  | _ => 0

/-- Read-only registers of the FABRIC page (10 Table 10-10). -/
def Die.fabricLive (d : Die) (o : Nat) : Word :=
  let f := d.fab
  match o with
  | 0x100 => packW [(31, b2n f.coord), (30, b2n (decide (f.rxTail ≠ fld (d.reg pgFab 0x130) 13 0))), (29, b2n f.assigned),
      (16, ((List.range 16).filter d.up).length), (0, f.epoch % 65536)]
  | 0x104 => packW [(16, f.coordAddr % 65536), (0, f.addr % 65536)]
  | 0x114 => f.fence
  | 0x118 => word (f.event % 8)
  | 0x128 => word (f.txHead % 16384)
  | 0x134 => word (f.rxTail % 16384)
  | _ => 0

/-- Read-only registers of a port page (10 Table 10-14). -/
def Die.cportLive (d : Die) (p o : Nat) : Word :=
  let x := d.port p
  match o with
  | 0x100 => packW [(28, x.link % 8), (24, x.pPort % 16), (16, x.locks % 256), (0, x.pAddr % 65536)]
  | 0x10C => word (x.err % 128)
  | 0x114 => match x.coll with
    | none => packW [(28, x.skims.length % 8)]
    | some c => packW [(31, 1), (28, x.skims.length % 8), (12, c.comm % 4096), (0, c.op % 8)]
  | 0x118 => packW [(31, b2n x.peFailV), (20, x.peFail.1 % 256), (0, x.peFail.2 % 65536)]
  | _ => 0

/-- Read-only registers of the FLASH page (11 Table 11-8), but for `READY`. -/
def Die.flashLive (d : Die) (o : Nat) : Word :=
  let g := d.sg
  match o with
  | 0x100 => packW [(30, b2n g.xfer.isSome)]
  | 0x104 => word (g.err % 4)
  | 0x120 => packW [(31, b2n g.busy), (30, b2n g.donePend), (24, g.op % 16), (0, g.result % 256)]
  | 0x124 => word (g.index % 2 ^ 23)
  | 0x130 => g.due
  | _ => 0

/-- Read-only registers of the MGMT page (12 Table 12-3). -/
def Die.mgmtLive (d : Die) (o : Nat) : Word :=
  let m := d.mgmt
  match o with
  | 0x100 => packW [(5, b2n m.linkUp), (4, b2n m.fecLock), (3, b2n m.blockLock), (2, b2n m.txFault), (1, b2n m.rxLos), (0, b2n m.modPresent)]
  | 0x108 => word (m.err % 8)
  | 0x120 => word (m.txHead % 4096)
  | 0x140 => word (m.rxHead % 4096)
  | _ => 0

/-- Word `w` of a per-source array. -/
def srcPart (v : BitVec 1024) (w : Nat) : Word := word (v.toNat >>> (32 * w))

/-- Read-only registers of the INTC page (12 Table 12-10). Source 1023 reads 1 in `IMASK`, 0 elsewhere. -/
def Die.intcLive (d : Die) (o : Nat) : Word :=
  let w := o % 0x80 / 4
  if 0x100 ≤ o ∧ o < 0x180 then srcPart d.intc.mask w
  else if 0x280 ≤ o ∧ o < 0x300 then srcPart d.intc.pend w
  else if 0x400 ≤ o ∧ o < 0x480 then srcPart d.intc.active w
  else if 0x480 ≤ o ∧ o < 0x500 then srcPart d.intc.level w
  else 0

/-- Enabled cores of the part. -/
def Die.coreCount (d : Die) : Nat := ((List.range 4096).filter d.enabled).length

/-- Read-only registers of the SYS page (12 Table 12-11). -/
def Die.sysLive (d : Die) (o : Nat) : Word :=
  match o with
  | 0x100 => word (d.part.grade % 4)
  | 0x104 => word d.coreCount
  | 0x108 => 4
  | 0x10C => 16
  | 0x110 => 4096
  | 0x114 => 64
  | 0x118 => 32
  | 0x11C => 4096
  | 0x120 => 32
  | 0x124 => 16
  | 0x130 => d.eaLast
  | 0x134 => d.wbLo
  | 0x138 => d.wbHi
  | _ => 0

/-- Read-only registers of the CARB page (12 Table 12-13). -/
def Die.carbLive (d : Die) (o : Nat) : Word :=
  match o with
  | 0x108 => match d.carb.holder with
    | none => 0
    | some h => packW [(31, 1), (24, h % 32), (16, d.carbClass h)]
  | 0x10C => word d.capped
  | _ => 0

/-- A bit for each of the islands 32w to 32w + 31. -/
def Die.islBits (d : Die) (w : Nat) (p : IslSt → Bool) : Word :=
  word (((List.range 32).map (fun i => bitAt (decide (32 * w + i < 92) && p (d.ist (32 * w + i))) i)).sum)

/-- Read-only registers of the RESET page (13 Table 13-11), but for `WARN`. -/
def State.resetLive (s : State) (o : Nat) : Word :=
  let a := s.a
  match o with
  | 0x100 => packW [(16, a.causeIsl % 128), (8, a.history % 256), (4, a.scope % 4), (0, a.last % 16)]
  | 0x104 => packW [(11, b2n a.refDead), (10, b2n a.refFallback), (8, a.clkEff % 4), (4, b2n a.strapBad), (2, a.clkMode % 4),
      (0, a.bootSrc % 4)]
  | 0x110 => word (b2n a.suspect)
  | 0x11C => packW [(31, b2n a.wdtRunning)]
  | 0x124 => packW [(31, b2n a.lockup), (0, a.lockCore % 16)]
  | 0x130 => s.d.islBits 0 (fun t => t.inReset)
  | 0x134 => s.d.islBits 1 (fun t => t.inReset)
  | 0x138 => s.d.islBits 2 (fun t => t.inReset)
  | 0x140 => s.d.islBits 0 (fun t => t.unstable)
  | 0x144 => s.d.islBits 1 (fun t => t.unstable)
  | 0x148 => s.d.islBits 2 (fun t => t.unstable)
  | _ => 0

/-- Read-only registers of the POWER page (13 Table 13-13, 15 Table 15-11). -/
def State.powerLive (s : State) (o : Nat) : Word :=
  let p := s.d.pw
  match o with
  | 0x100 => packW [(31, b2n p.donePend), (30, b2n p.wokePend), (11, b2n p.deferE), (10, b2n p.deferW), (9, b2n p.busyE), (8, b2n p.busyW),
      (5, b2n p.sleepBusy), (2, p.levE % 4), (0, p.levW % 4)]
  | 0x10C => packW [(16, p.resS % 256), (8, p.resE % 256), (0, p.resW % 256)]
  | 0x11C => word (p.wakeCause % 16)
  | 0x120 => packW [(8, p.tempE % 256), (0, p.tempW % 256)]
  | 0x140 => packW [(8, s.a.ga % 8), (5, b2n p.off), (4, b2n p.offBusy), (3, b2n p.mainOn), (0, p.trips % 8)]
  | _ => 0

/-- Read-only registers of the TRIM page (13 Table 13-15). -/
def Trim.live (t : Trim) (o : Nat) : Word :=
  match o with
  | 0x100 => packW [(31, b2n t.loading), (30, b2n t.cut), (29, b2n t.noneValid), (28, b2n t.aOk), (27, b2n t.bOk), (16, t.source % 4),
      (0, t.seq % 65536)]
  | 0x104 => word t.levelOk
  | 0x108 => t.active.getD 2 0
  | 0x10C => t.active.getD 3 0
  | 0x110 => t.active.getD 4 0
  | 0x114 => t.active.getD 5 0
  | _ => 0

/-- `ATTEST_BUSY` (14 R423). -/
def Sec.attesting (x : Sec) : Bool := match x.cmd with
  | some (op, _) => decide (op = 1)
  | none => false

/-- Read-only registers of the SEC page (14 Table 14-7). -/
def Sec.live (x : Sec) (o : Nat) : Word :=
  match o with
  | 0x100 => x.boot
  | 0x104 => packW [(12, x.revMl % 16), (8, x.revEd % 16), (0, x.rollback % 128)]
  | 0x108 => packW [(2, b2n x.debugSeen), (1, b2n x.attesting), (0, b2n x.cmd.isSome)]
  | 0x110 => packW [(31, b2n x.donePend), (0, x.result % 256)]
  | _ => 0

/-- Read-only registers of the DEBUG page (14 Table 14-10). -/
def Die.debugLive (d : Die) (o : Nat) : Word :=
  match o with
  | 0x108 => packW [(31, b2n d.inj.busy), (30, b2n d.inj.donePend), (8, d.inj.detail % 256), (0, d.inj.status % 8)]
  | _ => 0

/-- The LS and RO fields of a register at an offset from 0x100. -/
def State.live (s : State) (k : PageKind) (o : Nat) : Word :=
  let d := s.d
  match k with
  | .core n => if 0x800 ≤ o then d.sliceLive n o else if d.enabled n then d.coreLive n o else 0
  | .island i => d.islandLive i o
  | .job j => d.jobLive j o
  | .deckle => d.deckleLive o
  | .stack i => d.stackLive i o
  | .cport p => d.cportLive p o
  | .skim => d.skimLive o
  | .fabric => d.fabricLive o
  | .flash => d.flashLive o
  | .mgmt => d.mgmtLive o
  | .intc => d.intcLive o
  | .carb => d.carbLive o
  | .sys => d.sysLive o
  | .reset => s.resetLive o
  | .power => s.powerLive o
  | .trim => s.a.trim.live o
  | .sec => s.a.sec.live o
  | .debug => d.debugLive o

/-- The RW fields and the shadows of the CS fields of a register (00 Table 0-4). -/
def Die.stored (d : Die) (k : PageKind) (page o : Nat) : Word :=
  match regInfo k o with
  | none => 0
  | some r => (d.reg page o &&& r.rw) ||| (d.shadow page o &&& r.cs)

/-- The register lies on a disabled core's page and reads 0 (03 R95, 04 R132). -/
def Die.coreMuted (d : Die) (k : PageKind) (o : Nat) : Bool :=
  match k with
  | .core n => !d.enabled n && decide (0x100 ≤ o) && decide (o < 0x800)
  | _ => false

/-- Bits of a register that only a clock or an analog part shows: `WDT_STATUS.WARN` while the watchdog runs, and
`FL_STATUS.READY` (log 2). -/
def State.freeBits (s : State) (k : PageKind) (o : Nat) : Word :=
  match k, o with
  | .reset, 0x11C => if s.a.wdtRunning then 0x40000000 else 0
  | .flash, 0x100 => 0x80000000
  | _, _ => 0

/-- A sensor is read where the register shows one: `TEMP` of the halves and of a stack (log 2). What a stack's shows
agrees with its `HOT` and `WARM` (08 R247, R249). -/
def State.senseTemp (s : State) (k : PageKind) (o : Nat) : State :=
  match k, o with
  | .power, 0x120 =>
    let f := s.d.takeFreeW
    { s with d := f.1.updPw (fun p => { p with tempW := fld f.2 7 0, tempE := fld f.2 15 8 }) }
  | .stack i, 0x100 =>
    let f := s.d.takeFreeW
    { s with d := f.1.updStk i (fun t => { t with
        temp := if t.hot then 105 + fld f.2 7 0 % 151 else if t.warm then 85 + fld f.2 7 0 % 20 else fld f.2 7 0 % 85 }) }
  | _, _ => s

/-- A register at an offset from 0x100: what it reads as. -/
def State.regRead (s : State) (k : PageKind) (page o : Nat) : State × Word :=
  let s := s.senseTemp k o
  let v := (if s.d.coreMuted k o then 0 else s.d.stored k page o) ||| s.live k o
  let m := s.freeBits k o
  if m = 0 then (s, v)
  else
    let f := s.d.takeFreeW
    ({ s with d := f.1 }, v ||| (f.2 &&& m))

/-! ## Mailbox values (12 R368) -/

/-- The words of a 64-bit counter, low word first. -/
def dwords (c : DWord) : List Word := [word c.toNat, word (c.toNat / 2 ^ 32)]

/-- Half of the enabled-core map (00 R3). -/
def Die.enabledMap (d : Die) (hi : Bool) : List Word :=
  (List.range 64).map (fun w =>
    word (((List.range 32).map (fun b => bitAt (d.enabled ((if hi then 2048 else 0) + 32 * w + b)) b)).sum))

/-- `FEAT_OPC_MAP` (12 Table 12-12). -/
def opcMap : List Word :=
  (List.range 8).map (fun w => word (((List.range 32).map (fun b => bitAt (opcs.contains (32 * w + b)) b)).sum))

/-- A counter that only a clock or the wire advances (log 2). -/
def freeCounter (k : PageKind) (sel : Nat) : Bool :=
  match k with
  | .deckle => decide (0x100 ≤ sel) && decide (sel < 0x200)
  | .island _ => decide (sel = 9)
  | .stack _ => decide (sel = 0xB)
  | .fabric => decide (sel = 9)
  | .cport _ => decide (sel = 0xB)
  | .flash => decide (sel = 0xA)
  | .reset => decide (sel = 0x10) || decide (sel = 0x13)
  | .power => decide (sel = 3) || decide (sel = 5)
  | .mgmt => decide (sel = 9) || decide (sel = 0xA)
  | _ => false

/-- A generator's snapshot: its index and the four output words of the current draw (09 R281, R284). -/
def Die.genSnap (d : Die) (j g : Nat) : List Word :=
  let k := (j * 8 + g) * 4
  let lo := sget d.skimGen 0 (k + 2)
  let hi := sget d.skimGen 0 (k + 3)
  let p := fld (sget d.skimGen 0 k) 7 0
  let r := philox (d.skimW j 4).toNat (d.skimW j 5).toNat (lo.toNat, hi.toNat, 0, p * 2 ^ 24 + 2 ^ 23 + g)
  [lo, hi, word r.1, word r.2.1, word r.2.2.1, word r.2.2.2]

/-- `n` words of a byte string. -/
def byteWords (n : Nat) (bs : List Byte) : List Word := (List.range n).map (fun i => word (leNat ((bs.drop (4 * i)).take 4)))

/-- The four key-slot digests of a kind, slot 0 first. -/
def digestWords (l : List (List Byte)) : List Word := (List.range 4).flatMap (fun i => byteWords 8 (l.getD i []))

/-- A mailbox value that is not a counter; none for a counter or a value the page does not list. -/
def State.wideValue (s : State) (k : PageKind) (sel : Nat) : Option (List Word) :=
  let d := s.d
  let x := s.a.sec
  match k with
  | .sys => if sel = 0x10 then some (d.enabledMap false) else if sel = 0x12 then some (d.enabledMap true)
      else if sel = 0x11 then some opcMap else none
  | .core n => if sel = 0x10 then some (d.enabledMap false) else if sel = 0x12 then some (d.enabledMap true)
      else if d.enabled n = false ∧ sel < 0x40 then some [0, 0] else none
  | .mgmt => if sel = 0x10 then some (dwords (BitVec.ofNat 64 d.part.mac.toNat)) else none
  | .fabric => match sel with
    | 1 => some (dwords d.part.serial)
    | 2 => some (dwords (BitVec.ofNat 64 d.fab.best.1) ++ [word d.fab.best.2])
    | 3 => some (dwords d.fab.coordSerial)
    | 4 => some (word d.fab.pathLen :: byteWords 5 d.fab.path)
    | _ => none
  | .flash => if sel = 0x10 then some [word d.sg.logHead] else none
  | .sec => match sel with
    | 1 => some ((List.range 8).map x.measure)
    | 2 => some (byteWords 8 (leBytes 32 (Config.edPublic x.edSeed).toNat))
    | 3 => some (digestWords x.edDigests)
    | 4 => some (digestWords x.mlDigests)
    | _ => none
  | .skim => if 0x100 ≤ sel ∧ sel < 0x120 then some (dwords (d.skimJ (sel - 0x100)).step)
      else if 0x400 ≤ sel ∧ sel < 0x500 then some (d.genSnap ((sel - 0x400) / 8) (sel % 8)) else none
  | .trim => some []
  | _ => none

/-- Every word of the value a selector names; an unlisted one is a counter that never counts: 0. -/
def State.snapshot (s : State) (k : PageKind) (page sel : Nat) : State × List Word :=
  match s.wideValue k sel with
  | some l => (s, if l.length % 2 = 0 then l else l ++ [0])
  | none =>
    if freeCounter k sel then
      let f := s.d.takeFree
      ({ s with d := f.1 }, dwords f.2)
    else (s, dwords (s.d.ctrOf page sel))

/-! ## Words of the indirect spaces -/

/-- Frame state and page of a residency record, as the frame tags and tables show them. -/
def PState.code (x : PState) : Nat :=
  match x with
  | .absent => 0
  | .filling => 1
  | .resident => 2
  | .draining => 3

/-- The virtual page, or the shared id, that a frame's object is known by: its own key, or that of the page
released while in use. -/
def Die.objName (d : Die) (k : Nat) : Nat :=
  if k < 2 ^ 28 then k % 2 ^ 23 else if k < 2 ^ 29 then k - 2 ^ 28
  else match d.dk.former.find? (fun c => decide (c.2 = k)) with
    | some c => c.1 % 2 ^ 23
    | none => 0

/-- A frame tag (05 Table 5-12 space 6). -/
def Die.frameTag (d : Die) (f w : Nat) : Word :=
  let gen := sget d.fgen 0 f % 65536
  match d.frameObj f with
  | none => if w = 0 then packW [(16, gen)] else 0
  | some k => match d.obj k with
    | none => 0
    | some o => if w = 0 then packW [(16, gen), (8, o.charged % 32), (0, o.st.code)] else word (d.objName k)

/-- A word of the frame table but for the last reference (06 Table 6-9 space 0). -/
def Die.frameRow (d : Die) (f w : Nat) : Word :=
  match d.frameObj f with
  | none => 0
  | some k => match d.obj k with
    | none => 0
    | some o => match w with
      | 0 => packW [(30, o.st.code), (29, b2n o.dirty), (28, b2n (decide (2 ^ 28 ≤ k) && decide (k < 2 ^ 29))), (16, o.charged % 32),
          (0, o.refs % 65536)]
      | 1 => word (d.objName k)
      | 3 => word o.reqs
      | _ => 0

/-- A word of the region table (06 Table 6-9 space 1). -/
def Die.regionRow (d : Die) (r w : Nat) : Word :=
  match d.region r with
  | none => 0
  | some g => match w with
    | 0 => packW [(31, 1), (30, b2n (decide (g.x / 32 ≠ (g.x + g.w - 1) / 32))), (24, g.job % 32), (6, g.y % 64), (0, g.x % 64)]
    | 1 => packW [(8, g.h % 256), (0, g.w % 256)]
    | 2 => packW [(16, g.events % 8192), (0, g.evBase % 4096)]
    | _ => word (g.felts.length % 512)

/-- A word of the stream table (06 Table 6-9 space 3). -/
def Die.streamRow (d : Die) (x w : Nat) : Word :=
  let t := d.strm x
  match w with
  | 0 => packW [(31, b2n t.en), (0, t.job % 32)]
  | 1 => word (d.buffered x % 2 ^ 22)
  | 2 => word t.rate16
  | 4 => word (d.deficit x 0)
  | 5 => word (d.deficit x 1)
  | 6 => word (d.deficit x 2)
  | 7 => word (d.deficit x 3)
  | 8 => word (d.deficit x 4)
  | 9 => word (d.deficit x 5)
  | 10 => word (d.deficit x 6)
  | 11 => word (d.deficit x 7)
  | _ => 0

/-- The first word of a page entry (06 Table 6-4). -/
def entryHead (o : PObj) (hint : Nat) (shared : Bool) : Word :=
  packW [(30, o.st.code), (29, 1), (28, b2n o.dirty), (27, b2n o.stackValid), (24, hint % 8), (23, b2n shared),
    (0, if o.st = .absent then 0 else o.frame % 2 ^ 17)]

/-- A word of a job's page table (06 R180). -/
def Die.pageRow (d : Die) (j v w : Nat) : Word :=
  match d.page j v, (d.objKey j v).bind d.obj with
  | some p, some o => match w with
    | 0 => entryHead o p.hint p.shared.isSome
    | 1 => p.home
    | 2 => match p.shared with
      | some id => word (id % 4096)
      | none => packW [(20, o.stack % 8), (0, o.spage % 2 ^ 20)]
    | _ => packW [(16, o.refs % 65536), (0, p.uses % 65536)]
  | _, _ => 0

/-- A word of the shared table (06 Table 6-9 space 4). -/
def Die.sharedRow (d : Die) (id w : Nat) : Word :=
  match d.obj (2 ^ 28 + id) with
  | none => 0
  | some o => match w with
    | 0 => entryHead o (d.objHint (2 ^ 28 + id)) true
    | 1 => packW [(20, o.slice % 64), (14, o.slice / 64 % 64), (9, o.pref % 32), (8, 1), (0, o.stream % 256)]
    | 2 => packW [(20, o.stack % 8), (0, o.spage % 2 ^ 20)]
    | _ => packW [(16, o.refs % 65536), (0, o.maps % 65536)]

/-- A word of the barrier table (06 Table 6-12). -/
def Die.barRow (d : Die) (j b w : Nat) : Word :=
  let x := d.bar j b
  match w with
  | 0 => packW [(16, b2n x.waitWb), (0, x.hostExpect % 65536)]
  | 1 => word (d.barExpect j b % 65536)
  | 2 => packW [(16, x.held.length % 65536), (0, x.now.length % 65536)]
  | _ => x.gen

/-- First byte of a tile in its island's reducer memory: `BASE` within the region's share. -/
def Die.tileBase (d : Die) (i e : Nat) : Nat :=
  let t := d.rt i e
  fld t.w0 14 0 * 8 + (match d.region t.region with
    | some r => if r.w = 4 then 65536 * (e / 64) else 0
    | none => 0)

/-- A word of reducer memory (07 Table 7-11 space 1); a fallback's reserve is not shown (log 19). -/
def Die.redWord (d : Die) (i a : Nat) : Word :=
  let o := 4 * a
  match (List.range 256).find? (fun e =>
      let t := d.rt i e
      t.valid && decide (d.tileBase i e ≤ o) && decide (o < d.tileBase i e + t.bytes (bit t.w0 30))) with
  | none => 0
  | some e =>
    let t := d.rt i e
    let sz := if bit t.w0 30 then 24 else 40
    let p := o - d.tileBase i e
    if t.fallback then 0 else word (wideStored (sget t.elts {} (p / sz)) (bit t.w0 30) >>> (8 * (p % sz)))

/-- A word of the tile table (07 Table 7-11 space 2), with absolute entry and base. -/
def Die.tileRow (d : Die) (i e w : Nat) : Word :=
  let t := d.rt i e
  if t.valid = false then 0
  else match w with
    | 0 => setFld t.w0 14 0 (d.tileBase i e / 8)
    | 1 => setFld t.w1 7 0 e
    | 2 => t.w2
    | 3 => t.w3
    | 4 => packW [(31, b2n (decide (0 < t.delivering))), (0, t.count % 4096)]
    | _ => 0

/-- A word of the felt space (05 Table 5-6). -/
def Die.feltRow (d : Die) (i q w : Nat) : Word :=
  let x := d.feltQ i q
  if 64 ≤ w then sget d.feltMem 0 ((i * 256 + q) * 64 + (w - 64))
  else match w with
    | 0 => x.cfg
    | 1 => packW [(16, x.count % 128), (0, x.head % 64)]
    | 3 => x.drops
    | _ => 0

/-- A word of a job's Skim configuration and state (09 Table 9-9 space 0). -/
def Die.skimRow (d : Die) (j w : Nat) : Word :=
  let x := d.skimJ j
  match w with
  | 6 => packW [(20, x.cause % 16), (16, b2n (decide (x.notices ≠ 0))), (0, x.st % 8)]
  | 7 => x.norm
  | 8 => x.clip
  | 9 => word x.step.toNat
  | 10 => word (x.mbInStep % 65536)
  | 11 => word (min (2 ^ 32 - 1) x.fabPoisoned)
  | 12 => word (min (2 ^ 32 - 1) x.fabNonfin)
  | _ => d.skimW j w

/-- A word of an indirect space of a core page; `err` is an error met in the side band, which is
delivered as stored even where it is uncorrectable (05 R148, R164). -/
def Die.coreSpace (d : Die) (n sp a : Nat) (err : Option Bool) : Die × Option Word :=
  let g := n * 512 + a / 64
  if sp = 5 then
    let d := (d.hostReads g 32 err).1.count (pgCore n) 0x45
    (d, some (d.sideView g (a % 64)))
  else if sp = 6 then (d, some (d.frameTag (n * 32 + a / 2) (a % 2)))
  else if d.enabled n = false then (d, some 0)
  else
    let half (p : DWord) : Word := word (if a % 2 = 0 then p.toNat else p.toNat / 2 ^ 32)
    (d, some (match sp with
      | 0 => sget d.acc 0 (n * 32768 + a)
      | 1 => sget d.ftab 0 (n * 32768 + a)
      | 2 => sget d.stage 0 (n * 1024 + a)
      | 3 => half (sget d.pshad 0 (n * 128 + a / 2))
      | _ => half (d.preg n (a / 64 % 4) (a % 64 / 2))))

/-- Word `a` of space `sp` of a page, none when the block refuses the read. `err`: 05 R148, for a side band. -/
def State.indGet (s : State) (k : PageKind) (sp a : Nat) (err : Option Bool) : State × Option Word :=
  let d := s.d
  let x := s.a.sec
  match k with
  | .core n =>
    let r := d.coreSpace n sp a err
    ({ s with d := r.1 }, r.2)
  | .island i => (s, some (match sp with
    | 0 => sget d.evt 0 (i * 4096 + a)
    | 1 => d.redWord i a
    | 2 => d.tileRow i (a / 8) (a % 8)
    | 3 => sget d.nent 0 (coreAt (i % 8 * 8 + a / 96 % 8) (i / 8 * 8 + a / 768) * 96 + a % 96)
    | _ => d.feltRow i (a / 128) (a % 128)))
  | .deckle => match sp with
    | 0 =>
      if a % 4 = 2 ∧ (d.frameObj (a / 4)).isSome then
        let f := d.takeFreeW
        ({ s with d := f.1 }, some f.2)
      else (s, some (d.frameRow (a / 4) (a % 4)))
    | 1 => (s, some (d.regionRow (a / 4) (a % 4)))
    | 2 => (s, if a < 128 ∨ 256 ≤ a then some (sget d.poolT 0 a) else none)
    | 3 => (s, some (d.streamRow (a / 16) (a % 16)))
    | _ => (s, some (d.sharedRow (a / 4) (a % 4)))
  | .job j => (s, some (if sp = 0 then d.pageRow j (a / 4) (a % 4) else d.barRow j (a / 4) (a % 4)))
  | .stack i => (s, some (sget (d.stack i).chan 0 a))
  | .skim => (s, some (match sp with
    | 0 => d.skimRow (a / 16) (a % 16)
    | 1 => sget d.skimSlot 0 a
    | _ => sget d.skimGen 0 a))
  | .fabric => (s, some (match sp with
    | 0 => sget d.fab.route 0 a
    | 1 => sget d.fab.shadow 0 a
    | _ => d.commW (a / 8) (a % 8)))
  | .flash => (s, some (if sp = 0 then d.flW (a / 32) (a % 32) else sget d.flLog 0 a))
  | .mgmt =>
    let f := d.takeFreeW
    ({ s with d := f.1 }, some f.2)
  | .trim => (s, some ((if sp = 0 then s.a.trim.active else if sp = 1 then s.a.trim.copyA else s.a.trim.copyB).getD a 0))
  | .sec => (s, match sp with
    | 0 => some (word ((Config.mldsaPublic x.mlSeed).toNat >>> (32 * a)))
    | 1 => if x.attesting then none else some (sget x.report 0 a)
    | _ => some (sget x.nonce 0 a))
  | .debug => (s, match sp with
    | 0 => if d.inj.busy then none else some (sget d.injDesc 0 a)
    | 1 => some (sget d.trc 0 a)
    | 2 => if bit (d.trcCfg (a / 16384)) 31 ∧ d.frozen (a / 16384) = false then none else some (sget d.trRec 0 a)
    | _ => some (sget d.trSel 0 a))
  | _ => (s, none)

end Sys2Proof.Machine
end

