-- ==== Sys2Proof/Machine/QueueCmds.lean ====
section
/-!
DEFINITION. The descriptor queues as commands: window entry, descriptor fetch, completion, the queue
commands, and the island event tables (04).
-/

namespace Sys2Proof.Machine

/-! ## Window and cache (04 R116, R118) -/

/-- WINDOW_ENTRY (04 R116): up to four descriptors of queue `q` of core `n` enter. -/
def execWindowEntry (n q : Nat) (s : State) : Host.Outcome State Fault Refusal :=
  s.at_ (islOf n) (fun d => d.onCore n (fun d => d.enterMany n q 4))

/-- The next descriptor in ring order is not in the cache, and the queue can take it. -/
def Die.fetchDue (d : Die) (n q : Nat) : Bool :=
  let x := d.queue n q
  decide (x.st = .running) && !x.held && decide (x.entered < d.ringLen n q x.half) && (d.cachedLine n q x.entered).isNone

/-- The line that holds the next descriptor is read from stack memory, and comes in a circuit (04 R118, 08 R245). A flit
dropped at node `drop` of its route leaves the line to be fetched again (07 R218). -/
def Die.fetchLine (d : Die) (n q : Nat) (errs : List BurstErr) (drop : Option Nat) : Die :=
  let x := d.queue n q
  let first := x.entered / 4 * 4
  let a := d.ringBase n q x.half + 64 * first
  let st := a / 2 ^ 36
  let r : Die × List Nat := if (d.stack st).failed then (d, [a]) else d.readRange false a 256 errs
  let ws := d.mwords a 64
  let words := if !r.2.isEmpty then (List.range 64).map (fun i =>
      if i / 16 = x.entered % 4 then (if i % 16 = 0 then 0xFF else 0) else ws.getD i 0) else ws
  let l : CLine := { half := x.half, gen := if x.half then x.gen1 else x.gen0, first, words }
  let d := if r.2.isEmpty ∨ (d.stack st).failed then r.1 else r.1.count (pgStk st) 6
  let c := d.oneShotRun st n 4 drop
  if c.2 then c.1
  else Die.count { c.1 with dcache := sset c.1.dcache {} ((n * 4 + q) * 64 + x.entered / 4 % 64) l } (pgCore n) (0x28 + q)

/-- DESCRIPTOR_FETCH (04 R118): the missing line of queue `q` of core `n`, with the errors met. Nothing is fetched while the
stack takes no access; a failed stack ends the fetch as an uncorrectable line does (log 41). Without a circuit the fetch
waits (07 R222). -/
def execDescriptorFetch (n q : Nat) (errs : List BurstErr) (s : State) (drop : Option CoreNo := none) : Host.Outcome State Fault Refusal :=
  s.at_ (islOf n) (fun d => d.onCore n (fun d =>
    let st := d.ringBase n q (d.queue n q).half / 2 ^ 36
    if !d.fetchDue n q ∨ (d.stackClosed st ∧ !(d.stack st).failed) ∨
        !d.orderClear (d.ringBase n q (d.queue n q).half + 64 * ((d.queue n q).entered / 4 * 4)) 256 then d
    else if !d.oneShot st n none (fun _ => true) then (if d.mayOpen then d.count pgDk 0xB else d)
    else d.fetchLine n q errs (drop.map (fun v => v.val))))

/-! ## Completion (04 R119) -/

/-- The array has not taken up a descriptor's tile, or its transposing buffer still fills (03 R64, R74). -/
def Die.arrayPending (d : Die) (n q : Nat) (e : Infl) : Bool :=
  let c := d.core n
  decide (engineOf (dOpc e.d) = 1) &&
    ((match c.next with
      | some t => decide (t.by_ = { core := n, queue := q, id := e.id })
      | none => false) || (decide (dOpc e.d = opcOpaT) && decide (0 < c.tbuf)))

/-- A descriptor whose work is done completes. -/
def Die.completeAt (d : Die) (n q i : Nat) : Die :=
  match (d.queue n q).infl[i]? with
  | none => d
  | some e =>
    if (e.ran ∨ e.fault.isSome) ∧ e.left = 0 ∧ e.waits = false ∧ !d.arrayPending n q e then d.finish n q e e.status.1 e.status.2
    else d

/-- DESCRIPTOR_COMPLETE (04 R119): the descriptor at position `i` of those queue `q` of core `n` has in flight
(4: the injected one) runs if it still waited, and completes if its work is done. -/
def execDescriptorComplete (n q i : Nat) (errs : List VatErr) (s : State) : Host.Outcome State Fault Refusal :=
  s.at_ (islOf n) (fun d => d.onCore n (fun d =>
    match (d.queue n q).infl[i]? with
    | none => d
    | some e => (((d.runWaiting n q e errs).poolDrain n q e).peAll).completeAt n q i))

/-! ## Queue commands (04 R126-R130) -/

/-- Offset of `QCMD` of queue `q`. -/
def qcmdOff (q : Nat) : Nat := 0x420 + 0x80 * q

/-- A write of `QCMD` (04 R127): one bit, or the write is ignored and counted. -/
def Die.writeQcmd (d : Die) (n q : Nat) (v : Word) : Die :=
  d.onCore n (fun d => match fld v 7 0 with
    | 0 => d
    | 1 => d.qStart n q
    | 2 => d.qStop n q
    | 4 => d.qResume n q
    | 8 => d.qAbort n q
    | 16 => d.qReset n q
    | 32 => d.qFlip n q
    | 64 => d.qArm n q
    | 128 => d.qAck n q
    | _ => d.ignored n)

/-- START. -/
def execStart (ini n q : Nat) (s : State) : Host.Outcome State Fault Refusal :=
  s.cplD ini (pgCore n) (qcmdOff q) (fun d => d.onCore n (fun d => d.qStart n q))
/-- STOP. -/
def execStop (ini n q : Nat) (s : State) : Host.Outcome State Fault Refusal :=
  s.cplD ini (pgCore n) (qcmdOff q) (fun d => d.onCore n (fun d => d.qStop n q))
/-- RESUME. -/
def execResume (ini n q : Nat) (s : State) : Host.Outcome State Fault Refusal :=
  s.cplD ini (pgCore n) (qcmdOff q) (fun d => d.onCore n (fun d => d.qResume n q))
/-- ABORT. -/
def execAbort (ini n q : Nat) (s : State) : Host.Outcome State Fault Refusal :=
  s.cplD ini (pgCore n) (qcmdOff q) (fun d => d.onCore n (fun d => d.qAbort n q))
/-- RESET. -/
def execReset (ini n q : Nat) (s : State) : Host.Outcome State Fault Refusal :=
  s.cplD ini (pgCore n) (qcmdOff q) (fun d => d.onCore n (fun d => d.qReset n q))
/-- FLIP. -/
def execFlip (ini n q : Nat) (s : State) : Host.Outcome State Fault Refusal :=
  s.cplD ini (pgCore n) (qcmdOff q) (fun d => d.onCore n (fun d => d.qFlip n q))
/-- PREG_ARM. -/
def execPregArm (ini n q : Nat) (s : State) : Host.Outcome State Fault Refusal :=
  s.cplD ini (pgCore n) (qcmdOff q) (fun d => d.onCore n (fun d => d.qArm n q))
/-- ACK_IRQ. -/
def execAckIrq (ini n q : Nat) (s : State) : Host.Outcome State Fault Refusal :=
  s.cplD ini (pgCore n) (qcmdOff q) (fun d => d.onCore n (fun d => d.qAck n q))

/-! ## Events (04 R106-R109) -/

/-- A signal adds its increment to a counter of an island (04 R107), with its trace record. -/
def Die.addEvent (d : Die) (i ev inc : Nat) : Die :=
  let k := i * 4096 + ev % 4096
  Die.trace { d with evt := sset d.evt 0 k (sget d.evt 0 k + word inc) } i 3 (word (ev % 4096))

/-- EVENT_SIGNAL (04 R107): the first signal that has reached island `i`'s event table. -/
def execEventSignal (i : Nat) (s : State) : Host.Outcome State Fault Refusal :=
  s.at_ i (fun d =>
    match d.takeArr (islNode i) (fun m => match m.body with | .signal _ _ => true | _ => false) with
    | none => d
    | some (m, d) => match m.body with
      | .signal ev inc => (d.hear i m.s).addEvent i ev inc
      | _ => d)

end Sys2Proof.Machine
end

