-- ==== Sys2Proof/Machine/Bus.lean ====
section
/-!
DEFINITION. The register commands: writes and commits, mailboxes, indirect access and bit aliases (00 R10-R13,
12 R364-R370).
-/

namespace Sys2Proof.Machine

/-! ## Writes of register fields -/

/-- A host write to a configuration register of a queue is refused: that of a queue of a placed region, the base
of its inactive half apart (04 R98); the base of the active half, or of a flip target, of a queue that is not IDLE
or HALTED (04 R125). -/
def Die.refusesQueue (d : Die) (n o : Nat) : Bool :=
  let x := d.queue n ((o - 0x400) / 0x80)
  let r := o % 0x80
  let active := decide (x.half = decide (8 ≤ r))
  let rest := decide (x.st = .idle) || decide (x.st = .halted)
  if o < 0x400 ∨ 0x600 ≤ o ∨ d.enabled n = false then false
  else if r < 0x10 then (active && ((d.regionOf n).isSome || !rest)) || (!active && x.flip && !rest)
  else decide (r < 0x20) && (d.regionOf n).isSome

/-- A write to the register completes with a bus error (04 R98, R125, 05 R162, 06 R203, 08 R254, 12 R354, R365). -/
def Die.refusesField (d : Die) (k : PageKind) (ini o : Nat) : Bool :=
  match k with
  | .core n => decide (ini ≠ 17) && ((d.placingCore n && isCs (rkey (pgCore n) o)) || d.refusesQueue n o ||
      (decide (0x840 ≤ o) && decide (o < 0x880) && (d.regionOf n).isSome))
  | .deckle => decide (0x140 ≤ o) && decide (o < 0x180) && !(d.stackPages ((o - 0x140) / 8)).isEmpty
  | .stack s => decide (o = 0x108) && !(d.stackPages s).isEmpty
  | .mgmt => d.mgEn && [0x110, 0x114, 0x118, 0x130, 0x134, 0x138].contains o
  | _ => false

/-- Write the RW fields and the shadows of the CS fields of a register (00 Table 0-4). -/
def Die.writeField (d : Die) (k : PageKind) (page o : Nat) (v : Word) : Die :=
  match regInfo k o with
  | none => d
  | some r =>
    let d := if r.rw = 0 then d else d.setReg page o ((d.reg page o &&& ~~~r.rw) ||| (v &&& r.rw))
    if r.cs = 0 then d else d.setShadow page o (v &&& r.cs)

/-- The register is a WO trigger, or one whose write the block acts on at once: its effect. -/
def State.trigger (s : State) (k : PageKind) (ini o : Nat) (v : Word) : Option State :=
  let die (f : Die → Die) : Option State := some { s with d := f s.d }
  match k, o with
  | .core n, 0x108 => die (fun d => d.numClear n v)
  | .core n, 0x114 => die (fun d => d.ftabLoad n v)
  | .core n, 0x420 => die (fun d => d.writeQcmd n 0 v)
  | .core n, 0x4A0 => die (fun d => d.writeQcmd n 1 v)
  | .core n, 0x520 => die (fun d => d.writeQcmd n 2 v)
  | .core n, 0x5A0 => die (fun d => d.writeQcmd n 3 v)
  | .deckle, 0x10C => die (fun d => d.dkCmd v [])
  | .job j, 0x118 => die (fun d => d.jobCmd j v)
  | .job j, 0x11C => die (fun d => d.barWrite j v)
  | .island i, 0x108 => die (fun d => d.updIsl i (fun x => { x with err := x.err &&& (255 - fld v 7 0) }))
  | .stack i, 0x11C => die (fun d => if bit v 0 then d.updStk i (fun x => { x with errPend := false }) else d)
  | .skim, 0x10C => die (fun d => d.skimCmd v)
  | .fabric, 0x11C => die (fun d => d.fabCmd v)
  | .fabric, 0x124 => die (fun d => d.writeTxTail v [])
  | .cport p, 0x110 => die (fun d => d.cpErrClr p v)
  | .flash, 0x108 => die (fun d => d.updSg (fun x => { x with err := x.err &&& (3 - fld v 1 0) }))
  | .flash, 0x10C => die (fun d => (d.sgCmd (fld v 31 28) (fld v 4 0)).sgStep)
  | .flash, 0x14C => die (fun d => d.flXfer v)
  | .mgmt, 0x10C => die (fun d => d.mgErrClr v)
  | .sys, 0x13C => die (fun d => d.sysCmd v)
  | .reset, 0x108 => some (s.rstReq ini v)
  | .reset, 0x10C => some (s.rstCmd v)
  | .reset, 0x118 => some (s.wdtCmd v)
  | .reset, 0x128 => some (s.rstOvr ini v)
  | .power, 0x108 => some (s.pwrCmd ini v)
  | .power, 0x144 => some (s.modCmd v)
  | .sec, 0x10C => some (s.secCmd v)
  | .sec, 0x114 => some (s.hartGo v)
  | .debug, 0x104 => die (fun d => d.injCmd v)
  | .debug, 0x10C => die (fun d => d.trcCmd v)
  | .debug, 0x110 => die (fun d => d.trace 90 0xA v)
  | .debug, 0x11C => some (s.dbgBoot v [])
  | .intc, o =>
    let w := o % 0x80 / 4
    if 0x180 ≤ o ∧ o < 0x200 then die (fun d => d.imaskSet w v)
    else if 0x200 ≤ o ∧ o < 0x280 then die (fun d => d.imaskClr w v)
    else if 0x300 ≤ o ∧ o < 0x380 then die (fun d => d.ipendSet w v)
    else if 0x380 ≤ o ∧ o < 0x400 then die (fun d => d.ipendClr w v)
    else if 0x540 ≤ o ∧ o < 0x580 then some (s.eoi ((o - 0x540) / 4) v)
    else none
  | _, _ => none

/-- A write at an offset from 0x100 of a page. -/
def State.fieldWrite (s : State) (k : PageKind) (ini page o : Nat) (v : Word) : State :=
  if s.d.refusesField k ini o then s.respond .busError
  else if s.d.coreMuted k o then s
  else match s.trigger k ini o v with
    | some t => t
    | none => { s with d := s.d.writeField k page o v }

/-! ## Commits (12 R365) -/

/-- A write of 1 to `BLK_COMMIT` of a page. -/
def Die.commit (d : Die) (k : PageKind) (ini page : Nat) : Die :=
  if hasCs k = false then d
  else match k with
    | .core n =>
      if ini ≠ 17 ∧ d.placingCore n then d.refuse else (d.holdPlan n).commitPage page
    | .cport p =>
      let r := d.portCommit p
      r.1.updHdr page (fun h => { h with refused := r.2 })
    | .mgmt => (d.commitPage page).mgCommit
    | .job j => (d.commitPage page).updJob j (fun x => { x with pfBad := false })
    | _ => d.commitPage page

/-! ## The header (12 Table 12-8) -/

/-- A register of the common header that has no side effect when read. -/
def State.headRead (s : State) (k : PageKind) (page o : Nat) : Word :=
  let h := s.d.hd page
  let t := s.d.ist (pageIsland k)
  match o with
  | 0x00 => packW [(16, kindBase page), (0, page)]
  | 0x04 => 0x00010B00
  | 0x08 => packW [(16, indSpaces k), (8, intBits k), (2, b2n (decide (page < 0x1000))), (1, b2n (hasCs k)), (0, b2n (hasMbox k))]
  | 0x0C => packW [(3, b2n t.unstable), (2, b2n h.refused), (1, b2n t.isolated), (0, b2n t.inReset)]
  | 0x20 => s.d.reg page 0x20
  | 0x2C => s.intPend page
  | 0x30 => word (h.mbSel % 65536)
  | 0x34 => packW [(31, b2n h.mbValid), (16, h.mbWords.length % 128), (0, h.mbNext % 128)]
  | 0x38 => if h.mbValid then h.mbWords.getD h.mbNext 0 else 0
  | 0x40 => h.indAddr
  | 0x48 => word (h.indSpace % 16)
  | 0x4C => word (b2n h.lastErr)
  | _ => 0

/-- A write of `MBOX_SEL`: a snapshot of the value selected (12 R368). -/
def State.mailSelect (s : State) (k : PageKind) (page sel : Nat) : State :=
  let r := s.snapshot k page sel
  { r.1 with d := r.1.d.updHdr page (fun h => { h with mbSel := sel, mbWords := r.2, mbNext := 0, mbValid := !r.2.isEmpty }) }

/-- A read of `MBOX_DATA_HI` (12 R368). -/
def Die.mailHi (d : Die) (page : Nat) : Die :=
  let h := d.hd page
  if h.mbValid = false then d
  else (d.updHdr page (fun h => { h with mbNext := h.mbNext + 2, mbValid := decide (h.mbNext + 2 < h.mbWords.length) })).respond
    (.ok (h.mbWords.getD (h.mbNext + 1) 0).toNat)

/-! ## Indirect access (12 R369) -/

/-- The side band of a slice is written by the host (05 R159); none when the write is refused. -/
def Die.sideWrite (d : Die) (n a : Nat) (v : Word) (err : Option Bool) : Die × Bool :=
  let g := n * 512 + a / 64
  let w := a % 64
  if 48 ≤ w ∧ w < 61 then (d, true)
  else if d.hostWrites g = false then (d.count (pgCore n) 0x47, false)
  else
    let r := d.hostReads g 32 err
    if r.2 then (r.1.count (pgCore n) 0x47, false)
    else
      let d := r.1
      let was := (d.sheetPoison g).isSome
      let d := d.setSide g w (if w = 61 ∧ bit v 31 then setFld v 27 24 6 else v)
      let d := if w = 61 ∧ bit v 31 then (if was then d.lastPoisoned g 6 else d.notePoisoned g 6) else d
      ((d.dirtyFrame g).count (pgCore n) 0x46, true)

/-- A word of an indirect space of a core page is written; `false`: refused (03 R94, R95, 04 R133, 05 R164). -/
def Die.coreSpaceSet (d : Die) (n sp a : Nat) (v : Word) (err : Option Bool) : Die × Bool :=
  if sp = 5 then d.sideWrite n a v err
  else if sp = 1 ∨ sp = 6 ∨ d.enabled n = false then (d, false)
  else match sp with
    | 0 => if d.slotBound n (a / 1024) then (d, false) else ({ d with acc := sset d.acc 0 (n * 32768 + a) v }, true)
    | 2 => if (d.core n).swap.isSome then (d, false) else ({ d with stage := sset d.stage 0 (n * 1024 + a) v }, true)
    | 3 =>
      if a % 64 / 2 = 31 then (d, false)
      else
        let r := n * 128 + a / 2
        let p := (sget d.pshad 0 r).toNat
        let q := if a % 2 = 0 then p / 2 ^ 32 * 2 ^ 32 + v.toNat else p % 2 ^ 32 + v.toNat * 2 ^ 32
        ({ d with pshad := sset d.pshad 0 r (BitVec.ofNat 64 q) }, true)
    | _ => (d, true)

/-- A word of the pool table is written under R174 (06). A core whose frames 30 and 31 hold a page cannot become a
member (log 128). -/
def Die.poolSet (d : Die) (a : Nat) (v : Word) : Die × Bool :=
  let en (p : Nat) : Bool := bit (sget d.poolT 0 (p * 2)) 31
  if a < 128 then
    if a % 2 = 1 then (d, false)
    else if en (a / 2) ∧ (bit v 31 ∨ (d.poolOf (a / 2)).any (fun c => !(d.core c).pool.isEmpty)) then (d, false)
    else ({ d with poolT := sset d.poolT 0 a (v &&& 0x9F00FFFF) }, true)
  else if a < 256 then (d, false)
  else
    let w := sget d.poolT 0 a
    let c := fld v 11 0
    let named := (List.range 64).any (fun m =>
      let x := sget d.poolT 0 (256 + m)
      decide (256 + m ≠ a) && bit x 31 && decide (fld x 11 0 = c))
    if (bit w 31 ∧ en (fld w 29 24)) ∨
        (bit v 31 ∧ (en (fld v 29 24) ∨ d.enabled c = false ∨ (d.regionOf c).isSome ∨ d.placingCore c ∨ named ∨
          [30, 31].any (fun t => (d.frameObj (c * 32 + t)).isSome))) then (d, false)
    else ({ d with poolT := sset d.poolT 0 a (v &&& 0xBF000FFF) }, true)

/-- A word of the stream table is written (06 R204). -/
def Die.streamSet (d : Die) (x w : Nat) (v : Word) : Die × Bool :=
  if w ≠ 0 then (d, false)
  else if (d.strm x).en ∧ bit v 31 = false ∧ d.pages.any (fun c => match c.2 with
      | some p => decide (fld p.home 7 0 = x)
      | none => false) then (d, false)
  else (d.updStrm x (fun t => { t with en := bit v 31, job := fld v 4 0 }), true)

/-- A word of the felt space is written by the host (05 R157, Table 5-6): its effect, or refused. -/
def Die.feltSet (d : Die) (i q w : Nat) (v : Word) : Die × Bool :=
  let c := (d.feltQ i q).cfg
  match w with
  | 0 => if bit c 31 ∧ (v ^^^ c) &&& 0x1FBFFF00 ≠ 0 then (d, false)
      else (d.updFelt i q (fun x => { x with cfg := v &&& 0x9FBFFF00 }), true)
  | 2 => if bit c 31 then (d.feltPush i q v none, true) else (d, false)
  | _ => (d, true)

/-- The writable bits of a word of a job's Skim configuration (09 Table 9-9 space 0). -/
def skimMask (w : Nat) : Option Word :=
  match w with
  | 0 => some 0x6003FFFF
  | 1 => some 0xFFF
  | 2 => some 0xFFFFFFFF
  | 3 => some 0xFFFF
  | 4 => some 0xFFFFFFFF
  | 5 => some 0xFFFFFFFF
  | 13 => some 0xFFFFFFFF
  | 14 => some 0xFFFFFFFF
  | _ => none

/-- A word of a SKIM space is written (09 R283). -/
def Die.skimSet (d : Die) (sp a : Nat) (v : Word) : Die × Bool :=
  let off (j : Nat) : Bool := decide ((d.skimJ j).st = 0)
  match sp with
  | 0 => match skimMask (a % 16) with
    | none => (d, false)
    | some m => if off (a / 16) then ({ d with skimCfg := sset d.skimCfg 0 a (v &&& m) }, true) else (d, false)
  | 1 =>
    if a % 8 ≠ 0 ∨ !off (fld (sget d.skimSlot 0 a) 28 24) ∨ !off (fld v 28 24) then (d, false)
    else ({ d with skimSlot := sset d.skimSlot 0 a (v &&& 0x9F0FFFFF) }, true)
  | _ => match a % 4 with
    | 0 => ({ d with skimGen := sset d.skimGen 0 a (v &&& 0x800000FF) }, true)
    | 1 => (d, false)
    | _ => if bit (sget d.skimGen 0 (a - a % 4)) 31 then (d, false) else ({ d with skimGen := sset d.skimGen 0 a v }, true)

/-- The writable bits of a communicator word (10 Table 10-13). -/
def commMask (w : Nat) : Word :=
  match w with
  | 0 => 0xFC007FFF
  | 1 => 0x3FFF3FFF
  | 2 => 0xFFFFFFFE
  | 3 => 0xFFFF
  | 4 => 0xFFFF0000
  | _ => 0

/-- A collective of an entry is in flight (10 R320). -/
def Die.commBusy (d : Die) (c : Nat) : Bool :=
  (List.range 16).any (fun p =>
    let x := d.port p
    (match x.coll with
      | some y => decide (y.comm = c)
      | none => false) || x.waiting.any (fun y => decide (y.comm = c)))

/-- A word of a FABRIC space is written (10 R320). -/
def Die.fabricSet (d : Die) (sp a : Nat) (v : Word) : Die × Bool :=
  match sp with
  | 0 => (d, true)
  | 1 => (d.updFab (fun f => { f with shadow := sset f.shadow 0 a (v &&& routeMask) }), true)
  | _ =>
    if a < 8 ∨ (a % 8 < 4 ∧ d.commBusy (a / 8)) then (d, false)
    else
      let m := commMask (a % 8)
      ({ d with comms := sset d.comms 0 a ((sget d.comms 0 a &&& ~~~m) ||| (v &&& m)) }, true)

/-- The writable bits of a word of a job's securing configuration (11 Table 11-9). -/
def flMask (w : Nat) : Word :=
  match w with
  | 0 => 0xF8000000
  | 1 => 0x7FFFFF
  | 2 => 0x7FFFFF
  | 3 => 0x7FFFFF
  | 4 => 0xFFFF
  | 5 => 0xFFFF0000
  | 6 => 0xFFFF
  | 7 => 0x0FFF0FFF
  | 8 => 0xF0FFFFFF
  | 9 => 0
  | 10 => 0
  | 11 => 3
  | 14 => 0xFF
  | 15 => 0
  | _ => 0xFFFFFFFF

/-- A word of the FLASH space 0 is written (11 R344); a write of `PROT_STATE` is logged,
and one of 0 to `EN` clears `SECURE_DUE` of the job (11 R333). -/
def Die.flSet (d : Die) (j w : Nat) (v : Word) : Die × Bool :=
  if d.flPhase j ≠ 0 ∧ (w ≤ 8 ∨ 12 ≤ w) then (d, false)
  else
    let m := flMask w
    let d := d.setFlW j w ((d.flW j w &&& ~~~m) ||| (v &&& m))
    let d := if w = 0 ∧ bit v 31 = false then d.clearDue j else d
    (if w = 11 then d.sgLog 5 j (d.flVersion j) (fld v 1 0) else d, true)

/-- Word `a` of space `sp` of a page is written; `false` when the block refuses it. A word that is read-only, and
that no chapter refuses, takes no effect (00 Table 0-4). -/
def State.indSet (s : State) (k : PageKind) (sp a : Nat) (v : Word) (err : Option Bool) : State × Bool :=
  let d := s.d
  let die (r : Die × Bool) : State × Bool := ({ s with d := r.1 }, r.2)
  match k with
  | .core n => die (d.coreSpaceSet n sp a v err)
  | .island i => die (match sp with
    | 0 => if (d.evRanges [i]).any (fun r => decide (r.1 ≤ a) && decide (a < r.2)) then (d, false)
        else ({ d with evt := sset d.evt 0 (i * 4096 + a) v }, true)
    | 8 => d.feltSet i (a / 128) (a % 128) v
    | _ => (d, true))
  | .deckle => die (match sp with
    | 2 => d.poolSet a v
    | 3 => d.streamSet (a / 16) (a % 16) v
    | _ => (d, false))
  | .job j => die (if sp = 1 ∧ a % 4 = 0 then
      (d.updBar j (a / 4) (fun x => { x with waitWb := bit v 16, hostExpect := fld v 15 0 }), true) else (d, true))
  | .skim => die (d.skimSet sp a v)
  | .fabric => die (d.fabricSet sp a v)
  | .flash => die (if sp = 0 then d.flSet (a / 32) (a % 32) v else (d, true))
  | .sec =>
    if sp = 1 then (s, !s.a.sec.attesting)
    else if sp = 2 then
      if s.a.sec.attesting then (s, false) else (s.updSec (fun x => { x with nonce := sset x.nonce 0 a v }), true)
    else (s, true)
  | .debug => die (match sp with
    | 0 => if d.inj.busy then (d, false) else ({ d with injDesc := sset d.injDesc 0 a v }, true)
    | 1 => if a % 2 = 0 then ({ d with trc := sset d.trc 0 a ((sget d.trc 0 a &&& 0x20000000) ||| (v &&& 0xC000FFFF)) }, true) else (d, true)
    | 3 => ({ d with trSel := sset d.trSel 0 a (v &&& 0x800000FF) }, true)
    | _ => (d, true))
  | _ => (s, true)

/-- An access to `IND_DATA` ends: the address advances, or the error is kept. -/
def State.indEnd (s : State) (page : Nat) (ok : Bool) (v : Nat) : State :=
  if ok then
    { s with d := (s.d.updHdr page (fun h => { h with indAddr := h.indAddr + 1, lastErr := false })).respond (.ok v) }
  else { s with d := (s.d.updHdr page (fun h => { h with lastErr := true })).refuse }

/-- An access to `IND_DATA`: a read, or a write of a word. -/
def State.indAccess (s : State) (k : PageKind) (page : Nat) (wr : Option Word) (err : Option Bool) : State :=
  let h := s.d.hd page
  let a := h.indAddr.toNat
  if spaceLen k h.indSpace ≤ a then s.indEnd page false 0
  else match wr with
    | some v =>
      let r := s.indSet k h.indSpace a v err
      r.1.indEnd page r.2 0
    | none =>
      let r := s.indGet k h.indSpace a err
      match r.2 with
      | none => r.1.indEnd page false 0
      | some v => r.1.indEnd page true v.toNat

/-! ## Any access to a page -/

/-- A read of an offset of a page by requester `ini`; `err` as for a side band. -/
def State.pageRead (s : State) (k : PageKind) (page o : Nat) (err : Option Bool) : State :=
  if o < 0x100 then
    if o = 0x3C then { s with d := s.d.mailHi page }
    else if o = 0x44 then s.indAccess k page none err
    else s.respond (.ok (s.headRead k page o).toNat)
  else if k = .intc ∧ 0x500 ≤ o ∧ o < 0x540 then { s with d := s.d.claim ((o - 0x500) / 4) }
  else
    let r := s.regRead k page o
    r.1.respond (.ok r.2.toNat)

/-- A write of an offset of a page. -/
def State.pageWrite (s : State) (k : PageKind) (ini page o : Nat) (v : Word) (err : Option Bool) : State :=
  if o < 0x100 then
    match o with
    | 0x1C => if bit v 0 then { s with d := s.d.commit k ini page } else s
    | 0x20 => { s with d := s.d.setReg page 0x20 v }
    | 0x24 => { s with d := s.d.setReg page 0x20 (s.d.reg page 0x20 ||| v) }
    | 0x28 => { s with d := s.d.setReg page 0x20 (s.d.reg page 0x20 &&& ~~~v) }
    | 0x30 => s.mailSelect k page (fld v 15 0)
    | 0x40 => { s with d := s.d.updHdr page (fun h => { h with indAddr := v }) }
    | 0x44 => s.indAccess k page (some v) err
    | 0x48 => { s with d := s.d.updHdr page (fun h => { h with indSpace := fld v 3 0 }) }
    | _ => s
  else s.fieldWrite k ini page o v

/-- An aligned 32-bit access to a page that its guard has let pass. -/
def State.pageAccess (s : State) (ini page o : Nat) (wr : Option Word) (err : Option Bool) : State :=
  match pageKind page with
  | none => s.respond .busError
  | some k => match wr with
    | none => s.pageRead k page o err
    | some v => s.pageWrite k ini page o v err

/-- An access of `size` bytes at byte offset `o` of a page: aligned 32-bit ones only (00 R13). -/
def State.sized (s : State) (ini page o size : Nat) (f : State → State) : Host.Outcome State Fault Refusal :=
  if size = 4 ∧ o % 4 = 0 then s.cpl ini page o f else s.cpl ini page o (fun s => s.respond .busError)

/-- REGISTER_WRITE (00 R10, R13). -/
def execRegisterWrite (ini page o size : Nat) (v : Word) (s : State) : Host.Outcome State Fault Refusal :=
  s.sized ini page o size (fun s => s.pageAccess ini page o (some v) none)

/-- A register is read (00 R10, R13): the read side of REGISTER_WRITE's row. -/
def State.readReg (s : State) (ini page o size : Nat) : Host.Outcome State Fault Refusal :=
  s.sized ini page o size (fun s => s.pageAccess ini page o none none)

/-- BLK_COMMIT (12 R365). -/
def execBlkCommit (ini page : Nat) (s : State) : Host.Outcome State Fault Refusal :=
  s.cpl ini page 0x1C (fun s => s.pageAccess ini page 0x1C (some 1) none)

/-- MBOX_SEL (12 R368). -/
def execMboxSel (ini page sel : Nat) (s : State) : Host.Outcome State Fault Refusal :=
  s.cpl ini page 0x30 (fun s => s.pageAccess ini page 0x30 (some (word sel)) none)

/-- MBOX_DATA_HI (12 R368). -/
def execMboxDataHi (ini page : Nat) (s : State) : Host.Outcome State Fault Refusal :=
  s.cpl ini page 0x3C (fun s => s.pageAccess ini page 0x3C none none)

/-- IND_DATA (12 R369): a read, or a write of a word; `err` as for a side band (05 R158, R159). -/
def execIndData (ini page : Nat) (wr : Option Word) (err : Option Bool) (s : State) : Host.Outcome State Fault Refusal :=
  s.cpl ini page 0x44 (fun s => s.pageAccess ini page 0x44 wr err)

/-! ## Bit aliases (12 R370) -/

/-- A read-modify-write of one bit of a register has the effect that a write of the bit alone would have: the RW
and CS fields keep their other bits, a WO field sees only this bit. -/
def State.aliasWord (s : State) (k : PageKind) (page o b : Nat) (v : Bool) : Word :=
  let keep := if o = 0x20 then s.d.reg page 0x20
    else if o = 0x30 then word (s.d.hd page).mbSel
    else if o = 0x40 then (s.d.hd page).indAddr
    else if o = 0x48 then word (s.d.hd page).indSpace
    else s.d.stored k page o
  setFld keep b b (b2n v)

/-- The alias has no access to this register: a snapshot's data, `IND_DATA`, or `CLAIM`. -/
def noAlias (k : PageKind) (o : Nat) : Bool :=
  decide (o = 0x38) || decide (o = 0x3C) || decide (o = 0x44) || (k == .intc && decide (0x500 ≤ o) && decide (o < 0x540))

/-- A bit that a write can set: of an RW, CS or WO field (00 Table 0-4). -/
def writableBit (k : PageKind) (o b : Nat) : Bool :=
  let rw := match regInfo k o with
    | some r => bit (r.rw ||| r.cs) b
    | none => false
  let head := match o with
    | 0x1C => decide (b = 0)
    | 0x24 => true
    | 0x28 => true
    | 0x30 => decide (b < 16)
    | 0x40 => true
    | 0x48 => decide (b < 4)
    | _ => false
  rw || head || decide (0x100 ≤ o) && (regInfo k o).isNone

/-- An access to bit `b` of the register at offset `o`; a 0 written to a WO field does nothing. -/
def State.bitAccess (s : State) (ini page o b : Nat) (wr : Option Bool) : State :=
  match pageKind page with
  | none => s.respond .busError
  | some k =>
    if noAlias k o then s.respond .busError
    else match wr with
      | none =>
        let t := s.pageRead k page o none
        (match t.d.resp with
          | .ok v => t.respond (.ok (b2n (v.testBit b)))
          | _ => t)
      | some v =>
        let trig := decide (0x100 ≤ o) && (regInfo k o).isNone
        if writableBit k o b ∧ (v ∨ !trig) then s.pageWrite k ini page o (s.aliasWord k page o b v) none else s

/-- BIT_ALIAS (12 R370): byte `a` of the alias window, a read or a write of a word; any other size or alignment ends
with a bus error (00 R13). A window word whose register offset is no multiple of 4 is unassigned. -/
def execBitAlias (ini a : Nat) (wr : Option Word) (s : State) (size : Nat := 4) : Host.Outcome State Fault Refusal :=
  let w := a / 4
  let page := w / 32 / 4096
  let o := w / 32 % 4096
  s.cpl ini page (o - o % 4) (fun s =>
    if size ≠ 4 ∨ a % 4 ≠ 0 then s.respond .busError
    else if o % 4 = 0 then s.bitAccess ini page o (w % 32) (wr.map (fun v => bit v 0)) else s)

end Sys2Proof.Machine
end

