-- ==== Sys2Proof/Machine/DebugPort.lean ====
section
/-!
DEFINITION. The debug port and the host harts' debug module: accesses to the device address map as requester 16
(12 Table 12-5, 14 R424-R426; the debug module's registers: log 47).
-/

namespace Sys2Proof.Machine

/-! ## The device address map (12 R356) -/

/-- The state an access ends in. -/
def State.after (s : State) (o : Host.Outcome State Fault Refusal) : State :=
  match o with
  | .next t => t
  | _ => s

/-- An access to the boot ROM, whose contents the specification does not give: a read answers a free value
(log 54), a write a bus error. -/
def State.romAccess (s : State) (size : Nat) (wr : Option Nat) : State :=
  match wr with
  | some _ => s.respond .busError
  | none =>
    let f := s.d.takeFree
    ({ s with d := f.1 } : State).respond (.ok (f.2.toNat % 2 ^ (8 * size)))

/-- An access to retained memory. -/
def State.retAccess (s : State) (addr size : Nat) (wr : Option Nat) : State :=
  match wr with
  | some v => { s with d := (s.d.setBytes addr (leBytes size v)).respond (.ok 0) }
  | none => s.respond (.ok (leNat (s.d.bytes addr size)))

/-- An access of the debug port or of the debug module's system bus to a device address. `n` and `mis` tell of
symbols in error in a stack's burst, `err` of an error in a Vat line, `drop` of a flit lost on the way to the Vat. -/
def State.mapAccess (s : State) (addr size : Nat) (wr : Option Nat) (n mis : Nat) (err : Option Bool) (drop : Option CoreNo) : State :=
  let ini := iniDebug
  if addr < stackEnd then s.after (execStackAccess (addr / 2 ^ 36) ini (addr % 2 ^ 36) size wr n mis s)
  else if vatBase ≤ addr ∧ addr < vatBase + 2 ^ 33 then
    match wr with
    | none => s.after (execVatWindowRead ini (addr - vatBase) size err s drop)
    | some v => s.after (execVatWindowWrite ini (addr - vatBase) size v err s drop)
  else if 0x020000000000 ≤ addr ∧ addr < 0x020004000000 then
    let page := addr / 4096 % 16384
    let o := addr % 4096
    s.after (s.sized ini page o size (fun s => s.pageAccess ini page o (wr.map word) err))
  else if 0x020800000000 ≤ addr ∧ addr < 0x020880000000 then
    s.after (execBitAlias ini (addr % 2 ^ 31) (wr.map word) s size)
  else if 0x030000000000 ≤ addr ∧ addr < 0x030000050000 then
    if s.d.planeClosed ini 0 ∨ addr % size ≠ 0 then (s.transfer ini).respond .busError
    else if addr < retBase then (s.transfer ini).romAccess size wr
    else (s.transfer ini).retAccess addr size wr
  else (s.transfer ini).respond .busError

/-- The island a waiting access to an address waits for. -/
def waitIsland (addr : Nat) : Nat :=
  if addr < stackEnd then 64 + addr / 2 ^ 36 else islOf ((addr - vatBase) / 2 ^ 21)

/-! ## The debug port (14 R426) -/

/-- Update-DR of DBGPORT: `size` is the 2-bit size code. An access the arbiter has not granted has not ended (12 R358). -/
def State.dbgAccess (s : State) (op size addr : Nat) (data : DWord) (n mis : Nat) (err : Option Bool) (drop : Option CoreNo) : State :=
  if (op ≠ 1 ∧ op ≠ 2) ∨ s.a.tap.status = 1 ∨ s.d.hasGrant iniDebug = false then s
  else
    let sz := 2 ^ (size % 4)
    let wr := if op = 2 then some (data.toNat % 2 ^ (8 * sz)) else none
    let t : State := s.mapAccess addr sz wr n mis err drop
    (t.updAon (fun a => { a with tap := { a.tap with addr, waits := waitIsland addr } })).tapTake

/-- DBGPORT_ACCESS (14 R426): takes place while DBGPORT is selected. -/
def execDbgportAccess (op size addr : Nat) (data : DWord) (n mis : Nat) (err : Option Bool) (s : State) (drop : Option CoreNo := none) :
    Host.Outcome State Fault Refusal :=
  .next (if s.a.tap.ir = 0x10 then s.dbgAccess op size addr data n mis err drop else s)

/-! ## The debug module (14 R425, R426; log 47) -/

/-- A register of the debug module as last written. -/
def Tap.dmReg (t : Tap) (a : Nat) : Word := sget t.dm 0 a

/-- Write a register of the debug module. -/
def Tap.setDm (t : Tap) (a : Nat) (v : Word) : Tap := { t with dm := sset t.dm 0 a v }

/-- The hart `dmcontrol` selects. -/
def Tap.hartsel (t : Tap) : Nat := fld (t.dmReg 0x10) 15 6 * 1024 + fld (t.dmReg 0x10) 25 16

/-- `dmstatus`; `up` says that the host island runs. -/
def Tap.dmstatus (t : Tap) (up : Bool) : Word :=
  let h := t.hartsel
  let nex := decide (16 ≤ h)
  let unav := !nex && !up
  let halt := !nex && up && t.halted.testBit h
  let run := !nex && up && !t.halted.testBit h
  let ack := !nex && t.resumed.testBit h
  packW [(17, 3 * b2n ack), (14, 3 * b2n nex), (12, 3 * b2n unav), (10, 3 * b2n run), (8, 3 * b2n halt), (7, 1), (0, 3)]

/-- Put the bits of a mask into a number, or take them out. -/
def maskBit (x i : Nat) (v : Bool) : Nat := if x.testBit i = v then x else if v then x + 2 ^ i else x - 2 ^ i

/-- A write of `dmcontrol`: a halt request takes the selected hart into debug mode; a resume request resumes it, and
a hart with `dcsr.step` set comes back into debug mode after one instruction (14 R424). -/
def State.dmControl (s : State) (v : Word) : State :=
  let s := s.updAon (fun a => { a with tap := a.tap.setDm 0x10 (v &&& 0x07FFFFC1) })
  let t := s.a.tap
  let h := t.hartsel
  if bit v 0 = false then s.updAon (fun a => { a with tap := { a.tap with dm := [] } })
  else if 16 ≤ h ∨ s.d.live 88 = false then s
  else if bit v 31 then
    let s := if t.halted.testBit h then s else s.updSec (fun x => { x with debugSeen := true })
    s.updAon (fun a => { a with tap := { a.tap with halted := maskBit t.halted h true } })
  else if bit v 30 ∧ t.halted.testBit h then
    let s := if t.step.testBit h then s.updSec (fun x => { x with debugSeen := true }) else s
    s.updAon (fun a => { a with tap := { a.tap with halted := maskBit t.halted h (t.step.testBit h), resumed := maskBit t.resumed h true } })
  else s

/-- A write of `command`: abstract register access to a halted hart. The harts' registers are not part of the die's
state: a read answers free values in `data0` and `data1`; of the writes, that of `dcsr` is kept for its `step` bit. -/
def State.dmCommand (s : State) (v : Word) : State :=
  let t := s.a.tap
  let h := t.hartsel
  let err (e : Nat) : State :=
    s.updAon (fun a => { a with tap := a.tap.setDm 0x16 (setFld (a.tap.dmReg 0x16) 10 8 e) })
  if fld (t.dmReg 0x16) 10 8 ≠ 0 then s
  else if fld v 31 24 ≠ 0 ∨ fld v 22 20 < 2 ∨ 3 < fld v 22 20 then err 2
  else if 16 ≤ h ∨ s.d.live 88 = false ∨ !t.halted.testBit h then err 4
  else if bit v 17 = false then s
  else if bit v 16 then
    if fld v 15 0 = 0x7B0 then
      s.updAon (fun a => { a with tap := { a.tap with step := maskBit a.tap.step h (bit (a.tap.dmReg 0x04) 2) } })
    else s
  else
    let f := s.d.takeFree
    let w := f.2.toNat
    let t := (t.setDm 0x04 (word w)).setDm 0x05 (if fld v 22 20 = 3 then word (w / 2 ^ 32) else t.dmReg 0x05)
    { s with d := f.1, a := { s.a with tap := t } }

/-- A system-bus access of the debug module: at `sbaddress`, of the size in `sbcs`. -/
def State.sbAccess (s : State) (wr : Bool) (n mis : Nat) (err : Option Bool) (drop : Option CoreNo) : State :=
  let t := s.a.tap
  let c := t.dmReg 0x38
  let sz := 2 ^ fld c 19 17
  let addr := (t.dmReg 0x39).toNat + (t.dmReg 0x3A).toNat * 2 ^ 32
  let fail (e : Nat) : State := s.updAon (fun a => { a with tap := a.tap.setDm 0x38 (setFld c 14 12 e) })
  if fld c 14 12 ≠ 0 ∨ s.d.hasGrant iniDebug = false then s
  else if 8 < sz then fail 4
  else if addr % sz ≠ 0 then fail 3
  else
    let v := (t.dmReg 0x3C).toNat + (t.dmReg 0x3D).toNat * 2 ^ 32
    let u := s.mapAccess addr sz (if wr then some (v % 2 ^ (8 * sz)) else none) n mis err drop
    match u.d.resp with
    | .ok x =>
      u.updAon (fun a =>
        let t := if wr then a.tap else (a.tap.setDm 0x3C (word x)).setDm 0x3D (word (x / 2 ^ 32))
        let nx := addr + sz
        { a with tap := if bit c 16 then (t.setDm 0x39 (word nx)).setDm 0x3A (word (nx / 2 ^ 32)) else t })
    | _ => u.updAon (fun a => { a with tap := a.tap.setDm 0x38 (setFld c 14 12 7) })

/-- A register of the debug module is read. -/
def Tap.dmRead (t : Tap) (up : Bool) (a : Nat) : Word :=
  if a = 0x11 then t.dmstatus up
  else if a = 0x16 then packW [(24, 8), (8, fld (t.dmReg 0x16) 10 8), (0, 2)]
  else if a = 0x38 then (t.dmReg 0x38 &&& 0x001FF000) ||| 0x2000060F
  else if a = 4 ∨ a = 5 ∨ a = 0x10 ∨ (0x20 ≤ a ∧ a < 0x28) ∨ a = 0x39 ∨ a = 0x3A ∨ a = 0x3C ∨ a = 0x3D then t.dmReg a
  else 0

/-- A register of the debug module is written. -/
def State.dmWrite (s : State) (a : Nat) (v : Word) (n mis : Nat) (err : Option Bool) (drop : Option CoreNo) : State :=
  let keep (w : Word) : State := s.updAon (fun x => { x with tap := x.tap.setDm a w })
  if a = 0x10 then s.dmControl v
  else if bit (s.a.tap.dmReg 0x10) 0 = false then s
  else if a = 0x16 then keep (setFld (s.a.tap.dmReg 0x16) 10 8 (fld (s.a.tap.dmReg 0x16) 10 8 &&& (7 - fld v 10 8)))
  else if a = 0x17 then s.dmCommand v
  else if a = 0x38 then
    let e := fld (s.a.tap.dmReg 0x38) 14 12 &&& (7 - fld v 14 12)
    keep (setFld (v &&& 0x001F8000) 14 12 e)
  else if a = 0x39 then
    let s := keep v
    if bit (s.a.tap.dmReg 0x38) 20 then s.sbAccess false n mis err drop else s
  else if a = 0x3C then (keep v).sbAccess true n mis err drop
  else if a = 4 ∨ a = 5 ∨ (0x20 ≤ a ∧ a < 0x28) ∨ a = 0x3A ∨ a = 0x3D then keep v
  else s

/-- Update-DR of DMI: operation 1 reads a register, 2 writes one. -/
def State.dmiAccess (s : State) (op a : Nat) (v : Word) (n mis : Nat) (err : Option Bool) (drop : Option CoreNo) : State :=
  let up := s.d.live 88
  let s := s.updAon (fun x => { x with tap := { x.tap with dmiAddr := a, dmiOp := if op = 3 then 2 else 0 } })
  if op = 1 then
    let r := if bit (s.a.tap.dmReg 0x10) 0 ∨ a = 0x10 then s.a.tap.dmRead up a else 0
    let s := s.updAon (fun x => { x with tap := { x.tap with dmiData := r } })
    if a = 0x3C ∧ bit (s.a.tap.dmReg 0x38) 15 then s.sbAccess false n mis err drop else s
  else if op = 2 then (s.updAon (fun x => { x with tap := { x.tap with dmiData := v } })).dmWrite a v n mis err drop
  else s

/-- DMI_ACCESS (14 R425, R426): takes place while DMI is selected. -/
def execDmiAccess (op a : Nat) (v : Word) (n mis : Nat) (err : Option Bool) (s : State) (drop : Option CoreNo := none) :
    Host.Outcome State Fault Refusal :=
  .next (if s.a.tap.ir = 0x11 then s.dmiAccess op a v n mis err drop else s)

end Sys2Proof.Machine
end

