-- ==== Sys2Proof/Machine/Dispatch.lean ====
section
/-!
DEFINITION. The dispatch: one arm for each command, one meaning for each arm.
-/

namespace Sys2Proof.Machine

def exec (i : Instr) (s : State) : Host.Outcome State Fault Refusal :=
  match i with
  | .registerWrite ini page o size v => Sys2Proof.Machine.execRegisterWrite ini page o size v s
  | .blkCommit ini page => Sys2Proof.Machine.execBlkCommit ini page s
  | .mboxSel ini page sel => Sys2Proof.Machine.execMboxSel ini page sel s
  | .mboxDataHi ini page => Sys2Proof.Machine.execMboxDataHi ini page s
  | .indData ini page wr err => Sys2Proof.Machine.execIndData ini page wr err s
  | .bitAlias ini a wr size => Sys2Proof.Machine.execBitAlias ini a wr s size
  | .windowEntry n q => Sys2Proof.Machine.execWindowEntry n q s
  | .descriptorFetch n q errs drop => Sys2Proof.Machine.execDescriptorFetch n q errs s drop
  | .nop n => Sys2Proof.Machine.execNop n s
  | .barrier n => Sys2Proof.Machine.execBarrier n s
  | .signal n => Sys2Proof.Machine.execSignal n s
  | .opa n errs => Sys2Proof.Machine.execOpa n errs s
  | .opaT n errs => Sys2Proof.Machine.execOpaT n errs s
  | .loadacc n errs => Sys2Proof.Machine.execLoadacc n errs s
  | .drain n errs => Sys2Proof.Machine.execDrain n errs s
  | .matvec n errs => Sys2Proof.Machine.execMatvec n errs s
  | .vec n errs => Sys2Proof.Machine.execVec n errs s
  | .tableApply n errs => Sys2Proof.Machine.execTableApply n errs s
  | .copy n errs => Sys2Proof.Machine.execCopy n errs s
  | .convert n errs => Sys2Proof.Machine.execConvert n errs s
  | .rngFill n errs => Sys2Proof.Machine.execRngFill n errs s
  | .reduce n errs => Sys2Proof.Machine.execReduce n errs s
  | .skimPart n errs => Sys2Proof.Machine.execSkimPart n errs s
  | .update n errs => Sys2Proof.Machine.execUpdate n errs s
  | .gather n told => Sys2Proof.Machine.execGather n told s
  | .coll n told => Sys2Proof.Machine.execColl n told s
  | .swapTokenEntry n => Sys2Proof.Machine.execSwapTokenEntry n s
  | .flushToken n => Sys2Proof.Machine.execFlushToken n s
  | .tbufHalfFill n => Sys2Proof.Machine.execTbufHalfFill n s
  | .matvecPassEnd n errs => Sys2Proof.Machine.execMatvecPassEnd n errs s
  | .bpoolRequest c n q ix errs => Sys2Proof.Machine.execBpoolRequest c n q ix errs s
  | .bpoolTimeout c => Sys2Proof.Machine.execBpoolTimeout c s
  | .numClear ini n => Sys2Proof.Machine.execNumClear ini n s
  | .ftabSwapRequest ini n => Sys2Proof.Machine.execFtabSwapRequest ini n s
  | .ftabSwap n => Sys2Proof.Machine.execFtabSwap n s
  | .descriptorComplete n q ix errs => Sys2Proof.Machine.execDescriptorComplete n q ix errs s
  | .start ini n q => Sys2Proof.Machine.execStart ini n q s
  | .stop ini n q => Sys2Proof.Machine.execStop ini n q s
  | .resume ini n q => Sys2Proof.Machine.execResume ini n q s
  | .abort ini n q => Sys2Proof.Machine.execAbort ini n q s
  | .reset ini n q => Sys2Proof.Machine.execReset ini n q s
  | .flip ini n q => Sys2Proof.Machine.execFlip ini n q s
  | .pregArm ini n q => Sys2Proof.Machine.execPregArm ini n q s
  | .ackIrq ini n q => Sys2Proof.Machine.execAckIrq ini n q s
  | .eventSignal ix => Sys2Proof.Machine.execEventSignal ix s
  | .vatWindowRead ini off size err drop => Sys2Proof.Machine.execVatWindowRead ini off size err s drop
  | .vatWindowWrite ini off size v err drop => Sys2Proof.Machine.execVatWindowWrite ini off size v err s drop
  | .vatWindowTimeout ini off => Sys2Proof.Machine.execVatWindowTimeout ini off s
  | .patrolScrub n err => Sys2Proof.Machine.execPatrolScrub n err s
  | .feltPush ix => Sys2Proof.Machine.execFeltPush ix s
  | .feltPushBuffer ix => Sys2Proof.Machine.execFeltPushBuffer ix s
  | .push ini ix q v => Sys2Proof.Machine.execPush ini ix q v s
  | .place ini es => Sys2Proof.Machine.execPlace ini es s
  | .slotPlanLoad => Sys2Proof.Machine.execSlotPlanLoad s
  | .remove ini => Sys2Proof.Machine.execRemove ini s
  | .pages ini es => Sys2Proof.Machine.execPages ini es s
  | .declare => Sys2Proof.Machine.execDeclare s
  | .setHint => Sys2Proof.Machine.execSetHint s
  | .release => Sys2Proof.Machine.execRelease s
  | .share => Sys2Proof.Machine.execShare s
  | .writeback => Sys2Proof.Machine.execWriteback s
  | .cmdAck ini => Sys2Proof.Machine.execCmdAck ini s
  | .homeFrameTaken k => Sys2Proof.Machine.execHomeFrameTaken k s
  | .fillDone k told => Sys2Proof.Machine.execFillDone k told s
  | .zeroFillDone k => Sys2Proof.Machine.execZeroFillDone k s
  | .drainDone k => Sys2Proof.Machine.execDrainDone k s
  | .writebackDone k told => Sys2Proof.Machine.execWritebackDone k told s
  | .stackGrant n => Sys2Proof.Machine.execStackGrant n s
  | .rateWindow => Sys2Proof.Machine.execRateWindow s
  | .spillIdleWriteback k => Sys2Proof.Machine.execSpillIdleWriteback k s
  | .prefetchRequest j es => Sys2Proof.Machine.execPrefetchRequest j es s
  | .pfWalkResume j => Sys2Proof.Machine.execPfWalkResume j s
  | .pfAdvance ini j => Sys2Proof.Machine.execPfAdvance ini j s
  | .pfReset ini j => Sys2Proof.Machine.execPfReset ini j s
  | .enable ini j => Sys2Proof.Machine.execEnable ini j s
  | .retire ini j => Sys2Proof.Machine.execRetire ini j s
  | .jobAbort ini j => Sys2Proof.Machine.execJobAbort ini j s
  | .abortingClear j => Sys2Proof.Machine.execAbortingClear j s
  | .barArrive ini j b => Sys2Proof.Machine.execBarArrive ini j b s
  | .barrierRelease j b => Sys2Proof.Machine.execBarrierRelease j b s
  | .deckleReady => Sys2Proof.Machine.execDeckleReady s
  | .lathFlit n port bad slot => Sys2Proof.Machine.execLathFlit n port bad s slot
  | .violation n => Sys2Proof.Machine.execViolation n s
  | .crossingExit n port bad => Sys2Proof.Machine.execCrossingExit n port s bad
  | .seamCredit row west => Sys2Proof.Machine.execSeamCredit row west s
  | .circuitOpen who es vs => Sys2Proof.Machine.execCircuitOpen who s es vs
  | .sidebandMessage n o t => Sys2Proof.Machine.execSidebandMessage n o t s
  | .accLanding n => Sys2Proof.Machine.execAccLanding n s
  | .reducerContribution ix r ce ue => Sys2Proof.Machine.execReducerContribution ix r ce ue s
  | .fallbackStart ix => Sys2Proof.Machine.execFallbackStart ix s
  | .reexec n => Sys2Proof.Machine.execReexec n s
  | .islErrClr ini ix v => Sys2Proof.Machine.execIslErrClr ini ix v s
  | .stackAccess k ini off size wr n mis => Sys2Proof.Machine.execStackAccess k ini off size wr n mis s
  | .readRetry k n mis => Sys2Proof.Machine.execReadRetry k n mis s
  | .correctiveWrite k => Sys2Proof.Machine.execCorrectiveWrite k s
  | .refresh k ch bank queued => Sys2Proof.Machine.execRefresh k ch bank queued s
  | .stackScrub k n mis => Sys2Proof.Machine.execStackScrub k n mis s
  | .stackBringup n pins eyes chans es => Sys2Proof.Machine.execStackBringup n pins eyes s chans es
  | .stkErrAck ini k v => Sys2Proof.Machine.execStkErrAck ini k v s
  | .hot k t => Sys2Proof.Machine.execHot k t s
  | .skimContribution ix => Sys2Proof.Machine.execSkimContribution ix s
  | .collect ix => Sys2Proof.Machine.execCollect ix s
  | .screedNotice => Sys2Proof.Machine.execScreedNotice s
  | .skimEnable ini j => Sys2Proof.Machine.execSkimEnable ini j s
  | .skimDisable ini j => Sys2Proof.Machine.execSkimDisable ini j s
  | .forceSkip ini j => Sys2Proof.Machine.execForceSkip ini j s
  | .skimAck ini j => Sys2Proof.Machine.execSkimAck ini j s
  | .linkEnable ini p => Sys2Proof.Machine.execLinkEnable ini p s
  | .linkTraining p => Sys2Proof.Machine.execLinkTraining p s
  | .laneLock p skew => Sys2Proof.Machine.execLaneLock p skew s
  | .codeword p c bad => Sys2Proof.Machine.execCodeword p c bad s
  | .hello p f => Sys2Proof.Machine.execHello p f s
  | .helloTimer p => Sys2Proof.Machine.execHelloTimer p s
  | .fabSilence p => Sys2Proof.Machine.execFabSilence p s
  | .heartbeat p f => Sys2Proof.Machine.execHeartbeat p f s
  | .heartbeatTimer => Sys2Proof.Machine.execHeartbeatTimer s
  | .credit p f => Sys2Proof.Machine.execCredit p f s
  | .creditTimer p => Sys2Proof.Machine.execCreditTimer p s
  | .dataSheet p f => Sys2Proof.Machine.execDataSheet p f s
  | .dataSkim p f => Sys2Proof.Machine.execDataSkim p f s
  | .dataHost p f => Sys2Proof.Machine.execDataHost p f s
  | .query p f => Sys2Proof.Machine.execQuery p f s
  | .report p f => Sys2Proof.Machine.execReport p f s
  | .assign p f => Sys2Proof.Machine.execAssign p f s
  | .addrAck p f => Sys2Proof.Machine.execAddrAck p f s
  | .fence p f => Sys2Proof.Machine.execFence p f s
  | .linkEvent p f => Sys2Proof.Machine.execLinkEvent p f s
  | .routeWrite p f => Sys2Proof.Machine.execRouteWrite p f s
  | .routeCommit p f => Sys2Proof.Machine.execRouteCommit p f s
  | .routeSync p f => Sys2Proof.Machine.execRouteSync p f s
  | .fabGrant p f => Sys2Proof.Machine.execGrant p f s
  | .final p f => Sys2Proof.Machine.execFinal p f s
  | .repeatStream p f => Sys2Proof.Machine.execRepeat p f s
  | .collAbort p f => Sys2Proof.Machine.execCollAbort p f s
  | .coordinator => Sys2Proof.Machine.execCoordinator s
  | .collTimeout p => Sys2Proof.Machine.execCollTimeout p s
  | .txTail ini v es => Sys2Proof.Machine.execTxTail ini v s es
  | .eventAck ini => Sys2Proof.Machine.execEventAck ini s
  | .cpErrClr ini p v => Sys2Proof.Machine.execCpErrClr ini p v s
  | .capture ini j => Sys2Proof.Machine.execCapture ini j s
  | .fold0 ini j => Sys2Proof.Machine.execFold0 ini j s
  | .fold1 ini j => Sys2Proof.Machine.execFold1 ini j s
  | .sgCommit ini j => Sys2Proof.Machine.execSgCommit ini j s
  | .abandon ini j => Sys2Proof.Machine.execAbandon ini j s
  | .serve ini j => Sys2Proof.Machine.execServe ini j s
  | .fill ini j => Sys2Proof.Machine.execFill ini j s
  | .rebuild ini j => Sys2Proof.Machine.execRebuild ini j s
  | .restore ini j => Sys2Proof.Machine.execRestore ini j s
  | .sgResume ini j => Sys2Proof.Machine.execSgResume ini j s
  | .sgAck ini j => Sys2Proof.Machine.execSgAck ini j s
  | .sgOperationEnd es => Sys2Proof.Machine.execSgOperationEnd s es
  | .flXfer ini v => Sys2Proof.Machine.execFlXfer ini v s
  | .flXferDone es => Sys2Proof.Machine.execFlXferDone s es
  | .flashMedia x => Sys2Proof.Machine.execFlashMedia x s
  | .flErrClr ini v => Sys2Proof.Machine.execFlErrClr ini v s
  | .mgmtFrameRx bs es => Sys2Proof.Machine.execMgmtFrameRx bs es s
  | .mgmtFrameTx es => Sys2Proof.Machine.execMgmtFrameTx es s
  | .mgErrClr ini v => Sys2Proof.Machine.execMgErrClr ini v s
  | .sourceAssert n fact => Sys2Proof.Machine.execSourceAssert n fact s
  | .claim ini c => Sys2Proof.Machine.execClaim ini c s
  | .eoi ini c v => Sys2Proof.Machine.execEoi ini c v s
  | .ipendSet ini w v => Sys2Proof.Machine.execIpendSet ini w v s
  | .ipendClr ini w v => Sys2Proof.Machine.execIpendClr ini w v s
  | .imaskSet ini w v => Sys2Proof.Machine.execImaskSet ini w v s
  | .imaskClr ini w v => Sys2Proof.Machine.execImaskClr ini w v s
  | .holdoffExpiry g => Sys2Proof.Machine.execHoldoffExpiry g s
  | .arbiterGrant done mask => Sys2Proof.Machine.execArbiterGrant done mask s
  | .arbiterRetry done r => Sys2Proof.Machine.execArbiterRetry done r s
  | .carbClass ini hi v => Sys2Proof.Machine.execCarbClass ini hi v s
  | .wbAck ini => Sys2Proof.Machine.execWbAck ini s
  | .eaAck ini => Sys2Proof.Machine.execEaAck ini s
  | .goWest ini => Sys2Proof.Machine.execGoWest ini s
  | .goEast ini => Sys2Proof.Machine.execGoEast ini s
  | .levelQuiescent west => Sys2Proof.Machine.execLevelQuiescent west s
  | .levelChangeDone west bad => Sys2Proof.Machine.execLevelChangeDone west bad s
  | .levelTimeout west => Sys2Proof.Machine.execLevelTimeout west s
  | .sleep ini => Sys2Proof.Machine.execSleep ini s
  | .sleepQuiet => Sys2Proof.Machine.execSleepQuiet s
  | .sleepTimeout => Sys2Proof.Machine.execSleepTimeout s
  | .wake ini => Sys2Proof.Machine.execWake ini s
  | .wakePin => Sys2Proof.Machine.execWakePin s
  | .wakeTimer => Sys2Proof.Machine.execWakeTimer s
  | .wakeFrame p f => Sys2Proof.Machine.execWakeFrame p f s
  | .wakeDone bad lost runs => Sys2Proof.Machine.execWakeDone bad lost s runs
  | .pwrAck ini => Sys2Proof.Machine.execPwrAck ini s
  | .wakeAck ini => Sys2Proof.Machine.execWakeAck ini s
  | .powerOn ga => Sys2Proof.Machine.execPowerOn ga s
  | .brownOut => Sys2Proof.Machine.execBrownOut s
  | .pinReset n => Sys2Proof.Machine.execPinReset n s
  | .softwareReset ini whole ix => Sys2Proof.Machine.execSoftwareReset ini whole ix s
  | .debugReset whole ix => Sys2Proof.Machine.execDebugReset whole ix s
  | .referenceFailure => Sys2Proof.Machine.execReferenceFailure s
  | .clockFault ix => Sys2Proof.Machine.execClockFault ix s
  | .lockUp c => Sys2Proof.Machine.execLockUp c s
  | .watchdog => Sys2Proof.Machine.execWatchdog s
  | .wdtStart ini => Sys2Proof.Machine.execWdtStart ini s
  | .kick ini => Sys2Proof.Machine.execKick ini s
  | .lockupAck ini => Sys2Proof.Machine.execLockupAck ini s
  | .suspectAck ini => Sys2Proof.Machine.execSuspectAck ini s
  | .histAck ini => Sys2Proof.Machine.execHistAck ini s
  | .releaseSequence boot clk => Sys2Proof.Machine.execReleaseSequence boot clk s
  | .islandRelease ix => Sys2Proof.Machine.execIslandRelease ix s
  | .force ini ix => Sys2Proof.Machine.execForce ini ix s
  | .bootData bs es => Sys2Proof.Machine.execBootData bs s es
  | .bootRequestRetry => Sys2Proof.Machine.execBootRequestRetry s
  | .networkBootTimeout es => Sys2Proof.Machine.execNetworkBootTimeout s es
  | .dbgBootGo ini es => Sys2Proof.Machine.execDbgBootGo ini es s
  | .secHartGo ini v => Sys2Proof.Machine.execSecHartGo ini v s
  | .attest ini => Sys2Proof.Machine.execAttest ini s
  | .rollbackAdvance ini arg => Sys2Proof.Machine.execRollbackAdvance ini arg s
  | .revokeEd ini arg => Sys2Proof.Machine.execRevokeEd ini arg s
  | .revokeMldsa ini arg => Sys2Proof.Machine.execRevokeMldsa ini arg s
  | .secAck ini => Sys2Proof.Machine.execSecAck ini s
  | .secCommandEnd => Sys2Proof.Machine.execSecCommandEnd s
  | .extest => Sys2Proof.Machine.execExtest s
  | .samplePreload cells => Sys2Proof.Machine.execSamplePreload cells s
  | .idcode => Sys2Proof.Machine.execIdcode s
  | .dbgport => Sys2Proof.Machine.execDbgport s
  | .dmi => Sys2Proof.Machine.execDmi s
  | .bypass => Sys2Proof.Machine.execBypass s
  | .dbgportAccess op size addr data n mis err drop => Sys2Proof.Machine.execDbgportAccess op size addr data n mis err s drop
  | .inject ini => Sys2Proof.Machine.execInject ini s
  | .injAck ini => Sys2Proof.Machine.execInjAck ini s
  | .freeze ini => Sys2Proof.Machine.execFreeze ini s
  | .thaw ini => Sys2Proof.Machine.execThaw ini s
  | .mark ini v => Sys2Proof.Machine.execMark ini v s
  | .prechargeMate => Sys2Proof.Machine.execPrechargeMate s
  | .mainSwitchClose vin bulk => Sys2Proof.Machine.execMainSwitchClose vin bulk s
  | .mainSwitchOpen vin heavy => Sys2Proof.Machine.execMainSwitchOpen vin heavy s
  | .thermalTrip west east => Sys2Proof.Machine.execThermalTrip west east s
  | .tripHoldExpiry => Sys2Proof.Machine.execTripHoldExpiry s
  | .matedDebounce => Sys2Proof.Machine.execMatedDebounce s
  | .surpriseRemoval => Sys2Proof.Machine.execSurpriseRemoval s
  | .off ini => Sys2Proof.Machine.execOff ini s
  | .offPowerDown => Sys2Proof.Machine.execOffPowerDown s
  | .tripAck ini => Sys2Proof.Machine.execTripAck ini s
  | .page rd v => Sys2Proof.Machine.execPage rd v s
  | .clearFaults => Sys2Proof.Machine.execClearFaults s
  | .voutMode => Sys2Proof.Machine.execVoutMode s
  | .statusWord => Sys2Proof.Machine.execStatusWord s
  | .statusVout => Sys2Proof.Machine.execStatusVout s
  | .statusIout => Sys2Proof.Machine.execStatusIout s
  | .statusInput vin heavy => Sys2Proof.Machine.execStatusInput vin heavy s
  | .statusTemperature => Sys2Proof.Machine.execStatusTemperature s
  | .readVin v => Sys2Proof.Machine.execReadVin v s
  | .readIin v => Sys2Proof.Machine.execReadIin v s
  | .readVout v => Sys2Proof.Machine.execReadVout v s
  | .readIout v => Sys2Proof.Machine.execReadIout v s
  | .readTemperature1 v => Sys2Proof.Machine.execReadTemperature1 v s
  | .readPout v => Sys2Proof.Machine.execReadPout v s
  | .readPin v => Sys2Proof.Machine.execReadPin v s
  | .mfrId => Sys2Proof.Machine.execMfrId s
  | .mfrModel => Sys2Proof.Machine.execMfrModel s
  | .resetScrubDone n => Sys2Proof.Machine.execResetScrubDone n s
  | .warm k t => Sys2Proof.Machine.execWarm k t s
  | .codewordLockLoss p lane => Sys2Proof.Machine.execCodewordLockLoss p lane s
  | .mgLinkUp up pins => Sys2Proof.Machine.execMgLinkUp up pins s
  | .refFallback => Sys2Proof.Machine.execRefFallback s
  | .referenceInRange => Sys2Proof.Machine.execReferenceInRange s
  | .dmiAccess op a v n mis err drop => Sys2Proof.Machine.execDmiAccess op a v n mis err s drop

end Sys2Proof.Machine
end

