-- ==== Sys2Proof/Safety.lean ====
section
/-!
DEFINITION. The terms in which claims about the machine are stated: when a transfer is served, the canonical form of
byte memory, the legal values of the always-on island, and the order in which fuses are blown.
-/

namespace Sys2Proof.Machine

/-- A control-plane transfer of requester `ini` to an offset of a page is served by the page's block: the requester
runs and has its grant (12 R358), the control plane is open, the page exists, and its block is out of reset behind an open wrapper (12 R357,
R364, 13 R393, R403). -/
def State.admits (s : State) (ini page off : Nat) : Bool :=
  s.d.live (iniIsland ini) && s.d.hasGrant ini && !s.d.planeClosed ini page && (pageKind page).isSome && !s.d.blockClosed page off

/-- The state in which a served transfer has its effect: it was granted, and answers OK with no data. -/
def State.reached (s : State) (ini page : Nat) : State := (s.granted ini page).respond (.ok 0)

/-- Change the die alone. -/
def State.onD (s : State) (f : Die → Die) : State := { s with d := f s.d }

/-- The state in which a transfer is granted and refused with a bus error. -/
def State.bounced (s : State) (ini page : Nat) : State := (s.granted ini page).respond .busError

/-- Entry `i` of queue `q` issues next (04 R116, R117): the conditions of R116 hold for it, with its operands, felt handles
and span, its engine takes it before any other, and no tag break holds it (04 R129); `extra` is a check at issue of its
own. -/
def Die.takes (d : Die) (n q i : Nat) (e : WinEnt) (ops : List Word) (felts : List FeltUse) (span : List Nat)
    (extra : Die → Nat → Desc → Option (Nat × Nat)) : Bool :=
  decide (d.winner n (engineOf (dOpc e.d)) (fun q e => (d.readiness n q e (extra d (d.qjob n q) e.d)).issues) = some (q, i, e)) &&
    decide (d.readiness n q e (extra d (d.qjob n q) e.d) = .yes ops felts span) && !d.tagHeld n q e

/-- What issues can run at once: no issued descriptor holds its engine (04 R116), every page of its span is RESIDENT
(06 R185), and the bank plan lets the engine reach its sheets (05 R137). -/
def Die.runsNow (d : Die) (n q : Nat) (e : WinEnt) (ops : List Word) (span : List Nat) : Bool :=
  !d.engineHeld n (engineOf (dOpc e.d)) none && span.all d.isResident &&
    d.banksServe { d := e.d, job := d.qjob n q, ops, span }

/-- The canonical form of byte memory: addresses strictly rising, no byte listed at the value an unlisted one reads
as. -/
def Memory.wf (m : List Host.Cell) : Bool := storeWf 0 m

/-- The values the always-on island can hold: two-bit straps, a clock mode that is never the reserved one (13 R382),
a three-bit geographic address, four revocation slots and an 8-bit count of rollback fuses (14 R420), and one of the
three states of a debug-port access (14 R426). -/
def Aon.legal (a : Aon) : Bool :=
  decide (a.bootSrc < 4) && decide (a.clkMode < 4) && decide (a.clkEff < 3) && decide (a.ga < 8) &&
    decide (a.sec.revEd < 16) && decide (a.sec.revMl < 16) && decide (a.sec.rollback < 256) && decide (a.tap.status < 3)

/-- The fuses of `y` are those of `x` or more: no revocation is taken back, the rollback count does not fall, and
the keys, the identity secret and the trim fuses are the same (14 R420). -/
def Aon.fusesKept (x y : Aon) : Prop :=
  x.sec.rollback ≤ y.sec.rollback ∧ (∀ i, x.sec.revEd.testBit i = true → y.sec.revEd.testBit i = true) ∧
    (∀ i, x.sec.revMl.testBit i = true → y.sec.revMl.testBit i = true) ∧ y.sec.edDigests = x.sec.edDigests ∧
    y.sec.mlDigests = x.sec.mlDigests ∧ y.sec.secret = x.sec.secret ∧ y.trim.fuseA = x.trim.fuseA ∧ y.trim.fuseB = x.trim.fuseB

end Sys2Proof.Machine
end

