-- ==== Sys2Proof/Certificates/Slice0/Obligations.lean ====
section
/-!
DEFINITION. The statements for the provers: what the commands do, family by family, and what every step keeps.
-/

open Sys2Proof Sys2Proof.Machine

/-- For every command c and state s, a step of s with c at the front of its queue is exec of c on s, and the step of
a state with an empty queue leaves the state as it is (model: log 2). -/
def Obligations.step_takes_front : Prop :=
  (∀ (c : Instr) (s : State), step (s.push c) = exec c s) ∧ (∀ s : State, s.pending = [] → step s = .next s)

/-- BROWN_OUT, PIN_RESET of at least 50 samples, REFERENCE_FAILURE and a running WATCHDOG outside sleep, met while
the module is not switched off and no release is under way, reset the module: every island but the always-on one is
in reset behind a closed wrapper, both levels are 3, nothing sleeps, RST_CAUSE holds the code with scope module,
HISTORY gains its bit, the watchdog stops, and the fuses, trim fuses, flash and the queue of commands are unchanged;
a pulse of less than 50 samples only counts. -/
def Obligations.module_reset_sources : Prop :=
  let resets (s t : State) (code : Nat) : Prop :=
    (∀ i, i < 91 → (t.d.ist i).inReset = true ∧ (t.d.ist i).isolated = true) ∧ t.d.pw.levW = 3 ∧ t.d.pw.levE = 3 ∧
    t.d.pw.asleep = false ∧ t.d.pw.release = some (if s.d.pw.mated then 2 else 1) ∧ t.d.pw.relCode = code ∧
    t.a.last = code ∧ t.a.scope = 1 ∧ t.a.history = s.a.history ||| 2 ^ (code - 1) ∧ t.a.wdtRunning = false ∧
    t.a.trim.fuseA = s.a.trim.fuseA ∧ t.a.trim.fuseB = s.a.trim.fuseB ∧ t.d.flash = s.d.flash ∧ t.pending = s.pending
  ∀ s : State, s.d.pw.release = none →
    (s.d.pw.offBusy = false → s.d.pw.off = false →
      (∃ t, exec .brownOut s = .next t ∧ resets s t 2) ∧ (∃ t, exec .referenceFailure s = .next t ∧ resets s t 7) ∧
      (s.a.wdtRunning = true → s.d.pw.asleep = false → ∃ t, exec .watchdog s = .next t ∧ resets s t 4)) ∧
    (∀ n, 50 ≤ n → ∃ t, exec (.pinReset n) s = .next t ∧ resets s t 3) ∧
    (∀ n, n < 50 → exec (.pinReset n) s = .next (s.onD (fun d => d.count pgRst 0x11)))

/-- POWER_ON holds every island in reset, lists no byte of memory, clears the records of earlier resets but its own,
keeps the part, its fuses (a fuse command that runs may have blown some of its own, 14 R420), its trim fuses and the
flash, takes the geographic address, and leaves the main switch open (13 R397, R401 with Table 13-7a). -/
def Obligations.power_on_scrubs : Prop :=
  ∀ (s : State) (ga : Fin 8), ∃ t, exec (.powerOn ga) s = .next t ∧
    (∀ i, i < 91 → (t.d.ist i).inReset = true ∧ (t.d.ist i).isolated = true) ∧ t.d.mem = [] ∧ t.d.regs = [] ∧
    t.d.part = s.d.part ∧ t.d.flash = s.d.flash ∧ Aon.fusesKept s.a t.a ∧
    (s.a.sec.cmd = none → t.a.sec.rollback = s.a.sec.rollback ∧ t.a.sec.revEd = s.a.sec.revEd ∧ t.a.sec.revMl = s.a.sec.revMl) ∧ t.a.ga = ga ∧ t.a.last = 1 ∧ t.a.scope = 0 ∧
    t.a.history = 1 ∧ t.d.pw.mainOn = false ∧ t.pending = s.pending

/-- SOFTWARE_RESET and DEBUG_RESET of an island 0 to 90, CLOCK_FAULT of a running tile island and LOCK_UP, met
outside a release and a level change that has stopped the island, hold that island in reset behind a closed wrapper
with the code of the source, record it in RST_CAUSE with scope island, and, for a tile island or a stack controller,
change the reset state of no other island. -/
def Obligations.island_resets : Prop :=
  let resets (s t : State) (i code : Nat) : Prop :=
    (t.d.ist i).inReset = true ∧ (t.d.ist i).isolated = true ∧ (t.d.ist i).code = code ∧
    (i < 72 → ∀ k, k ≠ i → t.d.ist k = s.d.ist k) ∧ t.a.last = code ∧ t.a.scope = 2 ∧ t.a.causeIsl = i ∧
    t.a.history = s.a.history ||| 2 ^ (code - 1) ∧ t.pending = s.pending
  ∀ s : State, s.d.pw.release = none → s.d.pw.offBusy = false → s.d.pw.off = false →
    (∀ (ini : Ini) (i : Fin 128), i.val < 91 → s.d.pw.stopped i = false → s.admits ini pgRst 0x108 = true → ini.val ≠ 16 →
      ∃ t, exec (.softwareReset ini false i) s = .next t ∧ resets s t i 5) ∧
    (∀ i : Fin 128, i.val < 91 → s.d.pw.stopped i = false → s.admits 16 pgRst 0x108 = true →
      ∃ t, exec (.debugReset false i) s = .next t ∧ resets s t i 6) ∧
    (∀ i : Fin 92, i.val < 64 → s.d.live i = true →
      ∃ t, exec (.clockFault i) s = .next t ∧ (t.d.ist i).clkFault = true ∧ (t.d.ist i).inReset = true ∧
        (t.d.ist i).code = 7 ∧ (∀ k, k ≠ i.val → t.d.ist k = s.d.ist k)) ∧
    (∀ c : Fin 16, s.d.live 88 = true → s.d.reg pgRst 0x120 ≠ 0 → s.a.tap.halted.testBit c = false →
      ∃ t, exec (.lockUp c) s = .next t ∧ resets s t 88 8 ∧ t.a.lockup = true ∧ t.a.lockCore = c)

/-- LOCKUP_ACK, SUSPECT_ACK and HIST_ACK each clear their own record; WDT_START starts the watchdog from WDT_LOAD
and KICK loads a running one again; FORCE by the debug port releases a held island behind its closed wrapper, marks
it UNSTABLE and counts it. Nothing else of the state changes. -/
def Obligations.reset_page_commands : Prop :=
  ∀ (s : State) (ini : Ini),
    (s.admits ini pgRst 0x10C = true →
      exec (.lockupAck ini) s = .next ((s.reached ini pgRst).updAon (fun a => { a with lockup := false })) ∧
      exec (.suspectAck ini) s = .next ((s.reached ini pgRst).updAon (fun a => { a with suspect := false })) ∧
      exec (.histAck ini) s = .next ((s.reached ini pgRst).updAon (fun a => { a with history := 0 }))) ∧
    (s.admits ini pgRst 0x118 = true → s.d.pw.offBusy = false → s.d.pw.off = false →
      exec (.wdtStart ini) s = .next ((s.reached ini pgRst).updAon (fun a =>
        { a with wdtRunning := true, wdtFrom := (s.d.reg pgRst 0x114).toNat }))) ∧
    (s.admits ini pgRst 0x118 = true → s.a.wdtRunning = true →
      exec (.kick ini) s = .next ((s.reached ini pgRst).updAon (fun a => { a with wdtFrom := (s.d.reg pgRst 0x114).toNat }))) ∧
    (∀ i : Fin 128, s.admits 16 pgRst 0x128 = true → i.val < 91 → (s.d.ist i).inReset = true →
      exec (.force 16 i) s = .next ((s.reached 16 pgRst).onD (fun d =>
        (d.count pgRst 0x12).updIst i (fun t => { t with inReset := false, isolated := true, unstable := true }))))

/-- RELEASE_SEQUENCE takes a release from step 2 to 4, where the trim load begins, from 4 to 5 with the trim loaded,
and from 5 to 6; REF_FALLBACK at step 5 falls back to the on-module oscillator, or finds the reference dead when
already there; REFERENCE_IN_RANGE then lets the release go on; ISLAND_RELEASE outside a release lets an island out
of reset and opens its wrapper, no other island changing, and a kept reset code and record are all else it writes to
the island. -/
def Obligations.release_moves_on : Prop :=
  ∀ s : State,
    (∀ boot clk : Fin 4, s.d.pw.mainOn = true →
      (s.d.pw.release = some 2 → ∃ t, exec (.releaseSequence boot clk) s = .next t ∧ t.d.pw.release = some 4 ∧
        t.a.trim.loading = true ∧ (s.d.pw.relCode ≤ 3 → t.a.bootSrc = boot ∧ t.a.clkMode = clk ∧ t.a.clkEff < 3)) ∧
      (s.d.pw.release = some 4 → exec (.releaseSequence boot clk) s =
        .next ((s.updAon (fun a => { a with trim := a.trim.load })).updPwr (fun x => { x with release := some 5 }))) ∧
      (s.d.pw.release = some 5 → s.a.refDead = false →
        exec (.releaseSequence boot clk) s = .next (s.updPwr (fun x => { x with release := some 6 })))) ∧
    (s.d.pw.release = some 5 →
      (s.a.clkEff ≠ 0 → exec .refFallback s = .next (s.updAon (fun a => { a with clkEff := 0, refFallback := true }))) ∧
      (s.a.clkEff = 0 → exec .refFallback s = .next (s.updAon (fun a => { a with refDead := true }))) ∧
      (s.a.refDead = true → exec .referenceInRange s =
        .next ((s.updAon (fun a => { a with refDead := false })).updPwr (fun x => { x with release := some 6 })))) ∧
    (∀ i : Fin 92, i.val < 91 → (s.d.ist i).inReset = true → s.d.pw.release = none → s.d.pw.mainOn = true →
      s.d.pw.off = false → s.d.pw.offBusy = false → ∃ t, exec (.islandRelease i) s = .next t ∧
        t.d.ist i = { code := (s.d.ist i).code } ∧ (∀ k, k ≠ i.val → t.d.ist k = s.d.ist k) ∧ t.a = s.a)

/-- GO_WEST and GO_EAST for another level that LEVEL_OK allows, with no spanning region, set BUSY with that target;
LEVEL_QUIESCENT with the held half quiescent stops its clocks for the target; LEVEL_CHANGE_DONE with every island
locked gives the half its level, result 0 and DONE_PEND; LEVEL_TIMEOUT before the clocks stop ends the request with
result 3. -/
def Obligations.level_requests : Prop :=
  ∀ s : State,
    (∀ ini : Ini, s.admits ini pgPwr 0x108 = true → s.d.pw.gone = false → s.d.pw.sleepBusy = false → s.d.spanning = false →
      (s.d.pw.busyW = false → s.d.pw.deferW = false → fld (s.d.reg pgPwr 0x104) 1 0 ≠ s.d.pw.levW →
        s.a.trim.levelOk.testBit (fld (s.d.reg pgPwr 0x104) 1 0) = true →
        exec (.goWest ini) s = .next ((s.reached ini pgPwr).updPwr (fun p =>
          { p with busyW := true, goW := some (fld (s.d.reg pgPwr 0x104) 1 0) }))) ∧
      (s.d.pw.busyE = false → s.d.pw.deferE = false → fld (s.d.reg pgPwr 0x104) 3 2 ≠ s.d.pw.levE →
        s.a.trim.levelOk.testBit (fld (s.d.reg pgPwr 0x104) 3 2) = true →
        exec (.goEast ini) s = .next ((s.reached ini pgPwr).updPwr (fun p =>
          { p with busyE := true, goE := some (fld (s.d.reg pgPwr 0x104) 3 2) })))) ∧
    (∀ t, s.d.pw.busyW = true → s.d.pw.deferW = false → s.d.pw.goW = some t → s.d.pw.chgW = none →
      s.d.quiescent true false = true →
      exec (.levelQuiescent true) s = .next (s.updPwr (fun p => { p with chgW := some t }))) ∧
    (∀ l, s.d.pw.busyE = true → s.d.pw.deferE = false → s.d.pw.chgE = some l → s.d.pw.lateResets = [] →
      ∃ t, exec (.levelChangeDone false []) s = .next t ∧ t.d.pw.levE = l ∧ t.d.pw.levW = s.d.pw.levW ∧
        t.d.pw.chgE = none ∧ t.d.pw.busyE = false ∧ t.d.pw.resE = 0 ∧ t.d.pw.donePend = true ∧ t.a = s.a) ∧
    (s.d.pw.busyW = true → s.d.pw.deferW = false → s.d.pw.chgW = none → s.d.reg pgPwr 0x110 ≠ 0 →
      ∃ t, exec (.levelTimeout true) s = .next t ∧ t.d.pw.busyW = false ∧ t.d.pw.goW = none ∧ t.d.pw.resW = 3 ∧
        t.d.pw.donePend = true ∧ t.d.pw.levW = s.d.pw.levW ∧ t.a = s.a)

/-- SLEEP with nothing in its way sets SLEEP_BUSY; SLEEP_QUIET with no open circuit and no read waiting puts the
module to sleep with its trained stacks in self-refresh; SLEEP_TIMEOUT gives up with result 3; WAKE by the debug
port, WAKE_PIN, WAKE_TIMER and a waking frame each begin the wake of a sleeping module with their own bit of
WAKE_CAUSE; WAKE_DONE ends sleep, takes the stacks out of self-refresh and sets WOKE_PEND, and the ports then send
what waits; PWR_ACK and WAKE_ACK clear the two pending bits. -/
def Obligations.sleep_and_wake : Prop :=
  let wakes (s t : State) (b : Nat) : Prop := t = s.updPwr (fun x => { x with waking := true, wakeCause := 2 ^ b })
  ∀ s : State,
    (∀ ini : Ini, s.admits ini pgPwr 0x108 = true → s.d.pw.gone = false →
      (s.d.pw.sleepBusy = false → s.d.pw.asleep = false → s.d.pw.busyW = false → s.d.pw.busyE = false → s.d.pw.deferW = false →
        s.d.pw.deferE = false → s.d.pw.release = none → s.a.trim.loading = false → (∀ i, i < 91 → (s.d.ist i).inReset = false) →
        exec (.sleep ini) s = .next ((s.reached ini pgPwr).updPwr (fun p => { p with sleepBusy := true, wakeHeld := 0 }))) ∧
      exec (.pwrAck ini) s = .next ((s.reached ini pgPwr).updPwr (fun p => { p with donePend := false })) ∧
      exec (.wakeAck ini) s = .next ((s.reached ini pgPwr).updPwr (fun p => { p with wokePend := false }))) ∧
    (s.d.pw.sleepBusy = true → s.d.circs = [] → (∀ n, n < 8 → (s.d.stack n).retries = []) →
      ∃ t, exec .sleepQuiet s = .next t ∧ t.d.pw.asleep = true ∧ t.d.pw.sleepBusy = false ∧ t.d.pw.resS = 0 ∧
        t.d.pw.donePend = true ∧ t.d.mem = s.d.mem ∧ t.a = s.a ∧
        (∀ n, n < 8 → (s.d.stack n).trained = true → (t.d.stack n).selfRefresh = true)) ∧
    (s.d.pw.sleepBusy = true → s.d.reg pgPwr 0x110 ≠ 0 →
      exec .sleepTimeout s = .next (s.updPwr (fun p => { p with sleepBusy := false, wakeHeld := 0, resS := 3, donePend := true }))) ∧
    (s.d.pw.asleep = true → s.d.pw.gone = false → s.d.pw.waking = false →
      (s.admits 16 pgPwr 0x108 = true → ∃ t, exec (.wake 16) s = .next t ∧ wakes (s.reached 16 pgPwr) t 3) ∧
      (bit (s.d.reg pgPwr 0x114) 1 = true → ∃ t, exec .wakePin s = .next t ∧ wakes s t 1) ∧
      (bit (s.d.reg pgPwr 0x114) 0 = true → s.d.reg pgPwr 0x118 ≠ 0 → ∃ t, exec .wakeTimer s = .next t ∧ wakes s t 0) ∧
      (∀ (p : PortNo) (f : Frame), s.d.live (72 + p.val) = true → s.d.up p = true → s.d.wakesOn f = true →
        ∃ t, exec (.wakeFrame p f) s = .next t ∧ wakes (s.onD (fun d => d.count (pgPort p) 2 f.units)) t 2)) ∧
    (s.d.pw.waking = true → ∃ d', exec (.wakeDone [] []) s =
        .next (s.onD (fun _ => ((List.range 16).foldl Die.pump d').fabSettle)) ∧ d'.pw.asleep = false ∧
      d'.pw.waking = false ∧ d'.pw.wokePend = true ∧ d'.mem = s.d.mem ∧ (∀ n, n < 8 → (d'.stack n).selfRefresh = false))

/-- PRECHARGE_MATE enables precharge; MAIN_SWITCH_CLOSE with VIN from 52 to 66 V and the bulk node within 2 V closes
the switch; it opens below 45 V without a trip; THERMAL_TRIP from 110 degrees opens it and holds it open with its
bit set and counted; the hold ends with TRIP_HOLD_EXPIRY; MATED_DEBOUNCE records the debounce and moves a waiting
release on; SURPRISE_REMOVAL opens the switch; OFF stops the watchdog and begins the power-off, which OFF_POWER_DOWN
ends with every island in reset, the switch open and the module OFF; TRIP_ACK clears the trip bits. -/
def Obligations.power_entry_and_trips : Prop :=
  ∀ s : State,
    exec .prechargeMate s = .next (s.updPwr (fun p => { p with precharge := true })) ∧
    (∀ vin bulk, 52000 ≤ vin → vin ≤ 66000 → vin ≤ bulk + 2000 → bulk ≤ vin + 2000 → s.d.pw.tripHold = false → s.d.pw.off = false →
      exec (.mainSwitchClose vin bulk) s = .next (s.updPwr (fun p => { p with mainOn := true }))) ∧
    (∀ vin, s.d.pw.mainOn = true → vin < 45000 →
      exec (.mainSwitchOpen vin false) s = .next (s.updPwr (fun p => { p with mainOn := false }))) ∧
    (∀ west east, s.d.pw.mainOn = true → 110 ≤ max west east → west < 256 → east < 256 →
      exec (.thermalTrip west east) s = .next ((s.onD (fun d => d.count pgPwr 0x10)).updPwr (fun p =>
        { p with tempW := west, tempE := east, mainOn := false, trips := p.trips ||| 4, tripHold := true }))) ∧
    exec .tripHoldExpiry s = .next (s.updPwr (fun p => { p with tripHold := false })) ∧
    (s.d.pw.release = some 1 → exec .matedDebounce s = .next (s.updPwr (fun p => { p with mated := true, release := some 2 }))) ∧
    (s.d.pw.release ≠ some 1 → exec .matedDebounce s = .next (s.updPwr (fun p => { p with mated := true }))) ∧
    (s.d.pw.off = false → exec .surpriseRemoval s = .next (s.updPwr (fun p => { p with mainOn := false, mated := false }))) ∧
    (∀ ini : Ini, s.admits ini pgPwr 0x144 = true →
      (s.d.pw.gone = false → ∃ t, exec (.off ini) s = .next t ∧ t.d.pw.offBusy = true ∧ t.d.pw.sleepBusy = false ∧
        t.d.pw.busyW = false ∧ t.d.pw.busyE = false ∧ t.a.wdtRunning = false ∧ t.d.mem = s.d.mem ∧ t.d.islSt = s.d.islSt) ∧
      exec (.tripAck ini) s = .next ((s.reached ini pgPwr).updPwr (fun p => { p with trips := 0 }))) ∧
    (s.d.pw.offBusy = true → ∃ t, exec .offPowerDown s = .next t ∧ t.d.pw.off = true ∧ t.d.pw.offBusy = false ∧
      t.d.pw.mainOn = false ∧ t.d.flash = s.d.flash ∧ (∀ i, i < 91 → (t.d.ist i).inReset = true ∧ (t.d.ist i).isolated = true))

/-- PAGE with a page 0 to 6 selects it, and reads it back; CLEAR_FAULTS clears the status of the page; VOUT_MODE of
a rail page answers the linear exponent -12; MFR_ID answers the block STVQ and MFR_MODEL the part number. Each
changes only the PMBus side. -/
def Obligations.pmbus_settings : Prop :=
  ∀ s : State,
    (∀ v, v ≤ 6 → exec (.page false v) s = .next (s.updPmb (fun p => { p with page := v, reply := some [] }))) ∧
    (∀ v, exec (.page true v) s = .next (s.updPmb (fun p => { p with reply := some [BitVec.ofNat 8 p.page] }))) ∧
    (∃ t, exec .clearFaults s = .next (s.updPmb t) ∧ (t s.a.pmb).reply = some [] ∧ (t s.a.pmb).page = s.a.pmb.page ∧
      (∀ r, r < 8 → (t s.a.pmb).st s.a.pmb.page r = 0) ∧
      (∀ g r, r < 8 → g ≠ s.a.pmb.page → (t s.a.pmb).st g r = s.a.pmb.st g r)) ∧
    (1 ≤ s.a.pmb.page → s.a.pmb.page ≤ 6 → exec .voutMode s = .next (s.updPmb (fun p => { p with reply := some [0x14] }))) ∧
    exec .mfrId s = .next (s.updPmb (fun p => { p with reply := some [4, 0x53, 0x54, 0x56, 0x51] })) ∧
    (s.d.part.grade = 0 → exec .mfrModel s =
      .next (s.updPmb (fun p => { p with reply := some [8, 0x53, 0x51, 0x2D, 0x45, 0x47, 0x31, 0x2D, 0x41] }))) ∧
    (s.d.part.grade = 1 → exec .mfrModel s =
      .next (s.updPmb (fun p => { p with reply := some [8, 0x53, 0x51, 0x2D, 0x45, 0x47, 0x31, 0x2D, 0x42] })))

/-- On a page that supports it, a reading answers its value as two bytes, low byte first: READ_VOUT in LINEAR16, the
others in LINEAR11; READ_VIN latches the input status bits first. -/
def Obligations.pmbus_readings : Prop :=
  let two (v : Nat) : Option (List Byte) := some [BitVec.ofNat 8 (v % 256), BitVec.ofNat 8 (v / 256 % 256)]
  ∀ (s : State),
    (∀ v : Nat, s.a.pmb.page = 0 →
      (∃ p, exec (.readVin v) s = .next (s.updPmb (fun _ => p)) ∧ p.reply = two (linear11 v) ∧ p.page = 0 ∧
        p.st 0 3 = s.a.pmb.st 0 3 ||| inputBits v false) ∧
      exec (.readIin v) s = .next (s.updPmb (fun p => { p with reply := two (linear11 v) })) ∧
      exec (.readPin v) s = .next (s.updPmb (fun p => { p with reply := two (linear11 v) }))) ∧
    (∀ v : Nat, 1 ≤ s.a.pmb.page → s.a.pmb.page ≤ 6 →
      exec (.readVout v) s = .next (s.updPmb (fun p => { p with reply := two (linear16 v) })) ∧
      exec (.readIout v) s = .next (s.updPmb (fun p => { p with reply := two (linear11 v) })) ∧
      exec (.readPout v) s = .next (s.updPmb (fun p => { p with reply := two (linear11 v) }))) ∧
    (∀ v : Int, exec (.readTemperature1 v) s = .next (s.updPmb (fun p => { p with reply := two (linear11 v) })))

/-- STATUS_WORD answers the two bytes of the page's summary; STATUS_INPUT latches the bits of the present input and
answers the byte; STATUS_VOUT, STATUS_IOUT and STATUS_TEMPERATURE answer the byte they latch, whose value is left
open (model: log 52). -/
def Obligations.pmbus_status : Prop :=
  ∀ s : State,
    exec .statusWord s = .next (s.updPmb (fun p => { p with
      reply := some [BitVec.ofNat 8 (p.word p.page % 256), BitVec.ofNat 8 (p.word p.page / 256 % 256)] })) ∧
    (∀ vin heavy, s.a.pmb.page = 0 → ∃ p, exec (.statusInput vin heavy) s = .next (s.updPmb (fun _ => p)) ∧
      p.reply = some [BitVec.ofNat 8 (s.a.pmb.st 0 3 ||| inputBits vin heavy)] ∧ p.st 0 3 = s.a.pmb.st 0 3 ||| inputBits vin heavy) ∧
    (∀ c r, (c, r) = (Instr.statusVout, 1) ∨ (c, r) = (Instr.statusIout, 2) ∨ (c, r) = (Instr.statusTemperature, 4) →
      ∃ t v, exec c s = .next t ∧ v < 256 ∧ t.a.pmb.reply = some [BitVec.ofNat 8 v] ∧ t.a.pmb.st s.a.pmb.page r = v ∧
        (∀ k, k < 8 → k ≠ r → t.a.pmb.st s.a.pmb.page k = s.a.pmb.st s.a.pmb.page k) ∧
        t.d = { s.d with free := s.d.free + 1 } ∧ t.a = { s.a with pmb := t.a.pmb } ∧ t.pending = s.pending)

/-- IPEND_SET, IPEND_CLR, IMASK_SET and IMASK_CLR of word w set or clear, in the pending or the mask array, the bits
of sources 32w to 32w + 31 that the value names, source 1023 excepted, and change no other bit; HOLDOFF_EXPIRY ends
the holdoff of its group alone. -/
def Obligations.interrupt_arrays : Prop :=
  let named (w : Nat) (v : Word) (n : Nat) : Bool := decide (n / 32 = w) && bit v (n % 32) && decide (n < 1023)
  ∀ (s : State) (ini : Ini) (w : Fin 32) (v : Word),
    (s.admits ini pgIntc (0x300 + 4 * w.val) = true → ∃ x, exec (.ipendSet ini w v) s = .next ((s.reached ini pgIntc).onD
      (fun d => d.updIntc (fun y => { y with pend := x }))) ∧ ∀ n, n < 1024 → srcHas x n = (srcHas s.d.intc.pend n || named w v n)) ∧
    (s.admits ini pgIntc (0x380 + 4 * w.val) = true → ∃ x, exec (.ipendClr ini w v) s = .next ((s.reached ini pgIntc).onD
      (fun d => d.updIntc (fun y => { y with pend := x }))) ∧ ∀ n, n < 1024 → srcHas x n = (srcHas s.d.intc.pend n && !named w v n)) ∧
    (s.admits ini pgIntc (0x180 + 4 * w.val) = true → ∃ x, exec (.imaskSet ini w v) s = .next ((s.reached ini pgIntc).onD
      (fun d => d.updIntc (fun y => { y with mask := x }))) ∧ ∀ n, n < 1024 → srcHas x n = (srcHas s.d.intc.mask n || named w v n)) ∧
    (s.admits ini pgIntc (0x200 + 4 * w.val) = true → ∃ x, exec (.imaskClr ini w v) s = .next ((s.reached ini pgIntc).onD
      (fun d => d.updIntc (fun y => { y with mask := x }))) ∧ ∀ n, n < 1024 → srcHas x n = (srcHas s.d.intc.mask n && !named w v n)) ∧
    (s.d.live 90 = true → ∃ x, exec (.holdoffExpiry w) s = .next (s.onD (fun d => d.updIntc (fun y => { y with hold := x }))) ∧
      ∀ g, g < 32 → x.toNat.testBit g = (s.d.intc.hold.toNat.testBit g && decide (g ≠ w.val)))

/-- CLAIM_c answers the lowest-numbered source eligible for core c, which becomes active with core c as its claimer
and is no longer pending, no other source changing; with no eligible source it answers 1023 and counts.  A rising
source becomes pending, and a falling one only drops its level. -/
def Obligations.interrupt_claims : Prop :=
  let others (s t : State) (n : Nat) : Prop := ∀ k, k < 1024 → k ≠ n →
    srcHas t.d.intc.active k = srcHas s.d.intc.active k ∧ srcHas t.d.intc.pend k = srcHas s.d.intc.pend k
  ∀ (s : State) (ini : Ini) (c : Fin 16) (n : Nat), n < 1023 →
    (s.admits ini pgIntc (0x500 + 4 * c.val) = true →
      (s.d.eligible c n = true → (∀ m, m < n → s.d.eligible c m = false) → ∃ t, exec (.claim ini c) s = .next t ∧
        t.d.resp = .ok n ∧ srcHas t.d.intc.active n = true ∧ srcHas t.d.intc.pend n = false ∧
        sget t.d.intc.claimer 0 n = c ∧ others s t n ∧ t.d.intc.mask = s.d.intc.mask ∧ t.pending = s.pending) ∧
      ((∀ m, m < 1023 → s.d.eligible c m = false) → exec (.claim ini c) s =
        .next ((s.reached ini pgIntc).onD (fun d => (d.count pgIntc 1).respond (.ok 1023))))) ∧
    (∀ (k : Fin 1024) (fact : Bool), k.val = n → s.d.live 90 = true →
      (s.asserted n fact = true → srcHas s.d.intc.level n = false → ∃ t, exec (.sourceAssert k fact) s = .next t ∧
        srcHas t.d.intc.pend n = true ∧ srcHas t.d.intc.level n = true ∧ others s t n) ∧
      (s.asserted n fact = false → ∃ t, exec (.sourceAssert k fact) s = .next t ∧ srcHas t.d.intc.level n = false ∧
        t.d.intc.pend = s.d.intc.pend ∧ t.d.intc.active = s.d.intc.active))

/-- With no grant in use, the request that CARB picks is granted: it becomes the holder and the last of its class,
and every other requester in the contest has one more consecutive loss. A retry by a loser with no other request is
granted. CARB_CLASS writes the class of every requester of its register and no other. -/
def Obligations.arbiter_contest : Prop :=
  ∀ (s : State), s.d.live 90 = true → s.d.carb.holder = none →
    (∀ (mask : BitVec 21) (w : Nat), s.d.carbPick ((List.range 21).filter (fun r => mask.toNat.testBit r)) = some w →
      ∃ t, exec (.arbiterGrant false mask) s = .next t ∧ t.d.carb.holder = some w ∧ mask.toNat.testBit w = true ∧ w < 21 ∧
        t.d.carb.last = s.d.carb.last.set (s.d.carbClass w) w ∧
        (∀ r, r < 21 → mask.toNat.testBit r = true → s.d.carbClass w ≤ s.d.carbClass r) ∧
        (∀ r, r < 21 → t.d.streakOf r = s.d.streakOf r + (if mask.toNat.testBit r ∧ r ≠ w then 1 else 0)) ∧ t.pending = s.pending) ∧
    (∀ r : Ini, 0 < s.d.streakOf r → ∃ t, exec (.arbiterRetry false r) s = .next t ∧ t.d.carb.holder = some r.val) ∧
    (∀ (ini : Ini) (v : Word),
      (s.admits ini pgCarb 0x100 = true → exec (.carbClass ini false v) s = .next ((s.reached ini pgCarb).onD (fun d => d.setReg pgCarb 0x100 v))) ∧
      (s.admits ini pgCarb 0x104 = true → exec (.carbClass ini true v) s =
        .next ((s.reached ini pgCarb).onD (fun d => d.setReg pgCarb 0x104 (v &&& 0x3FF)))))

/-- EA_ACK and WB_ACK clear the valid bit of their record; MG_ERR_CLR, FL_ERR_CLR, ISL_ERR_CLR and CP_ERR_CLR clear
the bits of their error register that the value names; STK_ERR_ACK with bit 0 clears the pending error; EVENT_ACK
clears the event of the FABRIC page; SG_ACK, SEC_ACK and INJ_ACK clear DONE_PEND of their block; NUM_CLEAR clears
the non-finite latch of an enabled core; SKIM_ACK clears the pending bit of its job. -/
def Obligations.error_acknowledgements : Prop :=
  ∀ (s : State) (ini : Ini) (v : Word),
    (s.admits ini pgSys 0x13C = true →
      exec (.eaAck ini) s = .next ((s.reached ini pgSys).onD (fun d => { d with eaLast := setFld d.eaLast 31 31 0 })) ∧
      exec (.wbAck ini) s = .next ((s.reached ini pgSys).onD (fun d => { d with wbLo := setFld d.wbLo 0 0 0 }))) ∧
    (s.admits ini pgMgmt 0x10C = true → exec (.mgErrClr ini v) s = .next ((s.reached ini pgMgmt).onD
      (fun d => d.updMg (fun m => { m with err := m.err &&& (7 - fld v 2 0) })))) ∧
    (s.admits ini pgFlash 0x108 = true → exec (.flErrClr ini v) s = .next ((s.reached ini pgFlash).onD
      (fun d => d.updSg (fun g => { g with err := g.err &&& (3 ^^^ fld v 1 0) })))) ∧
    (∀ i : TileNo, s.admits ini (pgIsl i) 0x108 = true → exec (.islErrClr ini i v) s = .next ((s.reached ini (pgIsl i)).onD
      (fun d => d.updIsl i (fun x => { x with err := x.err &&& (255 - fld v 7 0) })))) ∧
    (∀ p : PortNo, s.admits ini (pgPort p) 0x110 = true → exec (.cpErrClr ini p v) s = .next ((s.reached ini (pgPort p)).onD
      (fun d => d.updPort p (fun x => { x with err := x.err &&& (127 - fld v 6 0), peFailV := !bit v 7 && x.peFailV })))) ∧
    (∀ k : StackNo, s.admits ini (pgStk k) 0x11C = true → exec (.stkErrAck ini k 1) s = .next ((s.reached ini (pgStk k)).onD
      (fun d => d.updStk k (fun x => { x with errPend := false })))) ∧
    (s.admits ini pgFab 0x11C = true → exec (.eventAck ini) s = .next ((s.reached ini pgFab).onD
      (fun d => d.updFab (fun x => { x with event := 0 })))) ∧
    (∀ j : JobNo, s.admits ini pgFlash 0x10C = true → s.d.sg.busy = false → exec (.sgAck ini j) s =
      .next ((s.reached ini pgFlash).onD (fun d => d.updSg (fun x => { x with donePend := false })))) ∧
    (s.admits ini pgSec 0x10C = true → s.a.sec.cmd = none → exec (.secAck ini) s =
      .next ((s.reached ini pgSec).updSec (fun x => { x with donePend := false }))) ∧
    (s.admits ini pgDbg 0x104 = true → exec (.injAck ini) s = .next ((s.reached ini pgDbg).onD
      (fun d => { d with inj := { d.inj with donePend := false } }))) ∧
    (∀ n : CoreNo, s.admits ini (pgCore n) 0x108 = true → s.d.enabled n = true → exec (.numClear ini n) s =
      .next ((s.reached ini (pgCore n)).onD (fun d => d.updCore n (fun c => { c with
        nonfinite := false, srcArray := false, srcMv := false, srcVec := false, srcScreed := false, srcConvert := false })))) ∧
    (∀ j : JobNo, s.admits ini pgSkim 0x10C = true → ∃ t, exec (.skimAck ini j) s = .next t ∧ t.d.skimPend.toNat.testBit j = false ∧
      (∀ k, k < 32 → k ≠ j.val → t.d.skimPend.toNat.testBit k = s.d.skimPend.toNat.testBit k))

/-- MG_LINK_UP sets LINK_UP when the port is enabled and drops it otherwise. With the port enabled and its link up,
a good frame of at least 64 bytes for another station, without promiscuous mode, is only counted; an accepted one is
counted with its length, and with no receive descriptor owned by hardware it is dropped with RX_DROP set and
counted, while with one whose buffer holds it its bytes without the FCS are stored there, the descriptor is written
back with DONE and EOP, and the head moves past it. MGMT_FRAME_TX of one whole owned descriptor sends the frame
padded to 60 bytes with its FCS and moves the head past it. -/
def Obligations.management_port : Prop :=
  ∀ s : State, s.d.live 88 = true →
    (∀ up pins, ∃ m, exec (.mgLinkUp up pins) s = .next (s.onD (fun d => d.updMg (fun _ => m))) ∧ m.linkUp = (up && s.d.mgEn) ∧
      m.txFault = pins.toNat.testBit 2 ∧ m.rxLos = pins.toNat.testBit 1 ∧ m.modPresent = pins.toNat.testBit 0 ∧
      m.err = s.d.mgmt.err ∧ m.txHead = s.d.mgmt.txHead ∧ m.rxHead = s.d.mgmt.rxHead ∧ m.sent = s.d.mgmt.sent) ∧
    (∀ bs : List Byte, s.d.mgEn = true → s.d.mgmt.linkUp = true → 64 ≤ bs.length → bs.length ≤ 9216 →
      word (leNat (bs.drop (bs.length - 4))) = crc32 (bs.take (bs.length - 4)) → isPause bs = false →
      (s.d.mgAccepts bs = false → exec (.mgmtFrameRx bs []) s = .next (s.onD (fun d => d.count pgMgmt 7))) ∧
      (s.d.mgAccepts bs = true → s.d.mgmt.stopped = false → s.d.workHeld = false → s.d.mgOwned 0x130 s.d.mgmt.rxHead = [] →
        exec (.mgmtFrameRx bs []) s = .next (s.onD (fun d => (((d.count pgMgmt 2).count pgMgmt 4 bs.length).count pgMgmt 6).updMg
          (fun m => { m with err := m.err ||| 4 })))) ∧
      (∀ i, s.d.mgAccepts bs = true → s.d.mgmt.stopped = false → s.d.workHeld = false → s.d.mgOwned 0x130 s.d.mgmt.rxHead = [i] →
        let e := s.d.mgBase 0x130 + 16 * i
        let a := s.d.mgBuf 0x130 i
        let n := bs.length - 4
        s.d.dmaOk e 16 true = true → n ≤ fld (s.d.mgW 0x130 i 2) 13 0 → s.d.dmaOk a n true = true → a + n ≤ e ∨ e + 16 ≤ a →
        s.d.orderClear a n = true → s.d.orderClear e 16 = true →
        ∃ t, exec (.mgmtFrameRx bs []) s = .next t ∧ t.d.bytes a n = bs.take n ∧ t.d.mgW 0x130 i 3 = word (2 ^ 31 + 2 ^ 30 + n) ∧
          t.d.mgmt.rxHead = (i + 1) % s.d.mgSize 0x130 ∧ t.d.mgmt.err = s.d.mgmt.err ∧
          (∀ x : Nat, (x < a ∨ a + n ≤ x) → (x < e + 12 ∨ e + 16 ≤ x) → t.d.byte x = s.d.byte x) ∧ t.a = s.a ∧ t.pending = s.pending)) ∧
    (∀ i, s.d.mgEn = true → s.d.mgmt.stopped = false → s.d.workHeld = false → s.d.mgOwned 0x110 s.d.mgmt.txHead = [i] →
      s.d.dmaOk (s.d.mgBase 0x110 + 16 * i) 16 true = true → bit (s.d.mgW 0x110 i 2) 31 = true →
      0 < fld (s.d.mgW 0x110 i 2) 13 0 → fld (s.d.mgW 0x110 i 2) 13 0 ≤ 9212 →
      s.d.dmaOk (s.d.mgBuf 0x110 i) (fld (s.d.mgW 0x110 i 2) 13 0) false = true →
      ∃ t, exec (.mgmtFrameTx []) s = .next t ∧ t.d.mgmt.txHead = (i + 1) % s.d.mgSize 0x110 ∧
        t.d.mgmt.sent = wireFrame (s.d.bytes (s.d.mgBuf 0x110 i) (fld (s.d.mgW 0x110 i 2) 13 0)) :: s.d.mgmt.sent ∧
        t.d.mgmt.err = s.d.mgmt.err ∧ t.a = s.a ∧ t.pending = s.pending)

/-- An aligned 32-bit write to a register that triggers nothing and is not refused puts the value into its RW fields
and into the shadows of its CS fields, and changes no other register; an access of another size or alignment ends
with a bus error and nothing else. BLK_COMMIT makes every CS register of its page read its shadow, and no other
register changes. -/
def Obligations.register_access : Prop :=
  ∀ (s : State) (ini : Ini) (page : Fin 16384) (k : PageKind), pageKind page = some k →
    (∀ (o : Fin 4096) (v : Word) (r : RegInfo), s.admits ini page o = true → 256 ≤ o.val → o.val % 4 = 0 → regInfo k o = some r →
      (s.reached ini page).trigger k ini o v = none → s.d.refusesField k ini o = false → s.d.coreMuted k o = false →
      ∃ t, exec (.registerWrite ini page o 4 v) s = .next t ∧ t.d.reg page o = (s.d.reg page o &&& ~~~r.rw) ||| (v &&& r.rw) ∧
        (r.cs ≠ 0 → t.d.shadow page o = v &&& r.cs) ∧ t.d.resp = .ok 0 ∧ t.d.mem = s.d.mem ∧ t.d.hdr = s.d.hdr ∧ t.d.ctr = (s.reached ini page).d.ctr ∧
        (∀ p q, rkey p q ≠ rkey page o → t.d.reg p q = s.d.reg p q ∧ t.d.shadow p q = s.d.shadow p q) ∧ t.pending = s.pending) ∧
    (∀ (o : Fin 4096) (n : Nat) (v : Word), s.admits ini page o = true → n ≠ 4 ∨ o.val % 4 ≠ 0 →
      exec (.registerWrite ini page o n v) s = .next (s.bounced ini page)) ∧
    ((∃ i, k = .stack i) ∨ k = .deckle ∨ k = .fabric ∨ k = .flash ∨ k = .power ∨ k = .debug → s.admits ini page 0x1C = true →
      ∃ t, exec (.blkCommit ini page) s = .next t ∧ t.d.resp = .ok 0 ∧ t.d.shad = s.d.shad ∧ t.d.mem = s.d.mem ∧
        (∀ o, o < 4096 → isCs (rkey page o) = true → t.d.reg page o = s.d.shadow page o) ∧
        (∀ p q, q < 4096 → ¬(p = page.val ∧ isCs (rkey page q) = true) → t.d.reg p q = s.d.reg p q))

/-- MBOX_SEL of a 64-bit counter holds its two words as one snapshot, low word first; MBOX_DATA_HI of a valid
snapshot answers its next high word and moves past the pair, and the snapshot stays valid while words are left. -/
def Obligations.mailbox : Prop :=
  ∀ (s : State) (ini : Ini) (page : Fin 16384) (k : PageKind), pageKind page = some k →
    (∀ sel : Fin 65536, s.admits ini page 0x30 = true → (s.reached ini page).wideValue k sel = none → freeCounter k sel = false →
      exec (.mboxSel ini page sel) s = .next ((s.reached ini page).onD (fun d => d.updHdr page (fun h =>
        { h with mbSel := sel, mbNext := 0, mbValid := true,
                 mbWords := [word ((s.reached ini page).d.ctrOf page sel).toNat, word (((s.reached ini page).d.ctrOf page sel).toNat / 2 ^ 32)] })))) ∧
    (s.admits ini page 0x3C = true → (s.d.hd page).mbValid = true →
      ∃ t, exec (.mboxDataHi ini page) s = .next t ∧
        t.d.resp = .ok (((s.d.hd page).mbWords.getD ((s.d.hd page).mbNext + 1) 0).toNat) ∧
        (t.d.hd page).mbNext = (s.d.hd page).mbNext + 2 ∧ (t.d.hd page).mbWords = (s.d.hd page).mbWords ∧
        (t.d.hd page).mbValid = decide ((s.d.hd page).mbNext + 2 < (s.d.hd page).mbWords.length) ∧ t.d.ctr = (s.reached ini page).d.ctr ∧ t.d.mem = s.d.mem)

/-- IND_DATA on the DEBUG page, in space 0 with an address below 16 and no injection under way, writes or reads that
word of the descriptor to inject, adds one to IND_ADDR and clears LAST_ERR; at an address past the end of the space
it ends with a bus error, sets LAST_ERR and moves nothing, on every page. -/
def Obligations.indirect_access : Prop :=
  ∀ (s : State) (ini : Ini),
    (s.admits ini pgDbg 0x44 = true → (s.d.hd pgDbg).indSpace = 0 → (s.d.hd pgDbg).indAddr.toNat < 16 → s.d.inj.busy = false →
      (∀ v, exec (.indData ini 7 (some v) none) s = .next ((s.reached ini pgDbg).onD (fun d =>
        (Die.updHdr { d with injDesc := sset d.injDesc 0 (s.d.hd pgDbg).indAddr.toNat v } pgDbg (fun h =>
          { h with indAddr := h.indAddr + 1, lastErr := false }))))) ∧
      exec (.indData ini 7 none none) s = .next ((s.reached ini pgDbg).onD (fun d => (d.updHdr pgDbg (fun h =>
        { h with indAddr := h.indAddr + 1, lastErr := false })).respond (.ok (sget s.d.injDesc 0 (s.d.hd pgDbg).indAddr.toNat).toNat)))) ∧
    (∀ (page : Fin 16384) (k : PageKind) (wr : Option Word) (err : Option Bool), pageKind page = some k → s.admits ini page 0x44 = true →
      spaceLen k (s.d.hd page).indSpace ≤ (s.d.hd page).indAddr.toNat → exec (.indData ini page wr err) s =
        .next ((s.reached ini page).onD (fun d => (d.updHdr page (fun h => { h with lastErr := true })).respond .busError)))

/-- A write through the alias word of bit b of INT_MASK of a page below 0x1000 sets that bit of INT_MASK to bit 0 of
the value and leaves every other bit and register unchanged; a read answers that bit; an access of another size than
4 bytes, or a misaligned one, ends with a bus error and nothing else (00 R13). -/
def Obligations.bit_alias : Prop :=
  ∀ (s : State) (ini : Ini) (page b : Nat) (a : Fin 2147483648) (k : PageKind), page < 4096 → pageKind page = some k → b < 32 →
    a.val = ((page * 4096 + 0x20) * 32 + b) * 4 → s.admits ini page 0x20 = true →
    (∀ v : Word, ∃ t, exec (.bitAlias ini a (some v)) s = .next t ∧ bit (t.d.reg page 0x20) b = bit v 0 ∧
      (∀ i, i < 32 → i ≠ b → bit (t.d.reg page 0x20) i = bit (s.d.reg page 0x20) i) ∧
      (∀ p o, rkey p o ≠ rkey page 0x20 → t.d.reg p o = s.d.reg p o) ∧ t.d.shad = s.d.shad ∧ t.d.mem = s.d.mem) ∧
    (∃ t, exec (.bitAlias ini a none) s = .next t ∧ t.d.resp = .ok (b2n (bit (s.d.reg page 0x20) b)) ∧ t.d.regs = s.d.regs) ∧
    (∀ size wr, size ≠ 4 → exec (.bitAlias ini a wr size) s = .next (s.bounced ini page)) ∧
    (∀ (o : Fin 2147483648) (wr : Option Word), o.val % 4 ≠ 0 → o.val / 4 = a.val / 4 → exec (.bitAlias ini o wr) s = .next (s.bounced ini page))

/-- EXTEST, SAMPLE/PRELOAD, IDCODE, DBGPORT, DMI and BYPASS put their code into the instruction register;
SAMPLE/PRELOAD also fills the boundary-scan cells; every one but IDCODE and BYPASS sets DEBUG_SEEN; nothing else
changes. IDCODE then captures 0xBE61_05AB. -/
def Obligations.tap_instructions : Prop :=
  ∀ s : State,
    let seen (ir : Nat) : State := s.updAon (fun a => { a with tap := { a.tap with ir }, sec := { a.sec with debugSeen := true } })
    exec .extest s = .next (seen 0x00) ∧ exec .dbgport s = .next (seen 0x10) ∧ exec .dmi s = .next (seen 0x11) ∧
    (∀ cells, exec (.samplePreload cells) s = .next ((seen 0x01).updAon (fun a => { a with tap := { a.tap with bound := cells } }))) ∧
    exec .idcode s = .next (s.updAon (fun a => { a with tap := { a.tap with ir := 0x02 } })) ∧
    exec .bypass s = .next (s.updAon (fun a => { a with tap := { a.tap with ir := 0xFF } })) ∧
    (∀ t low, exec .idcode s = .next t → t.a.tap.capture low = (32, 0xBE6105AB))

/-- With DBGPORT selected, no access BUSY, the control plane open and the port granted by the arbiter (12 R358), a
write of 4 bytes to retained memory stores them little-endian and ends OK, and a read answers the bytes there; an
address no range of the map lists ends BUS_ERROR; OP 0 and 3 do nothing. While an access is BUSY every launch is
ignored, and one without a grant has not taken place. -/
def Obligations.debug_port : Prop :=
  ∀ (s : State) (op sz : Fin 4) (addr : Fin 281474976710656) (v : DWord), s.a.tap.ir = 0x10 →
    (s.d.hasGrant 16 = false → exec (.dbgportAccess op sz addr v 0 0 none none) s = .next s) ∧
    (s.a.tap.status = 1 → exec (.dbgportAccess op sz addr v 0 0 none none) s = .next s) ∧
    (op.val = 0 ∨ op.val = 3 → exec (.dbgportAccess op sz addr v 0 0 none none) s = .next s) ∧
    (s.a.tap.status ≠ 1 → s.d.hasGrant 16 = true → s.d.planeClosed 16 0 = false → retBase ≤ addr.val → addr.val + 4 ≤ retBase + 65536 → addr.val % 4 = 0 →
      (∃ t, exec (.dbgportAccess 2 2 addr v 0 0 none none) s = .next t ∧ t.a.tap.status = 0 ∧ t.a.tap.addr = addr ∧
        t.a.sec.debugSeen = true ∧ t.d.mem = (s.d.setBytes addr (leBytes 4 v.toNat)).mem ∧ t.d.regs = s.d.regs ∧ t.pending = s.pending) ∧
      (∃ t, exec (.dbgportAccess 1 2 addr v 0 0 none none) s = .next t ∧ t.a.tap.status = 0 ∧
        t.a.tap.data = BitVec.ofNat 64 (leNat (s.d.bytes addr 4)) ∧ t.d.mem = s.d.mem ∧ t.d.regs = s.d.regs)) ∧
    (s.a.tap.status ≠ 1 → s.d.hasGrant 16 = true → 0x030000050000 ≤ addr.val → op.val = 1 ∨ op.val = 2 →
      ∃ t, exec (.dbgportAccess op sz addr v 0 0 none none) s = .next t ∧ t.a.tap.status = 2 ∧ t.d.mem = s.d.mem ∧ t.d.regs = s.d.regs)

/-- With DMI selected and the host island running, a halt request for hart h halts it and sets DEBUG_SEEN; a resume
request to a halted hart lets it run again, or, with its step bit set, leaves it halted after one instruction
(model: log 47 presumes the register layout of RISC-V Debug 1.0). -/
def Obligations.debug_module : Prop :=
  ∀ (s : State) (h : Fin 16), s.a.tap.ir = 0x11 → s.d.live 88 = true →
    (∃ t, exec (.dmiAccess 2 0x10 (word (2 ^ 31 + h.val * 2 ^ 16 + 1)) 0 0 none none) s = .next t ∧ t.a.tap.halted.testBit h = true ∧
      (∀ k, k ≠ h.val → t.a.tap.halted.testBit k = s.a.tap.halted.testBit k) ∧
      (s.a.tap.halted.testBit h = false → t.a.sec.debugSeen = true) ∧ t.d = s.d ∧ t.pending = s.pending) ∧
    (s.a.tap.halted.testBit h = true → ∃ t, exec (.dmiAccess 2 0x10 (word (2 ^ 30 + h.val * 2 ^ 16 + 1)) 0 0 none none) s = .next t ∧
      t.a.tap.halted.testBit h = s.a.tap.step.testBit h ∧ (∀ k, k ≠ h.val → t.a.tap.halted.testBit k = s.a.tap.halted.testBit k) ∧ t.d = s.d)

/-- ROLLBACK_ADVANCE, REVOKE_ED and REVOKE_MLDSA given while no command runs become the running command;
SEC_COMMAND_END then blows the fuses of a command whose conditions hold, with result OK, DONE_PEND set and the blown
fuses counted, and no other fuse; ATTEST builds a report that begins with its magic word and carries the nonce and
claim words; a command given while one runs ends with a bus error. SEC_HART_GO lets the harts it names, hart 0
excepted, out of the ROM once an image has passed. -/
def Obligations.security_commands : Prop :=
  ∀ (s : State) (ini : Ini) (arg : Fin 256),
    (s.admits ini pgSec 0x10C = true → s.a.sec.cmd = none →
      exec (.rollbackAdvance ini arg) s = .next ((s.reached ini pgSec).updSec (fun x => { x with cmd := some (2, arg.val) })) ∧
      exec (.revokeEd ini arg) s = .next ((s.reached ini pgSec).updSec (fun x => { x with cmd := some (3, arg.val) })) ∧
      exec (.revokeMldsa ini arg) s = .next ((s.reached ini pgSec).updSec (fun x => { x with cmd := some (4, arg.val) })) ∧
      (∃ t, exec (.attest ini) s = .next t ∧ t.a.sec.cmd = some (1, 0) ∧ sget t.a.sec.report 0 0 = 0x45474154 ∧
        (∀ i, i < 16 → sget t.a.sec.report 0 (16 + i) = sget s.a.sec.nonce 0 i) ∧ t.a.sec.rollback = s.a.sec.rollback ∧
        t.a.sec.revEd = s.a.sec.revEd ∧ t.a.sec.revMl = s.a.sec.revMl ∧ t.d.mem = s.d.mem)) ∧
    (s.admits ini pgSec 0x10C = true → s.a.sec.cmd.isSome = true → exec (.attest ini) s = .next (s.bounced ini pgSec)) ∧
    (s.d.live 90 = true → s.a.sec.debugSeen = false →
      (s.a.sec.cmd = some (2, arg.val) → s.a.sec.rollback < arg → arg.val ≤ fld s.a.sec.boot 7 0 → exec .secCommandEnd s =
        .next ((s.onD (fun d => d.count pgSec 6 (arg.val - s.a.sec.rollback))).updSec (fun x =>
          { x with rollback := arg, cmd := none, donePend := true, result := 0 }))) ∧
      (s.a.sec.cmd = some (3, arg.val) → arg.val < 4 → s.a.sec.revEd.testBit arg = false → bit s.a.sec.boot 31 = false →
        exec .secCommandEnd s = .next ((s.onD (fun d => d.count pgSec 6 1)).updSec (fun x =>
          { x with revEd := x.revEd ||| 2 ^ arg.val, cmd := none, donePend := true, result := 0 }))) ∧
      (s.a.sec.cmd = some (4, arg.val) → arg.val < 4 → s.a.sec.revMl.testBit arg = false → bit s.a.sec.boot 31 = false →
        exec .secCommandEnd s = .next ((s.onD (fun d => d.count pgSec 6 1)).updSec (fun x =>
          { x with revMl := x.revMl ||| 2 ^ arg.val, cmd := none, donePend := true, result := 0 })))) ∧
    (∀ v : Word, s.admits ini pgSec 0x114 = true → bit s.a.sec.boot 31 = true → exec (.secHartGo ini v) s =
      .next ((s.reached ini pgSec).updSec (fun x => { x with harts := x.harts ||| (fld v 15 1 * 2) })))

/-- While the ROM boots from the network, BOOT_REQUEST_RETRY sends the REQUEST for the same offset again; a DATA
frame for another offset changes nothing; an accepted one that does not complete the image is stored at its offset
and the next offset is requested; NETWORK_BOOT_TIMEOUT records NO_RESPONSE and goes on to the next source, holding
when none is left. DBG_BOOT_GO in the hold state verifies the image at DBG_BOOT: when it passes, hart 0 leaves the
ROM with the image measured; when it does not, it goes on holding and no memory or register changes. -/
def Obligations.network_and_debug_boot : Prop :=
  ∀ s : State, s.d.live 88 = true →
    (∀ off rest, s.a.sec.rom = .net off rest →
      exec .bootRequestRetry s = .next (s.bootRequest off) ∧ (s.bootRequest off).a = s.a ∧
      (s.bootRequest off).d.mgmt.sent.length = s.d.mgmt.sent.length + 1 ∧
      (∀ bs es, bootPayload s.d.part.serial off bs = none → exec (.bootData bs es) s = .next s) ∧
      (∀ bs es data, bootPayload s.d.part.serial off bs = some data → s.d.stackClosed 0 = false → off + data.length < 20 →
        ∃ t, exec (.bootData bs es) s = .next t ∧ t.a.sec.rom = .net (off + data.length) rest ∧
          (s.d.orderClear (bootBase + off) data.length = true → s.d.pinOverlap (bootBase + off) data.length = none →
            t.d.bytes (bootBase + off) data.length = data) ∧ t.a.sec.rollback = s.a.sec.rollback ∧ t.pending = s.pending) ∧
      (rest = [] → ∀ es, exec (.networkBootTimeout es) s =
        .next (s.updSec (fun x => { x with boot := setFld x.boot 19 16 8, rom := .hold })))) ∧
    (∀ (ini : Ini) (a : Nat), s.admits ini pgDbg 0x11C = true → s.a.sec.rom = .hold →
      a = fld (s.d.reg pgDbg 0x118) 15 0 * 2 ^ 32 + fld (s.d.reg pgDbg 0x114) 31 3 * 8 →
      ∃ t, exec (.dbgBootGo ini []) s = .next t ∧
        (s.d.verifyImage (s.reached ini pgDbg).a.sec a false = 1 → bit t.a.sec.boot 31 = true ∧ t.a.sec.rom = .none ∧
          t.a.sec.heldBoot = true ∧ t.a.sec.harts.testBit 0 = true ∧ t.a.sec.measurement = sha3 (s.d.bytes a 256)) ∧
        (s.d.verifyImage (s.reached ini pgDbg).a.sec a false ≠ 1 → t.a = (s.reached ini pgDbg).a ∧ t.d.mem = s.d.mem ∧ t.d.regs = s.d.regs ∧ t.pending = s.pending))

/-- FREEZE freezes and THAW thaws the trace buffer of every island that is out of reset behind an open wrapper, and
of no other; MARK writes a MARK record of its value; INJECT of a descriptor with no cause of refusal into an enabled
core puts it alone into the window of the injected context and makes injection busy. -/
def Obligations.trace_and_injection : Prop :=
  ∀ (s : State) (ini : Ini),
    (s.admits ini pgDbg 0x10C = true → ∃ t u, exec (.freeze ini) s = .next t ∧ exec (.thaw ini) s = .next u ∧
      (∀ i, i < 92 → (s.d.ist i).inReset = false → (s.d.ist i).isolated = false →
        bit (t.d.trcCfg i) 29 = true ∧ bit (u.d.trcCfg i) 29 = false) ∧
      (∀ i, i < 92 → (s.d.ist i).inReset = true ∨ (s.d.ist i).isolated = true →
        t.d.trcCfg i = s.d.trcCfg i ∧ u.d.trcCfg i = s.d.trcCfg i) ∧ t.d.trRec = s.d.trRec ∧ u.d.trRec = s.d.trRec) ∧
    (∀ v, s.admits ini pgDbg 0x110 = true → exec (.mark ini v) s = .next ((s.reached ini pgDbg).onD (fun d => d.trace 90 0xA v))) ∧
    (∀ (n q : Nat) (x : Desc), s.admits ini pgDbg 0x104 = true → s.d.inj.busy = false → n = fld (s.d.reg pgDbg 0x100) 11 0 →
      q = fld (s.d.reg pgDbg 0x100) 13 12 → s.d.enabled n = true → (s.d.ist (islOf n)).inReset = false →
      x = (List.range 16).map (fun i => sget s.d.injDesc 0 i) → fld (dWait x 0) 31 30 = 0 → fld (dWait x 1) 31 30 = 0 →
      s.d.entryCause n q x = none → exec (.inject ini) s = .next ((s.reached ini pgDbg).onD (fun d =>
        { d.updCore n (fun c => { c with injCtx := q, inj := { c.inj with window := [{ d := x, pass := (s.d.queue n q).pass.toNat }] } }) with
          inj := { d.inj with busy := true, core := n } })))

/-- An aligned access of 1, 2, 4, 8 or 64 bytes to a trained stack, with no symbol in error and no access waiting
for its burst, of a requester with its grant over an open control plane: a read answers the little-endian value and
changes no byte; a write that no ring pin refuses stores its bytes at the address and changes no other byte of
memory. A misaligned access, and one to a closed stack, ends with a bus error and stores nothing; so does a write
into a pinned ring half. -/
def Obligations.stack_access : Prop :=
  ∀ (s : State) (k : StackNo) (ini : Fin 22) (off : Fin 68719476736) (n : Nat), ini.val < 21 → s.d.live (iniIsland ini) = true →
    s.d.hasGrant ini = true → s.d.planeClosed ini 0 = false → portSize n = true →
    (s.d.stackClosed k = false → off.val % n = 0 → s.d.burstBusy k (off.val / 64) = false →
      (∃ t, exec (.stackAccess k ini off n none 0 0) s = .next t ∧
        t.d.resp = .ok (leNat (s.d.bytes (k.val * 2 ^ 36 + off.val) n)) ∧ t.d.mem = s.d.mem ∧ t.d.regs = s.d.regs ∧ t.pending = s.pending) ∧
      (∀ v, v < 2 ^ (8 * n) → s.d.pinOverlap (k.val * 2 ^ 36 + off.val) n = none →
        ∃ t, exec (.stackAccess k ini off n (some v) 0 0) s = .next t ∧ t.d.resp = .ok 0 ∧
          t.d.bytes (k.val * 2 ^ 36 + off.val) n = leBytes n v ∧
          (∀ x : Nat, x < k.val * 2 ^ 36 + off.val ∨ k.val * 2 ^ 36 + off.val + n ≤ x → t.d.byte x = s.d.byte x) ∧ t.d.regs = s.d.regs) ∧
      (∀ v c, s.d.pinOverlap (k.val * 2 ^ 36 + off.val) n = some c →
        ∃ t, exec (.stackAccess k ini off n (some v) 0 0) s = .next t ∧ t.d.resp = .busError ∧ t.d.mem = s.d.mem)) ∧
    (∀ wr, off.val % n ≠ 0 ∨ s.d.stackClosed k = true →
      ∃ t, exec (.stackAccess k ini off n wr 0 0) s = .next t ∧ t.d.resp = .busError ∧ t.d.mem = s.d.mem ∧ t.d.regs = s.d.regs)

/-- In the default mode a read with up to two symbols in error answers the stored data and counts a corrected burst;
with three it waits for its re-read, which when clean answers the data, and when it fails again ends the host's
access with a bus error, records the burst and sets the pending error. CORRECTIVE_WRITE writes the oldest corrected
burst back unless a newer write has overtaken it. -/
def Obligations.stack_error_handling : Prop :=
  ∀ (s : State) (k : StackNo) (n : Fin 37), s.d.live (64 + k.val) = true →
    (∀ (off : Fin 68719476736), s.d.live 88 = true → s.d.hasGrant 0 = true → s.d.planeClosed 0 0 = false → s.d.stackClosed k = false → off.val % 8 = 0 →
      s.d.burstBusy k (off.val / 64) = false →
      decLimits (s.d.decMode k) = (2, 2) →
      (1 ≤ n.val → n.val ≤ 2 → ∃ t, exec (.stackAccess k 0 off 8 none n 0) s = .next t ∧
        t.d.resp = .ok (leNat (s.d.bytes (k.val * 2 ^ 36 + off.val) 8)) ∧ t.d.mem = s.d.mem ∧
        t.d.ctrOf (pgStk k) 3 = bump (s.d.ctrOf (pgStk k) 3) 1) ∧
      (3 ≤ n.val → ∃ t, exec (.stackAccess k 0 off 8 none n 0) s = .next t ∧ t.d.resp = .none ∧ t.d.mem = s.d.mem ∧
        (t.d.stack k).retries = (s.d.stack k).retries ++ [{ burst := off.val / 64, off := off.val, size := 8, reader := 1 }])) ∧
    (∀ r l, (s.d.stack k).retries = r :: l → r.reader = 1 → r.wr = none → r.dbg = false → r.fresh = false →
      (∃ t, exec (.readRetry k 0 0) s = .next t ∧ (t.d.stack k).retries = l ∧
        t.d.resp = .ok (leNat (((s.d.bytes (k.val * 2 ^ 36 + r.burst * 64) 64).drop (r.off % 64)).take r.size)) ∧ t.d.mem = s.d.mem) ∧
      (decLimits (s.d.decMode k) = (2, 2) → 3 ≤ n.val → ∃ t, exec (.readRetry k n 0) s = .next t ∧ (t.d.stack k).retries = l ∧
        t.d.resp = .busError ∧ (t.d.stack k).errPend = true ∧ (t.d.stack k).errBurst = r.burst ∧ t.d.mem = s.d.mem)) ∧
    (∀ c l, (s.d.stack k).corrs = c :: l →
      (c.stale = true → exec (.correctiveWrite k) s = .next (s.onD (fun d => (d.updStk k (fun x => { x with corrs := l })).count (pgStk k) 9))) ∧
      (c.stale = false → c.data.length = 64 → ∃ t, exec (.correctiveWrite k) s = .next t ∧
        t.d.bytes (k.val * 2 ^ 36 + c.burst * 64) 64 = c.data ∧
        (∀ x : Nat, x < k.val * 2 ^ 36 + c.burst * 64 ∨ k.val * 2 ^ 36 + c.burst * 64 + 64 ≤ x → t.d.byte x = s.d.byte x)))

/-- STACK_BRINGUP of an untrained stack with no failed channel or pin trains it and zeroes it, or keeps its contents
when it was in self-refresh; with one the stack is failed. REFRESH of an idle bank leaves nothing postponed, of a
busy one postpones one more up to eight, and from eight refreshes it by force and counts. STACK_SCRUB of a clean
burst moves the scrubber on and changes no memory. HOT and WARM follow the 105 and 85 degree thresholds. -/
def Obligations.stack_upkeep : Prop :=
  ∀ (s : State) (k : StackNo), s.d.live (64 + k.val) = true →
    (∀ eyes, (s.d.stack k).trained = false → (s.d.stack k).failed = false →
      (∀ chans pins es, anyFailed chans pins = false → ∃ d', exec (.stackBringup k pins eyes chans es) s = .next (State.bootGo (s.onD (fun _ => d')) es) ∧
        (d'.stack k).trained = true ∧ (d'.stack k).selfRefresh = false ∧
        (∀ x : Nat, d'.byte x = if (s.d.stack k).selfRefresh = false ∧ k.val * 2 ^ 36 ≤ x ∧ x < k.val * 2 ^ 36 + 2 ^ 36 then 0 else s.d.byte x)) ∧
      (∀ chans pins es, anyFailed chans pins = true → ∃ d', exec (.stackBringup k pins eyes chans es) s = .next (State.bootGo (s.onD (fun _ => d')) es) ∧
        (d'.stack k).failed = true ∧ (d'.stack k).trained = false ∧ d'.mem = s.d.mem)) ∧
    (∀ (ch : Fin 128) (bank : Fin 32) (p : Nat), p = sget (s.d.stack k).postponed 0 (ch.val * 32 + bank.val) →
      (s.d.stack k).trained = true → (s.d.stack k).selfRefresh = false →
      ((s.d.stack k).retries.all (fun r => decide (bankKey r.burst ≠ ch.val * 32 + bank.val)) = true → exec (.refresh k ch bank false) s = .next (s.onD (fun d => d.updStk k (fun x => { x with postponed := sset x.postponed 0 (ch.val * 32 + bank.val) 0 })))) ∧
      (p < 8 → exec (.refresh k ch bank true) s = .next (s.onD (fun d => d.updStk k (fun x => { x with postponed := sset x.postponed 0 (ch.val * 32 + bank.val) (p + 1) })))) ∧
      (8 ≤ p → exec (.refresh k ch bank true) s = .next (s.onD (fun d => d.count (pgStk k) 0xA)))) ∧
    (s.d.stackClosed k = false → bit (s.d.reg (pgStk k) 0x104) 0 = true → (s.d.stack k).scrubPos < 2 ^ 30 →
      ∃ t, exec (.stackScrub k 0 0) s = .next t ∧ (t.d.stack k).scrubPos = ((s.d.stack k).scrubPos + 1) % 2 ^ 30 ∧ t.d.mem = s.d.mem) ∧
    (∀ t : Nat,
      ((s.d.stack k).hot ≠ decide (105 ≤ t) → exec (.hot k t) s = .next (s.onD (fun d => d.updStk k (fun x =>
        { x with temp := min 255 t, hot := decide (105 ≤ t), warm := decide (85 ≤ t) })))) ∧
      ((s.d.stack k).warm ≠ decide (85 ≤ t) → exec (.warm k t) s = .next (s.onD (fun d => d.updStk k (fun x =>
        { x with temp := min 255 t, hot := decide (105 ≤ t), warm := decide (85 ≤ t) })))))

/-- An aligned window access of a requester with its grant, for which a circuit can open now, of a clean line with
no flit dropped: a read answers the payload bytes and changes no byte; a write of a frame that takes host writes
stores exactly its bytes; a write of one that does not is refused, counted and stores nothing, and so is an access
the window does not take. A window access to a slice under its reset scrub ends at its time-out with a bus error and
is counted. -/
def Obligations.vat_window : Prop :=
  ∀ (s : State) (ini : Ini) (off : Fin 8589934592) (n : Nat), s.d.live (iniIsland ini) = true → s.d.hasGrant ini = true →
    s.d.planeClosed ini 0 = false → ini.val ≠ 16 →
    (s.d.windowOpen off n = true → s.d.windowServed off (s.d.windowSlot off) = true →
      (∃ t, exec (.vatWindowRead ini off n none none) s = .next t ∧ t.d.resp = .ok (leNat (s.d.bytes (vatBase + off.val) n)) ∧
        t.d.mem = s.d.mem ∧ t.d.side = s.d.side ∧ t.a = s.a ∧ t.pending = s.pending) ∧
      (s.d.hostWrites (off.val / 4096) = true → ∀ v, v < 2 ^ (8 * n) → ∃ t, exec (.vatWindowWrite ini off n v none none) s = .next t ∧
        t.d.resp = .ok 0 ∧ t.d.bytes (vatBase + off.val) n = leBytes n v ∧ t.d.side = s.d.side ∧
        (∀ x : Nat, x < vatBase + off.val ∨ vatBase + off.val + n ≤ x → t.d.byte x = s.d.byte x))) ∧
    (s.d.windowOpen off n = true → s.d.hostWrites (off.val / 4096) = false → ∀ v err drop, exec (.vatWindowWrite ini off n v err drop) s =
        .next ((s.transfer ini).onD (fun d => (d.count (pgCore (off.val / 2 ^ 21)) 0x47).respond .busError))) ∧
    (s.d.windowOpen off n = false → s.d.live (islOf (off.val / 2 ^ 21)) = true → ∀ err drop, exec (.vatWindowRead ini off n err drop) s =
        .next ((s.transfer ini).onD (fun d => (d.count (pgCore (off.val / 2 ^ 21)) 0x47).respond .busError))) ∧
    (s.d.live (islOf (off.val / 2 ^ 21)) = true → (s.d.slice (off.val / 2 ^ 21)).busy = true →
      exec (.vatWindowTimeout ini off) s =
        .next ((s.transfer ini).onD (fun d => (d.count (pgCore (off.val / 2 ^ 21)) 0x47).respond .busError)))

/-- PATROL_SCRUB of an enabled scrubber whose bank has a slot owned by none reads its next clean line, counts it and
moves on by one line, from the last line of the slice to the first; it changes no payload and no side band.
RESET_SCRUB_DONE ends the reset scrub of its slice alone. -/
def Obligations.scrubbers : Prop :=
  ∀ (s : State) (n : CoreNo), s.d.live (islOf n) = true →
    (bit (s.d.reg (pgCore n) 0x800) 1 = true → (s.d.slice n).busy = false →
      s.d.bankSlot n (bankOf (frameOf (n.val * 512 + (s.d.slice n).pos / 33))) (fun o => decide (o = 0)) = true →
      exec (.patrolScrub n none) s = .next (s.onD (fun d => (d.count (pgCore n) 0x44).updSlice n (fun v =>
        { v with pos := (v.pos + 1) % 16896 })))) ∧
    exec (.resetScrubDone n) s = .next (s.onD (fun d => d.updSlice n (fun v => { v with busy := false })))

/-- A host PUSH to an enabled queue with room, nothing waiting for it, puts the handle at its tail; to a disabled
queue it ends with a bus error and pushes nothing. FELT_PUSH of an arrived push does the same for its queue, and
with the queue full keeps it in the push buffer while that has room; FELT_PUSH_BUFFER moves the first waiting push
whose queue has room into it. -/
def Obligations.felt_queues : Prop :=
  let tail (d e : Die) (i q : Nat) (h : Word) : Prop :=
    (e.feltQ i q).count = (d.feltQ i q).count + 1 ∧ (e.feltQ i q).head = (d.feltQ i q).head ∧
    sget e.feltMem 0 ((i * 256 + q) * 64 + ((d.feltQ i q).head + (d.feltQ i q).count) % 64) = h ∧
    (∀ k, k ≠ (i * 256 + q) * 64 + ((d.feltQ i q).head + (d.feltQ i q).count) % 64 → sget e.feltMem 0 k = sget d.feltMem 0 k)
  ∀ (s : State) (i : TileNo),
    (∀ (ini : Ini) (q : Fin 256) (v : Word), s.admits ini (pgIsl i) 0x44 = true →
      (bit (s.d.feltQ i q).cfg 31 = true → (s.d.feltQ i q).count < 64 → (∀ m ∈ (s.d.island i).pushBuf, m.queue ≠ q) →
        ∃ t, exec (.push ini i q v) s = .next t ∧ tail s.d t.d i q v ∧ t.d.resp = .ok 0 ∧ t.d.mem = s.d.mem) ∧
      (bit (s.d.feltQ i q).cfg 31 = false → ∃ t, exec (.push ini i q v) s = .next t ∧ t.d.resp = .busError ∧
        t.d.felt = s.d.felt ∧ t.d.feltMem = s.d.feltMem)) ∧
    (∀ m l q h j, s.d.live i = true → sget s.d.sbArr [] (islNode i) = m :: l → m.body = .felt q h j → q < 256 →
      bit (s.d.feltQ i q).cfg 31 = true → fld (s.d.feltQ i q).cfg 28 24 = j →
      ((s.d.feltQ i q).count < 64 → (∀ x ∈ (s.d.island i).pushBuf, x.queue ≠ q) →
        ∃ t, exec (.feltPush i) s = .next t ∧ tail s.d t.d i q h ∧ sget t.d.sbArr [] (islNode i) = l) ∧
      (64 ≤ (s.d.feltQ i q).count → (s.d.island i).pushBuf.length < 64 → ∃ t, exec (.feltPush i) s = .next t ∧
        (t.d.island i).pushBuf = (s.d.island i).pushBuf ++ [{ queue := q, handle := h, job := some j }] ∧ t.d.feltMem = s.d.feltMem)) ∧
    (∀ m l, s.d.live i = true → (s.d.island i).pushBuf = m :: l → (s.d.feltQ i m.queue).count < 64 →
      s.d.feltRefuses i m.queue m.job = false →
      ∃ t, exec (.feltPushBuffer i) s = .next t ∧ tail s.d t.d i m.queue m.handle ∧ (t.d.island i).pushBuf = l)

/-- Over an open control plane, for an enabled core: START of an idle queue with a good mode and ring runs it at
pass 0 on its half (the other half if a flip was pending), with that half's generation raised, and with a bad one
halts it with BAD_FIELD or BAD_RING; STOP of a running queue stops it; RESUME of a stopped one, or of one in BREAK,
runs it again, the descriptor that a tag break held being let through, drains it when its last pass had issued all,
or ends it idle when nothing is in flight; ABORT of one that is not idle or halted halts it with SOFT_ABORT; RESET
of a quiet one returns it to IDLE with its fault, counts, flip and patch cleared; FLIP with both halves allowed and
a good other half makes a flip pending; PREG_ARM arms the patch; ACK_IRQ clears the interrupt. In any other state
START, STOP, RESUME, ABORT, RESET and FLIP are ignored and counted. -/
def Obligations.queue_commands : Prop :=
  ∀ (s : State) (ini : Ini) (n : CoreNo) (q : QueueNo), s.admits ini (pgCore n) (qcmdOff q) = true → s.d.enabled n = true →
    let x := s.d.queue n q
    let r := s.reached ini (pgCore n)
    let h := if x.flip then !x.half else x.half
    let sets (c : Instr) (y : Queue) : Prop := exec c s = .next (r.onD (fun d => d.setQueue n q y))
    let ignored (c : Instr) : Prop := exec c s = .next (r.onD (fun d => d.count (pgCore n) 0x32))
    let onIdle := bit (s.d.qreg n q 0x48) 1
    let badMode := s.d.qmode n q = 3 ∨ (s.d.qmode n q = 1 ∧ s.d.qreg n q 0x14 = 0)
    ((x.st = .idle → ¬ badMode → s.d.ringOk n q h = true → ∃ t, exec (.start ini n q) s = .next t ∧
        t.d.queue n q = { x with st := .running, pass := 0, entered := 0, window := [], half := h, flip := false, armed := false,
                                 lastPass := false, held := s.d.pw.holds (westCore n), skip := none, heldBrk := none,
                                 gen0 := if h then x.gen0 else (x.gen0 + 1) % 256, gen1 := if h then (x.gen1 + 1) % 256 else x.gen1 } ∧
        (∀ k, (k / 4 ≠ n.val ∨ k % 4 ≠ q.val) → sget t.d.queues {} k = sget s.d.queues {} k) ∧
        t.d.mem = s.d.mem ∧ t.d.regs = s.d.regs ∧ t.a = r.a ∧ t.pending = s.pending) ∧
      (x.st = .idle → badMode ∨ s.d.ringOk n q h = false → exec (.start ini n q) s = .next (r.onD (fun d => d.haltQueue n q
        { status := stAborted, detail := if badMode then bdField else bdRing, idx := 0, half := h, tag := 0 }))) ∧
      (x.st ≠ .idle → ignored (.start ini n q))) ∧
    ((x.st = .running → sets (.stop ini n q) { x with st := .stopped }) ∧ (x.st ≠ .running → ignored (.stop ini n q))) ∧
    let k := match x.heldBrk with
      | some h => some h
      | none => x.skip
    ((x.st = .stopped ∨ x.st = .brk →
        (x.lastPass = false ∨ x.window ≠ [] → sets (.resume ini n q) { x with st := .running, skip := k, heldBrk := none }) ∧
        (x.lastPass = true → x.window = [] → x.infl ≠ [] → sets (.resume ini n q) { x with st := .draining, skip := k, heldBrk := none }) ∧
        (x.lastPass = true → x.window = [] → x.infl = [] →
          sets (.resume ini n q) { x with st := .idle, skip := k, heldBrk := none, irq := x.irq || onIdle })) ∧
      (x.st ≠ .stopped → x.st ≠ .brk → ignored (.resume ini n q))) ∧
    ((x.st ≠ .idle → x.st ≠ .halted → exec (.abort ini n q) s = .next (r.onD (fun d => d.haltQueue n q
        { status := stAborted, detail := bdSoft, idx := x.index, half := x.half, tag := 0 }))) ∧
      (x.st = .idle ∨ x.st = .halted → ignored (.abort ini n q))) ∧
    ((x.st = .idle ∨ x.st = .halted ∨ x.st = .stopped → x.infl = [] → sets (.reset ini n q)
        { x with st := .idle, fault := none, done := 0, pass := 0, entered := 0, window := [], flip := false, armed := false,
                 skip := none, heldBrk := none, lastPass := false, held := false }) ∧
      (x.st = .running ∨ x.st = .draining ∨ x.st = .brk ∨ x.infl ≠ [] → ignored (.reset ini n q))) ∧
    ((bit (s.d.qreg n q 0x10) 2 = true → x.flip = false → s.d.ringOk n q (!x.half) = true →
        exec (.flip ini n q) s = .next (r.onD (fun d => (d.setQueue n q { x with flip := true }).newGen n q (!x.half)))) ∧
      (bit (s.d.qreg n q 0x10) 2 = false ∨ x.flip = true ∨ s.d.ringOk n q (!x.half) = false → ignored (.flip ini n q))) ∧
    sets (.pregArm ini n q) { x with armed := true } ∧ sets (.ackIrq ini n q) { x with irq := false }

/-- DESCRIPTOR_FETCH of the missing line of a running queue, with no access waiting for its bursts and a circuit
free for it, puts the 256 bytes of stack memory at the line into the cache under the half and generation of the
queue, counts the fetch and changes no memory and no queue. WINDOW_ENTRY of a running queue whose next descriptor is
cached, is the last of its line, and shows no fault puts it at the window's tail and moves on by one. NOP and SIGNAL
at the head of the sequencer engine, with no felt operand, complete at issue. DESCRIPTOR_COMPLETE of a descriptor
that has run lets the port engines move on; where no collective runs or waits, it completes the descriptor with its
status if nothing of it is outstanding, and does nothing else. EVENT_SIGNAL adds the increment of the first signal
at the island's node to the counter it names, and changes no other counter and no memory. -/
def Obligations.queue_fetch_and_entry : Prop :=
  (∀ (s : State) (n : CoreNo) (q : QueueNo), s.d.live (islOf n) = true → s.d.enabled n = true →
    let x := s.d.queue n q
    let a := s.d.ringBase n q x.half + 64 * (x.entered / 4 * 4)
    let st := s.d.ringBase n q x.half / 2 ^ 36
    (s.d.fetchDue n q = true → s.d.stackClosed st = false → (s.d.stack (a / 2 ^ 36)).failed = false → s.d.orderClear a 256 = true →
      s.d.oneShot st n none (fun _ => true) = true →
      ∃ t, exec (.descriptorFetch n q [] none) s = .next t ∧
        sget t.d.dcache {} ((n.val * 4 + q.val) * 64 + x.entered / 4 % 64) =
          { half := x.half, gen := if x.half then x.gen1 else x.gen0, first := x.entered / 4 * 4, words := s.d.mwords a 64 } ∧
        t.d.ctrOf (pgCore n) (0x28 + q.val) = bump (s.d.ctrOf (pgCore n) (0x28 + q.val)) 1 ∧
        t.d.mem = s.d.mem ∧ t.d.regs = s.d.regs ∧ t.d.queues = s.d.queues ∧ t.a = s.a) ∧
    let ent (l : CLine) : WinEnt :=
      { d := (List.range 16).map (fun w => l.words.getD (48 + w) 0), idx := x.entered, half := x.half, pass := x.pass.toNat }
    (∀ l, x.st = .running → x.held = false → x.window.length < 16 → x.entered < s.d.ringLen n q x.half → x.entered % 4 = 3 →
      s.d.cachedLine n q x.entered = some l →
      s.d.entryCause n q (ent l).d = none →
      ∃ t, exec (.windowEntry n q) s = .next t ∧
        t.d.queue n q = { x with entered := x.entered + 1, window := x.window ++ [ent l] } ∧
        t.d.mem = s.d.mem ∧ t.d.regs = s.d.regs ∧ t.a = s.a ∧ (∀ p, p ≠ q.val → t.d.queue n p = s.d.queue n p))) ∧
  ((∀ (s : State) (n : CoreNo) (opc q i : Nat) (e : WinEnt), (opc = opcNop ∨ opc = opcSignal) → s.d.live (islOf n) = true →
      s.d.enabled n = true → s.d.winner n 0 (fun q e => (s.d.readiness n q e none).issues) = some (q, i, e) → dOpc e.d = opc →
      s.d.tagHeld n q e = false →
      exec (if opc = opcNop then .nop n else .signal n) s = .next (s.onD (fun d =>
        ((d.toFlight n q i e e.d [] []).1.finish n q (d.toFlight n q i e e.d [] []).2 stOk 0).passEnd n q))) ∧
    (∀ (s : State) (n : CoreNo) (q : Fin 5) (i : Nat) (e : Infl) (errs : List (Nat × Nat × Bool)), s.d.live (islOf n) = true →
      s.d.enabled n = true → (s.d.queue n q).infl[i]? = some e → e.ran = true → s.d.poolOfReq e = none →
      exec (.descriptorComplete n q i errs) s = .next (s.onD (fun d => d.peAll.completeAt n q i)) ∧
      ((∀ p, p < 16 → (s.d.port p).coll = none ∧ (s.d.port p).waiting = []) →
        (e.left = 0 → e.waits = false → s.d.arrayPending n q e = false →
          exec (.descriptorComplete n q i errs) s = .next (s.onD (fun d => d.finish n q e e.status.1 e.status.2))) ∧
        (0 < e.left ∨ e.waits = true → exec (.descriptorComplete n q i errs) s = .next s))) ∧
    (∀ (s : State) (i : TileNo) (m : SbMsg) (l : List SbMsg) (ev inc : Nat), s.d.live i = true → sget s.d.sbArr [] (islNode i) = m :: l →
      m.body = .signal ev inc → ∃ t, exec (.eventSignal i) s = .next t ∧
        (∀ k, sget t.d.evt 0 k = if k = i.val * 4096 + ev % 4096 then sget s.d.evt 0 k + word inc else sget s.d.evt 0 k) ∧
        sget t.d.sbArr [] (islNode i) = l ∧ t.d.mem = s.d.mem ∧ t.d.regs = s.d.regs ∧ t.d.queues = s.d.queues ∧ t.a = s.a))

/-- OPA, OPA_T, LOADACC, DRAIN, MATVEC, VEC, TABLE_APPLY, COPY, CONVERT, RNG_FILL and REDUCE each complete: a
descriptor of that operation for which the seven conditions of 04 R116 hold, which its engine takes next (04 R117)
and no tag break holds, with nothing of its engine ahead, every page of its span RESIDENT and its banks serving it,
leaves the window for flight and runs as its engine does, errors met in its reads being recorded first, with the
pass boundary if it was the last of its pass. SKIM_PART and UPDATE of a step that is not skipped run likewise.
Nothing but the die changes. BARRIER taken next by the sequencer issues and sends one arrival to the Deckle, and
waits for the release. GATHER and COLL taken next by the port engine, their communicator without fault, issue, join
their port engine with a sequence number of their own, and the port engines move on. Nothing but the die changes. -/
def Obligations.engines_run_the_winner : Prop :=
  (∀ (s : State) (n : CoreNo) (q i : Nat) (e : WinEnt) (ops : List Word) (felts : List FeltUse) (span : List Nat) (errs : List (Nat × Nat × Bool)),
    s.d.live (islOf n) = true → s.d.enabled n = true →
    let f := s.d.toFlight n q i e ops felts span
    let done (run : Die → Infl → Die × Infl) : Die :=
      ((run (f.1.markRead f.2) f.2).1.putInfl n q { (run (f.1.markRead f.2) f.2).2 with ran := true }).passEnd n q
    let ran (run : Die → Infl → Die × Infl) : State := s.onD (fun _ => done run)
    (dOpc e.d = opcOpa → s.d.takes n q i e ops felts span noExtra = true → s.d.runsNow n q e ops span = true →
      exec (.opa n errs) s = .next (ran (fun d x => (d.meetErrs x errs).runOp n q x))) ∧
    (dOpc e.d = opcOpaT → s.d.takes n q i e ops felts span noExtra = true → s.d.runsNow n q e ops span = true →
      exec (.opaT n errs) s = .next (ran (fun d x => (d.meetErrs x errs).runOp n q x))) ∧
    (dOpc e.d = opcLoadacc → s.d.takes n q i e ops felts span noExtra = true → s.d.runsNow n q e ops span = true →
      exec (.loadacc n errs) s = .next (ran (fun d x => (d.meetErrs x errs).runOp n q x))) ∧
    (dOpc e.d = opcDrain → s.d.takes n q i e ops felts span noExtra = true → s.d.runsNow n q e ops span = true →
      exec (.drain n errs) s = .next (ran (fun d x => (d.meetErrs x errs).runOp n q x))) ∧
    (dOpc e.d = opcMatvec → s.d.takes n q i e ops felts span noExtra = true → s.d.runsNow n q e ops span = true →
      exec (.matvec n errs) s = .next (ran (fun d x => (d.meetErrs x errs).runOp n q x))) ∧
    (dOpc e.d = opcVec → s.d.takes n q i e ops felts span noExtra = true → s.d.runsNow n q e ops span = true →
      exec (.vec n errs) s = .next (ran (fun d x => (d.meetErrs x errs).runOp n q x))) ∧
    (dOpc e.d = opcTable → s.d.takes n q i e ops felts span noExtra = true → s.d.runsNow n q e ops span = true →
      exec (.tableApply n errs) s = .next (ran (fun d x => (d.meetErrs x errs).runOp n q x))) ∧
    (dOpc e.d = opcCopy → s.d.takes n q i e ops felts span noExtra = true → s.d.runsNow n q e ops span = true →
      exec (.copy n errs) s = .next (ran (fun d x => (d.meetErrs x errs).runOp n q x))) ∧
    (dOpc e.d = opcConvert → s.d.takes n q i e ops felts span noExtra = true → s.d.runsNow n q e ops span = true →
      exec (.convert n errs) s = .next (ran (fun d x => (d.meetErrs x errs).runOp n q x))) ∧
    (dOpc e.d = opcRng → s.d.takes n q i e ops felts span noExtra = true → s.d.runsNow n q e ops span = true →
      exec (.rngFill n errs) s = .next (ran (fun d x => (d.meetErrs x errs).runOp n q x))) ∧
    (dOpc e.d = opcReduce → s.d.takes n q i e ops felts span noExtra = true → s.d.runsNow n q e ops span = true →
      exec (.reduce n errs) s = .next (ran (fun d x => (d.meetErrs x errs).runOp n q x))) ∧
    (dOpc e.d = opcSkim → s.d.takes n q i e ops felts span noExtra = true → s.d.runsNow n q e ops span = true →
      s.d.partSkipped (s.d.qjob n q) e.d = false →
      exec (.skimPart n errs) s = .next (s.onD (fun _ => (done (fun d x => (d.meetErrs x errs).runSkimPart n q x)).finishEarly n (s.d.freshId n)))) ∧
    (dOpc e.d = opcUpdate → s.d.takes n q i e ops felts span noExtra = true → s.d.runsNow n q e ops span = true →
      s.d.updateSkipped (s.d.qjob n q) e.d = false →
      exec (.update n errs) s = .next (s.onD (fun _ => (done (fun d x => (d.meetErrs x errs).runUpdate n x)).finishSkipped n (s.d.freshId n))))) ∧
  (∀ (s : State) (n : CoreNo) (q i : Nat) (e : WinEnt) (ops : List Word) (felts : List FeltUse) (span : List Nat),
    s.d.live (islOf n) = true → s.d.enabled n = true →
    let f := s.d.toFlight n q i e ops felts span
    let ends (g : Die × Infl) : Die := (g.1.putInfl n q { g.2 with ran := true }).passEnd n q
    (dOpc e.d = opcBarrier → s.d.takes n q i e ops felts span noExtra = true → s.d.runsNow n q e ops span = true →
      exec (.barrier n) s = .next (s.onD (fun _ => ends (((f.1.markRead f.2).send n dkNode
        (.arrival f.2.job (dOpx e.d 5 0) { core := n, queue := q, id := f.2.id })), { f.2 with left := 1 })))) ∧
    (dOpc e.d = opcGather → s.d.takes n q i e ops felts span Die.collFault = true →
      exec (.gather n ()) s = .next (s.onD (fun _ => (ends (f.1.runColl n q f.2)).peAll))) ∧
    (dOpc e.d = opcColl → s.d.takes n q i e ops felts span Die.collFault = true →
      exec (.coll n ()) s = .next (s.onD (fun _ => (ends (f.1.runColl n q f.2)).peAll))))

/-- SWAP_TOKEN_ENTRY writes the active tile back to its slot and makes the next tile active; FLUSH_TOKEN of an array
for which no issued operation waits writes the active tile back when a waiting descriptor needs its slot, and
counts; TBUF_HALF_FILL counts one half filled; FTAB_SWAP_REQUEST with a good staging image and no swap pending
records the target table; FTAB_SWAP replaces that table by the 776 staged words once no issued descriptor names it,
and no other table changes. MATVEC_PASS_END makes the next pass of the core's oldest running MATVEC, the first after
its vector is loaded, after recording the errors met, and no pass when none runs. BPOOL_REQUEST of a pooled request
that its pool core may take beside those collected has its vector delivered and joins them; BPOOL_TIMEOUT launches
what has been collected as one batch once no array operation waits to enter, and leaves a pool with nothing
collected as it was. -/
def Obligations.array_and_tables : Prop :=
  (∀ (s : State) (n : CoreNo), s.d.live (islOf n) = true →
    (∀ t, (s.d.core n).next = some t →
      ((s.d.core n).active = none → exec (.swapTokenEntry n) s = .next (s.onD (fun d => d.updCore n (fun c => { c with active := some t, next := none })))) ∧
      (∀ a, (s.d.core n).active = some a → ∃ u, exec (.swapTokenEntry n) s = .next u ∧
        (u.d.core n).active = some t ∧ (u.d.core n).next = none ∧ u.d.acc = (s.d.setSlot n a.slot 0 a.acc).acc ∧
        u.d.mem = s.d.mem ∧ u.d.regs = s.d.regs ∧ u.d.queues = s.d.queues)) ∧
    (∀ t, s.d.arrayFree n = true → (s.d.core n).active = some t → s.d.slotWanted n t.slot = true →
      exec (.flushToken n) s = .next (s.onD (fun d =>
        (((d.writeBack n t).updCore n (fun c => { c with active := none, lastSlot := none })).count (pgCore n) 5).arrayTime n))) ∧
    (0 < (s.d.core n).tbuf → exec (.tbufHalfFill n) s = .next (s.onD (fun d =>
      (d.updCore n (fun c => { c with tbuf := (s.d.core n).tbuf - 1 })).count (pgCore n) 0xA))) ∧
    (∀ ini : Ini, s.admits ini (pgCore n) 0x114 = true → s.d.enabled n = true → (s.d.core n).swap = none → s.d.stageBad n = false →
      exec (.ftabSwapRequest ini n) s = .next ((s.reached ini (pgCore n)).onD (fun d =>
        d.updCore n (fun c => { c with swap := some (fld (s.d.reg (pgCore n) 0x110) 4 0) })))) ∧
    (∀ t, (s.d.core n).swap = some t → (∀ y ∈ s.d.inflight n, dFnEn y.2.d = true → dFn y.2.d ≠ t) →
      ∃ u, exec (.ftabSwap n) s = .next u ∧ (u.d.core n).swap = none ∧ (u.d.core n).lastSwapped = t ∧
        (∀ k, sget u.d.ftab 0 k = if n.val * 32768 + t * 1024 ≤ k ∧ k < n.val * 32768 + t * 1024 + 776 then
          sget s.d.stage 0 (n.val * 1024 + (k - (n.val * 32768 + t * 1024))) else sget s.d.ftab 0 k) ∧
        u.d.stage = s.d.stage ∧ u.d.mem = s.d.mem ∧ u.d.regs = s.d.regs)) ∧
  ((∀ (s : State) (n : CoreNo) (errs : List (Nat × Nat × Bool)), s.d.live (islOf n) = true →
      (s.d.mvRunning n = none → exec (.matvecPassEnd n errs) s = .next s) ∧
      (∀ q e, s.d.mvRunning n = some (q, e) →
        exec (.matvecPassEnd n errs) s = .next (s.onD (fun d => (d.meetErrs e errs).mvPass n)) ∧
        let p := dOpx e.d 4 0 - e.left
        let g := (if p = 0 then s.d.loadVec n e else s.d).runPass n e p
        let mv : Option (DescRef × Nat) := if e.left - 1 = 0 then none else some ({ core := n, queue := q, id := e.id }, p + 1)
        exec (.matvecPassEnd n []) s = .next (s.onD (fun _ =>
          (g.1.updCore n (fun c => { c with mv })).putInfl n q { g.2 with left := e.left - 1 })))) ∧
    (∀ (s : State) (c n : CoreNo) (q : QueueNo) (i : Nat) (e : Infl) (l : List PoolReq), s.d.live (islOf c) = true →
      (s.d.queue n q).infl[i]? = some e →
      let ref : DescRef := { core := n, queue := q, id := e.id }
      let fmt := if dOpx e.d 5 5 = 1 then (s.d.core n).vfmt else dFmtA e.d
      s.d.inflOf ref = some e → e.ran = true → 0 < e.left → s.d.poolOfReq e = some c.val → (s.d.core c).pool = l →
      (l = [] ∨ ∃ x y t, l = x :: t ∧ s.d.inflOf x.ref = some y ∧ sameBatch y e = true) →
      (l ++ (s.d.core c).batch).all (fun x => decide (x.ref ≠ ref)) = true → l.length < 31 →
      exec (.bpoolRequest c n q i []) s = .next (s.onD (fun d =>
        (d.deliverVec c ref e l.length fmt).updCore c (fun x => { x with pool := x.pool ++ [{ ref, sheet := l.length, fmt }] })))) ∧
    (∀ (s : State) (c : CoreNo), s.d.live (islOf c) = true →
      ((s.d.core c).pool = [] ∨ s.d.arrayFree c = false → exec (.bpoolTimeout c) s = .next s) ∧
      (∀ r l e, (s.d.core c).pool = r :: l → s.d.inflOf r.ref = some e → s.d.arrayFree c = true → ∃ t, exec (.bpoolTimeout c) s = .next t ∧
        (t.d.core c).pool = [] ∧
        (t.d.core c).batch = (s.d.core c).batch ++ ((r :: l).filter (fun x => (s.d.inflOf x.ref).isSome)).map (s.d.poolRun c (dSlot e.d)) ∧
        t.d.mem = s.d.mem ∧ t.d.regs = s.d.regs ∧ t.d.queues = s.d.queues ∧ t.a = s.a ∧ t.pending = s.pending)))

/-- With no command under way: PLACE for a disabled job ends 7, of a region already placed 4, of an image that is
misaligned 3; of a good image with an admissible origin it waits for the plan slots of the region the search found.
SLOT_PLAN_LOAD with no circuit on those slots makes the region placed and ends with result 0. REMOVE of an absent
region ends 5, of one whose queues are not quiet 6, and of a quiet one with no page homed in it ends 0 with the
region gone. CMD_ACK clears DONE_PEND. Any of them is refused while a command is under way. None of them changes
stack memory. -/
def Obligations.placement : Prop :=
  ∀ (s : State) (ini : Ini), s.d.live (iniIsland ini) = true → s.admits ini pgDk 0x10C = true →
    let r := s.reached ini pgDk
    let a := s.d.dkAddr
    let m := s.d.readImage a
    let ends (c : Instr) (code : Nat) : Prop := exec c s = .next (r.onD (fun d => d.dkEnd code 0))
    (s.d.dk.cmd ≠ .none → ∀ c ∈ [Instr.place ini [], .remove ini, .pages ini [], .cmdAck ini], exec c s = .next (s.bounced ini pgDk)) ∧
    (s.d.dk.cmd = .none →
      ((s.d.job s.d.dkJob).enabled = false → ends (.place ini []) 7) ∧
      ((s.d.job s.d.dkJob).enabled = true → (s.d.region s.d.dkRegion).isSome = true → ends (.place ini []) 4) ∧
      ((s.d.job s.d.dkJob).enabled = true → s.d.region s.d.dkRegion = none →
        (a % 64 ≠ 0 → ends (.place ini []) 3) ∧
        (∀ x y base, a % 64 = 0 → s.d.sectionsOk [(a, 64)] = true → s.d.headerOk a = true → s.d.sectionsOk (s.d.sections a m) = true →
          s.d.planOk m = true → s.d.feltOk m = true → s.d.search m s.d.dkRegion = .ok (x, y, base) →
          ∃ t, exec (.place ini []) s = .next t ∧
            t.d.dk = { s.d.dk with cmd := .placing s.d.dkRegion (s.d.mkRegion m s.d.dkJob x y base) a } ∧
            t.d.regions = s.d.regions ∧ t.d.mem = s.d.mem ∧ t.d.evt = s.d.evt ∧ t.d.nent = s.d.nent ∧ t.a = r.a)) ∧
      (s.d.region s.d.dkRegion = none → ends (.remove ini) 5) ∧
      (∀ g, s.d.region s.d.dkRegion = some g →
        (s.d.regionQuiet g = false → ends (.remove ini) 6) ∧
        (s.d.regionQuiet g = true → s.d.homedIn s.d.dkRegion = [] → ∃ t, exec (.remove ini) s = .next t ∧
          t.d.dk = { s.d.dk with cmd := .none, donePend := true, result := 0, index := 0 } ∧
          (∀ k, t.d.region k = if k = s.d.dkRegion then none else s.d.region k) ∧ t.d.mem = s.d.mem ∧ t.a = r.a)) ∧
      exec (.cmdAck ini) s = .next (r.onD (fun d => d.updDk (fun x => { x with donePend := false })))) ∧
    (∀ k g b, s.d.live 89 = true → s.d.dk.cmd = .placing k g b →
      (s.d.planHeld g = true → exec .slotPlanLoad s = .next s) ∧
      (s.d.planHeld g = false → ∃ t, exec .slotPlanLoad s = .next t ∧ t.d.dk.cmd = .none ∧ t.d.dk.donePend = true ∧
        t.d.dk.result = 0 ∧ (∀ i, t.d.region i = if i = k then some g else s.d.region i) ∧ t.d.mem = s.d.mem ∧ t.a = s.a))

/-- PAGES for an enabled job, of a list in readable stack memory whose first record has an operation, waits for that
record; of an empty list it ends 8, for a disabled job 7. DECLARE, SET_HINT, RELEASE, SHARE and WRITEBACK each
process the next record if it is theirs: one that fails ends the command with its code and index, one that succeeds
moves on to the next; with the job disabled meanwhile the command ends 7. A DECLARE of a free page with a good
record maps it to a new absent object on the stack of STACK_MAP; a SET_HINT changes the hint alone; a SHARE makes
the mapping and its object, or counts one more mapping of the object it finds; a RELEASE of an absent page
undeclares it; a WRITEBACK of a dirty resident page asks for its write-back, of a clean page does nothing. -/
def Obligations.page_commands : Prop :=
  ∀ (s : State),
    (∀ ini : Ini, s.admits ini pgDk 0x10C = true → s.d.dk.cmd = .none →
      let r := s.reached ini pgDk
      let a := s.d.dkAddr
      let n := s.d.dkCount
      ((s.d.job s.d.dkJob).enabled = false → exec (.pages ini []) s = .next (r.onD (fun d => d.dkEnd 7 0))) ∧
      ((s.d.job s.d.dkJob).enabled = true → n = 0 → exec (.pages ini []) s = .next (r.onD (fun d => d.dkEnd 8 0))) ∧
      ((s.d.job s.d.dkJob).enabled = true → 0 < n → n ≤ 65536 → a + 16 * n ≤ stackEnd → (∀ k, k < 8 → s.d.stackClosed k = false) →
        1 ≤ recOp (s.d.recAt a 0) → recOp (s.d.recAt a 0) ≤ 5 →
        (exec (.pages ini []) s = .next (r.onD (fun d => (d.firstBad a n []).1.updDk (fun x => { x with cmd := .pages s.d.dkJob a n 0 n })))) ∧
        (r.d.firstBad a n []).1.mem = s.d.mem ∧ (r.d.firstBad a n []).1.objs = s.d.objs)) ∧
    (∀ j a n i bad, s.d.live 89 = true → s.d.dk.cmd = .pages j a n i bad →
      let r := s.d.recAt a i
      let v := recPage r
      let key := j * 2 ^ 23 + v
      let more (d : Die) : State := s.onD (fun _ => (d.updDk (fun x => { x with cmd := .pages j a n (i + 1) bad })).pagesNext)
      let runs (c : Instr) (op : Nat) (f : Die → Nat → List Word → Except Nat Die) : Prop :=
        (recOp r ≠ op → exec c s = .next s) ∧
        (recOp r = op → (∀ e, f s.d j r = .error e → exec c s = .next (s.onD (fun d => d.dkEnd e i))) ∧
          (∀ d', f s.d j r = .ok d' → exec c s = .next (more d')))
      ((s.d.job j).enabled = false → ∀ c : Instr, c ∈ [Instr.declare, .setHint, .release, .share, .writeback] →
        exec c s = .next (s.onD (fun d => d.dkEnd 7 i))) ∧
      ((s.d.job j).enabled = true →
       runs .declare 1 Die.recDeclare ∧ runs .setHint 2 Die.recHintSet ∧ runs .release 3 Die.recRelease ∧
       runs .share 4 Die.recShare ∧ runs .writeback 5 Die.recWriteback) ∧
      ((s.d.job j).enabled = true → recReserved r = false →
        (∀ k, recOp r = 1 → recHintBad r = false → recHint r ≠ 1 → s.d.page j v = none → v < 0x7FFC00 →
          s.d.streamBad j (recHome r) = false → s.d.homeBad (recHome r) = false → s.d.takeSpage j (s.d.stackFor j v) = .ok k →
          ∃ t, exec .declare s = .next t ∧ t.d.page j v = some { hint := recHint r, home := recHome r, uses := recUses r } ∧
            (∀ k', k' ≠ key → sget t.d.pages none k' = sget s.d.pages none k') ∧
            (∃ o, t.d.obj key = some o ∧ o.st = .absent ∧ o.stack = s.d.stackFor j v ∧ o.spage = k ∧ o.owner = j ∧ o.refs = 0) ∧
            t.d.mem = s.d.mem ∧ t.d.regs = s.d.regs ∧ t.a = s.a) ∧
        (∀ k, recOp r = 4 → recHintBad r = false → recHint r ≠ 1 → s.d.page j v = none → v < 0x7FFC00 →
          s.d.streamBad j (recHome r) = false → s.d.obj (2 ^ 28 + recShared r) = none → s.d.homeBad (recHome r) = false →
          bit (recHome r) 8 = true → s.d.takeSpage j (s.d.stackFor j v) = .ok k →
          ∃ t, exec .share s = .next t ∧
            t.d.page j v = some { hint := recHint r, home := recHome r, uses := recUses r, shared := some (recShared r) } ∧
            (∃ o, t.d.obj (2 ^ 28 + recShared r) = some o ∧ o.st = .absent ∧ o.stack = s.d.stackFor j v ∧ o.spage = k ∧
              o.owner = j ∧ o.maps = 1 ∧ o.slice = coreAt (fld (recHome r) 25 20) (fld (recHome r) 19 14) ∧ o.pref = fld (recHome r) 13 9) ∧
            t.d.mem = s.d.mem ∧ t.d.regs = s.d.regs ∧ t.a = s.a) ∧
        (∀ o, recOp r = 4 → recHintBad r = false → recHint r ≠ 1 → s.d.page j v = none → v < 0x7FFC00 →
          s.d.streamBad j (recHome r) = false → s.d.obj (2 ^ 28 + recShared r) = some o →
          ∃ t, exec .share s = .next t ∧ t.d.obj (2 ^ 28 + recShared r) = some { o with maps := o.maps + 1 } ∧
            (∃ p, t.d.page j v = some p ∧ p.hint = recHint r ∧ p.uses = recUses r ∧ p.shared = some (recShared r) ∧
              fld p.home 7 0 = fld (recHome r) 7 0 ∧ bit p.home 8 = true) ∧
            t.d.mem = s.d.mem ∧ t.d.regs = s.d.regs ∧ t.a = s.a) ∧
        (∀ p ok, recOp r = 2 → recHintBad r = false → recHint r ≠ 1 → s.d.page j v = some p → s.d.objKey j v = some ok →
          exec .setHint s = .next (more (s.d.setPage j v (some { p with hint := recHint r, uses := recUses r })))) ∧
        (∀ p o, recOp r = 3 → s.d.page j v = some p → p.shared = none → s.d.obj key = some o → o.st = .absent → o.unheld = true →
          exec .release s = .next (more ((s.d.setPage j v none).setObj key none))) ∧
        (∀ ok o, recOp r = 5 → s.d.objKey j v = some ok → s.d.obj ok = some o → (o.dirty = false ∨ o.st ≠ .resident) → exec .writeback s = .next (more s.d)) ∧
        (∀ ok o, recOp r = 5 → s.d.objKey j v = some ok → s.d.obj ok = some o → o.st = .resident → o.dirty = true → s.d.requested ok = false →
          exec .writeback s = .next (more ((s.d.updObj ok (fun o => { o with rewritten := false })).request .writeback ok o j)))))

/-- HOME_FRAME_TAKEN gives a waiting absent page a free home frame in state FILLING. ZERO_FILL_DONE writes zeros to
its frame alone and makes a page with a home RESIDENT with every sheet unread. FILL_DONE, once circuits have carried
all sixteen sheets, makes a page with a home RESIDENT with every sheet unread, turns its reservations into
references and ends its request; the sheets themselves are written as CIRCUIT_OPEN carries them. DRAIN_DONE of an
unreferenced clean page without a transfer makes it ABSENT. WRITEBACK_DONE of a page whose sheets circuits have
carried makes its stack copy valid if the page was dirty, and leaves it clean unless it was written meanwhile. -/
def Obligations.residency : Prop :=
  ∀ (s : State) (k : ObjKey) (o : PObj), s.d.live 89 = true → s.d.obj k = some o →
    (o.st = .absent → o.waiting = true → ∀ f, s.d.homeFrame o = some f →
      exec (.homeFrameTaken k) s = .next (s.onD (fun d => d.enterFilling k o f o.charged o.pf)) ∧
      ∃ o', (s.d.enterFilling k o f o.charged o.pf).obj k = some o' ∧ o'.st = .filling ∧ o'.frame = f ∧ o'.waiting = false ∧
        o'.zero = !o.stackValid) ∧
    (o.st = .filling → o.zero = true → s.d.zeroSlot o.frame = true → s.d.live (islOf (o.frame / 32)) = true →
      ∃ d' : Die, exec (.zeroFillDone k) s = .next (s.onD (fun _ => (d'.removeStep).fabSettle)) ∧
        (∀ x, d'.byte x = if vatBase + o.frame * 65536 ≤ x ∧ x < vatBase + (o.frame + 1) * 65536 then 0 else s.d.byte x) ∧
        ((s.d.mappings k).any (fun p => (s.d.homeSlice p.2).isSome) = true →
          d'.obj k = some (PObj.seat { o with st := .resident, unread := 0xFFFF, zero := false } s.d.dk.clock))) ∧
    (∀ r, o.st = .filling → o.zero = false → s.d.carried k (fun x => decide (x ≠ .writeback)) = some r →
      ∃ d' : Die, exec (.fillDone k ()) s = .next (s.onD (fun _ => (d'.removeStep).fabSettle)) ∧
        d'.mem = s.d.mem ∧ d'.ctrOf pgDk 1 = bump (s.d.ctrOf pgDk 1) 1 ∧
        ((s.d.mappings k).any (fun p => (s.d.homeSlice p.2).isSome) = true →
          d'.obj k = some (PObj.seat { o with st := .resident, unread := 0xFFFF, zero := false } s.d.dk.clock) ∧
          d'.dk.reqs = s.d.dk.reqs.filter (fun q => !(decide (q.obj = k) && q.granted)))) ∧
    (o.st = .draining → o.unheld = true → o.dirty = false → o.released = false →
      (∀ kind, s.d.inFlight k kind = false) →
      exec (.drainDone k) s = .next (s.onD (fun d =>
        (d.setObj k (some { o with st := .absent, dirty := false, keepAfter := false, unread := 0, zero := false })).removeStep))) ∧
    (∀ r, s.d.carried k (fun x => decide (x = .writeback)) = some r → s.d.stackClosed r.stack = false →
      o.released = false →
      let o' : PObj := { o with stackValid := o.stackValid || o.dirty, dirty := o.dirty && o.rewritten,
                                  st := if o.keepAfter then .resident else o.st, keepAfter := false,
                                  rewritten := o.rewritten && !(decide (o.st = .draining) && !o.keepAfter && decide (o.refs = 0) &&
                                    o.dirty && !(s.d.dk.reqs.any (fun q => decide (q.obj = k) && !q.granted))) }
      ∃ t, exec (.writebackDone k ()) s = .next t ∧
        t.d.obj k = some (if o.keepAfter then o'.seat s.d.dk.clock else o') ∧ t.d.ctrOf pgDk 3 = bump (s.d.ctrOf pgDk 3) 1 ∧
        t.d.mem = s.d.mem ∧ t.d.regs = s.d.regs ∧ t.a = s.a)

/-- STACK_GRANT with fewer than 32 transfers in flight on an open stack, and no sleep or power-off entry, grants the
request its rule chooses and no other, adds each pending stream's share to its deficit and takes 65,536 from the
stream granted, and counts the grant; with no request pending it changes nothing. RATE_WINDOW updates every stream's
rate from its reads and zeroes the reads. SPILL_IDLE_WRITEBACK of a dirty unreferenced SPILL page with no request
asks for its write-back. -/
def Obligations.stack_bandwidth : Prop :=
  ∀ s : State, s.d.live 89 = true →
    (∀ n : StackNo, s.d.workHeld = false → s.d.flying n < 32 → s.d.stackClosed n = false →
      (s.d.pendStreams n = [] → exec (.stackGrant n) s = .next s) ∧
      (∀ g i, s.d.grantee n (s.d.pendStreams n) = some g → s.d.oldestReq g n = some i → ∃ t, exec (.stackGrant n) s = .next t ∧
        t.d.dk = { s.d.dk with reqs := s.d.dk.reqs.modify i (fun r => { r with granted := true }) } ∧
        (∀ x ∈ s.d.pendStreams n, (t.d.strm x).deficit = setAt (s.d.strm x).deficit n
          (if x = g then s.d.deficit x n + s.d.shareOf (s.d.pendStreams n) x - 65536 else s.d.deficit x n + s.d.shareOf (s.d.pendStreams n) x)) ∧
        (∀ x, x ∉ s.d.pendStreams n → t.d.strm x = s.d.strm x) ∧
        t.d.ctrOf pgDk (0x200 + g) = bump (s.d.ctrOf pgDk (0x200 + g)) 1 ∧
        t.d.mem = s.d.mem ∧ t.d.regs = s.d.regs ∧ t.d.objs = s.d.objs ∧ t.d.queues = s.d.queues ∧ t.a = s.a)) ∧
    (storeWf {} s.d.strms = true → ∃ t, exec .rateWindow s = .next t ∧
      (∀ x, t.d.strm x = { s.d.strm x with rate16 := (3 * (s.d.strm x).rate16 + 16 * (s.d.strm x).reads) / 4, reads := 0 }) ∧
      t.d.dk = s.d.dk ∧ t.d.mem = s.d.mem ∧ t.d.regs = s.d.regs ∧ t.a = s.a) ∧
    (∀ (k : ObjKey) (o : PObj), s.d.obj k = some o → o.st = .resident → o.dirty = true → o.refs = 0 → s.d.objHint k = 4 →
      s.d.requested k = false → exec (.spillIdleWriteback k) s = .next (s.onD (fun d =>
        (d.updObj k (fun o => { o with rewritten := false })).request .writeback k o o.charged)))

/-- PREFETCH_REQUEST of an enabled, unblocked walk: a schedule that cannot be read, when the walk starts at its
first page, stops it with PF_BAD; a page already resident or filling is passed; an absent one with room under the
quota is requested as a prefetch, counted and passed; with no room the walk waits for the page it evicted, else
evicts one, else blocks and counts. PF_WALK_RESUME unblocks it when headroom appears. PF_ADVANCE moves PF_CUR by one
and PF_RESET to 0, and both restart the walk at the first page of its window. -/
def Obligations.prefetch_walk : Prop :=
  ∀ (s : State) (j : JobNo),
    let x := s.d.job j
    let c := s.d.reg (pgJob j) 0x114
    (∀ es, s.d.live 89 = true → bit c 31 = true → x.pfBlocked = false → x.pfBad = false →
      let e := (s.d.pfRead j es).1
      let base := fld (s.d.reg (pgJob j) 0x110) 15 0 * 2 ^ 32 + fld (s.d.reg (pgJob j) 0x10C) 31 3 * 8
      (x.pfPos = 0 → s.d.rangeOpen base (8 * s.d.pfRecords j (s.d.pfCount j) 0) = false →
        exec (.prefetchRequest j es) s = .next (s.onD (fun d => d.updJob j (fun x => { x with pfBad := true })))) ∧
      ((s.d.pfRead j es).2 = false →
        exec (.prefetchRequest j es) s = .next (s.onD (fun _ => e.updJob j (fun x => { x with pfBad := true })))) ∧
      (x.pfPos ≠ 0 → s.d.pfRead j es = (s.d, true)) ∧ e.mem = s.d.mem ∧
      (∀ l ls lp v p k o, (s.d.pfRead j es).2 = true →
        s.d.pfWindow j = some l → s.d.pfLayers j (s.d.pfCount j) 0 = some (ls, lp) → l[x.pfPos]? = some v →
        s.d.page j v = some p → s.d.objKey j v = some k → (s.d.homeSlice p).isSome = true → s.d.obj k = some o →
        (o.st = .resident ∨ o.st = .filling ∨ o.waiting = true →
          exec (.prefetchRequest j es) s = .next (s.onD (fun _ => e.pfStep j))) ∧
        (o.st = .absent → o.waiting = false → s.d.pfOut j < 1024 → s.d.overQuota j = false →
          (s.d.pfRoom j = true → exec (.prefetchRequest j es) s = .next (s.onD (fun _ =>
            (((e.promote j k true).count (pgJob j) 1).updJob j (fun x => { x with pfEv := none })).pfStep j))) ∧
          (s.d.pfRoom j = false → s.d.pfDraining j = true → exec (.prefetchRequest j es) s = .next (s.onD (fun _ => e))) ∧
          (∀ w, s.d.pfRoom j = false → s.d.pfDraining j = false → s.d.pfVictim j = some w →
            exec (.prefetchRequest j es) s = .next (s.onD (fun _ =>
              ((e.startDrain w).count (pgJob j) 4).updJob j (fun x => { x with pfEv := some w })))) ∧
          (s.d.pfRoom j = false → s.d.pfDraining j = false → s.d.pfVictim j = none →
            exec (.prefetchRequest j es) s = .next (s.onD (fun _ =>
              (e.updJob j (fun x => { x with pfBlocked := true })).count (pgJob j) 2)))))) ∧
    (s.d.live 89 = true → x.pfBlocked = true → s.d.overQuota j = false → s.d.pfRoom j = true →
      exec (.pfWalkResume j) s = .next (s.onD (fun d => d.updJob j (fun x => { x with pfBlocked := false })))) ∧
    (∀ ini : Ini, s.admits ini (pgJob j) 0x118 = true →
      let loop := match s.d.pfLayers j (s.d.pfCount j) 0 with
        | some (ls, true) => ls.length
        | _ => 0
      (∃ t, exec (.pfAdvance ini j) s = .next t ∧
        t.d.job j = { x with pfCur := if loop = 0 then (x.pfCur + 1) % 65536 else (x.pfCur + 1) % loop,
                             pfPos := 0, pfBlocked := false, pfDone := false } ∧
        (∀ i, i ≠ j.val → t.d.job i = s.d.job i) ∧ t.d.mem = s.d.mem ∧ t.d.regs = s.d.regs ∧ t.d.pages = s.d.pages) ∧
      (∃ t, exec (.pfReset ini j) s = .next t ∧
        t.d.job j = { x with pfCur := 0, pfBad := false, pfPos := 0, pfBlocked := false, pfDone := false } ∧
        (∀ i, i ≠ j.val → t.d.job i = s.d.job i) ∧ t.d.mem = s.d.mem ∧ t.d.regs = s.d.regs ∧ t.d.pages = s.d.pages))

/-- ENABLE of a disabled job enables it at attempt 0; of an enabled one it is counted as ignored. RETIRE of a job
with no placed region that is not aborting leaves it disabled with no declared page; otherwise it is ignored.
JOB_ABORT sets ABORTING, and ABORTING_CLEAR clears it once no descriptor of the job is in flight. BAR_ARRIVE counts
one arrival, in the present generation while it has room and held otherwise. BARRIER_RELEASE of a barrier whose
arrivals reach the expected count, with no write-back awaited, starts the next generation with the held arrivals.
DECKLE_READY sets READY once every stack is trained or failed. -/
def Obligations.jobs_and_barriers : Prop :=
  ∀ (s : State),
    (∀ (ini : Ini) (j : JobNo), s.admits ini (pgJob j) 0x118 = true →
      let r := s.reached ini (pgJob j)
      let ignored (c : Instr) : Prop := exec c s = .next (r.onD (fun d => d.count (pgJob j) 7))
      ((s.d.job j).enabled = false → exec (.enable ini j) s = .next (r.onD (fun d => d.updJob j (fun x => { x with enabled := true, attempt := 0 })))) ∧
      ((s.d.job j).enabled = true → ignored (.enable ini j)) ∧
      (s.d.jobPlaced j = true ∨ (s.d.job j).aborting = true → ignored (.retire ini j)) ∧
      (s.d.jobPlaced j = false → (s.d.job j).aborting = false → ∃ t, exec (.retire ini j) s = .next t ∧
        t.d.job j = { s.d.job j with enabled := false } ∧ (∀ v, v < 2 ^ 23 → t.d.page j v = none) ∧
        (∀ k, k / 2 ^ 23 ≠ j.val → sget t.d.pages none k = sget s.d.pages none k) ∧ t.d.mem = s.d.mem ∧ t.a = r.a) ∧
      (∃ t, exec (.jobAbort ini j) s = .next t ∧ t.d.job j = { s.d.job j with aborting := true } ∧
        (∀ i, i ≠ j.val → t.d.job i = s.d.job i) ∧ t.d.mem = s.d.mem ∧ t.a = r.a)) ∧
    (∀ j : JobNo, s.d.live 89 = true →
      (s.d.jobInFlight j = true → exec (.abortingClear j) s = .next s) ∧
      (s.d.jobInFlight j = false → exec (.abortingClear j) s = .next (s.onD (fun d => d.updJob j (fun x => { x with aborting := false }))))) ∧
    (∀ (ini : Ini) (j : JobNo) (b : Fin 64), s.admits ini (pgJob j) 0x11C = true →
      let x := s.d.bar j b
      let adds (y : Barrier) : Prop := exec (.barArrive ini j b) s = .next ((s.reached ini (pgJob j)).onD (fun d => d.updBar j b (fun _ => y)))
      (x.now.length < s.d.barExpect j b → adds { x with now := x.now ++ [none] }) ∧
      (0 < s.d.barExpect j b → s.d.barExpect j b ≤ x.now.length → adds { x with held := x.held ++ [none] })) ∧
    (∀ (j : JobNo) (b : Fin 64), s.d.live 89 = true →
      let x := s.d.bar j b
      let n := s.d.barExpect j b
      (x.now = [] ∨ x.now.length < n → exec (.barrierRelease j b) s = .next s) ∧
      (x.now ≠ [] → n ≤ x.now.length → x.waitWb = false ∨ s.d.wbBusy j = false → ∃ t, exec (.barrierRelease j b) s = .next t ∧
        t.d.bar j b = { x with gen := x.gen + 1, now := x.held.take (max 1 n), held := x.held.drop (max 1 n) } ∧
        (∀ k, k ≠ j.val * 64 + b.val → sget t.d.bars {} k = sget s.d.bars {} k) ∧ t.d.mem = s.d.mem ∧ t.d.regs = s.d.regs ∧ t.a = s.a)) ∧
    (s.d.live 89 = true →
      ((∀ n, n < 8 → (s.d.stack n).trained = true ∨ (s.d.stack n).failed = true) →
        exec .deckleReady s = .next (s.onD (fun d => d.updDk (fun x => { x with ready := true })))) ∧
      (∀ n, n < 8 → (s.d.stack n).trained = false → (s.d.stack n).failed = false → exec .deckleReady s = .next s))

/-- LATH_FLIT takes, at a port of a link within an island, the flit that arrived in the slot it names, and at L or R
the first flit of a stream that owns that slot; CROSSING_EXIT takes the flit at the head of a crossing channel. With
good parity and every taker owned by its stream the flit leaves by each taker, else it is dropped and reported. To a
neighbour in the island it is appended there, in the taker's slot. A circuit's flit that leaves through L writes its
unit of its sheet and no other payload byte if the Lath port owns the bank in that slot, else it is dropped and the
circuit told; a write-back's flit that leaves by an edge link changes no byte outside its burst of the stack page.
SEAM_CREDIT returns a credit that is on its way, and the oldest flit that waits passes if the lane can; with none on
its way it does nothing. VIOLATION acts on the first notice at the node. With no flit to take nothing happens. -/
def Obligations.lath_flits : Prop :=
  (∀ (s : State) (n : CoreNo) (port : Fin 8) (slot : Fin 16) (bad : Bool), s.d.live (islOf n) = true →
      let gone (i : Nat) : Die := (s.d.setPort n port (dropAt (s.d.atPort n port) i)).seamFreed n port 1
      let goes (c : Instr) (i : Nat) (f : Flit) (e : List (Nat × Nat)) : Prop :=
        let f' : Flit := { f with par := f.par && !bad }
        let left : Die := if 512 ≤ f.stream then (gone i).count (pgIsl (islOf n)) 0xA else gone i
        (e ≠ [] → s.d.ownerOf n e = f.stream → f'.par = true → exec c s = .next (s.onD (fun _ => e.foldl (Die.hopOut n f.stream f') left))) ∧
        (e = [] ∨ s.d.ownerOf n e ≠ f.stream ∨ f'.par = false →
          exec c s = .next (s.onD (fun _ => (gone i).slotDrop n (s.d.ownerOf n e) f')))
      (crossing n port = true →
        (s.d.atPort n port = [] → exec (.crossingExit n port bad) s = .next s) ∧
        (∀ f l, s.d.atPort n port = f :: l → goes (.crossingExit n port bad) 0 f (s.d.takers n port f.slot))) ∧
      (crossing n port = false → 1 ≤ port.val → port.val ≤ 4 →
        ((s.d.atPort n port).findIdx? (fun f => decide (f.slot = slot.val)) = none → exec (.lathFlit n port bad slot) s = .next s) ∧
        (∀ i f, (s.d.atPort n port).findIdx? (fun f => decide (f.slot = slot.val)) = some i → (s.d.atPort n port)[i]? = some f →
          goes (.lathFlit n port bad slot) i f (s.d.takers n port slot))) ∧
      (5 ≤ port.val → port.val ≤ 6 →
        ((∀ f ∈ s.d.atPort n port, s.d.injectors n port slot f.stream = []) → exec (.lathFlit n port bad slot) s = .next s) ∧
        (∀ i f, (s.d.atPort n port).findIdx? (fun f => decide (s.d.injectors n port slot f.stream ≠ [])) = some i →
          (s.d.atPort n port)[i]? = some f → goes (.lathFlit n port bad slot) i f (s.d.injectors n port slot f.stream))) ∧
      (∀ f o q, crossing n port = false → 1 ≤ port.val → port.val ≤ 4 → bad = false → f.par = true → f.slot = slot.val →
        s.d.atPort n port = [f] → s.d.takers n port slot = [(o, q)] → entOwner (s.d.nodeEnt n o q) = f.stream →
        (∀ m, o < 4 → outNode n o = some m → islOf m = islOf n → ∃ t, exec (.lathFlit n port bad slot) s = .next t ∧
          t.d.atPort n port = [] ∧ t.d.atPort m (arrPort o) = s.d.atPort m (arrPort o) ++ [{ f with slot := q }] ∧
          t.d.mem = s.d.mem ∧ t.d.regs = s.d.regs ∧ t.d.queues = s.d.queues ∧ t.a = s.a) ∧
        (∀ c, o = 4 → f.kind = 0 → f.data.length = 16 → f.addr / 8 % 128 < 64 → 512 ≤ f.stream → s.d.circ f.stream = some c → 2 ≤ c.left →
          let g := n.val * 512 + f.addr / 1024 % 512
          let a := sheetAddr g + 64 * (f.addr / 8 % 128)
          (s.d.lathBank n q (f.addr / 16384 % 32) = true → ∃ t, exec (.lathFlit n port bad slot) s = .next t ∧
            t.d.bytes a 64 = f.bytes ∧ (∀ x, x < a ∨ a + 64 ≤ x → t.d.byte x = s.d.byte x) ∧
            t.d.circs = s.d.circs.map (fun y => if y.id = f.stream then { y with left := y.left - 1 } else y) ∧
            t.d.side = s.d.side ∧ t.d.queues = s.d.queues ∧ t.a = s.a) ∧
          (s.d.lathBank n q (f.addr / 16384 % 32) = false → ∃ t, exec (.lathFlit n port bad slot) s = .next t ∧
            t.d.ctrOf (pgCore n) 0x42 = bump (s.d.ctrOf (pgCore n) 0x42) 1 ∧
            t.d.circ f.stream = some { c with lost := some n.val, left := c.left - 1 } ∧ t.d.mem = s.d.mem ∧ t.d.side = s.d.side)) ∧
        (∀ c k x, o < 4 → outNode n o = none → f.data.length = 16 → s.d.circ f.stream = some c → c.obj = some k → 2 ≤ c.left →
          s.d.obj k = some x →
          let a := s.d.pageAddr x.stack x.spage + 4352 * c.sheet + f.addr / 8 % 128 * 64
          ∃ t, exec (.lathFlit n port bad slot) s = .next t ∧ (∀ y, y < a ∨ a + 64 ≤ y → t.d.byte y = s.d.byte y) ∧ t.a = s.a))) ∧
    (∀ (s : State) (row : Fin 64) (west : Bool),
      let k := row.val * 2 + b2n west
      let src := coreAt (if west then 32 else 31) row
      let back : Die := { s.d with seamBack := sset s.d.seamBack 0 k (sget s.d.seamBack 0 k - 1),
                                   seamUsed := sset s.d.seamUsed 0 k (sget s.d.seamUsed 0 k - 1) }
      (sget s.d.seamBack 0 k = 0 → exec (.seamCredit row west) s = .next s) ∧
      (0 < sget s.d.seamBack 0 k → s.d.pw.seamShut = false → s.d.live (islOf src) = true →
        (sget s.d.seamWait [] k = [] ∨ back.seamPasses k = false → exec (.seamCredit row west) s = .next (s.onD (fun _ => back))) ∧
        (∀ f l, sget s.d.seamWait [] k = f :: l → back.seamPasses k = true → exec (.seamCredit row west) s = .next (s.onD (fun _ =>
          Die.seamPass { back with seamWait := sset s.d.seamWait [] k l } src (b2n west) k f))))) ∧
    (∀ (s : State) (n : CoreNo) (m : SbMsg) (l : List SbMsg) (id v : Nat) (r : DescRef) (own : Bool), s.d.live (islOf n) = true →
      sget s.d.sbArr [] n = m :: l → m.body = .violation id r v own →
      exec (.violation n) s = .next (s.onD (fun d =>
        (Die.hear { d with sbArr := sset d.sbArr [] n l } (islOf n) m.s).violated n id r v own)))

/-- CIRCUIT_OPEN opens one circuit for the next sheet of a granted page transfer, of a COPY in flight, or of a port
engine: with a route no island of which is shut, no bank plan pending at its target, slots that map and a circuit
number free, its entries are owned by its number and no other entry changes, every node of its route is to
acknowledge it, and it holds the flits of the sheet; no stack or Vat payload changes. Otherwise the wait is counted,
once. While sleep or power-off is entered nothing happens. -/
def Obligations.transit_circuits : Prop :=
  ∀ (s : State) (es : List BurstErr) (vs : List VatErr), s.d.live 89 = true →
    (∀ who, s.d.workHeld = true → exec (.circuitOpen who es vs) s = .next s) ∧
    (s.d.workHeld = false →
      let opens (who : Carrier) (c : Circ) (route : List (Nat × Nat)) (src : Nat × Nat) (okL : Nat → Bool) (waits : State) : Prop :=
        (∀ j m id, s.d.routeOpen route c.node = true → s.d.mapBest route src okL 16 = some (j, m) → s.d.freeCircuit = some id →
          ∃ t x, exec (.circuitOpen who es vs) s = .next t ∧ t.d.circs = s.d.circs ++ [x] ∧ x.id = 512 + id ∧ x.k = j ∧ x.obj = c.obj ∧
            x.sheet = c.sheet ∧ x.wback = c.wback ∧ x.copy = c.copy ∧ x.port = c.port ∧ x.node = c.node ∧ x.src = src ∧
            x.unacked = (route.map (fun y => y.1)).dedup ∧ x.left = x.hold.length ∧ (∀ f ∈ x.hold, f.stream = 512 + id) ∧
            (∀ p, p ∉ x.ents → sget t.d.nent 0 p = sget s.d.nent 0 p) ∧ (∀ p ∈ x.ents, entOwner (sget t.d.nent 0 p) = 512 + id) ∧
            t.d.mem = s.d.mem ∧ t.d.dk = s.d.dk ∧ t.d.pages = s.d.pages ∧ t.a = s.a) ∧
        (s.d.routeOpen route c.node = false ∨ s.d.mapBest route src okL 16 = none ∨ s.d.freeCircuit = none →
          exec (.circuitOpen who es vs) s = .next waits)
      (∀ (k : ObjKey) r o, s.d.uncarried k = some r → s.d.obj k = some o →
        let n := o.frame / 32
        (r.kind = .writeback → s.d.stackClosed r.stack = false →
          opens (.page k) { obj := some k, sheet := r.sheets, wback := true } (wbRoute r.stack n) (n, 5) (fun _ => true)
            (s.onD (fun d => d.circuitWait k))) ∧
        (r.kind ≠ .writeback →
          s.d.orderClear (s.d.pageAddr o.stack o.spage + 4352 * r.sheets) (64 * s.d.sheetBursts (s.d.pageAddr o.stack o.spage + 4352 * r.sheets)) = true →
          opens (.page k) { obj := some k, sheet := r.sheets, node := some n } (fillRoute r.stack n) (edgeEntry r.stack n)
            (fun x => s.d.lathBank n x o.frame) (s.onD (fun d => d.circuitWait k)))) ∧
      (∀ (n : CoreNo) (q : Fin 5) r l e, s.d.copyq = r :: l → r.ref.core = n → r.ref.queue = q →
        (∀ c ∈ s.d.circs, ∀ y, c.copy = some y → ¬ (y.ref = r.ref ∧ y.b = r.b)) → s.d.inflOf r.ref = some e →
        opens (.copy n q) { copy := some r, node := some (sliceOf r.b) } (copyRoute (sliceOf r.a) (sliceOf r.b)) (sliceOf r.a, 5)
          (fun x => s.d.lathBank (sliceOf r.b) x (frameOf r.b))
          (if r.blocked then s else s.onD (fun d => Die.count { d with copyq := d.copyq.map (fun x => if x = r then { x with blocked := true } else x) } pgDk 0xB))) ∧
      (∀ (p : PortNo) m l, (s.d.port p).moves = m :: l → (∀ c ∈ s.d.circs, c.port ≠ some (p.val, m)) →
        let n := sliceOf m.g
        opens (.port p) { port := some (p.val, m), node := if m.out then none else some n }
          (if m.out then wbRoute (8 + p) n else fillRoute (8 + p) n) (if m.out then (n, 5) else edgeEntry (8 + p) n)
          (fun x => s.d.lathBank n x (frameOf m.g))
          (if m.blocked then s else s.onD (fun d => (d.count pgDk 0xB).updPort p (fun x =>
            { x with moves := x.moves.map (fun y => if y = m then { y with blocked := true } else y) })))))

/-- SIDEBAND_MESSAGE at an output takes the first message for it in the rotation: at its own node it arrives there
(a circuit's set-up message is answered, and one for a unit of an island in reset is dropped and counted); toward a
neighbour in an island in reset it is dropped and counted, to another with room it is appended at the neighbour's
input, and with no room it stays; with no message for that output nothing happens. REEXEC takes the first notice at
the core and sends the contribution of the named REDUCE again, if it is still in flight. -/
def Obligations.sideband_moves : Prop :=
  (∀ (s : State) (n : CoreNo) (o : Fin 5) (c : Fin 6), s.d.live (islOf n) = true →
      let found := ((List.range 6).map (fun k => (c.val + o.val + k) % 6)).find? (fun i => match sget s.d.sbq [] (n.val * 6 + i) with
        | [] => false
        | m :: _ => decide (sbOut n m.dst = o.val))
      (found = none → exec (.sidebandMessage n o c) s = .next s) ∧
      (∀ i m l, found = some i → sget s.d.sbq [] (n.val * 6 + i) = m :: l →
        let left : Die := { s.d with sbq := sset s.d.sbq [] (n.val * 6 + i) l }
        (o.val = 4 → exec (.sidebandMessage n o c) s = .next (s.onD (fun _ => left.sbArrive n m)) ∧
          (m.forUnit = false → (∀ id, m.body ≠ .circuit id false) → (∀ r, m.body ≠ .release r) →
            left.sbArrive n m = { left with sbArr := pushAt s.d.sbArr n m }) ∧
          (∀ id, m.body = .circuit id false → left.sbArrive n m = (left.hear (islOf n) m.s).send n dkNode (.circuit id true)) ∧
          (m.forUnit = true → (s.d.ist 89).inReset = true ∨ (s.d.ist 89).isolated = true →
            left.sbArrive n m = left.count pgRst (0x100 + 89))) ∧
        (∀ v, o.val < 4 → outNode n o = some v → islOf v ≠ islOf n → (s.d.ist (islOf v)).inReset = true ∨ (s.d.ist (islOf v)).isolated = true →
          exec (.sidebandMessage n o c) s = .next (s.onD (fun _ => left.count pgRst (0x100 + islOf v)))) ∧
        (∀ v, o.val < 4 → outNode n o = some v →
          islOf v = islOf n ∨ ((s.d.ist (islOf v)).inReset = false ∧ (s.d.ist (islOf v)).isolated = false) →
          ((sget s.d.sbq [] (v * 6 + (arrPort o - 1))).length < 8 → exec (.sidebandMessage n o c) s =
            .next (s.onD (fun _ => { left with sbq := pushAt left.sbq (v * 6 + (arrPort o - 1)) m }))) ∧
          (8 ≤ (sget s.d.sbq [] (v * 6 + (arrPort o - 1))).length → exec (.sidebandMessage n o c) s = .next s)))) ∧
    (∀ (s : State) (n : CoreNo) (m : SbMsg) (l : List SbMsg) (r : DescRef), s.d.live (islOf n) = true →
      sget s.d.sbArr [] n = m :: l → m.body = .reexec r →
      let heard : Die := Die.hear { s.d with sbArr := sset s.d.sbArr [] n l } (islOf n) m.s
      ((s.d.queue n r.queue).infl.find? (fun e => decide (e.id = r.id)) = none → exec (.reexec n) s = .next (s.onD (fun _ => heard))) ∧
      (∀ e, (s.d.queue n r.queue).infl.find? (fun e => decide (e.id = r.id)) = some e →
        exec (.reexec n) s = .next (s.onD (fun _ => heard.sendReduce n r.queue e))))

/-- REDUCER_CONTRIBUTION adds a flit of fp32 values to the elements it names of its tile, exactly, and to no other
tile; one of a raw delivery adds its elements and tells the sending tile that it has landed; one that arrives while
the tile delivers is dropped with DELIVERING and counted. ACC_LANDING writes the oldest landed flit to accumulator
memory when its slot is not bound, and waits otherwise. FALLBACK_START serves the oldest request when no fallback of
its share runs or delivers: with reserve its tile goes to W320, starting from the raw contributions it has counted
(model: log 137); without it, once no fallback of the reducer runs, its contributors fail with SLOT_VIOLATION. -/
def Obligations.island_reducers : Prop :=
  (∀ (s : State) (i : TileNo) (r : Fin 4) (f : Flit) (l : List Flit), s.d.live i = true →
      let n := rNode i r
      let rel := f.addr / 2048 % 256
      let e := (s.d.share n).1 + rel
      let x := s.d.rt i e
      s.d.atPort n 7 = f :: l → rel < (s.d.share n).2.1 → x.valid = true →
      (f.addr % 2 = 0 → x.delivering = 0 → f.last = false → ∃ t, exec (.reducerContribution i r 0 false) s = .next t ∧
        t.d.rt i e = { x with poison := mergePoison [x.poison, f.poison, none],
                              elts := (((List.range 16).filter (fun c => decide (16 * (f.addr / 2 % 1024) + c < x.rows * x.cols))).foldl
          (fun m c => supd m {} (16 * (f.addr / 2 % 1024) + c) (fun a => a.add x.w192 (f32 (f.data.getD c 0)))) x.elts) } ∧
        (∀ k, k ≠ i.val * 256 + e → sget t.d.rtile {} k = sget s.d.rtile {} k) ∧ t.d.atPort n 7 = l ∧
        t.d.mem = s.d.mem ∧ t.d.regs = s.d.regs ∧ t.d.queues = s.d.queues ∧ t.a = s.a) ∧
      (f.addr % 2 = 1 → x.delivering = 0 → f.last = false → f.ref.core * 256 + f.ref.id ≠ i.val * 256 + e → ∃ t,
        exec (.reducerContribution i r 0 false) s = .next t ∧ t.d.rt i e = { x.addRaws f with poison := mergePoison [x.poison, f.poison, none] } ∧
        t.d.rt f.ref.core f.ref.id = { s.d.rt f.ref.core f.ref.id with
          delivering := (s.d.rt f.ref.core f.ref.id).delivering - 1,
          fallback := (s.d.rt f.ref.core f.ref.id).fallback && decide (1 < (s.d.rt f.ref.core f.ref.id).delivering) } ∧
        t.d.atPort n 7 = l ∧ t.d.mem = s.d.mem ∧ t.d.queues = s.d.queues ∧ t.a = s.a) ∧
      (f.addr % 2 = 0 → 0 < x.delivering → ∃ t, exec (.reducerContribution i r 0 false) s = .next t ∧ t.d.rtile = s.d.rtile ∧ t.d.atPort n 7 = l ∧
        t.d.ctrOf (pgIsl i) 6 = bump (s.d.ctrOf (pgIsl i) 6) 1 ∧ (t.d.island i).err.testBit 3 = true ∧
        t.d.mem = s.d.mem ∧ t.d.queues = s.d.queues)) ∧
    (∀ (s : State) (n : CoreNo) (x : Landing) (l : List Landing), s.d.live (islOf n) = true → (s.d.core n).landing = x :: l →
      (s.d.slotBound n x.slot = true → exec (.accLanding n) s = .next s) ∧
      (s.d.slotBound n x.slot = false → ∃ t, exec (.accLanding n) s = .next t ∧ (t.d.core n).landing = l ∧
        t.d.acc = ((List.range 16).filter (fun c => decide (16 * x.index + c < x.count))).foldl (fun m c =>
          sset m 0 (n.val * 32768 + x.slot * 1024 + (16 * x.index + c) / x.cols * 32 + (16 * x.index + c) % x.cols) (x.data.getD c 0)) s.d.acc ∧
        t.d.mem = s.d.mem ∧ t.d.regs = s.d.regs ∧ t.d.queues = s.d.queues ∧ t.a = s.a)) ∧
    (∀ (s : State) (i : TileNo), s.d.live i = true →
      ((s.d.island i).fbq = [] → exec (.fallbackStart i) s = .next s) ∧
      (∀ e l, (s.d.island i).fbq = e :: l →
        let x := s.d.rt i e
        let mine (u : RTile) : Bool := decide (u.region = x.region)
        (s.d.fallbackBusy i mine = true → exec (.fallbackStart i) s = .next s) ∧
        (s.d.fallbackBusy i mine = false → s.d.reserveFits i e = true → x.rawCount ≠ fld x.w1 31 20 → ∃ t,
          exec (.fallbackStart i) s = .next t ∧
          t.d.rt i e = { x with fallback := true, elts := x.rawElts, count := x.rawCount, poison := x.rawPz,
                                rawCount := 0, rawElts := [], rawPz := none } ∧ (t.d.island i).fbq = l ∧
          t.d.mem = s.d.mem ∧ t.d.regs = s.d.regs ∧ t.d.queues = s.d.queues ∧ t.a = s.a) ∧
        (s.d.fallbackBusy i mine = false → s.d.reserveFits i e = false → s.d.fallbackBusy i (fun _ => true) = true →
          exec (.fallbackStart i) s = .next s) ∧
        (s.d.fallbackBusy i (fun _ => true) = false → s.d.reserveFits i e = false → exec (.fallbackStart i) s = .next (s.onD (fun d =>
          (x.refs.foldl Die.slotFault ((d.updIsl i (fun y => { y with fbq := l })).islErr i 0)).updRt i e
            (fun y => { y with refs := [], rawCount := 0, rawElts := [], rawPz := none }))))))

/-- SKIM_CONTRIBUTION adds the first contribution at the island's node to its slot alone: its sum exactly, one to
the count, its poison count and its non-finite flag. COLLECT replies with the sums and counts of the job's slots and
zeroes them, leaving every other slot. SCREED_NOTICE counts one notice for a job in ACCUMULATE and one late notice
otherwise, before any arrival behind it counts. SKIM_ENABLE of a job in OFF with three different barriers enters
ACCUMULATE with STEP_COMMITTED from STEP_SET and both counters of the job 0; otherwise it is ignored and counted.
SKIM_DISABLE of a job outside FABRIC puts it into OFF; of a member in FABRIC that is not the root it also sends the
leaving record, and of the root the completed record with one forced skip more. FORCE_SKIP adds one to the forced-
skip count while a step is gathered and its record is not sent, does nothing once it is sent, and is ignored outside
a step. -/
def Obligations.skim_collection : Prop :=
  (∀ (s : State) (m : SbMsg) (l : List SbMsg),
    (∀ i : TileNo, s.d.live i = true → sget s.d.sbArr [] (islNode i) = m :: l →
      (∀ k v nf p r, m.body = .skimPart k v nf p r → ∃ t, exec (.skimContribution i) s = .next t ∧
        (∀ x, sget t.d.sadd {} x = if x = i.val * 64 + k then
          { e := (sget s.d.sadd {} x).e.add false (f32 v), cnt := (sget s.d.sadd {} x).cnt + 1,
            poisoned := (sget s.d.sadd {} x).poisoned + p, nonfin := (sget s.d.sadd {} x).nonfin + b2n nf } else sget s.d.sadd {} x) ∧
        sget t.d.sbArr [] (islNode i) = l ∧ t.d.mem = s.d.mem ∧ t.d.regs = s.d.regs ∧ t.d.skim = s.d.skim ∧ t.a = s.a) ∧
      (∀ j n, m.body = .collect j → 
        let sums := (s.d.jobSlots j).map (fun k => (k, (sget s.d.sadd {} (i.val * 64 + k)).e, (sget s.d.sadd {} (i.val * 64 + k)).cnt,
          (sget s.d.sadd {} (i.val * 64 + k)).poisoned, (sget s.d.sadd {} (i.val * 64 + k)).nonfin))
        n = (max (s.d.seqNo i) m.s + 1) % 2 ^ 32 → ∃ t, exec (.collect i) s = .next t ∧
        (∀ x, sget t.d.sadd {} x = if ∃ k ∈ s.d.jobSlots j, x = i.val * 64 + k then {} else sget s.d.sadd {} x) ∧
        sget t.d.sbq [] (islNode i * 6 + 4) = sget s.d.sbq [] (islNode i * 6 + 4) ++
          [{ dst := dkNode, src := islNode i, body := .reply j sums, s := n }] ∧
        sget t.d.sbArr [] (islNode i) = l ∧ t.d.mem = s.d.mem ∧ t.d.regs = s.d.regs ∧ t.d.skim = s.d.skim ∧ t.a = s.a)) ∧
    (∀ j n, s.d.live 89 = true → sget s.d.sbArr [] dkNode = m :: l → m.body = .notice j n →
      let heard : Die := Die.hear { s.d with sbArr := sset s.d.sbArr [] dkNode l } 89 m.s
      ((s.d.skimJ j).st = 1 → exec .screedNotice s = .next (s.onD (fun _ =>
        (heard.updSkim j (fun x => { x with notices := x.notices + 1 })).takeArrivals))) ∧
      ((s.d.skimJ j).st ≠ 1 → exec .screedNotice s = .next (s.onD (fun _ => (heard.count pgSkim 3).takeArrivals))))) ∧
  (∀ (s : State) (ini : Ini) (j : JobNo), s.admits ini pgSkim 0x10C = true →
    let r := s.reached ini pgSkim
    let x := s.d.skimJ j
    let w := s.d.skimW j 0
    let distinct := fld w 5 0 ≠ fld w 11 6 ∧ fld w 5 0 ≠ fld w 17 12 ∧ fld w 11 6 ≠ fld w 17 12
    let ignored (c : Instr) : Prop := exec c s = .next (r.onD (fun d => d.count pgSkim 7))
    (x.st = 0 → distinct → ∃ t, exec (.skimEnable ini j) s = .next t ∧
      t.d.skimJ j = { x.accumulate with step := BitVec.ofNat 64 ((s.d.skimW j 14).toNat * 2 ^ 32 + (s.d.skimW j 13).toNat), inbox := [] } ∧
      (∀ i, i ≠ j.val → t.d.skimJ i = s.d.skimJ i) ∧ t.d.ctrOf pgSkim (0x120 + j) = 0 ∧ t.d.ctrOf pgSkim (0x140 + j) = 0 ∧
      t.d.mem = s.d.mem ∧ t.d.regs = s.d.regs ∧ t.d.sadd = s.d.sadd ∧ t.a = r.a) ∧
    (x.st ≠ 0 ∨ ¬ distinct → ignored (.skimEnable ini j)) ∧
    (x.st ≠ 3 → exec (.skimDisable ini j) s = .next (r.onD (fun d => (d.updSkim j (fun x => { x.accumulate with st := 0, inbox := [] })).skimEnterAll))) ∧
    (x.st = 3 → fld (s.d.commW (s.d.skimComm j) 1) 13 0 ≠ fld (s.d.commW (s.d.skimComm j) 1) 29 16 →
      exec (.skimDisable ini j) s = .next (r.onD (fun d =>
        (((d.sendRouted (d.skimComm j % 16) (d.skimFrame j (fld (d.commW (d.skimComm j) 1) 29 16) false true
          ((d.jobSlots j).map (fun k => (k, ({} : WideElt)))) [0, 0, 0, 0, 1]) false).updPort (d.skimComm j % 16)
            (fun x => { x with skims := x.skims.filter (fun i => decide (i ≠ j.val)) })).updSkim j
              (fun x => { x.accumulate with st := 0, inbox := [] })).skimEnterAll))) ∧
    (x.st = 3 → fld (s.d.commW (s.d.skimComm j) 1) 13 0 = fld (s.d.commW (s.d.skimComm j) 1) 29 16 →
      exec (.skimDisable ini j) s = .next (r.onD (fun d =>
        (((d.skimSendAll j 1).1.updPort (d.skimComm j % 16) (fun x => { x with skims := x.skims.filter (fun i => decide (i ≠ j.val)) })).updSkim j
              (fun x => { x.accumulate with st := 0, inbox := [] })).skimEnterAll))) ∧
    (1 ≤ x.st → x.st ≤ 3 → x.sentRec = false → exec (.forceSkip ini j) s = .next (r.onD (fun d =>
      d.updSkim j (fun x => { x with forced := x.forced + 1 })))) ∧
    (1 ≤ x.st → x.st ≤ 3 → x.sentRec = true → exec (.forceSkip ini j) s = .next r) ∧
    (x.st = 0 ∨ 4 ≤ x.st → ignored (.forceSkip ini j)))

/-- Over an open control plane a commit of the port page whose limits exceed 128 is refused, and one that enables a
DISABLED link or disables another restarts the bring-up. LINK_TRAINING takes TRAINING to LOCKING; LANE_LOCK with at
most 16 rounds of skew takes LOCKING to HELLO, and with more restarts it; a CODEWORD with at most 15 symbols in
error counts them, and one with more counts as uncorrectable, with CP_ERR set; in LOCKING it counts towards its
lane's lock, in HELLO and UP it joins its round, which is taken once every lane has brought its part;
CODEWORD_LOCK_LOSS restarts LOCKING or HELLO and takes an UP link down, as FAB_SILENCE does; HELLO from another
module is taken in, from this one sets CP_ERR; HELLO_TIMER sends a greeting. In other states of the link they do
nothing. -/
def Obligations.port_links : Prop :=
  ∀ (s : State) (p : PortNo),
    let pg := pgPort p
    let x := s.d.port p
    (∀ ini : Ini, s.admits ini pg 0x1C = true →
      let v := s.d.shadow pg 0x108
      let c := s.d.commitPage pg
      let en := bit (c.reg pg 0x104) 0
      let r := s.reached ini pg
      let ends (f : Die → Die) (no : Bool) : Prop :=
        exec (.linkEnable ini p) s = .next (r.onD (fun d => (f d).updHdr pg (fun h => { h with refused := no })))
      (128 < fld v 31 24 + fld v 23 16 + fld v 15 8 + fld v 7 0 → ends (fun d => d) true) ∧
      (fld v 31 24 + fld v 23 16 + fld v 15 8 + fld v 7 0 ≤ 128 →
        ((en = true ∧ x.link = 5) ∨ (en = false ∧ x.link ≠ 5) → ends (fun d => ((d.commitPage pg).restart p).electBest) false) ∧
        ((en = true ∧ x.link ≠ 5) ∨ (en = false ∧ x.link = 5) → ends (fun d => d.commitPage pg) false))) ∧
    (s.d.live (72 + p.val) = true →
      ((x.link = 1 → exec (.linkTraining p) s = .next (s.onD (fun d => d.updPort p (fun x => { x with link := 2, locks := 0 })))) ∧
        (x.link ≠ 1 → exec (.linkTraining p) s = .next s)) ∧
      (∀ skew, (x.link = 2 → skew ≤ 16 → exec (.laneLock p skew) s = .next (s.onD (fun d => d.updPort p (fun x => { x with link := 3, locks := 255, rxCw := [], asm := none })))) ∧
        (x.link = 2 → 16 < skew → exec (.laneLock p skew) s = .next (s.onD (fun d => (d.cpErr p 5).restart p))) ∧
        (x.link ≠ 2 → exec (.laneLock p skew) s = .next s)) ∧
      (∀ (c : Codeword) (bad : List (Fin 544 × BitVec 10)),
        let n := symbolErrors bad
        let counted (d : Die) : Die := if n ≤ 15 then d.count pg 3 n else (d.count pg 4).cpErr p 2
        let kept : List RxCw := x.rxCw.filter (fun y => !(decide (y.cw.lane = c.lane) && decide (y.cw.round = c.round))) ++
          [{ cw := c, lost := decide (15 < n) }]
        (x.link = 2 → exec (.codeword p c bad) s = .next (s.onD (fun d => (counted d).updPort p (fun x => x.lockCount c.lane (decide (n ≤ 15)))))) ∧
        (x.link = 3 ∨ x.link = 4 →
          exec (.codeword p c bad) s = .next (s.onD (fun d => (counted d).takeCodeword p { cw := c, lost := decide (15 < n) })) ∧
          ((kept.filter (fun y => decide (y.cw.round = c.round))).length < 8 →
            exec (.codeword p c bad) s = .next (s.onD (fun d => (counted d).updPort p (fun x => { x with rxCw := kept }))))) ∧
        (x.link = 0 ∨ x.link = 1 ∨ x.link = 5 → exec (.codeword p c bad) s = .next s)) ∧
      (∀ lane : Fin 8, let lost (d : Die) : Die := d.updPort p (fun x => { x with locks := x.locks &&& (255 - 2 ^ lane.val) })
        (x.link = 2 ∨ x.link = 3 → exec (.codewordLockLoss p lane) s = .next (s.onD (fun d => (lost d).restart p))) ∧
        (x.link = 4 → exec (.codewordLockLoss p lane) s = .next (s.onD (fun d => ((lost d).linkDown p none).fabSettle)))) ∧
      ((x.link = 4 → exec (.fabSilence p) s = .next (s.onD (fun d => (d.linkDown p (some 4)).fabSettle))) ∧
        (x.link ≠ 4 → exec (.fabSilence p) s = .next s)) ∧
      (∀ f : Frame, s.d.nextIn p f = true →
        let got : Die := (s.d.updPort p (fun x => { x with inFrames := x.inFrames.drop 1 })).count pg 2 f.units
        x.link = 3 ∨ x.link = 4 → s.d.pw.asleep = false → f.hOk = true → f.kind = some (3, 0) → f.pOk = true →
        (f.dw 3 = s.d.part.serial → exec (.hello p f) s = .next (s.onD (fun _ => (got.cpErr p 6).fabSettle))) ∧
        (f.dw 3 ≠ s.d.part.serial → exec (.hello p f) s = .next (s.onD (fun _ => (((got.meet p f false).updPort p
          (fun x => { x with greeted := true, heard := x.heard || decide (f.dw 6 = s.d.part.serial) })).comeUp p).fabSettle)))) ∧
      ((x.link = 3 → exec (.helloTimer p) s = .next (s.onD (fun d => ((d.emit p (d.greeting p 3 (if x.greeted then 2 else 0))).updPort p
          (fun y => { y with ackSent := y.ackSent || x.greeted })).comeUp p))) ∧
        (x.link ≠ 3 → exec (.helloTimer p) s = .next s)))

/-- On an UP link, awake, a good DATA or COLL frame with the expected sequence number is accepted, and its units are
returned unless it goes on through another port: of another epoch it is dropped and counted; for this module it acts
as its kind does (a sheet, Skim record, receive-ring frame or collective message); for another with TTL left it is
forwarded, else dropped and counted. A good ADDR or ROUTE frame is accepted alike and forwarded along its path, or
taken at its end. One with another sequence number is a gap. HEARTBEAT and CREDIT are taken in without a sequence
number. -/
def Obligations.fabric_frames : Prop :=
  ∀ (s : State) (p : PortNo) (f : Frame), s.d.live (72 + p.val) = true → (s.d.port p).link = 4 → s.d.pw.asleep = false → s.d.pw.sleepBusy = false →
    f.hOk = true → f.pOk = true → s.d.nextIn p f = true →
    let got : Die := (s.d.updPort p (fun x => { x with inFrames := x.inFrames.drop 1 })).count (pgPort p) 2 f.units
    let next : Die := got.updPort p (fun x => { x with rseq := (x.rseq + 1) % 65536, nakSent := false })
    let took : Die := if next.transits f then next else next.freeUnits p f.vc f.units
    let ends (c : Instr) (d : Die) : Prop := exec c s = .next (s.onD (fun _ => d.fabSettle))
    let routed (c : Instr) (k : Nat × Nat) (act : Die → Die) : Prop :=
      f.kind = some k → f.lseq = (s.d.port p).rseq →
        (f.epoch ≠ s.d.fab.epoch → ends c (took.count (pgPort p) 8)) ∧
        (f.epoch = s.d.fab.epoch → f.dst = s.d.fab.addr → ends c (act took)) ∧
        (f.epoch = s.d.fab.epoch → f.dst ≠ s.d.fab.addr → f.ttl ≤ 1 → ends c (took.count (pgPort p) 7)) ∧
        (f.epoch = s.d.fab.epoch → f.dst ≠ s.d.fab.addr → 2 ≤ f.ttl →
          ends c (took.sendRouted p ((f.setW 2 (setFld (f.w 2) 15 8 (f.ttl - 1))).seal) true))
    let pathed (c : Instr) (k : Nat × Nat) : Prop :=
      f.kind = some k →
        (f.lseq = (s.d.port p).rseq → fld (f.w 3) 21 16 < fld (f.w 3) 27 22 → ends c (took.sourceRoute p f)) ∧
        (f.lseq = (s.d.port p).rseq → fld (f.w 3) 27 22 ≤ fld (f.w 3) 21 16 → ends c (took.takeAddr (some p.val) f)) ∧
        (f.lseq ≠ (s.d.port p).rseq → exec c s = .next (s.onD (fun _ => got.gap p)))
    (f.kind = some (6, 0) → ends (.heartbeat p f) (got.meet p f (bit (f.w 5) 26))) ∧
    (f.kind = some (2, 0) → ends (.credit p f) (got.takeCredit p f)) ∧
    routed (.dataSheet p f) (1, 0) (fun d => d.takeSheet p f) ∧ routed (.dataSkim p f) (1, 1) (fun d => d.takeSkim f) ∧
    routed (.dataHost p f) (1, 2) (fun d => d.toRing f) ∧ routed (.fabGrant p f) (7, 0) (fun d => d.takeColl f) ∧
    routed (.final p f) (7, 1) (fun d => d.takeColl f) ∧ routed (.repeatStream p f) (7, 2) (fun d => d.takeColl f) ∧
    routed (.collAbort p f) (7, 3) (fun d => d.takeColl f) ∧
    pathed (.query p f) (4, 0) ∧ pathed (.report p f) (4, 1) ∧ pathed (.assign p f) (4, 2) ∧ pathed (.addrAck p f) (4, 3) ∧
    pathed (.fence p f) (4, 4) ∧ pathed (.linkEvent p f) (4, 5) ∧ pathed (.routeWrite p f) (5, 0) ∧
    pathed (.routeCommit p f) (5, 1) ∧ pathed (.routeSync p f) (5, 2)

/-- Taken at its end, a QUERY is answered with the report and an ACK; REPORT, ACK and LINK_EVENT go to the receive
ring; an ASSIGN or FENCE that qualifies is applied and acknowledged, and acknowledged as refused otherwise; ROUTE
WRITE, COMMIT and SYNC from the coordinator in the epoch write the shadow bank, swap the banks and copy the active
one. COORDINATOR makes the module whose own serial is best coordinator; HEARTBEAT_TIMER sends one heartbeat on each
UP link; CREDIT_TIMER sends a credit; COLL_TIMEOUT fails the collective unless the limit is 0; TX_TAIL hands the
frames up to the new tail to the ports: none when the tail is the head, and one header unit of a type the ring does
not accept is skipped and counted. -/
def Obligations.fabric_management : Prop :=
  (∀ (d : Die) (p : PortNo) (f : Frame), f.ty = 4 →
      (f.sub = 0 → d.takeAddr (some p.val) f = (d.answer (some p.val) f 1 d.reportBytes).ackFrame (some p.val) f true) ∧
      (f.sub = 1 ∨ f.sub = 3 ∨ f.sub = 5 → d.takeAddr (some p.val) f = d.toRing f) ∧
      (f.sub = 2 → d.assignOk f = true → d.takeAddr (some p.val) f = (d.assign f).ackFrame (some p.val) f true) ∧
      (f.sub = 2 → d.assignOk f = false → d.takeAddr (some p.val) f = d.ackFrame (some p.val) f false) ∧
      (f.sub = 4 → d.fromCoord f = true →
        d.takeAddr (some p.val) f = (d.setFence (word (f.be 0 4)) (word (f.be 4 4))).ackFrame (some p.val) f true) ∧
      (f.sub = 4 → d.fromCoord f = false → d.takeAddr (some p.val) f = d.ackFrame (some p.val) f false)) ∧
    (∀ (d : Die) (p : PortNo) (f : Frame), f.ty = 5 →
      (d.fromCoord f = false → d.takeAddr (some p.val) f = d.ackFrame (some p.val) f false) ∧
      (d.fromCoord f = true →
        (f.sub = 0 → d.takeAddr (some p.val) f = (d.routeWrite f).ackFrame (some p.val) f true) ∧
        (f.sub = 1 → d.takeAddr (some p.val) f =
          (d.updFab (fun x => { x with route := d.fab.shadow, shadow := d.fab.route })).ackFrame (some p.val) f true) ∧
        (f.sub = 2 → d.takeAddr (some p.val) f = (d.updFab (fun x => { x with shadow := d.fab.route })).ackFrame (some p.val) f true))) ∧
    (∀ s : State,
      (s.d.live 90 = true → s.d.fab.best.1 = s.d.part.serial.toNat → s.d.fab.coord = false →
        exec .coordinator s = .next (s.onD (fun d => d.updFab (fun x => { x with coord := true, event := x.event ||| 1 })))) ∧
      (∃ t, exec .heartbeatTimer s = .next t ∧
        (∀ p, p < 16 → s.d.up p = true → s.d.live (72 + p) = true →
          (t.d.port p).wire = s.d.greeting p 6 (b2n s.d.pw.asleep) :: (s.d.port p).wire) ∧
        (∀ p, 16 ≤ p ∨ s.d.up p = false ∨ s.d.live (72 + p) = false → t.d.port p = s.d.port p) ∧
        t.d.mem = s.d.mem ∧ t.d.regs = s.d.regs ∧ t.d.fab = s.d.fab ∧ t.a = s.a) ∧
      (∀ p : PortNo, s.d.live (72 + p.val) = true →
        (s.d.up p = true → s.d.pw.asleep = false → exec (.creditTimer p) s = .next (s.onD (fun d => d.sendCredit p false))) ∧
        (s.d.reg pgFab 0x138 = 0 → exec (.collTimeout p) s = .next s) ∧
        (s.d.reg pgFab 0x138 ≠ 0 → s.d.pw.asleep = false →
          exec (.collTimeout p) s = .next (s.onD (fun d => (d.collFail p 0x14 false).fabSettle)))) ∧
      (∀ (ini : Ini) (v : Word) (es : List (Nat × Nat × Nat)), s.admits ini pgFab 0x124 = true →
        let r := s.reached ini pgFab
        let h := s.d.fab.txHead
        let set : Die := r.d.setReg pgFab 0x124 (word (fld v 13 0))
        let b := set.txUnits h 1 es
        let hdr := (List.range 16).map (fun i => word (beNat ((b.2.drop (4 * i)).take 4)))
        exec (.txTail ini v es) s = .next (r.onD (fun _ => (set.drainTx es 16384).fabSettle)) ∧
        (fld v 13 0 = h → exec (.txTail ini v es) s = .next (r.onD (fun _ => set.fabSettle))) ∧
        (h < 16384 → fld v 13 0 = (h + 1) % 16384 → fld (hdr.getD 0 0) 22 16 = 0 →
          fld (hdr.getD 0 0) 31 28 ≠ 1 → fld (hdr.getD 0 0) 31 28 ≠ 4 → fld (hdr.getD 0 0) 31 28 ≠ 5 →
          exec (.txTail ini v es) s = .next (r.onD (fun _ =>
            ((b.1.updFab (fun x => { x with txHead := (h + 1) % 16384 })).count pgFab 7).fabSettle)))))

/-- CAPTURE in phase 0 while the version is due, with a free slot, begins and marks the slot as being written; out
of phase or not due it ends REFUSED_STATE, and with no free slot NO_SLOT. FOLD0 and FOLD1 begin in phases 1 and 2
with the pages to send and receive, COMMIT in phase 3, ABANDON in any; out of phase they end REFUSED_STATE at once.
CAPTURE, COMMIT, ABANDON, RESTORE and RESUME given while one runs are refused. SG_OPERATION_END ends a fold with
nothing left to move, or COMMIT or ABANDON, with result OK, DONE_PEND and the next phase; FOLD0 clears SECURE_DUE;
COMMIT makes the new version current. With nothing running it does nothing. A CAPTURE waits for its write-backs,
then copies a page at a time and clears its changed bit, ending POISONED at one with a poisoned sheet. ABANDON makes
the new version current once this module has folded shard 0 (model: log 133). -/
def Obligations.securing : Prop :=
  ∀ (s : State) (j : JobNo),
    (∀ ini : Ini, s.admits ini pgFlash 0x10C = true →
      let r := s.reached ini pgFlash
      let due := s.d.sg.due.toNat.testBit j
      let atOnce (c : Instr) (op res : Nat) : Prop := exec c s = .next (r.onD (fun d => d.sgRefuse op res))
      let v := fld (s.d.flW j 10) 31 16
      (s.d.sg.busy = true → ∀ c ∈ [Instr.capture ini j, .sgCommit ini j, .abandon ini j, .restore ini j, .sgResume ini j],
        exec c s = .next (s.bounced ini pgFlash)) ∧
      (s.d.sg.busy = false →
        (s.d.flPhase j ≠ 0 ∨ due = false → atOnce (.capture ini j) 1 1) ∧
        (s.d.flPhase j = 0 → due = true → s.d.freeSlot j = none → atOnce (.capture ini j) 1 9) ∧
        (∀ n, s.d.flPhase j = 0 → due = true → s.d.freeSlot j = some n → ∃ t, exec (.capture ini j) s = .next t ∧
          t.d.sg.busy = true ∧ t.d.sg.op = 1 ∧ t.d.sg.job = j ∧ t.d.sg.slot = n ∧ t.d.sg.version = (s.d.flVersion j + 1) % 65536 ∧
          t.d.slotState j n = 1 ∧ t.d.mem = s.d.mem ∧ t.d.regs = s.d.regs ∧ t.a = r.a) ∧
        (s.d.flPhase j ≠ 1 → atOnce (.fold0 ini j) 2 1) ∧ (s.d.flPhase j ≠ 2 → atOnce (.fold1 ini j) 3 1) ∧
        (∀ p, p < 2 → s.d.flPhase j = p + 1 → exec (if p = 0 then .fold0 ini j else .fold1 ini j) s = .next (r.onD (fun d =>
          ((d.sgBegin (2 + p) j).updSg (fun g =>
            { g with
              version := v
              sends := (List.range (d.flP j)).map (fun k => (d.commOut j ((k + p) % 8), k, 4 + p))
              recvs := (d.heldStripes j p).flatMap (fun k => (List.range 8).map (fun i => (d.commIn j i, k, p, i))) })).sgStep))) ∧
        (s.d.flPhase j = 3 → exec (.sgCommit ini j) s = .next (r.onD (fun d => d.sgBegin 4 j))) ∧
        (s.d.flPhase j ≠ 3 → atOnce (.sgCommit ini j) 4 1) ∧
        exec (.abandon ini j) s = .next (r.onD (fun d => d.sgBegin 5 j)))) ∧
    (∀ es, s.d.live 89 = true →
      (s.d.sg.busy = false → exec (.sgOperationEnd es) s = .next s) ∧
      (s.d.sg.busy = true → s.d.sg.job = j → s.d.sg.sends = [] → s.d.sg.recvs = [] →
        let i := s.d.sg.index
        let done (t : State) (phase : Nat) : Prop := exec (.sgOperationEnd es) s = .next t ∧ t.d.sg.busy = false ∧ t.d.sg.donePend = true ∧
          t.d.sg.result = 0 ∧ t.d.flPhase j = phase ∧ t.d.mem = s.d.mem ∧ t.d.regs = s.d.regs ∧ t.a = s.a
        (s.d.sg.op = 1 → s.d.captureWaits j = true → exec (.sgOperationEnd es) s = .next s) ∧
        (s.d.sg.op = 1 → s.d.captureWaits j = false → i < s.d.flP j → s.d.protClear j i = true → s.d.protPoisoned j i = true →
          ∃ t, exec (.sgOperationEnd es) s = .next t ∧ t.d.sg.busy = false ∧ t.d.sg.donePend = true ∧ t.d.sg.result = 2 ∧
            t.d.flPhase j = s.d.flPhase j ∧ t.d.mem = s.d.mem ∧ t.a = s.a) ∧
        (s.d.sg.op = 1 → s.d.captureWaits j = false → i < s.d.flP j → s.d.protClear j i = true → s.d.protPoisoned j i = false →
          ∃ t, exec (.sgOperationEnd es) s = .next t ∧ t.d.sg.busy = true ∧ t.d.sg.index = i + 1 ∧ t.d.protChanged j i = false ∧
            t.d.mem = s.d.mem ∧ t.d.regs = s.d.regs ∧ t.a = s.a) ∧
        (s.d.sg.op = 1 → s.d.captureWaits j = false → s.d.flP j ≤ i → ∃ t, done t 1) ∧
        (s.d.sg.op = 2 → ∃ t, done t 2 ∧ t.d.sg.due.toNat.testBit j = false) ∧ (s.d.sg.op = 3 → ∃ t, done t 3) ∧
        (s.d.sg.op = 4 → ∃ t, done t 0 ∧ t.d.flVersion j = fld (s.d.flW j 10) 31 16) ∧
        (s.d.sg.op = 5 → ∃ t, done t 0 ∧
          t.d.flVersion j = if 2 ≤ s.d.flPhase j then fld (s.d.flW j 10) 31 16 else s.d.flVersion j)))

/-- SERVE begins with the pages of its range to send; FILL of a member not erased, or with fewer pieces than
erasures, ends BAD_ARG; REBUILD zeroes the pieces it selects, where the stack accepts the write, and no other
memory; RESTORE of a job with a placed region, of an unknown version, or of one whose header fails its CRC is
refused, and with no page in the Vat and a good slot it begins with it; RESUME begins only with the Skim OFF and its
generators disabled. FL_XFER starts one transfer; FL_XFER_DONE of one unit copies it, where the stack answers, and
clears the transfer, waiting for accesses ahead of it; FLASH_MEDIA ends the access under way with its error
recorded. -/
def Obligations.recovery_and_flash : Prop :=
  ∀ (s : State) (j : JobNo),
    (∀ ini : Ini, s.admits ini pgFlash 0x10C = true → s.d.sg.busy = false →
      let r := s.reached ini pgFlash
      let a := s.d.reg pgFlash 0x110
      let last := fld (s.d.reg pgFlash 0x118) 22 0
      let first := fld (s.d.reg pgFlash 0x114) 22 0
      let comm := fld (s.d.reg pgFlash 0x11C) 11 0
      let range := (List.range (s.d.flP j)).filter (fun k => decide (first ≤ k) && decide (k ≤ last))
      let atOnce (c : Instr) (op res : Nat) : Prop := exec c s = .next (r.onD (fun d => d.sgRefuse op res))
      (bit a 5 = false → exec (.serve ini j) s = .next (r.onD (fun d => ((d.sgBegin 6 j).updSg (fun g =>
        { g with sends := range.map (fun k => (comm, k, 2)), index := first })).sgStep))) ∧
      ((eraseList (fld a 15 8)).contains (s.d.flRank j) = false → atOnce (.fill ini j) 7 8) ∧
      (([0, 1].filter (fun p => (fld a 7 6).testBit p)).length < (eraseList (fld a 15 8)).length → atOnce (.fill ini j) 7 8) ∧
      (∀ n, (eraseList (fld a 15 8)).contains (s.d.flRank j) = true →
        (eraseList (fld a 15 8)).length ≤ ([0, 1].filter (fun p => (fld a 7 6).testBit p)).length →
        s.d.fillSlot j (fld a 31 16) = some n → ∃ d' : Die, exec (.fill ini j) s = .next (r.onD (fun _ => d'.sgStep)) ∧
          d'.sg.busy = true ∧ d'.sg.op = 7 ∧ d'.sg.slot = n ∧ d'.sg.index = first ∧ d'.mem = s.d.mem ∧ d'.slotState j n = 1) ∧
      ((eraseList (fld a 15 8)).contains (s.d.flRank j) = true →
        (eraseList (fld a 15 8)).length ≤ ([0, 1].filter (fun p => (fld a 7 6).testBit p)).length →
        s.d.fillSlot j (fld a 31 16) = none → atOnce (.fill ini j) 7 9) ∧
      (∃ d' : Die, exec (.rebuild ini j) s = .next (r.onD (fun _ => d'.sgStep)) ∧ d'.sg.busy = true ∧ d'.sg.op = 8 ∧
        (∀ x : Nat, (∀ p k, p < 2 → (fld a 7 6).testBit p = true → k ∈ s.d.heldStripes j p →
          x < s.d.pieceAddr j k p ∨ s.d.pieceAddr j k p + 65536 ≤ x) → d'.byte x = s.d.byte x) ∧
        (∀ x p k : Nat, p < 2 → (fld a 7 6).testBit p = true → k ∈ s.d.heldStripes j p →
          s.d.rangeOpen (s.d.pieceAddr j k p) 65536 = true → s.d.pinOverlap (s.d.pieceAddr j k p) 65536 = none →
          s.d.orderClear (s.d.pieceAddr j k p) 65536 = true →
          s.d.pieceAddr j k p ≤ x → x < s.d.pieceAddr j k p + 65536 → d'.byte x = 0)) ∧
      (s.d.jobPlaced j = true → atOnce (.restore ini j) 9 1) ∧
      (s.d.jobPlaced j = false → (∀ o ∈ s.d.objs, ∀ x, o.2 = some x → x.st = .absent) →
        (s.d.slotOf j (fld a 31 16) = none → atOnce (.restore ini j) 9 6) ∧
        (∀ n, s.d.slotOf j (fld a 31 16) = some n → s.d.slotOk j n = false →
          exec (.restore ini j) s = .next (r.onD (fun d => (d.flashCrc j 0).sgRefuse 9 3))) ∧
        (∀ n, s.d.slotOf j (fld a 31 16) = some n → s.d.slotOk j n = true → exec (.restore ini j) s =
          .next (r.onD (fun d => (d.sgBegin 9 j).updSg (fun g => { g with slot := n }))))) ∧
      ((s.d.skimJ j).st ≠ 0 → atOnce (.sgResume ini j) 10 1) ∧
      (∀ g, g < 8 → bit (sget s.d.skimGen 0 ((j.val * 8 + g) * 4)) 31 = true → atOnce (.sgResume ini j) 10 1) ∧
      ((s.d.skimJ j).st = 0 → (∀ g, g < 8 → bit (sget s.d.skimGen 0 ((j.val * 8 + g) * 4)) 31 = false) →
        exec (.sgResume ini j) s = .next (r.onD (fun d => d.sgBegin 10 j)))) ∧
    (∀ (ini : Ini) (v : Word), s.admits ini pgFlash 0x14C = true → bit v 31 = true → s.d.sg.xfer = none → fld v 15 0 ≠ 0 →
      exec (.flXfer ini v) s = .next ((s.reached ini pgFlash).onD (fun d => d.updSg (fun g =>
        { g with
          xfer := some (bit v 30, fld (s.d.reg pgFlash 0x144) 15 0 * 2 ^ 32 + fld (s.d.reg pgFlash 0x140) 31 16 * 65536,
            (s.d.reg pgFlash 0x148).toNat, fld v 15 0) })))) ∧
    (s.d.live 89 = true →
      (s.d.sg.xfer = none → (∀ es, exec (.flXferDone es) s = .next s) ∧ exec (.flashMedia true) s = .next s) ∧
      (∀ m u n es, s.d.sg.xfer = some (true, m, u, n) → s.d.orderClear m (n * 65536) = false → exec (.flXferDone es) s = .next s) ∧
      (∀ m u, s.d.sg.xfer = some (true, m, u, 1) → s.d.rangeOpen m 65536 = true → s.d.orderClear m 65536 = true →
        ∃ t, exec (.flXferDone []) s = .next t ∧ t.d.sg.xfer = none ∧
        (∀ x, sget t.d.flash 0 x = if u * 65536 ≤ x ∧ x < u * 65536 + 65536 then s.d.byte (m + (x - u * 65536)) else sget s.d.flash 0 x) ∧
        t.d.mem = s.d.mem ∧ t.d.regs = s.d.regs ∧ t.a = s.a) ∧
      (∀ m u es, s.d.sg.xfer = some (false, m, u, 1) → m % 65536 = 0 → s.d.rangeOpen m 65536 = true → s.d.pinOverlap m 65536 = none →
        s.d.orderClear m 65536 = true →
        ∃ t, exec (.flXferDone es) s = .next t ∧ t.d.sg.xfer = none ∧
        (∀ x, t.d.byte x = if m ≤ x ∧ x < m + 65536 then sget s.d.flash 0 (u * 65536 + (x - m)) else s.d.byte x) ∧
        t.d.flash = s.d.flash ∧ t.d.regs = s.d.regs ∧ t.a = s.a) ∧
      (s.d.sg.xfer.isSome = true → ∃ t, exec (.flashMedia true) s = .next t ∧ t.d.sg.xfer = none ∧ t.d.sg.err = s.d.sg.err ||| 1 ∧
        t.d.flash = s.d.flash ∧ t.d.mem = s.d.mem ∧ t.d.regs = s.d.regs ∧ t.a = s.a) ∧
      (s.d.sg.busy = true → s.d.sg.op ∈ [2, 3, 6, 7, 8, 9, 10] → ∃ t, exec (.flashMedia false) s = .next t ∧ t.d.sg.busy = false ∧
        t.d.sg.result = 10 ∧ t.d.sg.err = s.d.sg.err ||| 1 ∧ t.d.flash = s.d.flash ∧ t.d.mem = s.d.mem ∧ t.a = s.a))

/-- A write of source s to EOI_c clears the active bit of s when s is active with claimer c, and of no other source;
otherwise nothing changes but EOI_IGNORED, which increments. After an end of interrupt, a source that was active and
pending is eligible for core k exactly when its mask, its target and its group's hold-off allow it. The masks are
unchanged throughout. -/
def Obligations.end_of_interrupt : Prop :=
  ∀ (s : State) (ini : Ini) (c : Fin 16) (n : Nat), n < 1023 → s.admits ini pgIntc (0x540 + 4 * c.val) = true →
    (srcHas s.d.intc.active n = true → sget s.d.intc.claimer 0 n = c → ∃ t, exec (.eoi ini c (word n)) s = .next t ∧
      srcHas t.d.intc.active n = false ∧ t.d.intc.mask = s.d.intc.mask ∧ t.d.intc.hold = s.d.intc.hold ∧
      (∀ k, k < 1024 → k ≠ n → srcHas t.d.intc.active k = srcHas s.d.intc.active k ∧ srcHas t.d.intc.pend k = srcHas s.d.intc.pend k) ∧
      (srcHas s.d.intc.pend n = true → ∀ k : Fin 16, t.d.eligible k n =
        (!srcHas s.d.intc.mask n && (s.d.target n).testBit k && !(s.d.intc.hold.toNat.testBit (n / 32)))) ∧
      t.d.ctr = (s.reached ini pgIntc).d.ctr ∧ t.d.regs = s.d.regs ∧ t.pending = s.pending) ∧
    (¬ (srcHas s.d.intc.active n = true ∧ sget s.d.intc.claimer 0 n = c) → exec (.eoi ini c (word n)) s =
      .next ((s.reached ini pgIntc).onD (fun d => d.count pgIntc 2)))

/-- SEC_COMMAND_END of a running ROLLBACK_ADVANCE, REVOKE_ED or REVOKE_MLDSA, with any argument, while DEBUG_SEEN is
1: the command ends with DONE_PEND set and result REFUSED_DEBUG (1); no fuse, no counter and nothing else changes.
-/
def Obligations.fuse_commands_under_debug : Prop :=
  ∀ (s : State) (op arg : Nat), op ∈ [2, 3, 4] → s.d.live 90 = true → s.a.sec.cmd = some (op, arg) → s.a.sec.debugSeen = true →
    ∃ c : Store DWord, exec .secCommandEnd s =
      .next ((s.onD (fun d => { d with ctr := c })).updSec (fun x => { x with cmd := none, donePend := true, result := 1 })) ∧
      ∀ k, sget c 0 k = sget s.d.ctr 0 k

/-- A new wide element has every field 0. For every fp32 word, of sign S, exponent field E and fraction F: a NaN
sets NAN, an infinity PINF or NINF, and a finite value x, subnormals and zeros among them, adds the integer x times
2^149 to V; an addition that would leave the 310-bit range of V leaves V unchanged and sets OVF. No other field
changes. -/
def Obligations.wide_addition : Prop :=
  ({} : WideElt) = { v := 0, nan := false, pinf := false, ninf := false, oow := false, ovf := false } ∧
  ∀ (t : WideElt) (x : Word),
    let E : Nat := x.toNat / 2 ^ 23 % 256
    let F : Nat := x.toNat % 2 ^ 23
    let neg := decide (2 ^ 31 ≤ x.toNat)
    let m : Int := if E = 0 then (F : Int) else (((F + 2 ^ 23) * 2 ^ (E - 1) : Nat) : Int)
    let q : Int := if neg then -m else m
    t.add false (f32 x) =
      if E = 255 ∧ F ≠ 0 then { t with nan := true }
      else if E = 255 ∧ neg = false then { t with pinf := true }
      else if E = 255 then { t with ninf := true }
      else if -(2 ^ 309 : Int) ≤ t.v + q ∧ t.v + q < 2 ^ 309 then { t with v := t.v + q }
      else { t with ovf := true }

/-- For every state, whatever command is at the front of its queue and whatever its operands, a step answers a next
state, whose queue is the rest of the queue: no command stops the module, and none adds to or reorders the commands
that wait. -/
def Obligations.every_step_completes : Prop :=
  ∀ s : State, ∃ t, step s = .next t ∧ t.pending = s.pending.tail

/-- In every state whose always-on island is legal (no reserved clock mode, straps and address in range, four
revocation slots, an 8-bit rollback count, a debug-port status of three values), a step leaves it legal, and no fuse
is taken back: revocations stay, the rollback count does not fall, and keys, identity secret and trim fuses are the
same. -/
def Obligations.always_on_island_kept : Prop :=
  ∀ s t : State, Aon.legal s.a = true → step s = .next t → Aon.legal t.a = true ∧ Aon.fusesKept s.a t.a

/-- From a state whose byte memory is in canonical form, an access to a stack, its re-read, its corrective write and
its scrub, an access through the Vat window, a patrol scrub, a flash transfer and a power-on lead to a state whose
byte memory is in canonical form, so that equal memories stay equal data. -/
def Obligations.memory_form_kept : Prop :=
  let keeps (c : Instr) : Prop := ∀ s t : State, Memory.wf s.d.mem = true → exec c s = .next t → Memory.wf t.d.mem = true
  (∀ k ini off size wr n mis, keeps (.stackAccess k ini off size wr n mis)) ∧ (∀ k n mis, keeps (.readRetry k n mis)) ∧
    (∀ k, keeps (.correctiveWrite k)) ∧ (∀ k n mis, keeps (.stackScrub k n mis)) ∧
    (∀ ini off size err drop, keeps (.vatWindowRead ini off size err drop)) ∧
    (∀ ini off size v err drop, keeps (.vatWindowWrite ini off size v err drop)) ∧ (∀ n err, keeps (.patrolScrub n err)) ∧
    (∀ es, keeps (.flXferDone es)) ∧ (∀ ga, keeps (.powerOn ga))

/-- At reset no command waits, the memory is in canonical form with nothing listed, the always-on island is legal,
every register reads the reset value of its table, every counter is 0, every queue is IDLE with nothing in its
window or in flight, every island is out of reset behind an open wrapper, both halves are at level 3, nothing sleeps
and no reset is under way, and RST_CAUSE shows power-on. That an unlisted byte reads 0 is the model's choice (log
13). -/
def Obligations.reset_state : Prop :=
  let s := State.reset
  s.pending = [] ∧ Memory.wf s.d.mem = true ∧ (∀ a, s.d.byte a = 0) ∧ Aon.legal s.a = true ∧
    (∀ page off, s.d.reg page off = resetVal (rkey page off) ∧ s.d.shadow page off = resetVal (rkey page off)) ∧
    (∀ page sel, s.d.ctrOf page sel = 0) ∧
    (∀ n q, (s.d.queue n q).st = .idle ∧ (s.d.queue n q).window = [] ∧ (s.d.queue n q).infl = []) ∧
    (∀ i, (s.d.ist i).inReset = false ∧ (s.d.ist i).isolated = false) ∧ s.d.pw.levW = 3 ∧ s.d.pw.levE = 3 ∧
    s.d.pw.asleep = false ∧ s.d.pw.release = none ∧ s.a.last = 1 ∧ s.a.scope = 0 ∧ s.a.history = 1
end

