-- ==== Sys2Proof/Laws/Store.lean ====
section
/-!
SUPPORT. Laws of the sparse store: what a read answers after each change, and that every change keeps the
canonical form.
-/

namespace Sys2Proof

variable {β : Type}

/-! ## Reads after changes -/

theorem sget_serase (m : Store β) (d : β) (k j : Nat) :
    sget (serase m k) d j = if j = k then d else sget m d j := by
  induction m with
  | nil => simp [serase, sget]
  | cons c t ih =>
    obtain ⟨i, w⟩ := c
    by_cases h : i = k
    · subst h
      simp only [serase, if_true, ih, sget]
      by_cases hj : j = i
      · simp [hj]
      · simp [hj, Ne.symm hj]
    · simp only [serase, h, if_false, sget, ih]
      by_cases hj : i = j
      · subst hj; simp [h]
      · simp [hj]

theorem sget_sinsert_serase (m : Store β) (d v : β) (k j : Nat) :
    sget (sinsert (serase m k) k v) d j = if j = k then v else sget m d j := by
  induction m with
  | nil => simp [serase, sinsert, sget, eq_comm]
  | cons c t ih =>
    obtain ⟨i, w⟩ := c
    by_cases h : i = k
    · subst h
      simp only [serase, if_true, ih, sget]
      by_cases hj : j = i
      · simp [hj]
      · simp [hj, Ne.symm hj]
    · simp only [serase, h, if_false, sinsert]
      split
      · simp only [sget, sget_serase]
        by_cases hj : k = j
        · simp [hj]
        · simp only [hj, if_false]
          by_cases hi : i = j
          · simp [hi]; intro e; exact absurd e.symm hj
          · simp [hi, Ne.symm hj]
      · simp only [sget, ih]
        by_cases hi : i = j
        · subst hi; simp [h]
        · simp [hi]

variable [DecidableEq β]

/-- A read after a write of one index. -/
theorem sget_sset (m : Store β) (d v : β) (k j : Nat) :
    sget (sset m d k v) d j = if j = k then v else sget m d j := by
  unfold sset
  split
  · next h => subst h; exact sget_serase m v k j
  · exact sget_sinsert_serase m d v k j

@[simp] theorem sget_sset_same (m : Store β) (d v : β) (k : Nat) : sget (sset m d k v) d k = v := by
  simp [sget_sset]

theorem sget_sset_other (m : Store β) (d e v : β) {k j : Nat} (h : j ≠ k) : sget (sset m d k v) e j = sget m e j := by
  unfold sset
  split
  · simp [sget_serase, h]
  · simp [sget_sinsert_serase, h]

omit [DecidableEq β] in
/-- A read after the indices outside `p` were dropped. -/
theorem sget_skeep (m : Store β) (d : β) (p : Nat → Bool) (j : Nat) :
    sget (skeep m p) d j = if p j then sget m d j else d := by
  induction m with
  | nil => simp [skeep, sget]
  | cons c t ih =>
    obtain ⟨i, w⟩ := c
    unfold skeep at ih ⊢
    rw [List.filter_cons]
    by_cases hp : p i
    · simp only [hp, if_true, sget, ih]
      by_cases hi : i = j
      · subst hi; simp [hp]
      · simp [hi]
    · simp only [hp, sget]
      by_cases hi : i = j
      · subst hi; simp [ih, hp]
      · simp [hi, ih]

omit [DecidableEq β] in
/-- A read after a range was cleared. -/
theorem sget_sclear (m : Store β) (d : β) (lo n j : Nat) :
    sget (sclear m lo n) d j = if lo ≤ j ∧ j < lo + n then d else sget m d j := by
  unfold sclear
  rw [sget_skeep]
  by_cases h : lo ≤ j ∧ j < lo + n
  · simp [h]
  · rw [if_neg h, if_pos]
    simp only [Bool.not_eq_true', Bool.and_eq_false_iff, decide_eq_false_iff_not]
    by_cases h1 : lo ≤ j
    · exact .inr (fun h2 => h ⟨h1, h2⟩)
    · exact .inl h1

/-- A read after a run of values was written. -/
theorem sget_ssetList (vs : List β) (m : Store β) (d : β) (k j : Nat) :
    sget (ssetList m d k vs) d j = if k ≤ j ∧ j < k + vs.length then vs.getD (j - k) d else sget m d j := by
  induction vs generalizing m k with
  | nil =>
    simp only [ssetList, List.length_nil, Nat.add_zero]
    rw [if_neg (by omega)]
  | cons v t ih =>
    simp only [ssetList, ih, List.length_cons, sget_sset]
    by_cases h1 : j = k
    · subst h1; simp
    · by_cases h2 : k ≤ j ∧ j < k + (t.length + 1)
      · have h3 : k + 1 ≤ j ∧ j < k + 1 + t.length := by omega
        have h4 : j - k = (j - (k + 1)) + 1 := by omega
        simp only [h2, h3, and_self, if_true, h4, List.getD_cons_succ]
      · have h3 : ¬ (k + 1 ≤ j ∧ j < k + 1 + t.length) := by omega
        simp only [h2, h3, h1, if_false]

/-! ## The canonical form -/

theorem storeWf_cons {d : β} {j : Nat} {v : β} {t : Store β} :
    storeWf d ((j, v) :: t) = true ↔ v ≠ d ∧ (∀ c ∈ t, j < c.1) ∧ storeWf d t = true := by
  simp [storeWf, and_assoc]

omit [DecidableEq β] in
theorem mem_serase {m : Store β} {k : Nat} {c : Nat × β} (h : c ∈ serase m k) : c ∈ m ∧ c.1 ≠ k := by
  induction m with
  | nil => simp [serase] at h
  | cons x t ih =>
    obtain ⟨i, w⟩ := x
    simp only [serase] at h
    split at h
    · have := ih h; exact ⟨List.mem_cons_of_mem _ this.1, this.2⟩
    · next hi =>
      rcases List.mem_cons.1 h with rfl | h
      · exact ⟨List.mem_cons_self .., hi⟩
      · have := ih h; exact ⟨List.mem_cons_of_mem _ this.1, this.2⟩

omit [DecidableEq β] in
theorem mem_sinsert {m : Store β} {k : Nat} {v : β} {c : Nat × β} (h : c ∈ sinsert m k v) : c = (k, v) ∨ c ∈ m := by
  induction m with
  | nil => simp [sinsert] at h; exact .inl h
  | cons x t ih =>
    obtain ⟨i, w⟩ := x
    simp only [sinsert] at h
    split at h
    · rcases List.mem_cons.1 h with rfl | h
      · exact .inl rfl
      · exact .inr h
    · rcases List.mem_cons.1 h with rfl | h
      · exact .inr (List.mem_cons_self ..)
      · rcases ih h with h | h
        · exact .inl h
        · exact .inr (List.mem_cons_of_mem _ h)

theorem storeWf_serase {d : β} {m : Store β} (k : Nat) (h : storeWf d m = true) : storeWf d (serase m k) = true := by
  induction m with
  | nil => exact h
  | cons x t ih =>
    obtain ⟨i, w⟩ := x
    have h' := storeWf_cons.1 h
    simp only [serase]
    split
    · exact ih h'.2.2
    · exact storeWf_cons.2 ⟨h'.1, fun c hc => h'.2.1 c (mem_serase hc).1, ih h'.2.2⟩

theorem storeWf_sinsert {d v : β} {m : Store β} {k : Nat} (h : storeWf d m = true) (hk : ∀ c ∈ m, c.1 ≠ k) (hv : v ≠ d) :
    storeWf d (sinsert m k v) = true := by
  induction m with
  | nil => simp [sinsert, storeWf, hv]
  | cons x t ih =>
    obtain ⟨i, w⟩ := x
    have h' := storeWf_cons.1 h
    have hi : i ≠ k := hk (i, w) (List.mem_cons_self ..)
    simp only [sinsert]
    split
    · next hlt =>
      refine storeWf_cons.2 ⟨hv, fun c hc => ?_, h⟩
      rcases List.mem_cons.1 hc with rfl | hc
      · exact hlt
      · exact Nat.lt_trans hlt (h'.2.1 c hc)
    · refine storeWf_cons.2 ⟨h'.1, fun c hc => ?_, ih h'.2.2 (fun c hc => hk c (List.mem_cons_of_mem _ hc))⟩
      rcases mem_sinsert hc with rfl | hc
      · show i < k; omega
      · exact h'.2.1 c hc

/-- A write keeps the canonical form. -/
theorem storeWf_sset {d : β} {m : Store β} (k : Nat) (v : β) (h : storeWf d m = true) : storeWf d (sset m d k v) = true := by
  unfold sset
  split
  · exact storeWf_serase k h
  · next hv => exact storeWf_sinsert (storeWf_serase k h) (fun c hc => (mem_serase hc).2) hv

/-- Dropping cells keeps the canonical form. -/
theorem storeWf_filter {d : β} {m : Store β} (p : Nat × β → Bool) (h : storeWf d m = true) : storeWf d (m.filter p) = true := by
  induction m with
  | nil => exact h
  | cons x t ih =>
    obtain ⟨i, w⟩ := x
    have h' := storeWf_cons.1 h
    rw [List.filter_cons]
    split
    · exact storeWf_cons.2 ⟨h'.1, fun c hc => h'.2.1 c (List.mem_of_mem_filter hc), ih h'.2.2⟩
    · exact ih h'.2.2

theorem storeWf_skeep {d : β} {m : Store β} (p : Nat → Bool) (h : storeWf d m = true) : storeWf d (skeep m p) = true :=
  storeWf_filter _ h

theorem storeWf_sclear {d : β} {m : Store β} (lo n : Nat) (h : storeWf d m = true) : storeWf d (sclear m lo n) = true :=
  storeWf_skeep _ h

theorem storeWf_ssetList {d : β} (vs : List β) {m : Store β} (k : Nat) (h : storeWf d m = true) :
    storeWf d (ssetList m d k vs) = true := by
  induction vs generalizing m k with
  | nil => exact h
  | cons v t ih => exact ih (k + 1) (storeWf_sset k v h)

end Sys2Proof
end

