-- ==== Sys2Proof/Laws/State.lean ====
section
/-!
SUPPORT. What each update of the state leaves alone, field by field, and what its own field holds afterwards.
-/

namespace Sys2Proof.Machine

variable (d : Die) (s : State)

/-! ## Updates of the die: the other fields -/

@[simp] theorem Die.updCore_regs (n : Nat) (f : Core → Core) : (d.updCore n f).regs = d.regs := rfl
@[simp] theorem Die.updCore_shad (n : Nat) (f : Core → Core) : (d.updCore n f).shad = d.shad := rfl
@[simp] theorem Die.updCore_ctr (n : Nat) (f : Core → Core) : (d.updCore n f).ctr = d.ctr := rfl
@[simp] theorem Die.updCore_hdr (n : Nat) (f : Core → Core) : (d.updCore n f).hdr = d.hdr := rfl
@[simp] theorem Die.updCore_mem (n : Nat) (f : Core → Core) : (d.updCore n f).mem = d.mem := rfl
@[simp] theorem Die.updCore_side (n : Nat) (f : Core → Core) : (d.updCore n f).side = d.side := rfl
@[simp] theorem Die.updCore_queues (n : Nat) (f : Core → Core) : (d.updCore n f).queues = d.queues := rfl
@[simp] theorem Die.updCore_islSt (n : Nat) (f : Core → Core) : (d.updCore n f).islSt = d.islSt := rfl
@[simp] theorem Die.updCore_dk (n : Nat) (f : Core → Core) : (d.updCore n f).dk = d.dk := rfl
@[simp] theorem Die.updCore_jobs (n : Nat) (f : Core → Core) : (d.updCore n f).jobs = d.jobs := rfl
@[simp] theorem Die.updCore_objs (n : Nat) (f : Core → Core) : (d.updCore n f).objs = d.objs := rfl
@[simp] theorem Die.updCore_stk (n : Nat) (f : Core → Core) : (d.updCore n f).stk = d.stk := rfl
@[simp] theorem Die.updCore_ports (n : Nat) (f : Core → Core) : (d.updCore n f).ports = d.ports := rfl
@[simp] theorem Die.updCore_fab (n : Nat) (f : Core → Core) : (d.updCore n f).fab = d.fab := rfl
@[simp] theorem Die.updCore_sg (n : Nat) (f : Core → Core) : (d.updCore n f).sg = d.sg := rfl
@[simp] theorem Die.updCore_flash (n : Nat) (f : Core → Core) : (d.updCore n f).flash = d.flash := rfl
@[simp] theorem Die.updCore_pw (n : Nat) (f : Core → Core) : (d.updCore n f).pw = d.pw := rfl
@[simp] theorem Die.updCore_part (n : Nat) (f : Core → Core) : (d.updCore n f).part = d.part := rfl
@[simp] theorem Die.updCore_intc (n : Nat) (f : Core → Core) : (d.updCore n f).intc = d.intc := rfl
@[simp] theorem Die.updCore_mgmt (n : Nat) (f : Core → Core) : (d.updCore n f).mgmt = d.mgmt := rfl
@[simp] theorem Die.updCore_resp (n : Nat) (f : Core → Core) : (d.updCore n f).resp = d.resp := rfl
@[simp] theorem Die.updCore_free (n : Nat) (f : Core → Core) : (d.updCore n f).free = d.free := rfl

@[simp] theorem Die.updIsl_regs (i : Nat) (f : Isl → Isl) : (d.updIsl i f).regs = d.regs := rfl
@[simp] theorem Die.updIsl_shad (i : Nat) (f : Isl → Isl) : (d.updIsl i f).shad = d.shad := rfl
@[simp] theorem Die.updIsl_ctr (i : Nat) (f : Isl → Isl) : (d.updIsl i f).ctr = d.ctr := rfl
@[simp] theorem Die.updIsl_hdr (i : Nat) (f : Isl → Isl) : (d.updIsl i f).hdr = d.hdr := rfl
@[simp] theorem Die.updIsl_mem (i : Nat) (f : Isl → Isl) : (d.updIsl i f).mem = d.mem := rfl
@[simp] theorem Die.updIsl_side (i : Nat) (f : Isl → Isl) : (d.updIsl i f).side = d.side := rfl
@[simp] theorem Die.updIsl_cores (i : Nat) (f : Isl → Isl) : (d.updIsl i f).cores = d.cores := rfl
@[simp] theorem Die.updIsl_queues (i : Nat) (f : Isl → Isl) : (d.updIsl i f).queues = d.queues := rfl
@[simp] theorem Die.updIsl_islSt (i : Nat) (f : Isl → Isl) : (d.updIsl i f).islSt = d.islSt := rfl
@[simp] theorem Die.updIsl_dk (i : Nat) (f : Isl → Isl) : (d.updIsl i f).dk = d.dk := rfl
@[simp] theorem Die.updIsl_jobs (i : Nat) (f : Isl → Isl) : (d.updIsl i f).jobs = d.jobs := rfl
@[simp] theorem Die.updIsl_objs (i : Nat) (f : Isl → Isl) : (d.updIsl i f).objs = d.objs := rfl
@[simp] theorem Die.updIsl_stk (i : Nat) (f : Isl → Isl) : (d.updIsl i f).stk = d.stk := rfl
@[simp] theorem Die.updIsl_ports (i : Nat) (f : Isl → Isl) : (d.updIsl i f).ports = d.ports := rfl
@[simp] theorem Die.updIsl_fab (i : Nat) (f : Isl → Isl) : (d.updIsl i f).fab = d.fab := rfl
@[simp] theorem Die.updIsl_sg (i : Nat) (f : Isl → Isl) : (d.updIsl i f).sg = d.sg := rfl
@[simp] theorem Die.updIsl_flash (i : Nat) (f : Isl → Isl) : (d.updIsl i f).flash = d.flash := rfl
@[simp] theorem Die.updIsl_pw (i : Nat) (f : Isl → Isl) : (d.updIsl i f).pw = d.pw := rfl
@[simp] theorem Die.updIsl_part (i : Nat) (f : Isl → Isl) : (d.updIsl i f).part = d.part := rfl
@[simp] theorem Die.updIsl_intc (i : Nat) (f : Isl → Isl) : (d.updIsl i f).intc = d.intc := rfl
@[simp] theorem Die.updIsl_mgmt (i : Nat) (f : Isl → Isl) : (d.updIsl i f).mgmt = d.mgmt := rfl
@[simp] theorem Die.updIsl_resp (i : Nat) (f : Isl → Isl) : (d.updIsl i f).resp = d.resp := rfl
@[simp] theorem Die.updIsl_free (i : Nat) (f : Isl → Isl) : (d.updIsl i f).free = d.free := rfl

@[simp] theorem Die.updIst_regs (i : Nat) (f : IslSt → IslSt) : (d.updIst i f).regs = d.regs := rfl
@[simp] theorem Die.updIst_shad (i : Nat) (f : IslSt → IslSt) : (d.updIst i f).shad = d.shad := rfl
@[simp] theorem Die.updIst_ctr (i : Nat) (f : IslSt → IslSt) : (d.updIst i f).ctr = d.ctr := rfl
@[simp] theorem Die.updIst_hdr (i : Nat) (f : IslSt → IslSt) : (d.updIst i f).hdr = d.hdr := rfl
@[simp] theorem Die.updIst_mem (i : Nat) (f : IslSt → IslSt) : (d.updIst i f).mem = d.mem := rfl
@[simp] theorem Die.updIst_side (i : Nat) (f : IslSt → IslSt) : (d.updIst i f).side = d.side := rfl
@[simp] theorem Die.updIst_cores (i : Nat) (f : IslSt → IslSt) : (d.updIst i f).cores = d.cores := rfl
@[simp] theorem Die.updIst_queues (i : Nat) (f : IslSt → IslSt) : (d.updIst i f).queues = d.queues := rfl
@[simp] theorem Die.updIst_dk (i : Nat) (f : IslSt → IslSt) : (d.updIst i f).dk = d.dk := rfl
@[simp] theorem Die.updIst_jobs (i : Nat) (f : IslSt → IslSt) : (d.updIst i f).jobs = d.jobs := rfl
@[simp] theorem Die.updIst_objs (i : Nat) (f : IslSt → IslSt) : (d.updIst i f).objs = d.objs := rfl
@[simp] theorem Die.updIst_stk (i : Nat) (f : IslSt → IslSt) : (d.updIst i f).stk = d.stk := rfl
@[simp] theorem Die.updIst_ports (i : Nat) (f : IslSt → IslSt) : (d.updIst i f).ports = d.ports := rfl
@[simp] theorem Die.updIst_fab (i : Nat) (f : IslSt → IslSt) : (d.updIst i f).fab = d.fab := rfl
@[simp] theorem Die.updIst_sg (i : Nat) (f : IslSt → IslSt) : (d.updIst i f).sg = d.sg := rfl
@[simp] theorem Die.updIst_flash (i : Nat) (f : IslSt → IslSt) : (d.updIst i f).flash = d.flash := rfl
@[simp] theorem Die.updIst_pw (i : Nat) (f : IslSt → IslSt) : (d.updIst i f).pw = d.pw := rfl
@[simp] theorem Die.updIst_part (i : Nat) (f : IslSt → IslSt) : (d.updIst i f).part = d.part := rfl
@[simp] theorem Die.updIst_intc (i : Nat) (f : IslSt → IslSt) : (d.updIst i f).intc = d.intc := rfl
@[simp] theorem Die.updIst_mgmt (i : Nat) (f : IslSt → IslSt) : (d.updIst i f).mgmt = d.mgmt := rfl
@[simp] theorem Die.updIst_resp (i : Nat) (f : IslSt → IslSt) : (d.updIst i f).resp = d.resp := rfl
@[simp] theorem Die.updIst_free (i : Nat) (f : IslSt → IslSt) : (d.updIst i f).free = d.free := rfl

@[simp] theorem Die.updSlice_regs (n : Nat) (f : VSlice → VSlice) : (d.updSlice n f).regs = d.regs := rfl
@[simp] theorem Die.updSlice_shad (n : Nat) (f : VSlice → VSlice) : (d.updSlice n f).shad = d.shad := rfl
@[simp] theorem Die.updSlice_ctr (n : Nat) (f : VSlice → VSlice) : (d.updSlice n f).ctr = d.ctr := rfl
@[simp] theorem Die.updSlice_hdr (n : Nat) (f : VSlice → VSlice) : (d.updSlice n f).hdr = d.hdr := rfl
@[simp] theorem Die.updSlice_mem (n : Nat) (f : VSlice → VSlice) : (d.updSlice n f).mem = d.mem := rfl
@[simp] theorem Die.updSlice_side (n : Nat) (f : VSlice → VSlice) : (d.updSlice n f).side = d.side := rfl
@[simp] theorem Die.updSlice_cores (n : Nat) (f : VSlice → VSlice) : (d.updSlice n f).cores = d.cores := rfl
@[simp] theorem Die.updSlice_queues (n : Nat) (f : VSlice → VSlice) : (d.updSlice n f).queues = d.queues := rfl
@[simp] theorem Die.updSlice_islSt (n : Nat) (f : VSlice → VSlice) : (d.updSlice n f).islSt = d.islSt := rfl
@[simp] theorem Die.updSlice_dk (n : Nat) (f : VSlice → VSlice) : (d.updSlice n f).dk = d.dk := rfl
@[simp] theorem Die.updSlice_jobs (n : Nat) (f : VSlice → VSlice) : (d.updSlice n f).jobs = d.jobs := rfl
@[simp] theorem Die.updSlice_objs (n : Nat) (f : VSlice → VSlice) : (d.updSlice n f).objs = d.objs := rfl
@[simp] theorem Die.updSlice_stk (n : Nat) (f : VSlice → VSlice) : (d.updSlice n f).stk = d.stk := rfl
@[simp] theorem Die.updSlice_ports (n : Nat) (f : VSlice → VSlice) : (d.updSlice n f).ports = d.ports := rfl
@[simp] theorem Die.updSlice_fab (n : Nat) (f : VSlice → VSlice) : (d.updSlice n f).fab = d.fab := rfl
@[simp] theorem Die.updSlice_sg (n : Nat) (f : VSlice → VSlice) : (d.updSlice n f).sg = d.sg := rfl
@[simp] theorem Die.updSlice_flash (n : Nat) (f : VSlice → VSlice) : (d.updSlice n f).flash = d.flash := rfl
@[simp] theorem Die.updSlice_pw (n : Nat) (f : VSlice → VSlice) : (d.updSlice n f).pw = d.pw := rfl
@[simp] theorem Die.updSlice_part (n : Nat) (f : VSlice → VSlice) : (d.updSlice n f).part = d.part := rfl
@[simp] theorem Die.updSlice_intc (n : Nat) (f : VSlice → VSlice) : (d.updSlice n f).intc = d.intc := rfl
@[simp] theorem Die.updSlice_mgmt (n : Nat) (f : VSlice → VSlice) : (d.updSlice n f).mgmt = d.mgmt := rfl
@[simp] theorem Die.updSlice_resp (n : Nat) (f : VSlice → VSlice) : (d.updSlice n f).resp = d.resp := rfl
@[simp] theorem Die.updSlice_free (n : Nat) (f : VSlice → VSlice) : (d.updSlice n f).free = d.free := rfl

@[simp] theorem Die.updFelt_regs (i q : Nat) (f : FeltQ → FeltQ) : (d.updFelt i q f).regs = d.regs := rfl
@[simp] theorem Die.updFelt_shad (i q : Nat) (f : FeltQ → FeltQ) : (d.updFelt i q f).shad = d.shad := rfl
@[simp] theorem Die.updFelt_ctr (i q : Nat) (f : FeltQ → FeltQ) : (d.updFelt i q f).ctr = d.ctr := rfl
@[simp] theorem Die.updFelt_hdr (i q : Nat) (f : FeltQ → FeltQ) : (d.updFelt i q f).hdr = d.hdr := rfl
@[simp] theorem Die.updFelt_mem (i q : Nat) (f : FeltQ → FeltQ) : (d.updFelt i q f).mem = d.mem := rfl
@[simp] theorem Die.updFelt_side (i q : Nat) (f : FeltQ → FeltQ) : (d.updFelt i q f).side = d.side := rfl
@[simp] theorem Die.updFelt_cores (i q : Nat) (f : FeltQ → FeltQ) : (d.updFelt i q f).cores = d.cores := rfl
@[simp] theorem Die.updFelt_queues (i q : Nat) (f : FeltQ → FeltQ) : (d.updFelt i q f).queues = d.queues := rfl
@[simp] theorem Die.updFelt_islSt (i q : Nat) (f : FeltQ → FeltQ) : (d.updFelt i q f).islSt = d.islSt := rfl
@[simp] theorem Die.updFelt_dk (i q : Nat) (f : FeltQ → FeltQ) : (d.updFelt i q f).dk = d.dk := rfl
@[simp] theorem Die.updFelt_jobs (i q : Nat) (f : FeltQ → FeltQ) : (d.updFelt i q f).jobs = d.jobs := rfl
@[simp] theorem Die.updFelt_objs (i q : Nat) (f : FeltQ → FeltQ) : (d.updFelt i q f).objs = d.objs := rfl
@[simp] theorem Die.updFelt_stk (i q : Nat) (f : FeltQ → FeltQ) : (d.updFelt i q f).stk = d.stk := rfl
@[simp] theorem Die.updFelt_ports (i q : Nat) (f : FeltQ → FeltQ) : (d.updFelt i q f).ports = d.ports := rfl
@[simp] theorem Die.updFelt_fab (i q : Nat) (f : FeltQ → FeltQ) : (d.updFelt i q f).fab = d.fab := rfl
@[simp] theorem Die.updFelt_sg (i q : Nat) (f : FeltQ → FeltQ) : (d.updFelt i q f).sg = d.sg := rfl
@[simp] theorem Die.updFelt_flash (i q : Nat) (f : FeltQ → FeltQ) : (d.updFelt i q f).flash = d.flash := rfl
@[simp] theorem Die.updFelt_pw (i q : Nat) (f : FeltQ → FeltQ) : (d.updFelt i q f).pw = d.pw := rfl
@[simp] theorem Die.updFelt_part (i q : Nat) (f : FeltQ → FeltQ) : (d.updFelt i q f).part = d.part := rfl
@[simp] theorem Die.updFelt_intc (i q : Nat) (f : FeltQ → FeltQ) : (d.updFelt i q f).intc = d.intc := rfl
@[simp] theorem Die.updFelt_mgmt (i q : Nat) (f : FeltQ → FeltQ) : (d.updFelt i q f).mgmt = d.mgmt := rfl
@[simp] theorem Die.updFelt_resp (i q : Nat) (f : FeltQ → FeltQ) : (d.updFelt i q f).resp = d.resp := rfl
@[simp] theorem Die.updFelt_free (i q : Nat) (f : FeltQ → FeltQ) : (d.updFelt i q f).free = d.free := rfl

@[simp] theorem Die.updRt_regs (i e : Nat) (f : RTile → RTile) : (d.updRt i e f).regs = d.regs := rfl
@[simp] theorem Die.updRt_shad (i e : Nat) (f : RTile → RTile) : (d.updRt i e f).shad = d.shad := rfl
@[simp] theorem Die.updRt_ctr (i e : Nat) (f : RTile → RTile) : (d.updRt i e f).ctr = d.ctr := rfl
@[simp] theorem Die.updRt_hdr (i e : Nat) (f : RTile → RTile) : (d.updRt i e f).hdr = d.hdr := rfl
@[simp] theorem Die.updRt_mem (i e : Nat) (f : RTile → RTile) : (d.updRt i e f).mem = d.mem := rfl
@[simp] theorem Die.updRt_side (i e : Nat) (f : RTile → RTile) : (d.updRt i e f).side = d.side := rfl
@[simp] theorem Die.updRt_cores (i e : Nat) (f : RTile → RTile) : (d.updRt i e f).cores = d.cores := rfl
@[simp] theorem Die.updRt_queues (i e : Nat) (f : RTile → RTile) : (d.updRt i e f).queues = d.queues := rfl
@[simp] theorem Die.updRt_islSt (i e : Nat) (f : RTile → RTile) : (d.updRt i e f).islSt = d.islSt := rfl
@[simp] theorem Die.updRt_dk (i e : Nat) (f : RTile → RTile) : (d.updRt i e f).dk = d.dk := rfl
@[simp] theorem Die.updRt_jobs (i e : Nat) (f : RTile → RTile) : (d.updRt i e f).jobs = d.jobs := rfl
@[simp] theorem Die.updRt_objs (i e : Nat) (f : RTile → RTile) : (d.updRt i e f).objs = d.objs := rfl
@[simp] theorem Die.updRt_stk (i e : Nat) (f : RTile → RTile) : (d.updRt i e f).stk = d.stk := rfl
@[simp] theorem Die.updRt_ports (i e : Nat) (f : RTile → RTile) : (d.updRt i e f).ports = d.ports := rfl
@[simp] theorem Die.updRt_fab (i e : Nat) (f : RTile → RTile) : (d.updRt i e f).fab = d.fab := rfl
@[simp] theorem Die.updRt_sg (i e : Nat) (f : RTile → RTile) : (d.updRt i e f).sg = d.sg := rfl
@[simp] theorem Die.updRt_flash (i e : Nat) (f : RTile → RTile) : (d.updRt i e f).flash = d.flash := rfl
@[simp] theorem Die.updRt_pw (i e : Nat) (f : RTile → RTile) : (d.updRt i e f).pw = d.pw := rfl
@[simp] theorem Die.updRt_part (i e : Nat) (f : RTile → RTile) : (d.updRt i e f).part = d.part := rfl
@[simp] theorem Die.updRt_intc (i e : Nat) (f : RTile → RTile) : (d.updRt i e f).intc = d.intc := rfl
@[simp] theorem Die.updRt_mgmt (i e : Nat) (f : RTile → RTile) : (d.updRt i e f).mgmt = d.mgmt := rfl
@[simp] theorem Die.updRt_resp (i e : Nat) (f : RTile → RTile) : (d.updRt i e f).resp = d.resp := rfl
@[simp] theorem Die.updRt_free (i e : Nat) (f : RTile → RTile) : (d.updRt i e f).free = d.free := rfl

@[simp] theorem Die.updJob_regs (j : Nat) (f : Job → Job) : (d.updJob j f).regs = d.regs := rfl
@[simp] theorem Die.updJob_shad (j : Nat) (f : Job → Job) : (d.updJob j f).shad = d.shad := rfl
@[simp] theorem Die.updJob_ctr (j : Nat) (f : Job → Job) : (d.updJob j f).ctr = d.ctr := rfl
@[simp] theorem Die.updJob_hdr (j : Nat) (f : Job → Job) : (d.updJob j f).hdr = d.hdr := rfl
@[simp] theorem Die.updJob_mem (j : Nat) (f : Job → Job) : (d.updJob j f).mem = d.mem := rfl
@[simp] theorem Die.updJob_side (j : Nat) (f : Job → Job) : (d.updJob j f).side = d.side := rfl
@[simp] theorem Die.updJob_cores (j : Nat) (f : Job → Job) : (d.updJob j f).cores = d.cores := rfl
@[simp] theorem Die.updJob_queues (j : Nat) (f : Job → Job) : (d.updJob j f).queues = d.queues := rfl
@[simp] theorem Die.updJob_islSt (j : Nat) (f : Job → Job) : (d.updJob j f).islSt = d.islSt := rfl
@[simp] theorem Die.updJob_dk (j : Nat) (f : Job → Job) : (d.updJob j f).dk = d.dk := rfl
@[simp] theorem Die.updJob_objs (j : Nat) (f : Job → Job) : (d.updJob j f).objs = d.objs := rfl
@[simp] theorem Die.updJob_stk (j : Nat) (f : Job → Job) : (d.updJob j f).stk = d.stk := rfl
@[simp] theorem Die.updJob_ports (j : Nat) (f : Job → Job) : (d.updJob j f).ports = d.ports := rfl
@[simp] theorem Die.updJob_fab (j : Nat) (f : Job → Job) : (d.updJob j f).fab = d.fab := rfl
@[simp] theorem Die.updJob_sg (j : Nat) (f : Job → Job) : (d.updJob j f).sg = d.sg := rfl
@[simp] theorem Die.updJob_flash (j : Nat) (f : Job → Job) : (d.updJob j f).flash = d.flash := rfl
@[simp] theorem Die.updJob_pw (j : Nat) (f : Job → Job) : (d.updJob j f).pw = d.pw := rfl
@[simp] theorem Die.updJob_part (j : Nat) (f : Job → Job) : (d.updJob j f).part = d.part := rfl
@[simp] theorem Die.updJob_intc (j : Nat) (f : Job → Job) : (d.updJob j f).intc = d.intc := rfl
@[simp] theorem Die.updJob_mgmt (j : Nat) (f : Job → Job) : (d.updJob j f).mgmt = d.mgmt := rfl
@[simp] theorem Die.updJob_resp (j : Nat) (f : Job → Job) : (d.updJob j f).resp = d.resp := rfl
@[simp] theorem Die.updJob_free (j : Nat) (f : Job → Job) : (d.updJob j f).free = d.free := rfl

@[simp] theorem Die.updBar_regs (j b : Nat) (f : Barrier → Barrier) : (d.updBar j b f).regs = d.regs := rfl
@[simp] theorem Die.updBar_shad (j b : Nat) (f : Barrier → Barrier) : (d.updBar j b f).shad = d.shad := rfl
@[simp] theorem Die.updBar_ctr (j b : Nat) (f : Barrier → Barrier) : (d.updBar j b f).ctr = d.ctr := rfl
@[simp] theorem Die.updBar_hdr (j b : Nat) (f : Barrier → Barrier) : (d.updBar j b f).hdr = d.hdr := rfl
@[simp] theorem Die.updBar_mem (j b : Nat) (f : Barrier → Barrier) : (d.updBar j b f).mem = d.mem := rfl
@[simp] theorem Die.updBar_side (j b : Nat) (f : Barrier → Barrier) : (d.updBar j b f).side = d.side := rfl
@[simp] theorem Die.updBar_cores (j b : Nat) (f : Barrier → Barrier) : (d.updBar j b f).cores = d.cores := rfl
@[simp] theorem Die.updBar_queues (j b : Nat) (f : Barrier → Barrier) : (d.updBar j b f).queues = d.queues := rfl
@[simp] theorem Die.updBar_islSt (j b : Nat) (f : Barrier → Barrier) : (d.updBar j b f).islSt = d.islSt := rfl
@[simp] theorem Die.updBar_dk (j b : Nat) (f : Barrier → Barrier) : (d.updBar j b f).dk = d.dk := rfl
@[simp] theorem Die.updBar_jobs (j b : Nat) (f : Barrier → Barrier) : (d.updBar j b f).jobs = d.jobs := rfl
@[simp] theorem Die.updBar_objs (j b : Nat) (f : Barrier → Barrier) : (d.updBar j b f).objs = d.objs := rfl
@[simp] theorem Die.updBar_stk (j b : Nat) (f : Barrier → Barrier) : (d.updBar j b f).stk = d.stk := rfl
@[simp] theorem Die.updBar_ports (j b : Nat) (f : Barrier → Barrier) : (d.updBar j b f).ports = d.ports := rfl
@[simp] theorem Die.updBar_fab (j b : Nat) (f : Barrier → Barrier) : (d.updBar j b f).fab = d.fab := rfl
@[simp] theorem Die.updBar_sg (j b : Nat) (f : Barrier → Barrier) : (d.updBar j b f).sg = d.sg := rfl
@[simp] theorem Die.updBar_flash (j b : Nat) (f : Barrier → Barrier) : (d.updBar j b f).flash = d.flash := rfl
@[simp] theorem Die.updBar_pw (j b : Nat) (f : Barrier → Barrier) : (d.updBar j b f).pw = d.pw := rfl
@[simp] theorem Die.updBar_part (j b : Nat) (f : Barrier → Barrier) : (d.updBar j b f).part = d.part := rfl
@[simp] theorem Die.updBar_intc (j b : Nat) (f : Barrier → Barrier) : (d.updBar j b f).intc = d.intc := rfl
@[simp] theorem Die.updBar_mgmt (j b : Nat) (f : Barrier → Barrier) : (d.updBar j b f).mgmt = d.mgmt := rfl
@[simp] theorem Die.updBar_resp (j b : Nat) (f : Barrier → Barrier) : (d.updBar j b f).resp = d.resp := rfl
@[simp] theorem Die.updBar_free (j b : Nat) (f : Barrier → Barrier) : (d.updBar j b f).free = d.free := rfl

@[simp] theorem Die.setPage_regs (j v : Nat) (x : Option Page) : (d.setPage j v x).regs = d.regs := rfl
@[simp] theorem Die.setPage_shad (j v : Nat) (x : Option Page) : (d.setPage j v x).shad = d.shad := rfl
@[simp] theorem Die.setPage_ctr (j v : Nat) (x : Option Page) : (d.setPage j v x).ctr = d.ctr := rfl
@[simp] theorem Die.setPage_hdr (j v : Nat) (x : Option Page) : (d.setPage j v x).hdr = d.hdr := rfl
@[simp] theorem Die.setPage_mem (j v : Nat) (x : Option Page) : (d.setPage j v x).mem = d.mem := rfl
@[simp] theorem Die.setPage_side (j v : Nat) (x : Option Page) : (d.setPage j v x).side = d.side := rfl
@[simp] theorem Die.setPage_cores (j v : Nat) (x : Option Page) : (d.setPage j v x).cores = d.cores := rfl
@[simp] theorem Die.setPage_queues (j v : Nat) (x : Option Page) : (d.setPage j v x).queues = d.queues := rfl
@[simp] theorem Die.setPage_islSt (j v : Nat) (x : Option Page) : (d.setPage j v x).islSt = d.islSt := rfl
@[simp] theorem Die.setPage_dk (j v : Nat) (x : Option Page) : (d.setPage j v x).dk = d.dk := rfl
@[simp] theorem Die.setPage_jobs (j v : Nat) (x : Option Page) : (d.setPage j v x).jobs = d.jobs := rfl
@[simp] theorem Die.setPage_objs (j v : Nat) (x : Option Page) : (d.setPage j v x).objs = d.objs := rfl
@[simp] theorem Die.setPage_stk (j v : Nat) (x : Option Page) : (d.setPage j v x).stk = d.stk := rfl
@[simp] theorem Die.setPage_ports (j v : Nat) (x : Option Page) : (d.setPage j v x).ports = d.ports := rfl
@[simp] theorem Die.setPage_fab (j v : Nat) (x : Option Page) : (d.setPage j v x).fab = d.fab := rfl
@[simp] theorem Die.setPage_sg (j v : Nat) (x : Option Page) : (d.setPage j v x).sg = d.sg := rfl
@[simp] theorem Die.setPage_flash (j v : Nat) (x : Option Page) : (d.setPage j v x).flash = d.flash := rfl
@[simp] theorem Die.setPage_pw (j v : Nat) (x : Option Page) : (d.setPage j v x).pw = d.pw := rfl
@[simp] theorem Die.setPage_part (j v : Nat) (x : Option Page) : (d.setPage j v x).part = d.part := rfl
@[simp] theorem Die.setPage_intc (j v : Nat) (x : Option Page) : (d.setPage j v x).intc = d.intc := rfl
@[simp] theorem Die.setPage_mgmt (j v : Nat) (x : Option Page) : (d.setPage j v x).mgmt = d.mgmt := rfl
@[simp] theorem Die.setPage_resp (j v : Nat) (x : Option Page) : (d.setPage j v x).resp = d.resp := rfl
@[simp] theorem Die.setPage_free (j v : Nat) (x : Option Page) : (d.setPage j v x).free = d.free := rfl

@[simp] theorem Die.setObj_regs (o : Nat) (x : Option PObj) : (d.setObj o x).regs = d.regs := rfl
@[simp] theorem Die.setObj_shad (o : Nat) (x : Option PObj) : (d.setObj o x).shad = d.shad := rfl
@[simp] theorem Die.setObj_ctr (o : Nat) (x : Option PObj) : (d.setObj o x).ctr = d.ctr := rfl
@[simp] theorem Die.setObj_hdr (o : Nat) (x : Option PObj) : (d.setObj o x).hdr = d.hdr := rfl
@[simp] theorem Die.setObj_mem (o : Nat) (x : Option PObj) : (d.setObj o x).mem = d.mem := rfl
@[simp] theorem Die.setObj_side (o : Nat) (x : Option PObj) : (d.setObj o x).side = d.side := rfl
@[simp] theorem Die.setObj_cores (o : Nat) (x : Option PObj) : (d.setObj o x).cores = d.cores := rfl
@[simp] theorem Die.setObj_queues (o : Nat) (x : Option PObj) : (d.setObj o x).queues = d.queues := rfl
@[simp] theorem Die.setObj_islSt (o : Nat) (x : Option PObj) : (d.setObj o x).islSt = d.islSt := rfl
@[simp] theorem Die.setObj_dk (o : Nat) (x : Option PObj) : (d.setObj o x).dk = d.dk := rfl
@[simp] theorem Die.setObj_jobs (o : Nat) (x : Option PObj) : (d.setObj o x).jobs = d.jobs := rfl
@[simp] theorem Die.setObj_stk (o : Nat) (x : Option PObj) : (d.setObj o x).stk = d.stk := rfl
@[simp] theorem Die.setObj_ports (o : Nat) (x : Option PObj) : (d.setObj o x).ports = d.ports := rfl
@[simp] theorem Die.setObj_fab (o : Nat) (x : Option PObj) : (d.setObj o x).fab = d.fab := rfl
@[simp] theorem Die.setObj_sg (o : Nat) (x : Option PObj) : (d.setObj o x).sg = d.sg := rfl
@[simp] theorem Die.setObj_flash (o : Nat) (x : Option PObj) : (d.setObj o x).flash = d.flash := rfl
@[simp] theorem Die.setObj_pw (o : Nat) (x : Option PObj) : (d.setObj o x).pw = d.pw := rfl
@[simp] theorem Die.setObj_part (o : Nat) (x : Option PObj) : (d.setObj o x).part = d.part := rfl
@[simp] theorem Die.setObj_intc (o : Nat) (x : Option PObj) : (d.setObj o x).intc = d.intc := rfl
@[simp] theorem Die.setObj_mgmt (o : Nat) (x : Option PObj) : (d.setObj o x).mgmt = d.mgmt := rfl
@[simp] theorem Die.setObj_resp (o : Nat) (x : Option PObj) : (d.setObj o x).resp = d.resp := rfl
@[simp] theorem Die.setObj_free (o : Nat) (x : Option PObj) : (d.setObj o x).free = d.free := rfl

@[simp] theorem Die.updStrm_regs (x : Nat) (f : Strm → Strm) : (d.updStrm x f).regs = d.regs := rfl
@[simp] theorem Die.updStrm_shad (x : Nat) (f : Strm → Strm) : (d.updStrm x f).shad = d.shad := rfl
@[simp] theorem Die.updStrm_ctr (x : Nat) (f : Strm → Strm) : (d.updStrm x f).ctr = d.ctr := rfl
@[simp] theorem Die.updStrm_hdr (x : Nat) (f : Strm → Strm) : (d.updStrm x f).hdr = d.hdr := rfl
@[simp] theorem Die.updStrm_mem (x : Nat) (f : Strm → Strm) : (d.updStrm x f).mem = d.mem := rfl
@[simp] theorem Die.updStrm_side (x : Nat) (f : Strm → Strm) : (d.updStrm x f).side = d.side := rfl
@[simp] theorem Die.updStrm_cores (x : Nat) (f : Strm → Strm) : (d.updStrm x f).cores = d.cores := rfl
@[simp] theorem Die.updStrm_queues (x : Nat) (f : Strm → Strm) : (d.updStrm x f).queues = d.queues := rfl
@[simp] theorem Die.updStrm_islSt (x : Nat) (f : Strm → Strm) : (d.updStrm x f).islSt = d.islSt := rfl
@[simp] theorem Die.updStrm_dk (x : Nat) (f : Strm → Strm) : (d.updStrm x f).dk = d.dk := rfl
@[simp] theorem Die.updStrm_jobs (x : Nat) (f : Strm → Strm) : (d.updStrm x f).jobs = d.jobs := rfl
@[simp] theorem Die.updStrm_objs (x : Nat) (f : Strm → Strm) : (d.updStrm x f).objs = d.objs := rfl
@[simp] theorem Die.updStrm_stk (x : Nat) (f : Strm → Strm) : (d.updStrm x f).stk = d.stk := rfl
@[simp] theorem Die.updStrm_ports (x : Nat) (f : Strm → Strm) : (d.updStrm x f).ports = d.ports := rfl
@[simp] theorem Die.updStrm_fab (x : Nat) (f : Strm → Strm) : (d.updStrm x f).fab = d.fab := rfl
@[simp] theorem Die.updStrm_sg (x : Nat) (f : Strm → Strm) : (d.updStrm x f).sg = d.sg := rfl
@[simp] theorem Die.updStrm_flash (x : Nat) (f : Strm → Strm) : (d.updStrm x f).flash = d.flash := rfl
@[simp] theorem Die.updStrm_pw (x : Nat) (f : Strm → Strm) : (d.updStrm x f).pw = d.pw := rfl
@[simp] theorem Die.updStrm_part (x : Nat) (f : Strm → Strm) : (d.updStrm x f).part = d.part := rfl
@[simp] theorem Die.updStrm_intc (x : Nat) (f : Strm → Strm) : (d.updStrm x f).intc = d.intc := rfl
@[simp] theorem Die.updStrm_mgmt (x : Nat) (f : Strm → Strm) : (d.updStrm x f).mgmt = d.mgmt := rfl
@[simp] theorem Die.updStrm_resp (x : Nat) (f : Strm → Strm) : (d.updStrm x f).resp = d.resp := rfl
@[simp] theorem Die.updStrm_free (x : Nat) (f : Strm → Strm) : (d.updStrm x f).free = d.free := rfl

@[simp] theorem Die.updDk_regs (f : Deckle → Deckle) : (d.updDk f).regs = d.regs := rfl
@[simp] theorem Die.updDk_shad (f : Deckle → Deckle) : (d.updDk f).shad = d.shad := rfl
@[simp] theorem Die.updDk_ctr (f : Deckle → Deckle) : (d.updDk f).ctr = d.ctr := rfl
@[simp] theorem Die.updDk_hdr (f : Deckle → Deckle) : (d.updDk f).hdr = d.hdr := rfl
@[simp] theorem Die.updDk_mem (f : Deckle → Deckle) : (d.updDk f).mem = d.mem := rfl
@[simp] theorem Die.updDk_side (f : Deckle → Deckle) : (d.updDk f).side = d.side := rfl
@[simp] theorem Die.updDk_cores (f : Deckle → Deckle) : (d.updDk f).cores = d.cores := rfl
@[simp] theorem Die.updDk_queues (f : Deckle → Deckle) : (d.updDk f).queues = d.queues := rfl
@[simp] theorem Die.updDk_islSt (f : Deckle → Deckle) : (d.updDk f).islSt = d.islSt := rfl
@[simp] theorem Die.updDk_jobs (f : Deckle → Deckle) : (d.updDk f).jobs = d.jobs := rfl
@[simp] theorem Die.updDk_objs (f : Deckle → Deckle) : (d.updDk f).objs = d.objs := rfl
@[simp] theorem Die.updDk_stk (f : Deckle → Deckle) : (d.updDk f).stk = d.stk := rfl
@[simp] theorem Die.updDk_ports (f : Deckle → Deckle) : (d.updDk f).ports = d.ports := rfl
@[simp] theorem Die.updDk_fab (f : Deckle → Deckle) : (d.updDk f).fab = d.fab := rfl
@[simp] theorem Die.updDk_sg (f : Deckle → Deckle) : (d.updDk f).sg = d.sg := rfl
@[simp] theorem Die.updDk_flash (f : Deckle → Deckle) : (d.updDk f).flash = d.flash := rfl
@[simp] theorem Die.updDk_pw (f : Deckle → Deckle) : (d.updDk f).pw = d.pw := rfl
@[simp] theorem Die.updDk_part (f : Deckle → Deckle) : (d.updDk f).part = d.part := rfl
@[simp] theorem Die.updDk_intc (f : Deckle → Deckle) : (d.updDk f).intc = d.intc := rfl
@[simp] theorem Die.updDk_mgmt (f : Deckle → Deckle) : (d.updDk f).mgmt = d.mgmt := rfl
@[simp] theorem Die.updDk_resp (f : Deckle → Deckle) : (d.updDk f).resp = d.resp := rfl
@[simp] theorem Die.updDk_free (f : Deckle → Deckle) : (d.updDk f).free = d.free := rfl

@[simp] theorem Die.updHdr_regs (p : Nat) (f : Hdr → Hdr) : (d.updHdr p f).regs = d.regs := rfl
@[simp] theorem Die.updHdr_shad (p : Nat) (f : Hdr → Hdr) : (d.updHdr p f).shad = d.shad := rfl
@[simp] theorem Die.updHdr_ctr (p : Nat) (f : Hdr → Hdr) : (d.updHdr p f).ctr = d.ctr := rfl
@[simp] theorem Die.updHdr_mem (p : Nat) (f : Hdr → Hdr) : (d.updHdr p f).mem = d.mem := rfl
@[simp] theorem Die.updHdr_side (p : Nat) (f : Hdr → Hdr) : (d.updHdr p f).side = d.side := rfl
@[simp] theorem Die.updHdr_cores (p : Nat) (f : Hdr → Hdr) : (d.updHdr p f).cores = d.cores := rfl
@[simp] theorem Die.updHdr_queues (p : Nat) (f : Hdr → Hdr) : (d.updHdr p f).queues = d.queues := rfl
@[simp] theorem Die.updHdr_islSt (p : Nat) (f : Hdr → Hdr) : (d.updHdr p f).islSt = d.islSt := rfl
@[simp] theorem Die.updHdr_dk (p : Nat) (f : Hdr → Hdr) : (d.updHdr p f).dk = d.dk := rfl
@[simp] theorem Die.updHdr_jobs (p : Nat) (f : Hdr → Hdr) : (d.updHdr p f).jobs = d.jobs := rfl
@[simp] theorem Die.updHdr_objs (p : Nat) (f : Hdr → Hdr) : (d.updHdr p f).objs = d.objs := rfl
@[simp] theorem Die.updHdr_stk (p : Nat) (f : Hdr → Hdr) : (d.updHdr p f).stk = d.stk := rfl
@[simp] theorem Die.updHdr_ports (p : Nat) (f : Hdr → Hdr) : (d.updHdr p f).ports = d.ports := rfl
@[simp] theorem Die.updHdr_fab (p : Nat) (f : Hdr → Hdr) : (d.updHdr p f).fab = d.fab := rfl
@[simp] theorem Die.updHdr_sg (p : Nat) (f : Hdr → Hdr) : (d.updHdr p f).sg = d.sg := rfl
@[simp] theorem Die.updHdr_flash (p : Nat) (f : Hdr → Hdr) : (d.updHdr p f).flash = d.flash := rfl
@[simp] theorem Die.updHdr_pw (p : Nat) (f : Hdr → Hdr) : (d.updHdr p f).pw = d.pw := rfl
@[simp] theorem Die.updHdr_part (p : Nat) (f : Hdr → Hdr) : (d.updHdr p f).part = d.part := rfl
@[simp] theorem Die.updHdr_intc (p : Nat) (f : Hdr → Hdr) : (d.updHdr p f).intc = d.intc := rfl
@[simp] theorem Die.updHdr_mgmt (p : Nat) (f : Hdr → Hdr) : (d.updHdr p f).mgmt = d.mgmt := rfl
@[simp] theorem Die.updHdr_resp (p : Nat) (f : Hdr → Hdr) : (d.updHdr p f).resp = d.resp := rfl
@[simp] theorem Die.updHdr_free (p : Nat) (f : Hdr → Hdr) : (d.updHdr p f).free = d.free := rfl

@[simp] theorem Die.setReg_shad (page off : Nat) (v : Word) : (d.setReg page off v).shad = d.shad := rfl
@[simp] theorem Die.setReg_ctr (page off : Nat) (v : Word) : (d.setReg page off v).ctr = d.ctr := rfl
@[simp] theorem Die.setReg_hdr (page off : Nat) (v : Word) : (d.setReg page off v).hdr = d.hdr := rfl
@[simp] theorem Die.setReg_mem (page off : Nat) (v : Word) : (d.setReg page off v).mem = d.mem := rfl
@[simp] theorem Die.setReg_side (page off : Nat) (v : Word) : (d.setReg page off v).side = d.side := rfl
@[simp] theorem Die.setReg_cores (page off : Nat) (v : Word) : (d.setReg page off v).cores = d.cores := rfl
@[simp] theorem Die.setReg_queues (page off : Nat) (v : Word) : (d.setReg page off v).queues = d.queues := rfl
@[simp] theorem Die.setReg_islSt (page off : Nat) (v : Word) : (d.setReg page off v).islSt = d.islSt := rfl
@[simp] theorem Die.setReg_dk (page off : Nat) (v : Word) : (d.setReg page off v).dk = d.dk := rfl
@[simp] theorem Die.setReg_jobs (page off : Nat) (v : Word) : (d.setReg page off v).jobs = d.jobs := rfl
@[simp] theorem Die.setReg_objs (page off : Nat) (v : Word) : (d.setReg page off v).objs = d.objs := rfl
@[simp] theorem Die.setReg_stk (page off : Nat) (v : Word) : (d.setReg page off v).stk = d.stk := rfl
@[simp] theorem Die.setReg_ports (page off : Nat) (v : Word) : (d.setReg page off v).ports = d.ports := rfl
@[simp] theorem Die.setReg_fab (page off : Nat) (v : Word) : (d.setReg page off v).fab = d.fab := rfl
@[simp] theorem Die.setReg_sg (page off : Nat) (v : Word) : (d.setReg page off v).sg = d.sg := rfl
@[simp] theorem Die.setReg_flash (page off : Nat) (v : Word) : (d.setReg page off v).flash = d.flash := rfl
@[simp] theorem Die.setReg_pw (page off : Nat) (v : Word) : (d.setReg page off v).pw = d.pw := rfl
@[simp] theorem Die.setReg_part (page off : Nat) (v : Word) : (d.setReg page off v).part = d.part := rfl
@[simp] theorem Die.setReg_intc (page off : Nat) (v : Word) : (d.setReg page off v).intc = d.intc := rfl
@[simp] theorem Die.setReg_mgmt (page off : Nat) (v : Word) : (d.setReg page off v).mgmt = d.mgmt := rfl
@[simp] theorem Die.setReg_resp (page off : Nat) (v : Word) : (d.setReg page off v).resp = d.resp := rfl
@[simp] theorem Die.setReg_free (page off : Nat) (v : Word) : (d.setReg page off v).free = d.free := rfl

@[simp] theorem Die.setShadow_regs (page off : Nat) (v : Word) : (d.setShadow page off v).regs = d.regs := rfl
@[simp] theorem Die.setShadow_ctr (page off : Nat) (v : Word) : (d.setShadow page off v).ctr = d.ctr := rfl
@[simp] theorem Die.setShadow_hdr (page off : Nat) (v : Word) : (d.setShadow page off v).hdr = d.hdr := rfl
@[simp] theorem Die.setShadow_mem (page off : Nat) (v : Word) : (d.setShadow page off v).mem = d.mem := rfl
@[simp] theorem Die.setShadow_side (page off : Nat) (v : Word) : (d.setShadow page off v).side = d.side := rfl
@[simp] theorem Die.setShadow_cores (page off : Nat) (v : Word) : (d.setShadow page off v).cores = d.cores := rfl
@[simp] theorem Die.setShadow_queues (page off : Nat) (v : Word) : (d.setShadow page off v).queues = d.queues := rfl
@[simp] theorem Die.setShadow_islSt (page off : Nat) (v : Word) : (d.setShadow page off v).islSt = d.islSt := rfl
@[simp] theorem Die.setShadow_dk (page off : Nat) (v : Word) : (d.setShadow page off v).dk = d.dk := rfl
@[simp] theorem Die.setShadow_jobs (page off : Nat) (v : Word) : (d.setShadow page off v).jobs = d.jobs := rfl
@[simp] theorem Die.setShadow_objs (page off : Nat) (v : Word) : (d.setShadow page off v).objs = d.objs := rfl
@[simp] theorem Die.setShadow_stk (page off : Nat) (v : Word) : (d.setShadow page off v).stk = d.stk := rfl
@[simp] theorem Die.setShadow_ports (page off : Nat) (v : Word) : (d.setShadow page off v).ports = d.ports := rfl
@[simp] theorem Die.setShadow_fab (page off : Nat) (v : Word) : (d.setShadow page off v).fab = d.fab := rfl
@[simp] theorem Die.setShadow_sg (page off : Nat) (v : Word) : (d.setShadow page off v).sg = d.sg := rfl
@[simp] theorem Die.setShadow_flash (page off : Nat) (v : Word) : (d.setShadow page off v).flash = d.flash := rfl
@[simp] theorem Die.setShadow_pw (page off : Nat) (v : Word) : (d.setShadow page off v).pw = d.pw := rfl
@[simp] theorem Die.setShadow_part (page off : Nat) (v : Word) : (d.setShadow page off v).part = d.part := rfl
@[simp] theorem Die.setShadow_intc (page off : Nat) (v : Word) : (d.setShadow page off v).intc = d.intc := rfl
@[simp] theorem Die.setShadow_mgmt (page off : Nat) (v : Word) : (d.setShadow page off v).mgmt = d.mgmt := rfl
@[simp] theorem Die.setShadow_resp (page off : Nat) (v : Word) : (d.setShadow page off v).resp = d.resp := rfl
@[simp] theorem Die.setShadow_free (page off : Nat) (v : Word) : (d.setShadow page off v).free = d.free := rfl

@[simp] theorem Die.count_regs (page sel k : Nat) : (d.count page sel k).regs = d.regs := rfl
@[simp] theorem Die.count_shad (page sel k : Nat) : (d.count page sel k).shad = d.shad := rfl
@[simp] theorem Die.count_hdr (page sel k : Nat) : (d.count page sel k).hdr = d.hdr := rfl
@[simp] theorem Die.count_mem (page sel k : Nat) : (d.count page sel k).mem = d.mem := rfl
@[simp] theorem Die.count_side (page sel k : Nat) : (d.count page sel k).side = d.side := rfl
@[simp] theorem Die.count_cores (page sel k : Nat) : (d.count page sel k).cores = d.cores := rfl
@[simp] theorem Die.count_queues (page sel k : Nat) : (d.count page sel k).queues = d.queues := rfl
@[simp] theorem Die.count_islSt (page sel k : Nat) : (d.count page sel k).islSt = d.islSt := rfl
@[simp] theorem Die.count_dk (page sel k : Nat) : (d.count page sel k).dk = d.dk := rfl
@[simp] theorem Die.count_jobs (page sel k : Nat) : (d.count page sel k).jobs = d.jobs := rfl
@[simp] theorem Die.count_objs (page sel k : Nat) : (d.count page sel k).objs = d.objs := rfl
@[simp] theorem Die.count_stk (page sel k : Nat) : (d.count page sel k).stk = d.stk := rfl
@[simp] theorem Die.count_ports (page sel k : Nat) : (d.count page sel k).ports = d.ports := rfl
@[simp] theorem Die.count_fab (page sel k : Nat) : (d.count page sel k).fab = d.fab := rfl
@[simp] theorem Die.count_sg (page sel k : Nat) : (d.count page sel k).sg = d.sg := rfl
@[simp] theorem Die.count_flash (page sel k : Nat) : (d.count page sel k).flash = d.flash := rfl
@[simp] theorem Die.count_pw (page sel k : Nat) : (d.count page sel k).pw = d.pw := rfl
@[simp] theorem Die.count_part (page sel k : Nat) : (d.count page sel k).part = d.part := rfl
@[simp] theorem Die.count_intc (page sel k : Nat) : (d.count page sel k).intc = d.intc := rfl
@[simp] theorem Die.count_mgmt (page sel k : Nat) : (d.count page sel k).mgmt = d.mgmt := rfl
@[simp] theorem Die.count_resp (page sel k : Nat) : (d.count page sel k).resp = d.resp := rfl
@[simp] theorem Die.count_free (page sel k : Nat) : (d.count page sel k).free = d.free := rfl

@[simp] theorem Die.setBytes_regs (a : Nat) (bs : List Byte) : (d.setBytes a bs).regs = d.regs := rfl
@[simp] theorem Die.setBytes_shad (a : Nat) (bs : List Byte) : (d.setBytes a bs).shad = d.shad := rfl
@[simp] theorem Die.setBytes_ctr (a : Nat) (bs : List Byte) : (d.setBytes a bs).ctr = d.ctr := rfl
@[simp] theorem Die.setBytes_hdr (a : Nat) (bs : List Byte) : (d.setBytes a bs).hdr = d.hdr := rfl
@[simp] theorem Die.setBytes_side (a : Nat) (bs : List Byte) : (d.setBytes a bs).side = d.side := rfl
@[simp] theorem Die.setBytes_cores (a : Nat) (bs : List Byte) : (d.setBytes a bs).cores = d.cores := rfl
@[simp] theorem Die.setBytes_queues (a : Nat) (bs : List Byte) : (d.setBytes a bs).queues = d.queues := rfl
@[simp] theorem Die.setBytes_islSt (a : Nat) (bs : List Byte) : (d.setBytes a bs).islSt = d.islSt := rfl
@[simp] theorem Die.setBytes_dk (a : Nat) (bs : List Byte) : (d.setBytes a bs).dk = d.dk := rfl
@[simp] theorem Die.setBytes_jobs (a : Nat) (bs : List Byte) : (d.setBytes a bs).jobs = d.jobs := rfl
@[simp] theorem Die.setBytes_objs (a : Nat) (bs : List Byte) : (d.setBytes a bs).objs = d.objs := rfl
@[simp] theorem Die.setBytes_stk (a : Nat) (bs : List Byte) : (d.setBytes a bs).stk = d.stk := rfl
@[simp] theorem Die.setBytes_ports (a : Nat) (bs : List Byte) : (d.setBytes a bs).ports = d.ports := rfl
@[simp] theorem Die.setBytes_fab (a : Nat) (bs : List Byte) : (d.setBytes a bs).fab = d.fab := rfl
@[simp] theorem Die.setBytes_sg (a : Nat) (bs : List Byte) : (d.setBytes a bs).sg = d.sg := rfl
@[simp] theorem Die.setBytes_flash (a : Nat) (bs : List Byte) : (d.setBytes a bs).flash = d.flash := rfl
@[simp] theorem Die.setBytes_pw (a : Nat) (bs : List Byte) : (d.setBytes a bs).pw = d.pw := rfl
@[simp] theorem Die.setBytes_part (a : Nat) (bs : List Byte) : (d.setBytes a bs).part = d.part := rfl
@[simp] theorem Die.setBytes_intc (a : Nat) (bs : List Byte) : (d.setBytes a bs).intc = d.intc := rfl
@[simp] theorem Die.setBytes_mgmt (a : Nat) (bs : List Byte) : (d.setBytes a bs).mgmt = d.mgmt := rfl
@[simp] theorem Die.setBytes_resp (a : Nat) (bs : List Byte) : (d.setBytes a bs).resp = d.resp := rfl
@[simp] theorem Die.setBytes_free (a : Nat) (bs : List Byte) : (d.setBytes a bs).free = d.free := rfl

@[simp] theorem Die.zeroBytes_regs (a k : Nat) : (d.zeroBytes a k).regs = d.regs := rfl
@[simp] theorem Die.zeroBytes_shad (a k : Nat) : (d.zeroBytes a k).shad = d.shad := rfl
@[simp] theorem Die.zeroBytes_ctr (a k : Nat) : (d.zeroBytes a k).ctr = d.ctr := rfl
@[simp] theorem Die.zeroBytes_hdr (a k : Nat) : (d.zeroBytes a k).hdr = d.hdr := rfl
@[simp] theorem Die.zeroBytes_side (a k : Nat) : (d.zeroBytes a k).side = d.side := rfl
@[simp] theorem Die.zeroBytes_cores (a k : Nat) : (d.zeroBytes a k).cores = d.cores := rfl
@[simp] theorem Die.zeroBytes_queues (a k : Nat) : (d.zeroBytes a k).queues = d.queues := rfl
@[simp] theorem Die.zeroBytes_islSt (a k : Nat) : (d.zeroBytes a k).islSt = d.islSt := rfl
@[simp] theorem Die.zeroBytes_dk (a k : Nat) : (d.zeroBytes a k).dk = d.dk := rfl
@[simp] theorem Die.zeroBytes_jobs (a k : Nat) : (d.zeroBytes a k).jobs = d.jobs := rfl
@[simp] theorem Die.zeroBytes_objs (a k : Nat) : (d.zeroBytes a k).objs = d.objs := rfl
@[simp] theorem Die.zeroBytes_stk (a k : Nat) : (d.zeroBytes a k).stk = d.stk := rfl
@[simp] theorem Die.zeroBytes_ports (a k : Nat) : (d.zeroBytes a k).ports = d.ports := rfl
@[simp] theorem Die.zeroBytes_fab (a k : Nat) : (d.zeroBytes a k).fab = d.fab := rfl
@[simp] theorem Die.zeroBytes_sg (a k : Nat) : (d.zeroBytes a k).sg = d.sg := rfl
@[simp] theorem Die.zeroBytes_flash (a k : Nat) : (d.zeroBytes a k).flash = d.flash := rfl
@[simp] theorem Die.zeroBytes_pw (a k : Nat) : (d.zeroBytes a k).pw = d.pw := rfl
@[simp] theorem Die.zeroBytes_part (a k : Nat) : (d.zeroBytes a k).part = d.part := rfl
@[simp] theorem Die.zeroBytes_intc (a k : Nat) : (d.zeroBytes a k).intc = d.intc := rfl
@[simp] theorem Die.zeroBytes_mgmt (a k : Nat) : (d.zeroBytes a k).mgmt = d.mgmt := rfl
@[simp] theorem Die.zeroBytes_resp (a k : Nat) : (d.zeroBytes a k).resp = d.resp := rfl
@[simp] theorem Die.zeroBytes_free (a k : Nat) : (d.zeroBytes a k).free = d.free := rfl

@[simp] theorem Die.updStk_regs (s : Nat) (f : Stk → Stk) : (d.updStk s f).regs = d.regs := rfl
@[simp] theorem Die.updStk_shad (s : Nat) (f : Stk → Stk) : (d.updStk s f).shad = d.shad := rfl
@[simp] theorem Die.updStk_ctr (s : Nat) (f : Stk → Stk) : (d.updStk s f).ctr = d.ctr := rfl
@[simp] theorem Die.updStk_hdr (s : Nat) (f : Stk → Stk) : (d.updStk s f).hdr = d.hdr := rfl
@[simp] theorem Die.updStk_mem (s : Nat) (f : Stk → Stk) : (d.updStk s f).mem = d.mem := rfl
@[simp] theorem Die.updStk_side (s : Nat) (f : Stk → Stk) : (d.updStk s f).side = d.side := rfl
@[simp] theorem Die.updStk_cores (s : Nat) (f : Stk → Stk) : (d.updStk s f).cores = d.cores := rfl
@[simp] theorem Die.updStk_queues (s : Nat) (f : Stk → Stk) : (d.updStk s f).queues = d.queues := rfl
@[simp] theorem Die.updStk_islSt (s : Nat) (f : Stk → Stk) : (d.updStk s f).islSt = d.islSt := rfl
@[simp] theorem Die.updStk_dk (s : Nat) (f : Stk → Stk) : (d.updStk s f).dk = d.dk := rfl
@[simp] theorem Die.updStk_jobs (s : Nat) (f : Stk → Stk) : (d.updStk s f).jobs = d.jobs := rfl
@[simp] theorem Die.updStk_objs (s : Nat) (f : Stk → Stk) : (d.updStk s f).objs = d.objs := rfl
@[simp] theorem Die.updStk_ports (s : Nat) (f : Stk → Stk) : (d.updStk s f).ports = d.ports := rfl
@[simp] theorem Die.updStk_fab (s : Nat) (f : Stk → Stk) : (d.updStk s f).fab = d.fab := rfl
@[simp] theorem Die.updStk_sg (s : Nat) (f : Stk → Stk) : (d.updStk s f).sg = d.sg := rfl
@[simp] theorem Die.updStk_flash (s : Nat) (f : Stk → Stk) : (d.updStk s f).flash = d.flash := rfl
@[simp] theorem Die.updStk_pw (s : Nat) (f : Stk → Stk) : (d.updStk s f).pw = d.pw := rfl
@[simp] theorem Die.updStk_part (s : Nat) (f : Stk → Stk) : (d.updStk s f).part = d.part := rfl
@[simp] theorem Die.updStk_intc (s : Nat) (f : Stk → Stk) : (d.updStk s f).intc = d.intc := rfl
@[simp] theorem Die.updStk_mgmt (s : Nat) (f : Stk → Stk) : (d.updStk s f).mgmt = d.mgmt := rfl
@[simp] theorem Die.updStk_resp (s : Nat) (f : Stk → Stk) : (d.updStk s f).resp = d.resp := rfl
@[simp] theorem Die.updStk_free (s : Nat) (f : Stk → Stk) : (d.updStk s f).free = d.free := rfl

@[simp] theorem Die.updPort_regs (p : Nat) (f : Port → Port) : (d.updPort p f).regs = d.regs := rfl
@[simp] theorem Die.updPort_shad (p : Nat) (f : Port → Port) : (d.updPort p f).shad = d.shad := rfl
@[simp] theorem Die.updPort_ctr (p : Nat) (f : Port → Port) : (d.updPort p f).ctr = d.ctr := rfl
@[simp] theorem Die.updPort_hdr (p : Nat) (f : Port → Port) : (d.updPort p f).hdr = d.hdr := rfl
@[simp] theorem Die.updPort_mem (p : Nat) (f : Port → Port) : (d.updPort p f).mem = d.mem := rfl
@[simp] theorem Die.updPort_side (p : Nat) (f : Port → Port) : (d.updPort p f).side = d.side := rfl
@[simp] theorem Die.updPort_cores (p : Nat) (f : Port → Port) : (d.updPort p f).cores = d.cores := rfl
@[simp] theorem Die.updPort_queues (p : Nat) (f : Port → Port) : (d.updPort p f).queues = d.queues := rfl
@[simp] theorem Die.updPort_islSt (p : Nat) (f : Port → Port) : (d.updPort p f).islSt = d.islSt := rfl
@[simp] theorem Die.updPort_dk (p : Nat) (f : Port → Port) : (d.updPort p f).dk = d.dk := rfl
@[simp] theorem Die.updPort_jobs (p : Nat) (f : Port → Port) : (d.updPort p f).jobs = d.jobs := rfl
@[simp] theorem Die.updPort_objs (p : Nat) (f : Port → Port) : (d.updPort p f).objs = d.objs := rfl
@[simp] theorem Die.updPort_stk (p : Nat) (f : Port → Port) : (d.updPort p f).stk = d.stk := rfl
@[simp] theorem Die.updPort_fab (p : Nat) (f : Port → Port) : (d.updPort p f).fab = d.fab := rfl
@[simp] theorem Die.updPort_sg (p : Nat) (f : Port → Port) : (d.updPort p f).sg = d.sg := rfl
@[simp] theorem Die.updPort_flash (p : Nat) (f : Port → Port) : (d.updPort p f).flash = d.flash := rfl
@[simp] theorem Die.updPort_pw (p : Nat) (f : Port → Port) : (d.updPort p f).pw = d.pw := rfl
@[simp] theorem Die.updPort_part (p : Nat) (f : Port → Port) : (d.updPort p f).part = d.part := rfl
@[simp] theorem Die.updPort_intc (p : Nat) (f : Port → Port) : (d.updPort p f).intc = d.intc := rfl
@[simp] theorem Die.updPort_mgmt (p : Nat) (f : Port → Port) : (d.updPort p f).mgmt = d.mgmt := rfl
@[simp] theorem Die.updPort_resp (p : Nat) (f : Port → Port) : (d.updPort p f).resp = d.resp := rfl
@[simp] theorem Die.updPort_free (p : Nat) (f : Port → Port) : (d.updPort p f).free = d.free := rfl

@[simp] theorem Die.updFab_regs (f : Fab → Fab) : (d.updFab f).regs = d.regs := rfl
@[simp] theorem Die.updFab_shad (f : Fab → Fab) : (d.updFab f).shad = d.shad := rfl
@[simp] theorem Die.updFab_ctr (f : Fab → Fab) : (d.updFab f).ctr = d.ctr := rfl
@[simp] theorem Die.updFab_hdr (f : Fab → Fab) : (d.updFab f).hdr = d.hdr := rfl
@[simp] theorem Die.updFab_mem (f : Fab → Fab) : (d.updFab f).mem = d.mem := rfl
@[simp] theorem Die.updFab_side (f : Fab → Fab) : (d.updFab f).side = d.side := rfl
@[simp] theorem Die.updFab_cores (f : Fab → Fab) : (d.updFab f).cores = d.cores := rfl
@[simp] theorem Die.updFab_queues (f : Fab → Fab) : (d.updFab f).queues = d.queues := rfl
@[simp] theorem Die.updFab_islSt (f : Fab → Fab) : (d.updFab f).islSt = d.islSt := rfl
@[simp] theorem Die.updFab_dk (f : Fab → Fab) : (d.updFab f).dk = d.dk := rfl
@[simp] theorem Die.updFab_jobs (f : Fab → Fab) : (d.updFab f).jobs = d.jobs := rfl
@[simp] theorem Die.updFab_objs (f : Fab → Fab) : (d.updFab f).objs = d.objs := rfl
@[simp] theorem Die.updFab_stk (f : Fab → Fab) : (d.updFab f).stk = d.stk := rfl
@[simp] theorem Die.updFab_ports (f : Fab → Fab) : (d.updFab f).ports = d.ports := rfl
@[simp] theorem Die.updFab_sg (f : Fab → Fab) : (d.updFab f).sg = d.sg := rfl
@[simp] theorem Die.updFab_flash (f : Fab → Fab) : (d.updFab f).flash = d.flash := rfl
@[simp] theorem Die.updFab_pw (f : Fab → Fab) : (d.updFab f).pw = d.pw := rfl
@[simp] theorem Die.updFab_part (f : Fab → Fab) : (d.updFab f).part = d.part := rfl
@[simp] theorem Die.updFab_intc (f : Fab → Fab) : (d.updFab f).intc = d.intc := rfl
@[simp] theorem Die.updFab_mgmt (f : Fab → Fab) : (d.updFab f).mgmt = d.mgmt := rfl
@[simp] theorem Die.updFab_resp (f : Fab → Fab) : (d.updFab f).resp = d.resp := rfl
@[simp] theorem Die.updFab_free (f : Fab → Fab) : (d.updFab f).free = d.free := rfl

@[simp] theorem Die.updSg_regs (f : Sg → Sg) : (d.updSg f).regs = d.regs := rfl
@[simp] theorem Die.updSg_shad (f : Sg → Sg) : (d.updSg f).shad = d.shad := rfl
@[simp] theorem Die.updSg_ctr (f : Sg → Sg) : (d.updSg f).ctr = d.ctr := rfl
@[simp] theorem Die.updSg_hdr (f : Sg → Sg) : (d.updSg f).hdr = d.hdr := rfl
@[simp] theorem Die.updSg_mem (f : Sg → Sg) : (d.updSg f).mem = d.mem := rfl
@[simp] theorem Die.updSg_side (f : Sg → Sg) : (d.updSg f).side = d.side := rfl
@[simp] theorem Die.updSg_cores (f : Sg → Sg) : (d.updSg f).cores = d.cores := rfl
@[simp] theorem Die.updSg_queues (f : Sg → Sg) : (d.updSg f).queues = d.queues := rfl
@[simp] theorem Die.updSg_islSt (f : Sg → Sg) : (d.updSg f).islSt = d.islSt := rfl
@[simp] theorem Die.updSg_dk (f : Sg → Sg) : (d.updSg f).dk = d.dk := rfl
@[simp] theorem Die.updSg_jobs (f : Sg → Sg) : (d.updSg f).jobs = d.jobs := rfl
@[simp] theorem Die.updSg_objs (f : Sg → Sg) : (d.updSg f).objs = d.objs := rfl
@[simp] theorem Die.updSg_stk (f : Sg → Sg) : (d.updSg f).stk = d.stk := rfl
@[simp] theorem Die.updSg_ports (f : Sg → Sg) : (d.updSg f).ports = d.ports := rfl
@[simp] theorem Die.updSg_fab (f : Sg → Sg) : (d.updSg f).fab = d.fab := rfl
@[simp] theorem Die.updSg_flash (f : Sg → Sg) : (d.updSg f).flash = d.flash := rfl
@[simp] theorem Die.updSg_pw (f : Sg → Sg) : (d.updSg f).pw = d.pw := rfl
@[simp] theorem Die.updSg_part (f : Sg → Sg) : (d.updSg f).part = d.part := rfl
@[simp] theorem Die.updSg_intc (f : Sg → Sg) : (d.updSg f).intc = d.intc := rfl
@[simp] theorem Die.updSg_mgmt (f : Sg → Sg) : (d.updSg f).mgmt = d.mgmt := rfl
@[simp] theorem Die.updSg_resp (f : Sg → Sg) : (d.updSg f).resp = d.resp := rfl
@[simp] theorem Die.updSg_free (f : Sg → Sg) : (d.updSg f).free = d.free := rfl

@[simp] theorem Die.updPw_regs (f : Pwr → Pwr) : (d.updPw f).regs = d.regs := rfl
@[simp] theorem Die.updPw_shad (f : Pwr → Pwr) : (d.updPw f).shad = d.shad := rfl
@[simp] theorem Die.updPw_ctr (f : Pwr → Pwr) : (d.updPw f).ctr = d.ctr := rfl
@[simp] theorem Die.updPw_hdr (f : Pwr → Pwr) : (d.updPw f).hdr = d.hdr := rfl
@[simp] theorem Die.updPw_mem (f : Pwr → Pwr) : (d.updPw f).mem = d.mem := rfl
@[simp] theorem Die.updPw_side (f : Pwr → Pwr) : (d.updPw f).side = d.side := rfl
@[simp] theorem Die.updPw_cores (f : Pwr → Pwr) : (d.updPw f).cores = d.cores := rfl
@[simp] theorem Die.updPw_queues (f : Pwr → Pwr) : (d.updPw f).queues = d.queues := rfl
@[simp] theorem Die.updPw_islSt (f : Pwr → Pwr) : (d.updPw f).islSt = d.islSt := rfl
@[simp] theorem Die.updPw_dk (f : Pwr → Pwr) : (d.updPw f).dk = d.dk := rfl
@[simp] theorem Die.updPw_jobs (f : Pwr → Pwr) : (d.updPw f).jobs = d.jobs := rfl
@[simp] theorem Die.updPw_objs (f : Pwr → Pwr) : (d.updPw f).objs = d.objs := rfl
@[simp] theorem Die.updPw_stk (f : Pwr → Pwr) : (d.updPw f).stk = d.stk := rfl
@[simp] theorem Die.updPw_ports (f : Pwr → Pwr) : (d.updPw f).ports = d.ports := rfl
@[simp] theorem Die.updPw_fab (f : Pwr → Pwr) : (d.updPw f).fab = d.fab := rfl
@[simp] theorem Die.updPw_sg (f : Pwr → Pwr) : (d.updPw f).sg = d.sg := rfl
@[simp] theorem Die.updPw_flash (f : Pwr → Pwr) : (d.updPw f).flash = d.flash := rfl
@[simp] theorem Die.updPw_part (f : Pwr → Pwr) : (d.updPw f).part = d.part := rfl
@[simp] theorem Die.updPw_intc (f : Pwr → Pwr) : (d.updPw f).intc = d.intc := rfl
@[simp] theorem Die.updPw_mgmt (f : Pwr → Pwr) : (d.updPw f).mgmt = d.mgmt := rfl
@[simp] theorem Die.updPw_resp (f : Pwr → Pwr) : (d.updPw f).resp = d.resp := rfl
@[simp] theorem Die.updPw_free (f : Pwr → Pwr) : (d.updPw f).free = d.free := rfl

@[simp] theorem Die.updIntc_regs (f : Intc → Intc) : (d.updIntc f).regs = d.regs := rfl
@[simp] theorem Die.updIntc_shad (f : Intc → Intc) : (d.updIntc f).shad = d.shad := rfl
@[simp] theorem Die.updIntc_ctr (f : Intc → Intc) : (d.updIntc f).ctr = d.ctr := rfl
@[simp] theorem Die.updIntc_hdr (f : Intc → Intc) : (d.updIntc f).hdr = d.hdr := rfl
@[simp] theorem Die.updIntc_mem (f : Intc → Intc) : (d.updIntc f).mem = d.mem := rfl
@[simp] theorem Die.updIntc_side (f : Intc → Intc) : (d.updIntc f).side = d.side := rfl
@[simp] theorem Die.updIntc_cores (f : Intc → Intc) : (d.updIntc f).cores = d.cores := rfl
@[simp] theorem Die.updIntc_queues (f : Intc → Intc) : (d.updIntc f).queues = d.queues := rfl
@[simp] theorem Die.updIntc_islSt (f : Intc → Intc) : (d.updIntc f).islSt = d.islSt := rfl
@[simp] theorem Die.updIntc_dk (f : Intc → Intc) : (d.updIntc f).dk = d.dk := rfl
@[simp] theorem Die.updIntc_jobs (f : Intc → Intc) : (d.updIntc f).jobs = d.jobs := rfl
@[simp] theorem Die.updIntc_objs (f : Intc → Intc) : (d.updIntc f).objs = d.objs := rfl
@[simp] theorem Die.updIntc_stk (f : Intc → Intc) : (d.updIntc f).stk = d.stk := rfl
@[simp] theorem Die.updIntc_ports (f : Intc → Intc) : (d.updIntc f).ports = d.ports := rfl
@[simp] theorem Die.updIntc_fab (f : Intc → Intc) : (d.updIntc f).fab = d.fab := rfl
@[simp] theorem Die.updIntc_sg (f : Intc → Intc) : (d.updIntc f).sg = d.sg := rfl
@[simp] theorem Die.updIntc_flash (f : Intc → Intc) : (d.updIntc f).flash = d.flash := rfl
@[simp] theorem Die.updIntc_pw (f : Intc → Intc) : (d.updIntc f).pw = d.pw := rfl
@[simp] theorem Die.updIntc_part (f : Intc → Intc) : (d.updIntc f).part = d.part := rfl
@[simp] theorem Die.updIntc_mgmt (f : Intc → Intc) : (d.updIntc f).mgmt = d.mgmt := rfl
@[simp] theorem Die.updIntc_resp (f : Intc → Intc) : (d.updIntc f).resp = d.resp := rfl
@[simp] theorem Die.updIntc_free (f : Intc → Intc) : (d.updIntc f).free = d.free := rfl

@[simp] theorem Die.updMg_regs (f : Mgmt → Mgmt) : (d.updMg f).regs = d.regs := rfl
@[simp] theorem Die.updMg_shad (f : Mgmt → Mgmt) : (d.updMg f).shad = d.shad := rfl
@[simp] theorem Die.updMg_ctr (f : Mgmt → Mgmt) : (d.updMg f).ctr = d.ctr := rfl
@[simp] theorem Die.updMg_hdr (f : Mgmt → Mgmt) : (d.updMg f).hdr = d.hdr := rfl
@[simp] theorem Die.updMg_mem (f : Mgmt → Mgmt) : (d.updMg f).mem = d.mem := rfl
@[simp] theorem Die.updMg_side (f : Mgmt → Mgmt) : (d.updMg f).side = d.side := rfl
@[simp] theorem Die.updMg_cores (f : Mgmt → Mgmt) : (d.updMg f).cores = d.cores := rfl
@[simp] theorem Die.updMg_queues (f : Mgmt → Mgmt) : (d.updMg f).queues = d.queues := rfl
@[simp] theorem Die.updMg_islSt (f : Mgmt → Mgmt) : (d.updMg f).islSt = d.islSt := rfl
@[simp] theorem Die.updMg_dk (f : Mgmt → Mgmt) : (d.updMg f).dk = d.dk := rfl
@[simp] theorem Die.updMg_jobs (f : Mgmt → Mgmt) : (d.updMg f).jobs = d.jobs := rfl
@[simp] theorem Die.updMg_objs (f : Mgmt → Mgmt) : (d.updMg f).objs = d.objs := rfl
@[simp] theorem Die.updMg_stk (f : Mgmt → Mgmt) : (d.updMg f).stk = d.stk := rfl
@[simp] theorem Die.updMg_ports (f : Mgmt → Mgmt) : (d.updMg f).ports = d.ports := rfl
@[simp] theorem Die.updMg_fab (f : Mgmt → Mgmt) : (d.updMg f).fab = d.fab := rfl
@[simp] theorem Die.updMg_sg (f : Mgmt → Mgmt) : (d.updMg f).sg = d.sg := rfl
@[simp] theorem Die.updMg_flash (f : Mgmt → Mgmt) : (d.updMg f).flash = d.flash := rfl
@[simp] theorem Die.updMg_pw (f : Mgmt → Mgmt) : (d.updMg f).pw = d.pw := rfl
@[simp] theorem Die.updMg_part (f : Mgmt → Mgmt) : (d.updMg f).part = d.part := rfl
@[simp] theorem Die.updMg_intc (f : Mgmt → Mgmt) : (d.updMg f).intc = d.intc := rfl
@[simp] theorem Die.updMg_resp (f : Mgmt → Mgmt) : (d.updMg f).resp = d.resp := rfl
@[simp] theorem Die.updMg_free (f : Mgmt → Mgmt) : (d.updMg f).free = d.free := rfl

@[simp] theorem Die.updSkim_regs (j : Nat) (f : SkimJob → SkimJob) : (d.updSkim j f).regs = d.regs := rfl
@[simp] theorem Die.updSkim_shad (j : Nat) (f : SkimJob → SkimJob) : (d.updSkim j f).shad = d.shad := rfl
@[simp] theorem Die.updSkim_ctr (j : Nat) (f : SkimJob → SkimJob) : (d.updSkim j f).ctr = d.ctr := rfl
@[simp] theorem Die.updSkim_hdr (j : Nat) (f : SkimJob → SkimJob) : (d.updSkim j f).hdr = d.hdr := rfl
@[simp] theorem Die.updSkim_mem (j : Nat) (f : SkimJob → SkimJob) : (d.updSkim j f).mem = d.mem := rfl
@[simp] theorem Die.updSkim_side (j : Nat) (f : SkimJob → SkimJob) : (d.updSkim j f).side = d.side := rfl
@[simp] theorem Die.updSkim_cores (j : Nat) (f : SkimJob → SkimJob) : (d.updSkim j f).cores = d.cores := rfl
@[simp] theorem Die.updSkim_queues (j : Nat) (f : SkimJob → SkimJob) : (d.updSkim j f).queues = d.queues := rfl
@[simp] theorem Die.updSkim_islSt (j : Nat) (f : SkimJob → SkimJob) : (d.updSkim j f).islSt = d.islSt := rfl
@[simp] theorem Die.updSkim_dk (j : Nat) (f : SkimJob → SkimJob) : (d.updSkim j f).dk = d.dk := rfl
@[simp] theorem Die.updSkim_jobs (j : Nat) (f : SkimJob → SkimJob) : (d.updSkim j f).jobs = d.jobs := rfl
@[simp] theorem Die.updSkim_objs (j : Nat) (f : SkimJob → SkimJob) : (d.updSkim j f).objs = d.objs := rfl
@[simp] theorem Die.updSkim_stk (j : Nat) (f : SkimJob → SkimJob) : (d.updSkim j f).stk = d.stk := rfl
@[simp] theorem Die.updSkim_ports (j : Nat) (f : SkimJob → SkimJob) : (d.updSkim j f).ports = d.ports := rfl
@[simp] theorem Die.updSkim_fab (j : Nat) (f : SkimJob → SkimJob) : (d.updSkim j f).fab = d.fab := rfl
@[simp] theorem Die.updSkim_sg (j : Nat) (f : SkimJob → SkimJob) : (d.updSkim j f).sg = d.sg := rfl
@[simp] theorem Die.updSkim_flash (j : Nat) (f : SkimJob → SkimJob) : (d.updSkim j f).flash = d.flash := rfl
@[simp] theorem Die.updSkim_pw (j : Nat) (f : SkimJob → SkimJob) : (d.updSkim j f).pw = d.pw := rfl
@[simp] theorem Die.updSkim_part (j : Nat) (f : SkimJob → SkimJob) : (d.updSkim j f).part = d.part := rfl
@[simp] theorem Die.updSkim_intc (j : Nat) (f : SkimJob → SkimJob) : (d.updSkim j f).intc = d.intc := rfl
@[simp] theorem Die.updSkim_mgmt (j : Nat) (f : SkimJob → SkimJob) : (d.updSkim j f).mgmt = d.mgmt := rfl
@[simp] theorem Die.updSkim_resp (j : Nat) (f : SkimJob → SkimJob) : (d.updSkim j f).resp = d.resp := rfl
@[simp] theorem Die.updSkim_free (j : Nat) (f : SkimJob → SkimJob) : (d.updSkim j f).free = d.free := rfl

@[simp] theorem Die.respond_regs (r : Resp) : (d.respond r).regs = d.regs := rfl
@[simp] theorem Die.respond_shad (r : Resp) : (d.respond r).shad = d.shad := rfl
@[simp] theorem Die.respond_ctr (r : Resp) : (d.respond r).ctr = d.ctr := rfl
@[simp] theorem Die.respond_hdr (r : Resp) : (d.respond r).hdr = d.hdr := rfl
@[simp] theorem Die.respond_mem (r : Resp) : (d.respond r).mem = d.mem := rfl
@[simp] theorem Die.respond_side (r : Resp) : (d.respond r).side = d.side := rfl
@[simp] theorem Die.respond_cores (r : Resp) : (d.respond r).cores = d.cores := rfl
@[simp] theorem Die.respond_queues (r : Resp) : (d.respond r).queues = d.queues := rfl
@[simp] theorem Die.respond_islSt (r : Resp) : (d.respond r).islSt = d.islSt := rfl
@[simp] theorem Die.respond_dk (r : Resp) : (d.respond r).dk = d.dk := rfl
@[simp] theorem Die.respond_jobs (r : Resp) : (d.respond r).jobs = d.jobs := rfl
@[simp] theorem Die.respond_objs (r : Resp) : (d.respond r).objs = d.objs := rfl
@[simp] theorem Die.respond_stk (r : Resp) : (d.respond r).stk = d.stk := rfl
@[simp] theorem Die.respond_ports (r : Resp) : (d.respond r).ports = d.ports := rfl
@[simp] theorem Die.respond_fab (r : Resp) : (d.respond r).fab = d.fab := rfl
@[simp] theorem Die.respond_sg (r : Resp) : (d.respond r).sg = d.sg := rfl
@[simp] theorem Die.respond_flash (r : Resp) : (d.respond r).flash = d.flash := rfl
@[simp] theorem Die.respond_pw (r : Resp) : (d.respond r).pw = d.pw := rfl
@[simp] theorem Die.respond_part (r : Resp) : (d.respond r).part = d.part := rfl
@[simp] theorem Die.respond_intc (r : Resp) : (d.respond r).intc = d.intc := rfl
@[simp] theorem Die.respond_mgmt (r : Resp) : (d.respond r).mgmt = d.mgmt := rfl
@[simp] theorem Die.respond_free (r : Resp) : (d.respond r).free = d.free := rfl

@[simp] theorem Die.hear_regs (i m : Nat) : (d.hear i m).regs = d.regs := rfl
@[simp] theorem Die.hear_shad (i m : Nat) : (d.hear i m).shad = d.shad := rfl
@[simp] theorem Die.hear_ctr (i m : Nat) : (d.hear i m).ctr = d.ctr := rfl
@[simp] theorem Die.hear_hdr (i m : Nat) : (d.hear i m).hdr = d.hdr := rfl
@[simp] theorem Die.hear_mem (i m : Nat) : (d.hear i m).mem = d.mem := rfl
@[simp] theorem Die.hear_side (i m : Nat) : (d.hear i m).side = d.side := rfl
@[simp] theorem Die.hear_cores (i m : Nat) : (d.hear i m).cores = d.cores := rfl
@[simp] theorem Die.hear_queues (i m : Nat) : (d.hear i m).queues = d.queues := rfl
@[simp] theorem Die.hear_islSt (i m : Nat) : (d.hear i m).islSt = d.islSt := rfl
@[simp] theorem Die.hear_dk (i m : Nat) : (d.hear i m).dk = d.dk := rfl
@[simp] theorem Die.hear_jobs (i m : Nat) : (d.hear i m).jobs = d.jobs := rfl
@[simp] theorem Die.hear_objs (i m : Nat) : (d.hear i m).objs = d.objs := rfl
@[simp] theorem Die.hear_stk (i m : Nat) : (d.hear i m).stk = d.stk := rfl
@[simp] theorem Die.hear_ports (i m : Nat) : (d.hear i m).ports = d.ports := rfl
@[simp] theorem Die.hear_fab (i m : Nat) : (d.hear i m).fab = d.fab := rfl
@[simp] theorem Die.hear_sg (i m : Nat) : (d.hear i m).sg = d.sg := rfl
@[simp] theorem Die.hear_flash (i m : Nat) : (d.hear i m).flash = d.flash := rfl
@[simp] theorem Die.hear_pw (i m : Nat) : (d.hear i m).pw = d.pw := rfl
@[simp] theorem Die.hear_part (i m : Nat) : (d.hear i m).part = d.part := rfl
@[simp] theorem Die.hear_intc (i m : Nat) : (d.hear i m).intc = d.intc := rfl
@[simp] theorem Die.hear_mgmt (i m : Nat) : (d.hear i m).mgmt = d.mgmt := rfl
@[simp] theorem Die.hear_resp (i m : Nat) : (d.hear i m).resp = d.resp := rfl
@[simp] theorem Die.hear_free (i m : Nat) : (d.hear i m).free = d.free := rfl

/-! ## Updates of the die: the field itself -/

@[simp] theorem Die.updDk_dk (f : Deckle → Deckle) : (d.updDk f).dk = f d.dk := rfl
@[simp] theorem Die.updFab_fab (f : Fab → Fab) : (d.updFab f).fab = f d.fab := rfl
@[simp] theorem Die.updSg_sg (f : Sg → Sg) : (d.updSg f).sg = f d.sg := rfl
@[simp] theorem Die.updPw_pw (f : Pwr → Pwr) : (d.updPw f).pw = f d.pw := rfl
@[simp] theorem Die.updIntc_intc (f : Intc → Intc) : (d.updIntc f).intc = f d.intc := rfl
@[simp] theorem Die.updMg_mgmt (f : Mgmt → Mgmt) : (d.updMg f).mgmt = f d.mgmt := rfl
@[simp] theorem Die.respond_resp (r : Resp) : (d.respond r).resp = r := rfl

@[simp] theorem Die.core_updCore (k j : Nat) (f : Core → Core) : (d.updCore k f).core j = if j = k then f (d.core k) else d.core j := by
  unfold Die.updCore Die.core Die.setCore
  exact sget_sset ..
@[simp] theorem Die.island_updIsl (k j : Nat) (f : Isl → Isl) : (d.updIsl k f).island j = if j = k then f (d.island k) else d.island j := by
  unfold Die.updIsl Die.island
  exact sget_sset ..
@[simp] theorem Die.ist_updIst (k j : Nat) (f : IslSt → IslSt) : (d.updIst k f).ist j = if j = k then f (d.ist k) else d.ist j := by
  unfold Die.updIst Die.ist
  exact sget_sset ..
@[simp] theorem Die.slice_updSlice (k j : Nat) (f : VSlice → VSlice) : (d.updSlice k f).slice j = if j = k then f (d.slice k) else d.slice j := by
  unfold Die.updSlice Die.slice
  exact sget_sset ..
@[simp] theorem Die.job_updJob (k j : Nat) (f : Job → Job) : (d.updJob k f).job j = if j = k then f (d.job k) else d.job j := by
  unfold Die.updJob Die.job
  exact sget_sset ..
@[simp] theorem Die.strm_updStrm (k j : Nat) (f : Strm → Strm) : (d.updStrm k f).strm j = if j = k then f (d.strm k) else d.strm j := by
  unfold Die.updStrm Die.strm
  exact sget_sset ..
@[simp] theorem Die.hd_updHdr (k j : Nat) (f : Hdr → Hdr) : (d.updHdr k f).hd j = if j = k then f (d.hd k) else d.hd j := by
  unfold Die.updHdr Die.hd
  exact sget_sset ..
@[simp] theorem Die.stack_updStk (k j : Nat) (f : Stk → Stk) : (d.updStk k f).stack j = if j = k then f (d.stack k) else d.stack j := by
  unfold Die.updStk Die.stack
  exact sget_sset ..
@[simp] theorem Die.port_updPort (k j : Nat) (f : Port → Port) : (d.updPort k f).port j = if j = k then f (d.port k) else d.port j := by
  unfold Die.updPort Die.port
  exact sget_sset ..
@[simp] theorem Die.skimJ_updSkim (k j : Nat) (f : SkimJob → SkimJob) : (d.updSkim k f).skimJ j = if j = k then f (d.skimJ k) else d.skimJ j := by
  unfold Die.updSkim Die.skimJ
  exact sget_sset ..
@[simp] theorem Die.island_updCore (n : Nat) (f : Core → Core) (kk : Nat) : (d.updCore n f).island kk = d.island kk := rfl
@[simp] theorem Die.ist_updCore (n : Nat) (f : Core → Core) (kk : Nat) : (d.updCore n f).ist kk = d.ist kk := rfl
@[simp] theorem Die.slice_updCore (n : Nat) (f : Core → Core) (kk : Nat) : (d.updCore n f).slice kk = d.slice kk := rfl
@[simp] theorem Die.job_updCore (n : Nat) (f : Core → Core) (kk : Nat) : (d.updCore n f).job kk = d.job kk := rfl
@[simp] theorem Die.strm_updCore (n : Nat) (f : Core → Core) (kk : Nat) : (d.updCore n f).strm kk = d.strm kk := rfl
@[simp] theorem Die.hd_updCore (n : Nat) (f : Core → Core) (kk : Nat) : (d.updCore n f).hd kk = d.hd kk := rfl
@[simp] theorem Die.stack_updCore (n : Nat) (f : Core → Core) (kk : Nat) : (d.updCore n f).stack kk = d.stack kk := rfl
@[simp] theorem Die.port_updCore (n : Nat) (f : Core → Core) (kk : Nat) : (d.updCore n f).port kk = d.port kk := rfl
@[simp] theorem Die.skimJ_updCore (n : Nat) (f : Core → Core) (kk : Nat) : (d.updCore n f).skimJ kk = d.skimJ kk := rfl
@[simp] theorem Die.core_updIsl (i : Nat) (f : Isl → Isl) (kk : Nat) : (d.updIsl i f).core kk = d.core kk := rfl
@[simp] theorem Die.ist_updIsl (i : Nat) (f : Isl → Isl) (kk : Nat) : (d.updIsl i f).ist kk = d.ist kk := rfl
@[simp] theorem Die.slice_updIsl (i : Nat) (f : Isl → Isl) (kk : Nat) : (d.updIsl i f).slice kk = d.slice kk := rfl
@[simp] theorem Die.job_updIsl (i : Nat) (f : Isl → Isl) (kk : Nat) : (d.updIsl i f).job kk = d.job kk := rfl
@[simp] theorem Die.strm_updIsl (i : Nat) (f : Isl → Isl) (kk : Nat) : (d.updIsl i f).strm kk = d.strm kk := rfl
@[simp] theorem Die.hd_updIsl (i : Nat) (f : Isl → Isl) (kk : Nat) : (d.updIsl i f).hd kk = d.hd kk := rfl
@[simp] theorem Die.stack_updIsl (i : Nat) (f : Isl → Isl) (kk : Nat) : (d.updIsl i f).stack kk = d.stack kk := rfl
@[simp] theorem Die.port_updIsl (i : Nat) (f : Isl → Isl) (kk : Nat) : (d.updIsl i f).port kk = d.port kk := rfl
@[simp] theorem Die.skimJ_updIsl (i : Nat) (f : Isl → Isl) (kk : Nat) : (d.updIsl i f).skimJ kk = d.skimJ kk := rfl
@[simp] theorem Die.core_updIst (i : Nat) (f : IslSt → IslSt) (kk : Nat) : (d.updIst i f).core kk = d.core kk := rfl
@[simp] theorem Die.island_updIst (i : Nat) (f : IslSt → IslSt) (kk : Nat) : (d.updIst i f).island kk = d.island kk := rfl
@[simp] theorem Die.slice_updIst (i : Nat) (f : IslSt → IslSt) (kk : Nat) : (d.updIst i f).slice kk = d.slice kk := rfl
@[simp] theorem Die.job_updIst (i : Nat) (f : IslSt → IslSt) (kk : Nat) : (d.updIst i f).job kk = d.job kk := rfl
@[simp] theorem Die.strm_updIst (i : Nat) (f : IslSt → IslSt) (kk : Nat) : (d.updIst i f).strm kk = d.strm kk := rfl
@[simp] theorem Die.hd_updIst (i : Nat) (f : IslSt → IslSt) (kk : Nat) : (d.updIst i f).hd kk = d.hd kk := rfl
@[simp] theorem Die.stack_updIst (i : Nat) (f : IslSt → IslSt) (kk : Nat) : (d.updIst i f).stack kk = d.stack kk := rfl
@[simp] theorem Die.port_updIst (i : Nat) (f : IslSt → IslSt) (kk : Nat) : (d.updIst i f).port kk = d.port kk := rfl
@[simp] theorem Die.skimJ_updIst (i : Nat) (f : IslSt → IslSt) (kk : Nat) : (d.updIst i f).skimJ kk = d.skimJ kk := rfl
@[simp] theorem Die.core_updSlice (n : Nat) (f : VSlice → VSlice) (kk : Nat) : (d.updSlice n f).core kk = d.core kk := rfl
@[simp] theorem Die.island_updSlice (n : Nat) (f : VSlice → VSlice) (kk : Nat) : (d.updSlice n f).island kk = d.island kk := rfl
@[simp] theorem Die.ist_updSlice (n : Nat) (f : VSlice → VSlice) (kk : Nat) : (d.updSlice n f).ist kk = d.ist kk := rfl
@[simp] theorem Die.job_updSlice (n : Nat) (f : VSlice → VSlice) (kk : Nat) : (d.updSlice n f).job kk = d.job kk := rfl
@[simp] theorem Die.strm_updSlice (n : Nat) (f : VSlice → VSlice) (kk : Nat) : (d.updSlice n f).strm kk = d.strm kk := rfl
@[simp] theorem Die.hd_updSlice (n : Nat) (f : VSlice → VSlice) (kk : Nat) : (d.updSlice n f).hd kk = d.hd kk := rfl
@[simp] theorem Die.stack_updSlice (n : Nat) (f : VSlice → VSlice) (kk : Nat) : (d.updSlice n f).stack kk = d.stack kk := rfl
@[simp] theorem Die.port_updSlice (n : Nat) (f : VSlice → VSlice) (kk : Nat) : (d.updSlice n f).port kk = d.port kk := rfl
@[simp] theorem Die.skimJ_updSlice (n : Nat) (f : VSlice → VSlice) (kk : Nat) : (d.updSlice n f).skimJ kk = d.skimJ kk := rfl
@[simp] theorem Die.core_updFelt (i q : Nat) (f : FeltQ → FeltQ) (kk : Nat) : (d.updFelt i q f).core kk = d.core kk := rfl
@[simp] theorem Die.island_updFelt (i q : Nat) (f : FeltQ → FeltQ) (kk : Nat) : (d.updFelt i q f).island kk = d.island kk := rfl
@[simp] theorem Die.ist_updFelt (i q : Nat) (f : FeltQ → FeltQ) (kk : Nat) : (d.updFelt i q f).ist kk = d.ist kk := rfl
@[simp] theorem Die.slice_updFelt (i q : Nat) (f : FeltQ → FeltQ) (kk : Nat) : (d.updFelt i q f).slice kk = d.slice kk := rfl
@[simp] theorem Die.job_updFelt (i q : Nat) (f : FeltQ → FeltQ) (kk : Nat) : (d.updFelt i q f).job kk = d.job kk := rfl
@[simp] theorem Die.strm_updFelt (i q : Nat) (f : FeltQ → FeltQ) (kk : Nat) : (d.updFelt i q f).strm kk = d.strm kk := rfl
@[simp] theorem Die.hd_updFelt (i q : Nat) (f : FeltQ → FeltQ) (kk : Nat) : (d.updFelt i q f).hd kk = d.hd kk := rfl
@[simp] theorem Die.stack_updFelt (i q : Nat) (f : FeltQ → FeltQ) (kk : Nat) : (d.updFelt i q f).stack kk = d.stack kk := rfl
@[simp] theorem Die.port_updFelt (i q : Nat) (f : FeltQ → FeltQ) (kk : Nat) : (d.updFelt i q f).port kk = d.port kk := rfl
@[simp] theorem Die.skimJ_updFelt (i q : Nat) (f : FeltQ → FeltQ) (kk : Nat) : (d.updFelt i q f).skimJ kk = d.skimJ kk := rfl
@[simp] theorem Die.core_updRt (i e : Nat) (f : RTile → RTile) (kk : Nat) : (d.updRt i e f).core kk = d.core kk := rfl
@[simp] theorem Die.island_updRt (i e : Nat) (f : RTile → RTile) (kk : Nat) : (d.updRt i e f).island kk = d.island kk := rfl
@[simp] theorem Die.ist_updRt (i e : Nat) (f : RTile → RTile) (kk : Nat) : (d.updRt i e f).ist kk = d.ist kk := rfl
@[simp] theorem Die.slice_updRt (i e : Nat) (f : RTile → RTile) (kk : Nat) : (d.updRt i e f).slice kk = d.slice kk := rfl
@[simp] theorem Die.job_updRt (i e : Nat) (f : RTile → RTile) (kk : Nat) : (d.updRt i e f).job kk = d.job kk := rfl
@[simp] theorem Die.strm_updRt (i e : Nat) (f : RTile → RTile) (kk : Nat) : (d.updRt i e f).strm kk = d.strm kk := rfl
@[simp] theorem Die.hd_updRt (i e : Nat) (f : RTile → RTile) (kk : Nat) : (d.updRt i e f).hd kk = d.hd kk := rfl
@[simp] theorem Die.stack_updRt (i e : Nat) (f : RTile → RTile) (kk : Nat) : (d.updRt i e f).stack kk = d.stack kk := rfl
@[simp] theorem Die.port_updRt (i e : Nat) (f : RTile → RTile) (kk : Nat) : (d.updRt i e f).port kk = d.port kk := rfl
@[simp] theorem Die.skimJ_updRt (i e : Nat) (f : RTile → RTile) (kk : Nat) : (d.updRt i e f).skimJ kk = d.skimJ kk := rfl
@[simp] theorem Die.core_updJob (j : Nat) (f : Job → Job) (kk : Nat) : (d.updJob j f).core kk = d.core kk := rfl
@[simp] theorem Die.island_updJob (j : Nat) (f : Job → Job) (kk : Nat) : (d.updJob j f).island kk = d.island kk := rfl
@[simp] theorem Die.ist_updJob (j : Nat) (f : Job → Job) (kk : Nat) : (d.updJob j f).ist kk = d.ist kk := rfl
@[simp] theorem Die.slice_updJob (j : Nat) (f : Job → Job) (kk : Nat) : (d.updJob j f).slice kk = d.slice kk := rfl
@[simp] theorem Die.strm_updJob (j : Nat) (f : Job → Job) (kk : Nat) : (d.updJob j f).strm kk = d.strm kk := rfl
@[simp] theorem Die.hd_updJob (j : Nat) (f : Job → Job) (kk : Nat) : (d.updJob j f).hd kk = d.hd kk := rfl
@[simp] theorem Die.stack_updJob (j : Nat) (f : Job → Job) (kk : Nat) : (d.updJob j f).stack kk = d.stack kk := rfl
@[simp] theorem Die.port_updJob (j : Nat) (f : Job → Job) (kk : Nat) : (d.updJob j f).port kk = d.port kk := rfl
@[simp] theorem Die.skimJ_updJob (j : Nat) (f : Job → Job) (kk : Nat) : (d.updJob j f).skimJ kk = d.skimJ kk := rfl
@[simp] theorem Die.core_updBar (j b : Nat) (f : Barrier → Barrier) (kk : Nat) : (d.updBar j b f).core kk = d.core kk := rfl
@[simp] theorem Die.island_updBar (j b : Nat) (f : Barrier → Barrier) (kk : Nat) : (d.updBar j b f).island kk = d.island kk := rfl
@[simp] theorem Die.ist_updBar (j b : Nat) (f : Barrier → Barrier) (kk : Nat) : (d.updBar j b f).ist kk = d.ist kk := rfl
@[simp] theorem Die.slice_updBar (j b : Nat) (f : Barrier → Barrier) (kk : Nat) : (d.updBar j b f).slice kk = d.slice kk := rfl
@[simp] theorem Die.job_updBar (j b : Nat) (f : Barrier → Barrier) (kk : Nat) : (d.updBar j b f).job kk = d.job kk := rfl
@[simp] theorem Die.strm_updBar (j b : Nat) (f : Barrier → Barrier) (kk : Nat) : (d.updBar j b f).strm kk = d.strm kk := rfl
@[simp] theorem Die.hd_updBar (j b : Nat) (f : Barrier → Barrier) (kk : Nat) : (d.updBar j b f).hd kk = d.hd kk := rfl
@[simp] theorem Die.stack_updBar (j b : Nat) (f : Barrier → Barrier) (kk : Nat) : (d.updBar j b f).stack kk = d.stack kk := rfl
@[simp] theorem Die.port_updBar (j b : Nat) (f : Barrier → Barrier) (kk : Nat) : (d.updBar j b f).port kk = d.port kk := rfl
@[simp] theorem Die.skimJ_updBar (j b : Nat) (f : Barrier → Barrier) (kk : Nat) : (d.updBar j b f).skimJ kk = d.skimJ kk := rfl
@[simp] theorem Die.core_setPage (j v : Nat) (x : Option Page) (kk : Nat) : (d.setPage j v x).core kk = d.core kk := rfl
@[simp] theorem Die.island_setPage (j v : Nat) (x : Option Page) (kk : Nat) : (d.setPage j v x).island kk = d.island kk := rfl
@[simp] theorem Die.ist_setPage (j v : Nat) (x : Option Page) (kk : Nat) : (d.setPage j v x).ist kk = d.ist kk := rfl
@[simp] theorem Die.slice_setPage (j v : Nat) (x : Option Page) (kk : Nat) : (d.setPage j v x).slice kk = d.slice kk := rfl
@[simp] theorem Die.job_setPage (j v : Nat) (x : Option Page) (kk : Nat) : (d.setPage j v x).job kk = d.job kk := rfl
@[simp] theorem Die.strm_setPage (j v : Nat) (x : Option Page) (kk : Nat) : (d.setPage j v x).strm kk = d.strm kk := rfl
@[simp] theorem Die.hd_setPage (j v : Nat) (x : Option Page) (kk : Nat) : (d.setPage j v x).hd kk = d.hd kk := rfl
@[simp] theorem Die.stack_setPage (j v : Nat) (x : Option Page) (kk : Nat) : (d.setPage j v x).stack kk = d.stack kk := rfl
@[simp] theorem Die.port_setPage (j v : Nat) (x : Option Page) (kk : Nat) : (d.setPage j v x).port kk = d.port kk := rfl
@[simp] theorem Die.skimJ_setPage (j v : Nat) (x : Option Page) (kk : Nat) : (d.setPage j v x).skimJ kk = d.skimJ kk := rfl
@[simp] theorem Die.core_setObj (o : Nat) (x : Option PObj) (kk : Nat) : (d.setObj o x).core kk = d.core kk := rfl
@[simp] theorem Die.island_setObj (o : Nat) (x : Option PObj) (kk : Nat) : (d.setObj o x).island kk = d.island kk := rfl
@[simp] theorem Die.ist_setObj (o : Nat) (x : Option PObj) (kk : Nat) : (d.setObj o x).ist kk = d.ist kk := rfl
@[simp] theorem Die.slice_setObj (o : Nat) (x : Option PObj) (kk : Nat) : (d.setObj o x).slice kk = d.slice kk := rfl
@[simp] theorem Die.job_setObj (o : Nat) (x : Option PObj) (kk : Nat) : (d.setObj o x).job kk = d.job kk := rfl
@[simp] theorem Die.strm_setObj (o : Nat) (x : Option PObj) (kk : Nat) : (d.setObj o x).strm kk = d.strm kk := rfl
@[simp] theorem Die.hd_setObj (o : Nat) (x : Option PObj) (kk : Nat) : (d.setObj o x).hd kk = d.hd kk := rfl
@[simp] theorem Die.stack_setObj (o : Nat) (x : Option PObj) (kk : Nat) : (d.setObj o x).stack kk = d.stack kk := rfl
@[simp] theorem Die.port_setObj (o : Nat) (x : Option PObj) (kk : Nat) : (d.setObj o x).port kk = d.port kk := rfl
@[simp] theorem Die.skimJ_setObj (o : Nat) (x : Option PObj) (kk : Nat) : (d.setObj o x).skimJ kk = d.skimJ kk := rfl
@[simp] theorem Die.core_updStrm (x : Nat) (f : Strm → Strm) (kk : Nat) : (d.updStrm x f).core kk = d.core kk := rfl
@[simp] theorem Die.island_updStrm (x : Nat) (f : Strm → Strm) (kk : Nat) : (d.updStrm x f).island kk = d.island kk := rfl
@[simp] theorem Die.ist_updStrm (x : Nat) (f : Strm → Strm) (kk : Nat) : (d.updStrm x f).ist kk = d.ist kk := rfl
@[simp] theorem Die.slice_updStrm (x : Nat) (f : Strm → Strm) (kk : Nat) : (d.updStrm x f).slice kk = d.slice kk := rfl
@[simp] theorem Die.job_updStrm (x : Nat) (f : Strm → Strm) (kk : Nat) : (d.updStrm x f).job kk = d.job kk := rfl
@[simp] theorem Die.hd_updStrm (x : Nat) (f : Strm → Strm) (kk : Nat) : (d.updStrm x f).hd kk = d.hd kk := rfl
@[simp] theorem Die.stack_updStrm (x : Nat) (f : Strm → Strm) (kk : Nat) : (d.updStrm x f).stack kk = d.stack kk := rfl
@[simp] theorem Die.port_updStrm (x : Nat) (f : Strm → Strm) (kk : Nat) : (d.updStrm x f).port kk = d.port kk := rfl
@[simp] theorem Die.skimJ_updStrm (x : Nat) (f : Strm → Strm) (kk : Nat) : (d.updStrm x f).skimJ kk = d.skimJ kk := rfl
@[simp] theorem Die.core_updDk (f : Deckle → Deckle) (kk : Nat) : (d.updDk f).core kk = d.core kk := rfl
@[simp] theorem Die.island_updDk (f : Deckle → Deckle) (kk : Nat) : (d.updDk f).island kk = d.island kk := rfl
@[simp] theorem Die.ist_updDk (f : Deckle → Deckle) (kk : Nat) : (d.updDk f).ist kk = d.ist kk := rfl
@[simp] theorem Die.slice_updDk (f : Deckle → Deckle) (kk : Nat) : (d.updDk f).slice kk = d.slice kk := rfl
@[simp] theorem Die.job_updDk (f : Deckle → Deckle) (kk : Nat) : (d.updDk f).job kk = d.job kk := rfl
@[simp] theorem Die.strm_updDk (f : Deckle → Deckle) (kk : Nat) : (d.updDk f).strm kk = d.strm kk := rfl
@[simp] theorem Die.hd_updDk (f : Deckle → Deckle) (kk : Nat) : (d.updDk f).hd kk = d.hd kk := rfl
@[simp] theorem Die.stack_updDk (f : Deckle → Deckle) (kk : Nat) : (d.updDk f).stack kk = d.stack kk := rfl
@[simp] theorem Die.port_updDk (f : Deckle → Deckle) (kk : Nat) : (d.updDk f).port kk = d.port kk := rfl
@[simp] theorem Die.skimJ_updDk (f : Deckle → Deckle) (kk : Nat) : (d.updDk f).skimJ kk = d.skimJ kk := rfl
@[simp] theorem Die.core_updHdr (p : Nat) (f : Hdr → Hdr) (kk : Nat) : (d.updHdr p f).core kk = d.core kk := rfl
@[simp] theorem Die.island_updHdr (p : Nat) (f : Hdr → Hdr) (kk : Nat) : (d.updHdr p f).island kk = d.island kk := rfl
@[simp] theorem Die.ist_updHdr (p : Nat) (f : Hdr → Hdr) (kk : Nat) : (d.updHdr p f).ist kk = d.ist kk := rfl
@[simp] theorem Die.slice_updHdr (p : Nat) (f : Hdr → Hdr) (kk : Nat) : (d.updHdr p f).slice kk = d.slice kk := rfl
@[simp] theorem Die.job_updHdr (p : Nat) (f : Hdr → Hdr) (kk : Nat) : (d.updHdr p f).job kk = d.job kk := rfl
@[simp] theorem Die.strm_updHdr (p : Nat) (f : Hdr → Hdr) (kk : Nat) : (d.updHdr p f).strm kk = d.strm kk := rfl
@[simp] theorem Die.stack_updHdr (p : Nat) (f : Hdr → Hdr) (kk : Nat) : (d.updHdr p f).stack kk = d.stack kk := rfl
@[simp] theorem Die.port_updHdr (p : Nat) (f : Hdr → Hdr) (kk : Nat) : (d.updHdr p f).port kk = d.port kk := rfl
@[simp] theorem Die.skimJ_updHdr (p : Nat) (f : Hdr → Hdr) (kk : Nat) : (d.updHdr p f).skimJ kk = d.skimJ kk := rfl
@[simp] theorem Die.core_setReg (page off : Nat) (v : Word) (kk : Nat) : (d.setReg page off v).core kk = d.core kk := rfl
@[simp] theorem Die.island_setReg (page off : Nat) (v : Word) (kk : Nat) : (d.setReg page off v).island kk = d.island kk := rfl
@[simp] theorem Die.ist_setReg (page off : Nat) (v : Word) (kk : Nat) : (d.setReg page off v).ist kk = d.ist kk := rfl
@[simp] theorem Die.slice_setReg (page off : Nat) (v : Word) (kk : Nat) : (d.setReg page off v).slice kk = d.slice kk := rfl
@[simp] theorem Die.job_setReg (page off : Nat) (v : Word) (kk : Nat) : (d.setReg page off v).job kk = d.job kk := rfl
@[simp] theorem Die.strm_setReg (page off : Nat) (v : Word) (kk : Nat) : (d.setReg page off v).strm kk = d.strm kk := rfl
@[simp] theorem Die.hd_setReg (page off : Nat) (v : Word) (kk : Nat) : (d.setReg page off v).hd kk = d.hd kk := rfl
@[simp] theorem Die.stack_setReg (page off : Nat) (v : Word) (kk : Nat) : (d.setReg page off v).stack kk = d.stack kk := rfl
@[simp] theorem Die.port_setReg (page off : Nat) (v : Word) (kk : Nat) : (d.setReg page off v).port kk = d.port kk := rfl
@[simp] theorem Die.skimJ_setReg (page off : Nat) (v : Word) (kk : Nat) : (d.setReg page off v).skimJ kk = d.skimJ kk := rfl
@[simp] theorem Die.core_setShadow (page off : Nat) (v : Word) (kk : Nat) : (d.setShadow page off v).core kk = d.core kk := rfl
@[simp] theorem Die.island_setShadow (page off : Nat) (v : Word) (kk : Nat) : (d.setShadow page off v).island kk = d.island kk := rfl
@[simp] theorem Die.ist_setShadow (page off : Nat) (v : Word) (kk : Nat) : (d.setShadow page off v).ist kk = d.ist kk := rfl
@[simp] theorem Die.slice_setShadow (page off : Nat) (v : Word) (kk : Nat) : (d.setShadow page off v).slice kk = d.slice kk := rfl
@[simp] theorem Die.job_setShadow (page off : Nat) (v : Word) (kk : Nat) : (d.setShadow page off v).job kk = d.job kk := rfl
@[simp] theorem Die.strm_setShadow (page off : Nat) (v : Word) (kk : Nat) : (d.setShadow page off v).strm kk = d.strm kk := rfl
@[simp] theorem Die.hd_setShadow (page off : Nat) (v : Word) (kk : Nat) : (d.setShadow page off v).hd kk = d.hd kk := rfl
@[simp] theorem Die.stack_setShadow (page off : Nat) (v : Word) (kk : Nat) : (d.setShadow page off v).stack kk = d.stack kk := rfl
@[simp] theorem Die.port_setShadow (page off : Nat) (v : Word) (kk : Nat) : (d.setShadow page off v).port kk = d.port kk := rfl
@[simp] theorem Die.skimJ_setShadow (page off : Nat) (v : Word) (kk : Nat) : (d.setShadow page off v).skimJ kk = d.skimJ kk := rfl
@[simp] theorem Die.core_count (page sel k : Nat) (kk : Nat) : (d.count page sel k).core kk = d.core kk := rfl
@[simp] theorem Die.island_count (page sel k : Nat) (kk : Nat) : (d.count page sel k).island kk = d.island kk := rfl
@[simp] theorem Die.ist_count (page sel k : Nat) (kk : Nat) : (d.count page sel k).ist kk = d.ist kk := rfl
@[simp] theorem Die.slice_count (page sel k : Nat) (kk : Nat) : (d.count page sel k).slice kk = d.slice kk := rfl
@[simp] theorem Die.job_count (page sel k : Nat) (kk : Nat) : (d.count page sel k).job kk = d.job kk := rfl
@[simp] theorem Die.strm_count (page sel k : Nat) (kk : Nat) : (d.count page sel k).strm kk = d.strm kk := rfl
@[simp] theorem Die.hd_count (page sel k : Nat) (kk : Nat) : (d.count page sel k).hd kk = d.hd kk := rfl
@[simp] theorem Die.stack_count (page sel k : Nat) (kk : Nat) : (d.count page sel k).stack kk = d.stack kk := rfl
@[simp] theorem Die.port_count (page sel k : Nat) (kk : Nat) : (d.count page sel k).port kk = d.port kk := rfl
@[simp] theorem Die.skimJ_count (page sel k : Nat) (kk : Nat) : (d.count page sel k).skimJ kk = d.skimJ kk := rfl
@[simp] theorem Die.core_setBytes (a : Nat) (bs : List Byte) (kk : Nat) : (d.setBytes a bs).core kk = d.core kk := rfl
@[simp] theorem Die.island_setBytes (a : Nat) (bs : List Byte) (kk : Nat) : (d.setBytes a bs).island kk = d.island kk := rfl
@[simp] theorem Die.ist_setBytes (a : Nat) (bs : List Byte) (kk : Nat) : (d.setBytes a bs).ist kk = d.ist kk := rfl
@[simp] theorem Die.slice_setBytes (a : Nat) (bs : List Byte) (kk : Nat) : (d.setBytes a bs).slice kk = d.slice kk := rfl
@[simp] theorem Die.job_setBytes (a : Nat) (bs : List Byte) (kk : Nat) : (d.setBytes a bs).job kk = d.job kk := rfl
@[simp] theorem Die.strm_setBytes (a : Nat) (bs : List Byte) (kk : Nat) : (d.setBytes a bs).strm kk = d.strm kk := rfl
@[simp] theorem Die.hd_setBytes (a : Nat) (bs : List Byte) (kk : Nat) : (d.setBytes a bs).hd kk = d.hd kk := rfl
@[simp] theorem Die.stack_setBytes (a : Nat) (bs : List Byte) (kk : Nat) : (d.setBytes a bs).stack kk = d.stack kk := rfl
@[simp] theorem Die.port_setBytes (a : Nat) (bs : List Byte) (kk : Nat) : (d.setBytes a bs).port kk = d.port kk := rfl
@[simp] theorem Die.skimJ_setBytes (a : Nat) (bs : List Byte) (kk : Nat) : (d.setBytes a bs).skimJ kk = d.skimJ kk := rfl
@[simp] theorem Die.core_zeroBytes (a k : Nat) (kk : Nat) : (d.zeroBytes a k).core kk = d.core kk := rfl
@[simp] theorem Die.island_zeroBytes (a k : Nat) (kk : Nat) : (d.zeroBytes a k).island kk = d.island kk := rfl
@[simp] theorem Die.ist_zeroBytes (a k : Nat) (kk : Nat) : (d.zeroBytes a k).ist kk = d.ist kk := rfl
@[simp] theorem Die.slice_zeroBytes (a k : Nat) (kk : Nat) : (d.zeroBytes a k).slice kk = d.slice kk := rfl
@[simp] theorem Die.job_zeroBytes (a k : Nat) (kk : Nat) : (d.zeroBytes a k).job kk = d.job kk := rfl
@[simp] theorem Die.strm_zeroBytes (a k : Nat) (kk : Nat) : (d.zeroBytes a k).strm kk = d.strm kk := rfl
@[simp] theorem Die.hd_zeroBytes (a k : Nat) (kk : Nat) : (d.zeroBytes a k).hd kk = d.hd kk := rfl
@[simp] theorem Die.stack_zeroBytes (a k : Nat) (kk : Nat) : (d.zeroBytes a k).stack kk = d.stack kk := rfl
@[simp] theorem Die.port_zeroBytes (a k : Nat) (kk : Nat) : (d.zeroBytes a k).port kk = d.port kk := rfl
@[simp] theorem Die.skimJ_zeroBytes (a k : Nat) (kk : Nat) : (d.zeroBytes a k).skimJ kk = d.skimJ kk := rfl
@[simp] theorem Die.core_updStk (s : Nat) (f : Stk → Stk) (kk : Nat) : (d.updStk s f).core kk = d.core kk := rfl
@[simp] theorem Die.island_updStk (s : Nat) (f : Stk → Stk) (kk : Nat) : (d.updStk s f).island kk = d.island kk := rfl
@[simp] theorem Die.ist_updStk (s : Nat) (f : Stk → Stk) (kk : Nat) : (d.updStk s f).ist kk = d.ist kk := rfl
@[simp] theorem Die.slice_updStk (s : Nat) (f : Stk → Stk) (kk : Nat) : (d.updStk s f).slice kk = d.slice kk := rfl
@[simp] theorem Die.job_updStk (s : Nat) (f : Stk → Stk) (kk : Nat) : (d.updStk s f).job kk = d.job kk := rfl
@[simp] theorem Die.strm_updStk (s : Nat) (f : Stk → Stk) (kk : Nat) : (d.updStk s f).strm kk = d.strm kk := rfl
@[simp] theorem Die.hd_updStk (s : Nat) (f : Stk → Stk) (kk : Nat) : (d.updStk s f).hd kk = d.hd kk := rfl
@[simp] theorem Die.port_updStk (s : Nat) (f : Stk → Stk) (kk : Nat) : (d.updStk s f).port kk = d.port kk := rfl
@[simp] theorem Die.skimJ_updStk (s : Nat) (f : Stk → Stk) (kk : Nat) : (d.updStk s f).skimJ kk = d.skimJ kk := rfl
@[simp] theorem Die.core_updPort (p : Nat) (f : Port → Port) (kk : Nat) : (d.updPort p f).core kk = d.core kk := rfl
@[simp] theorem Die.island_updPort (p : Nat) (f : Port → Port) (kk : Nat) : (d.updPort p f).island kk = d.island kk := rfl
@[simp] theorem Die.ist_updPort (p : Nat) (f : Port → Port) (kk : Nat) : (d.updPort p f).ist kk = d.ist kk := rfl
@[simp] theorem Die.slice_updPort (p : Nat) (f : Port → Port) (kk : Nat) : (d.updPort p f).slice kk = d.slice kk := rfl
@[simp] theorem Die.job_updPort (p : Nat) (f : Port → Port) (kk : Nat) : (d.updPort p f).job kk = d.job kk := rfl
@[simp] theorem Die.strm_updPort (p : Nat) (f : Port → Port) (kk : Nat) : (d.updPort p f).strm kk = d.strm kk := rfl
@[simp] theorem Die.hd_updPort (p : Nat) (f : Port → Port) (kk : Nat) : (d.updPort p f).hd kk = d.hd kk := rfl
@[simp] theorem Die.stack_updPort (p : Nat) (f : Port → Port) (kk : Nat) : (d.updPort p f).stack kk = d.stack kk := rfl
@[simp] theorem Die.skimJ_updPort (p : Nat) (f : Port → Port) (kk : Nat) : (d.updPort p f).skimJ kk = d.skimJ kk := rfl
@[simp] theorem Die.core_updFab (f : Fab → Fab) (kk : Nat) : (d.updFab f).core kk = d.core kk := rfl
@[simp] theorem Die.island_updFab (f : Fab → Fab) (kk : Nat) : (d.updFab f).island kk = d.island kk := rfl
@[simp] theorem Die.ist_updFab (f : Fab → Fab) (kk : Nat) : (d.updFab f).ist kk = d.ist kk := rfl
@[simp] theorem Die.slice_updFab (f : Fab → Fab) (kk : Nat) : (d.updFab f).slice kk = d.slice kk := rfl
@[simp] theorem Die.job_updFab (f : Fab → Fab) (kk : Nat) : (d.updFab f).job kk = d.job kk := rfl
@[simp] theorem Die.strm_updFab (f : Fab → Fab) (kk : Nat) : (d.updFab f).strm kk = d.strm kk := rfl
@[simp] theorem Die.hd_updFab (f : Fab → Fab) (kk : Nat) : (d.updFab f).hd kk = d.hd kk := rfl
@[simp] theorem Die.stack_updFab (f : Fab → Fab) (kk : Nat) : (d.updFab f).stack kk = d.stack kk := rfl
@[simp] theorem Die.port_updFab (f : Fab → Fab) (kk : Nat) : (d.updFab f).port kk = d.port kk := rfl
@[simp] theorem Die.skimJ_updFab (f : Fab → Fab) (kk : Nat) : (d.updFab f).skimJ kk = d.skimJ kk := rfl
@[simp] theorem Die.core_updSg (f : Sg → Sg) (kk : Nat) : (d.updSg f).core kk = d.core kk := rfl
@[simp] theorem Die.island_updSg (f : Sg → Sg) (kk : Nat) : (d.updSg f).island kk = d.island kk := rfl
@[simp] theorem Die.ist_updSg (f : Sg → Sg) (kk : Nat) : (d.updSg f).ist kk = d.ist kk := rfl
@[simp] theorem Die.slice_updSg (f : Sg → Sg) (kk : Nat) : (d.updSg f).slice kk = d.slice kk := rfl
@[simp] theorem Die.job_updSg (f : Sg → Sg) (kk : Nat) : (d.updSg f).job kk = d.job kk := rfl
@[simp] theorem Die.strm_updSg (f : Sg → Sg) (kk : Nat) : (d.updSg f).strm kk = d.strm kk := rfl
@[simp] theorem Die.hd_updSg (f : Sg → Sg) (kk : Nat) : (d.updSg f).hd kk = d.hd kk := rfl
@[simp] theorem Die.stack_updSg (f : Sg → Sg) (kk : Nat) : (d.updSg f).stack kk = d.stack kk := rfl
@[simp] theorem Die.port_updSg (f : Sg → Sg) (kk : Nat) : (d.updSg f).port kk = d.port kk := rfl
@[simp] theorem Die.skimJ_updSg (f : Sg → Sg) (kk : Nat) : (d.updSg f).skimJ kk = d.skimJ kk := rfl
@[simp] theorem Die.core_updPw (f : Pwr → Pwr) (kk : Nat) : (d.updPw f).core kk = d.core kk := rfl
@[simp] theorem Die.island_updPw (f : Pwr → Pwr) (kk : Nat) : (d.updPw f).island kk = d.island kk := rfl
@[simp] theorem Die.ist_updPw (f : Pwr → Pwr) (kk : Nat) : (d.updPw f).ist kk = d.ist kk := rfl
@[simp] theorem Die.slice_updPw (f : Pwr → Pwr) (kk : Nat) : (d.updPw f).slice kk = d.slice kk := rfl
@[simp] theorem Die.job_updPw (f : Pwr → Pwr) (kk : Nat) : (d.updPw f).job kk = d.job kk := rfl
@[simp] theorem Die.strm_updPw (f : Pwr → Pwr) (kk : Nat) : (d.updPw f).strm kk = d.strm kk := rfl
@[simp] theorem Die.hd_updPw (f : Pwr → Pwr) (kk : Nat) : (d.updPw f).hd kk = d.hd kk := rfl
@[simp] theorem Die.stack_updPw (f : Pwr → Pwr) (kk : Nat) : (d.updPw f).stack kk = d.stack kk := rfl
@[simp] theorem Die.port_updPw (f : Pwr → Pwr) (kk : Nat) : (d.updPw f).port kk = d.port kk := rfl
@[simp] theorem Die.skimJ_updPw (f : Pwr → Pwr) (kk : Nat) : (d.updPw f).skimJ kk = d.skimJ kk := rfl
@[simp] theorem Die.core_updIntc (f : Intc → Intc) (kk : Nat) : (d.updIntc f).core kk = d.core kk := rfl
@[simp] theorem Die.island_updIntc (f : Intc → Intc) (kk : Nat) : (d.updIntc f).island kk = d.island kk := rfl
@[simp] theorem Die.ist_updIntc (f : Intc → Intc) (kk : Nat) : (d.updIntc f).ist kk = d.ist kk := rfl
@[simp] theorem Die.slice_updIntc (f : Intc → Intc) (kk : Nat) : (d.updIntc f).slice kk = d.slice kk := rfl
@[simp] theorem Die.job_updIntc (f : Intc → Intc) (kk : Nat) : (d.updIntc f).job kk = d.job kk := rfl
@[simp] theorem Die.strm_updIntc (f : Intc → Intc) (kk : Nat) : (d.updIntc f).strm kk = d.strm kk := rfl
@[simp] theorem Die.hd_updIntc (f : Intc → Intc) (kk : Nat) : (d.updIntc f).hd kk = d.hd kk := rfl
@[simp] theorem Die.stack_updIntc (f : Intc → Intc) (kk : Nat) : (d.updIntc f).stack kk = d.stack kk := rfl
@[simp] theorem Die.port_updIntc (f : Intc → Intc) (kk : Nat) : (d.updIntc f).port kk = d.port kk := rfl
@[simp] theorem Die.skimJ_updIntc (f : Intc → Intc) (kk : Nat) : (d.updIntc f).skimJ kk = d.skimJ kk := rfl
@[simp] theorem Die.core_updMg (f : Mgmt → Mgmt) (kk : Nat) : (d.updMg f).core kk = d.core kk := rfl
@[simp] theorem Die.island_updMg (f : Mgmt → Mgmt) (kk : Nat) : (d.updMg f).island kk = d.island kk := rfl
@[simp] theorem Die.ist_updMg (f : Mgmt → Mgmt) (kk : Nat) : (d.updMg f).ist kk = d.ist kk := rfl
@[simp] theorem Die.slice_updMg (f : Mgmt → Mgmt) (kk : Nat) : (d.updMg f).slice kk = d.slice kk := rfl
@[simp] theorem Die.job_updMg (f : Mgmt → Mgmt) (kk : Nat) : (d.updMg f).job kk = d.job kk := rfl
@[simp] theorem Die.strm_updMg (f : Mgmt → Mgmt) (kk : Nat) : (d.updMg f).strm kk = d.strm kk := rfl
@[simp] theorem Die.hd_updMg (f : Mgmt → Mgmt) (kk : Nat) : (d.updMg f).hd kk = d.hd kk := rfl
@[simp] theorem Die.stack_updMg (f : Mgmt → Mgmt) (kk : Nat) : (d.updMg f).stack kk = d.stack kk := rfl
@[simp] theorem Die.port_updMg (f : Mgmt → Mgmt) (kk : Nat) : (d.updMg f).port kk = d.port kk := rfl
@[simp] theorem Die.skimJ_updMg (f : Mgmt → Mgmt) (kk : Nat) : (d.updMg f).skimJ kk = d.skimJ kk := rfl
@[simp] theorem Die.core_updSkim (j : Nat) (f : SkimJob → SkimJob) (kk : Nat) : (d.updSkim j f).core kk = d.core kk := rfl
@[simp] theorem Die.island_updSkim (j : Nat) (f : SkimJob → SkimJob) (kk : Nat) : (d.updSkim j f).island kk = d.island kk := rfl
@[simp] theorem Die.ist_updSkim (j : Nat) (f : SkimJob → SkimJob) (kk : Nat) : (d.updSkim j f).ist kk = d.ist kk := rfl
@[simp] theorem Die.slice_updSkim (j : Nat) (f : SkimJob → SkimJob) (kk : Nat) : (d.updSkim j f).slice kk = d.slice kk := rfl
@[simp] theorem Die.job_updSkim (j : Nat) (f : SkimJob → SkimJob) (kk : Nat) : (d.updSkim j f).job kk = d.job kk := rfl
@[simp] theorem Die.strm_updSkim (j : Nat) (f : SkimJob → SkimJob) (kk : Nat) : (d.updSkim j f).strm kk = d.strm kk := rfl
@[simp] theorem Die.hd_updSkim (j : Nat) (f : SkimJob → SkimJob) (kk : Nat) : (d.updSkim j f).hd kk = d.hd kk := rfl
@[simp] theorem Die.stack_updSkim (j : Nat) (f : SkimJob → SkimJob) (kk : Nat) : (d.updSkim j f).stack kk = d.stack kk := rfl
@[simp] theorem Die.port_updSkim (j : Nat) (f : SkimJob → SkimJob) (kk : Nat) : (d.updSkim j f).port kk = d.port kk := rfl
@[simp] theorem Die.core_respond (r : Resp) (kk : Nat) : (d.respond r).core kk = d.core kk := rfl
@[simp] theorem Die.island_respond (r : Resp) (kk : Nat) : (d.respond r).island kk = d.island kk := rfl
@[simp] theorem Die.ist_respond (r : Resp) (kk : Nat) : (d.respond r).ist kk = d.ist kk := rfl
@[simp] theorem Die.slice_respond (r : Resp) (kk : Nat) : (d.respond r).slice kk = d.slice kk := rfl
@[simp] theorem Die.job_respond (r : Resp) (kk : Nat) : (d.respond r).job kk = d.job kk := rfl
@[simp] theorem Die.strm_respond (r : Resp) (kk : Nat) : (d.respond r).strm kk = d.strm kk := rfl
@[simp] theorem Die.hd_respond (r : Resp) (kk : Nat) : (d.respond r).hd kk = d.hd kk := rfl
@[simp] theorem Die.stack_respond (r : Resp) (kk : Nat) : (d.respond r).stack kk = d.stack kk := rfl
@[simp] theorem Die.port_respond (r : Resp) (kk : Nat) : (d.respond r).port kk = d.port kk := rfl
@[simp] theorem Die.skimJ_respond (r : Resp) (kk : Nat) : (d.respond r).skimJ kk = d.skimJ kk := rfl
@[simp] theorem Die.core_hear (i m : Nat) (kk : Nat) : (d.hear i m).core kk = d.core kk := rfl
@[simp] theorem Die.island_hear (i m : Nat) (kk : Nat) : (d.hear i m).island kk = d.island kk := rfl
@[simp] theorem Die.ist_hear (i m : Nat) (kk : Nat) : (d.hear i m).ist kk = d.ist kk := rfl
@[simp] theorem Die.slice_hear (i m : Nat) (kk : Nat) : (d.hear i m).slice kk = d.slice kk := rfl
@[simp] theorem Die.job_hear (i m : Nat) (kk : Nat) : (d.hear i m).job kk = d.job kk := rfl
@[simp] theorem Die.strm_hear (i m : Nat) (kk : Nat) : (d.hear i m).strm kk = d.strm kk := rfl
@[simp] theorem Die.hd_hear (i m : Nat) (kk : Nat) : (d.hear i m).hd kk = d.hd kk := rfl
@[simp] theorem Die.stack_hear (i m : Nat) (kk : Nat) : (d.hear i m).stack kk = d.stack kk := rfl
@[simp] theorem Die.port_hear (i m : Nat) (kk : Nat) : (d.hear i m).port kk = d.port kk := rfl
@[simp] theorem Die.skimJ_hear (i m : Nat) (kk : Nat) : (d.hear i m).skimJ kk = d.skimJ kk := rfl

theorem Die.reg_setReg (page off p o : Nat) (v : Word) :
    (d.setReg page off v).reg p o = if rkey p o = rkey page off then v else d.reg p o := by
  unfold Die.setReg Die.reg
  by_cases h : rkey p o = rkey page off
  · simp [h]
  · rw [if_neg h]
    exact sget_sset_other _ _ _ _ h

theorem Die.ctrOf_count (page sel k p c : Nat) :
    (d.count page sel k).ctrOf p c = if ckey p c = ckey page sel then bump (d.ctrOf page sel) k else d.ctrOf p c := by
  unfold Die.count Die.ctrOf
  exact sget_sset ..

/-! ## Memory -/

theorem Die.byte_setBytes (a : Nat) (bs : List Byte) (x : Nat) :
    (d.setBytes a bs).byte x = if a ≤ x ∧ x < a + bs.length then bs.getD (x - a) 0 else d.byte x := sget_ssetList ..

theorem Die.byte_zeroBytes (a n x : Nat) :
    (d.zeroBytes a n).byte x = if a ≤ x ∧ x < a + n then 0 else d.byte x := sget_sclear ..

/-- Every operation over memory keeps its canonical form. -/
theorem Die.wf_setBytes (a : Nat) (bs : List Byte) (h : Memory.wf d.mem = true) : Memory.wf (d.setBytes a bs).mem = true :=
  storeWf_ssetList bs a h

theorem Die.wf_zeroBytes (a n : Nat) (h : Memory.wf d.mem = true) : Memory.wf (d.zeroBytes a n).mem = true :=
  storeWf_sclear a n h

theorem Die.wf_wipeTiles (p : Nat → Bool) (h : Memory.wf d.mem = true) : Memory.wf (d.wipeTiles p).mem = true :=
  storeWf_filter _ h

/-! ## Updates of the state -/

@[simp] theorem State.updAon_d (f : Aon → Aon) : (s.updAon f).d = s.d := rfl
@[simp] theorem State.updAon_pending (f : Aon → Aon) : (s.updAon f).pending = s.pending := rfl
@[simp] theorem State.updPwr_a (f : Pwr → Pwr) : (s.updPwr f).a = s.a := rfl
@[simp] theorem State.updPwr_pending (f : Pwr → Pwr) : (s.updPwr f).pending = s.pending := rfl
@[simp] theorem State.updSec_d (f : Sec → Sec) : (s.updSec f).d = s.d := rfl
@[simp] theorem State.updSec_pending (f : Sec → Sec) : (s.updSec f).pending = s.pending := rfl
@[simp] theorem State.updPmb_d (f : Pmb → Pmb) : (s.updPmb f).d = s.d := rfl
@[simp] theorem State.updPmb_pending (f : Pmb → Pmb) : (s.updPmb f).pending = s.pending := rfl
@[simp] theorem State.onD_a (f : Die → Die) : (s.onD f).a = s.a := rfl
@[simp] theorem State.onD_pending (f : Die → Die) : (s.onD f).pending = s.pending := rfl
@[simp] theorem State.respond_a (r : Resp) : (s.respond r).a = s.a := rfl
@[simp] theorem State.respond_pending (r : Resp) : (s.respond r).pending = s.pending := rfl
@[simp] theorem State.granted_pending (ini page : Nat) : (s.granted ini page).pending = s.pending := rfl
@[simp] theorem State.reached_pending (ini page : Nat) : (s.reached ini page).pending = s.pending := rfl
@[simp] theorem State.updAon_a (f : Aon → Aon) : (s.updAon f).a = f s.a := rfl
@[simp] theorem State.updSec_sec (f : Sec → Sec) : (s.updSec f).a.sec = f s.a.sec := rfl
@[simp] theorem State.updPmb_pmb (f : Pmb → Pmb) : (s.updPmb f).a.pmb = f s.a.pmb := rfl
@[simp] theorem State.updPwr_d (f : Pwr → Pwr) : (s.updPwr f).d = s.d.updPw f := rfl
@[simp] theorem State.onD_d (f : Die → Die) : (s.onD f).d = f s.d := rfl
@[simp] theorem State.respond_d (r : Resp) : (s.respond r).d = s.d.respond r := rfl

/-! ## Transfers -/

/-- The end of a transfer moves the arbiter and its counters alone. -/
theorem Die.transfer_eq (r : Nat) : ∃ c x, d.transfer r = { d with carb := c, ctr := x } := by
  have fin : ∀ e : Die, ∃ c, e.carbEnd = { e with carb := c } := by
    intro e
    unfold Die.carbEnd
    split
    · exact ⟨e.carb, rfl⟩
    · exact ⟨_, rfl⟩
  unfold Die.transfer
  split
  · exact ⟨d.carb, d.ctr, rfl⟩
  · split
    · obtain ⟨c, h⟩ := fin d
      exact ⟨c, d.ctr, h⟩
    · obtain ⟨c, h⟩ := fin (d.carbGrant r)
      exact ⟨c, _, h⟩

/-- A grant moves only a trace sequence number, the arbiter and its counters. -/
theorem State.granted_d (ini page : Nat) : ∃ m c x, (s.granted ini page).d = { s.d with trS := m, carb := c, ctr := x } := by
  obtain ⟨c, x, h⟩ := s.d.transfer_eq ini
  unfold State.granted State.transfer Die.hear
  dsimp only
  rw [h]
  cases pageKind page with
  | none => exact ⟨_, _, _, rfl⟩
  | some k => exact ⟨_, _, _, rfl⟩

/-- A grant leaves the always-on island alone, but for `DEBUG_SEEN` of a transfer of the debug port. -/
theorem State.granted_a (ini page : Nat) : (s.granted ini page).a =
    if ini = iniDebug then { s.a with sec := { s.a.sec with debugSeen := true } } else s.a := rfl

theorem State.reached_d (ini page : Nat) :
    ∃ m c x, (s.reached ini page).d = { s.d with trS := m, carb := c, ctr := x, resp := .ok 0 } := by
  obtain ⟨m, c, x, h⟩ := s.granted_d ini page
  exact ⟨m, c, x, by unfold State.reached State.respond Die.respond; rw [h]⟩

/-- A served transfer has its effect on the state that has been granted it. -/
theorem State.cpl_admitted {s : State} {ini page off : Nat} {f : State → State} (h : s.admits ini page off = true) :
    s.cpl ini page off f = .next (f (s.reached ini page)) := by
  unfold State.admits at h
  simp only [Bool.and_eq_true, Bool.not_eq_true'] at h
  obtain ⟨⟨⟨⟨h1, h0⟩, h2⟩, h3⟩, h4⟩ := h
  obtain ⟨m, c, x, hm⟩ := s.granted_d ini page
  have e1 : (s.granted ini page).d.planeClosed ini page = false := by rw [hm]; exact h2
  have e2 : (s.granted ini page).d.blockClosed page off = false := by rw [hm]; exact h4
  have e3 : (pageKind page).isNone = false := by cases hk : pageKind page <;> simp_all
  unfold State.cpl
  simp only [h1, h0, e1, e2, e3, Bool.true_eq_false, Bool.false_eq_true, or_self, if_false, State.reached]

/-- A transfer of a running requester that is granted but not served ends with a bus error and nothing else. -/
theorem State.cpl_refused {s : State} {ini page off : Nat} {f : State → State} (h : s.d.live (iniIsland ini) = true)
    (g : s.d.hasGrant ini = true) (n : s.admits ini page off = false) : s.cpl ini page off f = .next (s.bounced ini page) := by
  unfold State.admits at n
  obtain ⟨m, c, x, hm⟩ := s.granted_d ini page
  have e1 : (s.granted ini page).d.planeClosed ini page = s.d.planeClosed ini page := by rw [hm]; rfl
  have e2 : (s.granted ini page).d.blockClosed page off = s.d.blockClosed page off := by rw [hm]; rfl
  unfold State.cpl State.bounced
  simp only [h, g, Bool.true_eq_false, or_self, if_false, e1, e2]
  rw [if_pos]
  cases hk : pageKind page <;> cases h2 : s.d.planeClosed ini page <;> cases h4 : s.d.blockClosed page off <;> simp_all

/-- A requester without a grant, or whose island does not run, changes nothing. -/
theorem State.cpl_held {s : State} {ini page off : Nat} {f : State → State}
    (h : s.d.live (iniIsland ini) = false ∨ s.d.hasGrant ini = false) : s.cpl ini page off f = .next s := by
  unfold State.cpl
  rw [if_pos h]

theorem State.cplD_admitted {s : State} {ini page off : Nat} {f : Die → Die} (h : s.admits ini page off = true) :
    s.cplD ini page off f = .next ((s.reached ini page).onD f) := State.cpl_admitted h

/-- An event of an island that runs. -/
theorem State.at_live {s : State} {i : Nat} {f : Die → Die} (h : s.d.live i = true) : s.at_ i f = .next (s.onD f) := by
  unfold State.at_ State.onD
  simp [h]

/-- An event of an island that does not run. -/
theorem State.at_dead {s : State} {i : Nat} {f : Die → Die} (h : s.d.live i = false) : s.at_ i f = .next s := by
  unfold State.at_
  simp [h]

/-- Whatever its island does, an event changes the die alone. -/
theorem State.at_next (i : Nat) (f : Die → Die) : ∃ t, s.at_ i f = .next t ∧ t.a = s.a ∧ t.pending = s.pending := by
  unfold State.at_
  split <;> exact ⟨_, rfl, rfl, rfl⟩

/-- Whatever becomes of a transfer, its effect on the die leaves the always-on island and the queue alone, but for
`DEBUG_SEEN`. -/
theorem State.cplD_next (ini page off : Nat) (f : Die → Die) : ∃ t, s.cplD ini page off f = .next t ∧
    t.pending = s.pending ∧ (t.a = s.a ∨ t.a = { s.a with sec := { s.a.sec with debugSeen := true } }) := by
  have ha := s.granted_a ini page
  unfold State.cplD State.cpl
  dsimp only
  split
  · exact ⟨_, rfl, rfl, .inl rfl⟩
  · have : (s.granted ini page).a = s.a ∨ (s.granted ini page).a = { s.a with sec := { s.a.sec with debugSeen := true } } := by
      rw [ha]; split
      · exact .inr rfl
      · exact .inl rfl
    split
    · exact ⟨_, rfl, rfl, this⟩
    · exact ⟨_, rfl, rfl, this⟩

end Sys2Proof.Machine
end

