-- ==== Sys2Proof/Laws/Ops.lean ====
section
/-!
SUPPORT. What the shared operations of `Machine/Ops.lean` and the bulk copy of the boot ROM can do, said once.
-/

namespace Sys2Proof.Machine

variable (d : Die)

/-! ## Trace, errors and the sideband -/

/-- Counting a trace record moves counters alone. -/
theorem Die.traceCount_eq (i k : Nat) : ∃ c, d.traceCount i k = { d with ctr := c } := by
  have one : ∀ (l : List Nat) (e : Die), (∃ c, e = { d with ctr := c }) → ∃ c, l.foldl (fun d n =>
      let w := sget d.trSel 0 (i * 4 + n)
      if bit w 31 ∧ fld w 7 0 = k then d.count pgDbg (0x100 + i * 4 + n) else d) e = { d with ctr := c } := by
    intro l
    induction l with
    | nil => exact fun e h => h
    | cons n t ih =>
      rintro e ⟨c, rfl⟩
      refine ih _ ?_
      dsimp only
      split
      · exact ⟨_, rfl⟩
      · exact ⟨c, rfl⟩
  exact one _ _ ⟨d.ctr, rfl⟩

/-- A trace record moves only trace counters, the free values, sequence numbers and the trace itself. -/
theorem Die.trace_eq (i k : Nat) (p : Word) :
    ∃ c f n r t, d.trace i k p = { d with ctr := c, free := f, trS := n, trRec := r, trc := t } := by
  obtain ⟨c, h⟩ := d.traceCount_eq i k
  unfold Die.trace
  rw [h]
  dsimp only [Die.takeFree]
  split
  · split
    · exact ⟨_, _, _, _, _, rfl⟩
    · exact ⟨_, _, _, _, _, rfl⟩
  · exact ⟨_, _, _, _, _, rfl⟩

/-- Setting an island's error bit changes its island and writes a trace record. -/
theorem Die.islErr_eq (i b : Nat) :
    ∃ c f n r t, d.islErr i b = { d.updIsl i (fun s => { s with err := s.err ||| 2 ^ b }) with ctr := c, free := f, trS := n, trRec := r, trc := t } :=
  Die.trace_eq _ i 7 _

/-- A message enters input 4 of its own node, and nothing else changes. -/
theorem Die.send_eq (src dst : Nat) (b : SbBody) :
    ∃ m, m.dst = dst ∧ m.src = src ∧ m.body = b ∧ d.send src dst b = { d with sbq := pushAt d.sbq (src * 6 + 4) m } :=
  ⟨_, rfl, rfl, rfl, rfl⟩

/-- The message taken was at the node and satisfies the test; the die loses that message alone. -/
theorem Die.takeArr_eq {n : Nat} {p : SbMsg → Bool} {m : SbMsg} {e : Die} (h : d.takeArr n p = some (m, e)) :
    m ∈ sget d.sbArr [] n ∧ p m = true ∧ ∃ i, e = { d with sbArr := sset d.sbArr [] n (dropAt (sget d.sbArr [] n) i) } := by
  unfold Die.takeArr at h
  dsimp only at h
  split at h
  · cases h
  · next i hi =>
    split at h
    · cases h
    · next x hx =>
      cases h
      obtain ⟨hl, hp, -⟩ := List.findIdx?_eq_some_iff_getElem.1 hi
      rw [List.getElem?_eq_getElem hl] at hx
      cases hx
      exact ⟨List.getElem_mem hl, hp, _, rfl⟩

/-! ## Memory -/

/-- Recording a write in the changed map changes that map alone. -/
theorem Die.markChanged_eq (a : Nat) : ∃ m, d.markChanged a = { d with changed := m } := by
  unfold Die.markChanged
  dsimp only
  split
  · exact ⟨_, rfl⟩
  · exact ⟨d.changed, rfl⟩

/-- A stack write stores its bytes, and changes nothing else but the changed maps. -/
theorem Die.stackWrite_eq (a : Nat) (bs : List Byte) : ∃ m, d.stackWrite a bs = { d.setBytes a bs with changed := m } := by
  unfold Die.stackWrite
  split
  · obtain ⟨m, h⟩ := (d.setBytes a bs).markChanged_eq a
    obtain ⟨k, h'⟩ := ((d.setBytes a bs).markChanged a).markChanged_eq (a + bs.length - 1)
    exact ⟨k, by rw [h', h]⟩
  · exact ⟨d.changed, rfl⟩

theorem Die.byte_stackWrite (a : Nat) (bs : List Byte) (x : Nat) :
    (d.stackWrite a bs).byte x = if a ≤ x ∧ x < a + bs.length then bs.getD (x - a) 0 else d.byte x := by
  obtain ⟨m, h⟩ := d.stackWrite_eq a bs
  rw [h]
  exact d.byte_setBytes a bs x

theorem Die.wf_stackWrite (a : Nat) (bs : List Byte) (h : Memory.wf d.mem = true) : Memory.wf (d.stackWrite a bs).mem = true := by
  obtain ⟨m, e⟩ := d.stackWrite_eq a bs
  rw [e]
  exact d.wf_setBytes a bs h

/-- The boot ROM's copy from flash keeps the canonical form. -/
theorem wf_cellCopy (src dst : List Host.Cell) (a b n : Nat) (h : Memory.wf dst = true) : Memory.wf (cellCopy src dst a b n) = true := by
  have go : ∀ (l m : List Host.Cell), Memory.wf m = true →
      Memory.wf (l.foldl (fun m c => sset m 0 (c.1 - a + b) c.2) m) = true := by
    intro l
    induction l with
    | nil => exact fun _ hm => hm
    | cons c t ih => exact fun m hm => ih _ (storeWf_sset _ _ hm)
  exact go _ _ (storeWf_sclear b n h)

theorem Die.mem_markChanged (a : Nat) : (d.markChanged a).mem = d.mem := by
  obtain ⟨m, h⟩ := d.markChanged_eq a
  rw [h]

theorem Die.wf_loadSlot (src : Nat) (h : Memory.wf d.mem = true) : Memory.wf (d.loadSlot src).mem = true := by
  unfold Die.loadSlot
  dsimp only
  split
  · exact h
  · simp only [Die.updStk_mem, Die.mem_markChanged, Die.count_mem]
    exact wf_cellCopy _ _ _ _ _ h

/-! ## Stack accesses -/

/-- Opening a bank moves the bank's row and refresh state of its stack alone. -/
theorem Die.mem_openBank (s b : Nat) : (d.openBank s b).mem = d.mem := by
  unfold Die.openBank
  split <;> rfl

theorem Die.wf_writeBurst (s b : Nat) (bs : List Byte) (h : Memory.wf d.mem = true) : Memory.wf (d.writeBurst s b bs).mem = true := by
  unfold Die.writeBurst Die.newerWrite
  rw [Die.updStk_mem]
  exact Die.wf_stackWrite _ _ _ (by rw [Die.count_mem, Die.mem_openBank]; exact h)

theorem Die.wf_deliver (s : Nat) (r : Retry) (bs : List Byte) (h : Memory.wf d.mem = true) : Memory.wf (d.deliver s r bs).mem = true := by
  unfold Die.deliver
  split
  · exact h
  · cases r.wr with
    | none => simpa only [Die.respond_mem] using h
    | some v =>
      dsimp only
      split
      · exact d.wf_writeBurst _ _ _ h
      · rw [Die.respond_mem]
        exact d.wf_writeBurst _ _ _ h

theorem Die.mem_noteCorrected (s b n : Nat) (scrub : Bool) (bs : List Byte) : (d.noteCorrected s b n scrub bs).mem = d.mem := by
  unfold Die.noteCorrected
  dsimp only
  split <;> rfl

/-- A read of a burst, or the read of a read-modify-write, keeps the canonical form. -/
theorem Die.wf_readBurst (s : Nat) (r : Retry) (n mis : Nat) (again : Bool) (h : Memory.wf d.mem = true) :
    Memory.wf (d.readBurst s r n mis again).mem = true := by
  have h1 : Memory.wf ((if r.reader = 2 then d else d.count (pgStk s) 1).openBank s r.burst).mem = true := by
    rw [Die.mem_openBank]
    split <;> exact h
  unfold Die.readBurst
  dsimp only
  generalize (if r.reader = 2 then d else d.count (pgStk s) 1).openBank s r.burst = e at h1 ⊢
  have h2 : ∀ x : List Byte, Memory.wf (if deceived (e.decMode s) n mis then e.freeBurst else (e, x)).1.mem = true := by
    intro x
    split <;> exact h1
  split
  · exact Die.wf_deliver _ _ _ _ (h2 _)
  · exact Die.wf_deliver _ _ _ _ (by rw [Die.mem_noteCorrected]; exact h2 _)
  · split
    · split <;> exact h1
    · rw [Die.updStk_mem]
      split <;> exact h1

/-- A block's write within a burst keeps the canonical form, whether it is made, waits or is refused. -/
theorem Die.wf_access (s : Nat) (r : Retry) (n mis : Nat) (h : Memory.wf d.mem = true) : Memory.wf (d.access s r n mis).mem = true := by
  unfold Die.access
  split
  · exact d.wf_readBurst _ _ _ _ _ h
  · split
    · exact d.wf_deliver _ _ _ h
    · exact Die.wf_readBurst _ _ _ _ _ _ h

theorem Die.wf_arrive (s : Nat) (r : Retry) (n mis : Nat) (h : Memory.wf d.mem = true) : Memory.wf (d.arrive s r n mis).mem = true := by
  unfold Die.arrive
  dsimp only
  split
  · split <;> exact h
  · exact d.wf_access _ _ _ _ h

/-- A block's write within one burst keeps the canonical form, refused or not. -/
theorem Die.wf_putPiece (a : Nat) (bs : List Byte) (h : Memory.wf d.mem = true) : Memory.wf (d.putPiece a bs).1.mem = true := by
  unfold Die.putPiece
  split
  · exact h
  · split
    · exact h
    · exact d.wf_arrive _ _ _ _ h

/-- So does its write of a range. -/
theorem Die.wf_stackPut (a : Nat) (bs : List Byte) (h : Memory.wf d.mem = true) : Memory.wf (d.stackPut a bs).1.mem = true := by
  have go : ∀ (l : List Nat) (x : Die × Bool), Memory.wf x.1.mem = true →
      Memory.wf (l.foldl (fun (acc : Die × Bool) b =>
        let lo := max a b
        let r := acc.1.putPiece lo ((bs.drop (lo - a)).take (b + 64 - lo))
        (r.1, acc.2 && r.2)) x).1.mem = true := by
    intro l
    induction l with
    | nil => exact fun _ hx => hx
    | cons b t ih => exact fun x hx => ih _ (x.1.wf_putPiece _ _ hx)
  exact go _ _ h

theorem wf_reset : Memory.wf State.reset.d.mem = true := rfl

end Sys2Proof.Machine
end

