-- ==== Sys2Proof/WellFormed.lean ====
section
/-!
DEFINITION. Well-formed commands: the relations between a command's operands that their types do not say. A
command that is not well formed describes no access or event of the hardware.
-/

namespace Sys2Proof

/-- Bytes of an access on the control plane (12 Table 12-1). -/
def accessSize (n : Nat) : Bool := [1, 2, 4, 8, 16, 32, 64].contains n

/-- A value fits in an access of `n` bytes. -/
def fitsBytes (n v : Nat) : Bool := decide (v < 2 ^ (8 * n))

/-- A frame: sixteen header words, and a payload of the `LEN` units its header gives, 0 to 68 (10 R292). -/
def Machine.Frame.wf (f : Machine.Frame) : Bool :=
  let len := (f.hdr.getD 0 0).toNat / 65536 % 128
  decide (f.hdr.length = 16) && decide (len ≤ 68) && decide (f.pay.length = 64 * len)

/-- A codeword: ten units of 64 B (10 R288). -/
def Machine.Codeword.wf (c : Machine.Codeword) : Bool := decide (c.units.length = 10) && c.units.all (fun u => decide (u.length = 64))

/-- Words found in error by reads of the Vat: a sheet, and a line 0 to 31 or 32 for the side band (05 R147). -/
def vatErrsWf (es : List (Nat × Nat × Bool)) : Bool := es.all (fun e => decide (e.1 < 2097152) && decide (e.2.1 ≤ 32))

/-- Bursts found in error: a stack address, and symbols in error at the read and the re-read (08 R243). -/
def burstErrsWf (es : List (Nat × Nat × Nat)) : Bool :=
  es.all (fun e => decide (e.1 < 549755813888) && decide (e.2.1 ≤ 36) && decide (e.2.2 ≤ 36))

/-- What a run of Table 8-5 finds: failed pins, as a channel and an 18-bit map, and two eyes to a burst (08 R250). -/
def runWf (pins eyes : List (Nat × Nat)) : Bool :=
  pins.all (fun p => decide (p.1 < 128) && decide (p.2 < 262144)) && eyes.all (fun e => decide (e.1 < 256) && decide (e.2 < 256))

/-- Islands named by a clock monitor or a wake: numbers below 92. -/
def islandsWf (l : List Nat) : Bool := l.all (fun i => decide (i < 92))

/-- The command is well formed. -/
def Instr.wf (i : Instr) : Bool :=
  match i with
  | .registerWrite _ _ _ size _ => accessSize size
  | .vatWindowRead _ _ size _ _ => accessSize size
  | .vatWindowWrite _ _ size v _ _ => accessSize size && fitsBytes size v
  | .stackAccess _ _ _ size wr _ _ => accessSize size && (match wr with
    | none => true
    | some v => fitsBytes size v)
  | .stackBringup _ pins eyes chans es =>
    chans.all (fun c => decide (c < 128)) && runWf pins eyes && burstErrsWf es
  | .codeword _ c _ => c.wf
  | .levelChangeDone _ bad => islandsWf bad
  | .wakeDone bad lost runs =>
    islandsWf bad && lost.all (fun n => decide (n < 8)) && runs.all (fun r => decide (r.1 < 8) && runWf r.2.1 r.2.2)
  | .page _ v => decide (v < 256)
  | .hello _ f => f.wf
  | .heartbeat _ f => f.wf
  | .credit _ f => f.wf
  | .dataSheet _ f => f.wf
  | .dataSkim _ f => f.wf
  | .dataHost _ f => f.wf
  | .query _ f => f.wf
  | .report _ f => f.wf
  | .assign _ f => f.wf
  | .addrAck _ f => f.wf
  | .fence _ f => f.wf
  | .linkEvent _ f => f.wf
  | .routeWrite _ f => f.wf
  | .routeCommit _ f => f.wf
  | .routeSync _ f => f.wf
  | .fabGrant _ f => f.wf
  | .final _ f => f.wf
  | .repeatStream _ f => f.wf
  | .collAbort _ f => f.wf
  | .wakeFrame _ f => f.wf
  | .opa _ f => vatErrsWf f
  | .opaT _ f => vatErrsWf f
  | .loadacc _ f => vatErrsWf f
  | .drain _ f => vatErrsWf f
  | .matvec _ f => vatErrsWf f
  | .vec _ f => vatErrsWf f
  | .tableApply _ f => vatErrsWf f
  | .copy _ f => vatErrsWf f
  | .convert _ f => vatErrsWf f
  | .rngFill _ f => vatErrsWf f
  | .reduce _ f => vatErrsWf f
  | .skimPart _ f => vatErrsWf f
  | .update _ f => vatErrsWf f
  | .gather _ _ => true
  | .coll _ _ => true
  | .matvecPassEnd _ f => vatErrsWf f
  | .bpoolRequest _ _ _ _ f => vatErrsWf f
  | .descriptorComplete _ _ _ f => vatErrsWf f
  | .writebackDone _ _ => true
  | .descriptorFetch _ _ f _ => burstErrsWf f
  | .place _ f => burstErrsWf f
  | .pages _ f => burstErrsWf f
  | .fillDone _ _ => true
  | .prefetchRequest _ f => burstErrsWf f
  | .sgOperationEnd f => burstErrsWf f
  | .flXferDone f => burstErrsWf f
  | .mgmtFrameRx _ f => burstErrsWf f
  | .mgmtFrameTx f => burstErrsWf f
  | .bootData _ f => burstErrsWf f
  | .networkBootTimeout f => burstErrsWf f
  | .dbgBootGo _ f => burstErrsWf f
  | .blkCommit _ _ => true
  | .mboxSel _ _ _ => true
  | .mboxDataHi _ _ => true
  | .indData _ _ _ _ => true
  | .bitAlias _ _ _ size => accessSize size
  | .windowEntry _ _ => true
  | .nop _ => true
  | .barrier _ => true
  | .signal _ => true
  | .swapTokenEntry _ => true
  | .flushToken _ => true
  | .tbufHalfFill _ => true
  | .bpoolTimeout _ => true
  | .numClear _ _ => true
  | .ftabSwapRequest _ _ => true
  | .ftabSwap _ => true
  | .start _ _ _ => true
  | .stop _ _ _ => true
  | .resume _ _ _ => true
  | .abort _ _ _ => true
  | .reset _ _ _ => true
  | .flip _ _ _ => true
  | .pregArm _ _ _ => true
  | .ackIrq _ _ _ => true
  | .eventSignal _ => true
  | .vatWindowTimeout _ _ => true
  | .patrolScrub _ _ => true
  | .feltPush _ => true
  | .feltPushBuffer _ => true
  | .push _ _ _ _ => true
  | .slotPlanLoad => true
  | .remove _ => true
  | .declare => true
  | .setHint => true
  | .release => true
  | .share => true
  | .writeback => true
  | .cmdAck _ => true
  | .homeFrameTaken _ => true
  | .zeroFillDone _ => true
  | .drainDone _ => true
  | .stackGrant _ => true
  | .rateWindow => true
  | .spillIdleWriteback _ => true
  | .pfWalkResume _ => true
  | .pfAdvance _ _ => true
  | .pfReset _ _ => true
  | .enable _ _ => true
  | .retire _ _ => true
  | .jobAbort _ _ => true
  | .abortingClear _ => true
  | .barArrive _ _ _ => true
  | .barrierRelease _ _ => true
  | .deckleReady => true
  | .lathFlit _ _ _ _ => true
  | .violation _ => true
  | .crossingExit _ _ _ => true
  | .seamCredit _ _ => true
  | .circuitOpen _ es vs => burstErrsWf es && vatErrsWf vs
  | .sidebandMessage _ _ _ => true
  | .accLanding _ => true
  | .reducerContribution _ _ _ _ => true
  | .fallbackStart _ => true
  | .reexec _ => true
  | .islErrClr _ _ _ => true
  | .readRetry _ _ _ => true
  | .correctiveWrite _ => true
  | .refresh _ _ _ _ => true
  | .stackScrub _ _ _ => true
  | .stkErrAck _ _ _ => true
  | .hot _ _ => true
  | .skimContribution _ => true
  | .collect _ => true
  | .screedNotice => true
  | .skimEnable _ _ => true
  | .skimDisable _ _ => true
  | .forceSkip _ _ => true
  | .skimAck _ _ => true
  | .linkEnable _ _ => true
  | .linkTraining _ => true
  | .laneLock _ _ => true
  | .helloTimer _ => true
  | .fabSilence _ => true
  | .heartbeatTimer => true
  | .creditTimer _ => true
  | .coordinator => true
  | .collTimeout _ => true
  | .txTail _ _ f => burstErrsWf f
  | .eventAck _ => true
  | .cpErrClr _ _ _ => true
  | .capture _ _ => true
  | .fold0 _ _ => true
  | .fold1 _ _ => true
  | .sgCommit _ _ => true
  | .abandon _ _ => true
  | .serve _ _ => true
  | .fill _ _ => true
  | .rebuild _ _ => true
  | .restore _ _ => true
  | .sgResume _ _ => true
  | .sgAck _ _ => true
  | .flXfer _ _ => true
  | .flashMedia _ => true
  | .flErrClr _ _ => true
  | .mgErrClr _ _ => true
  | .sourceAssert _ _ => true
  | .claim _ _ => true
  | .eoi _ _ _ => true
  | .ipendSet _ _ _ => true
  | .ipendClr _ _ _ => true
  | .imaskSet _ _ _ => true
  | .imaskClr _ _ _ => true
  | .holdoffExpiry _ => true
  | .arbiterGrant _ _ => true
  | .arbiterRetry _ _ => true
  | .carbClass _ _ _ => true
  | .wbAck _ => true
  | .eaAck _ => true
  | .goWest _ => true
  | .goEast _ => true
  | .levelQuiescent _ => true
  | .levelTimeout _ => true
  | .sleep _ => true
  | .sleepQuiet => true
  | .sleepTimeout => true
  | .wake _ => true
  | .wakePin => true
  | .wakeTimer => true
  | .pwrAck _ => true
  | .wakeAck _ => true
  | .powerOn _ => true
  | .brownOut => true
  | .pinReset _ => true
  | .softwareReset _ _ _ => true
  | .debugReset _ _ => true
  | .referenceFailure => true
  | .clockFault _ => true
  | .lockUp _ => true
  | .watchdog => true
  | .wdtStart _ => true
  | .kick _ => true
  | .lockupAck _ => true
  | .suspectAck _ => true
  | .histAck _ => true
  | .releaseSequence _ _ => true
  | .islandRelease _ => true
  | .force _ _ => true
  | .bootRequestRetry => true
  | .secHartGo _ _ => true
  | .attest _ => true
  | .rollbackAdvance _ _ => true
  | .revokeEd _ _ => true
  | .revokeMldsa _ _ => true
  | .secAck _ => true
  | .secCommandEnd => true
  | .extest => true
  | .samplePreload _ => true
  | .idcode => true
  | .dbgport => true
  | .dmi => true
  | .bypass => true
  | .dbgportAccess _ _ _ _ _ _ _ _ => true
  | .inject _ => true
  | .injAck _ => true
  | .freeze _ => true
  | .thaw _ => true
  | .mark _ _ => true
  | .prechargeMate => true
  | .mainSwitchClose _ _ => true
  | .mainSwitchOpen _ _ => true
  | .thermalTrip _ _ => true
  | .tripHoldExpiry => true
  | .matedDebounce => true
  | .surpriseRemoval => true
  | .off _ => true
  | .offPowerDown => true
  | .tripAck _ => true
  | .clearFaults => true
  | .voutMode => true
  | .statusWord => true
  | .statusVout => true
  | .statusIout => true
  | .statusInput _ _ => true
  | .statusTemperature => true
  | .readVin _ => true
  | .readIin _ => true
  | .readVout _ => true
  | .readIout _ => true
  | .readTemperature1 _ => true
  | .readPout _ => true
  | .readPin _ => true
  | .mfrId => true
  | .mfrModel => true
  | .resetScrubDone _ => true
  | .warm _ _ => true
  | .codewordLockLoss _ _ => true
  | .mgLinkUp _ _ => true
  | .refFallback => true
  | .referenceInRange => true
  | .dmiAccess _ _ _ _ _ _ _ => true

end Sys2Proof
end

