-- ==== Sys2Proof/Tests/Slice0.lean ====
section
/-!
SUPPORT. Tests: ill-formed commands are refused, every hypothesis of the statements is met by a state, and single
steps answer what the specification says.
-/

namespace Sys2Proof.Tests

set_option Elab.async false

open Sys2Proof Sys2Proof.Machine

/-- The reset state with a change of its die: the small states of these tests. -/
def wit (f : Die → Die) : State := { State.reset with d := f State.reset.d }

/-- As `wit`, with a change of the always-on island too. -/
def witA (f : Die → Die) (g : Aon → Aon) : State := { wit f with a := g State.reset.a }

/-- Requester `r` holds the arbiter's grant. -/
def granted (r : Nat) (d : Die) : Die := { d with carb := { d.carb with holder := some r } }

/-! ## Hypotheses of the statements: states that meet them -/

/-- The host and the debug port reach every page that the statements name. -/
theorem witness_admits : (∀ p ∈ [(pgRst, 0x108), (pgRst, 0x10C), (pgRst, 0x118), (pgRst, 0x128), (pgPwr, 0x108), (pgPwr, 0x144),
      (pgIntc, 0x180), (pgIntc, 0x1FC), (pgIntc, 0x200), (pgIntc, 0x300), (pgIntc, 0x3FC), (pgIntc, 0x500), (pgIntc, 0x53C),
      (pgIntc, 0x540), (pgIntc, 0x57C), (pgCarb, 0x100), (pgCarb, 0x104), (pgSys, 0x13C), (pgMgmt, 0x10C), (pgFlash, 0x108),
      (pgFlash, 0x10C), (pgFlash, 0x14C), (pgIsl 0, 0x44), (pgIsl 63, 0x108), (pgPort 0, 0x1C), (pgPort 15, 0x110), (pgStk 7, 0x11C),
      (pgFab, 0x11C), (pgFab, 0x124), (pgSec, 0x10C), (pgSec, 0x114), (pgDbg, 0x104), (pgDbg, 0x10C), (pgDbg, 0x110), (pgDbg, 0x11C),
      (pgSkim, 0x10C), (pgDk, 0x10C), (pgJob 0, 0x118), (pgJob 31, 0x11C), (pgCore 0, qcmdOff 0), (pgCore 4031, 0x108)],
    State.reset.admits 0 p.1 p.2 = true ∧ State.reset.admits 16 p.1 p.2 = true) := by decide +kernel

theorem witness_module_reset_sources :
    let s := witA id (fun a => { a with wdtRunning := true })
    s.d.pw.release = none ∧ s.d.pw.offBusy = false ∧ s.d.pw.off = false ∧ s.a.wdtRunning = true ∧ s.d.pw.asleep = false := by decide

theorem witness_island_resets :
    let s := wit (fun d => d.setReg pgRst 0x120 1)
    s.d.pw.release = none ∧ s.d.pw.offBusy = false ∧ s.d.pw.off = false ∧ s.d.pw.stopped 0 = false ∧ s.d.pw.stopped 90 = false ∧
      s.admits 15 pgRst 0x108 = true ∧ s.admits 16 pgRst 0x108 = true ∧ s.d.live 63 = true ∧ s.d.live 88 = true ∧
      s.d.reg pgRst 0x120 ≠ 0 ∧ s.a.tap.halted.testBit 15 = false := by decide +kernel

theorem witness_reset_page_commands :
    let s := witA (fun d => d.updIst 90 (fun t => { t with inReset := true })) (fun a => { a with wdtRunning := true })
    State.reset.admits 0 pgRst 0x118 = true ∧ s.admits 16 pgRst 0x118 = true ∧ s.a.wdtRunning = true ∧
      s.admits 16 pgRst 0x128 = true ∧ (s.d.ist 90).inReset = true := by decide +kernel

theorem witness_release_moves_on :
    let at_ (n : Nat) : Die → Die := fun d => d.updPw (fun p => { p with release := some n })
    (wit (at_ 2)).d.pw.mainOn = true ∧ (wit (at_ 2)).d.pw.relCode ≤ 3 ∧ (wit (at_ 2)).d.pw.release = some 2 ∧
      (wit (at_ 4)).d.pw.release = some 4 ∧ (wit (at_ 5)).a.refDead = false ∧ (wit (at_ 5)).a.clkEff = 0 ∧
      (witA (at_ 5) (fun a => { a with clkEff := 2, refDead := true })).a.clkEff ≠ 0 ∧
      (let s := wit (fun d => d.updIst 90 (fun t => { t with inReset := true }))
       (s.d.ist 90).inReset = true ∧ s.d.pw.release = none ∧ s.d.pw.mainOn = true ∧ s.d.pw.off = false ∧ s.d.pw.offBusy = false) := by
  decide +kernel

theorem witness_level_requests :
    (let s := wit (fun d => d.setReg pgPwr 0x104 0)
     s.admits 0 pgPwr 0x108 = true ∧ s.d.pw.gone = false ∧ s.d.pw.sleepBusy = false ∧ s.d.spanning = false ∧ s.d.pw.busyW = false ∧
       s.d.pw.deferW = false ∧ fld (s.d.reg pgPwr 0x104) 1 0 ≠ s.d.pw.levW ∧ fld (s.d.reg pgPwr 0x104) 3 2 ≠ s.d.pw.levE ∧
       s.a.trim.levelOk.testBit (fld (s.d.reg pgPwr 0x104) 1 0) = true) ∧
    (let s := wit (fun d => d.updPw (fun p => { p with busyW := true, goW := some 0 }))
     s.d.pw.busyW = true ∧ s.d.pw.deferW = false ∧ s.d.pw.goW = some 0 ∧ s.d.pw.chgW = none ∧ s.d.quiescent true false = true ∧
       s.d.reg pgPwr 0x110 ≠ 0) ∧
    (let s := wit (fun d => d.updPw (fun p => { p with busyE := true, chgE := some 1 }))
     s.d.pw.busyE = true ∧ s.d.pw.deferE = false ∧ s.d.pw.chgE = some 1 ∧ s.d.pw.lateResets = []) := by decide +kernel

theorem witness_sleep_and_wake :
    (State.reset.d.pw.gone = false ∧ State.reset.d.pw.sleepBusy = false ∧ State.reset.d.pw.asleep = false ∧
      State.reset.d.pw.release = none ∧ State.reset.a.trim.loading = false ∧ (∀ i, i < 91 → (State.reset.d.ist i).inReset = false)) ∧
    (let s := wit (fun d => d.updPw (fun p => { p with sleepBusy := true }))
     s.d.pw.sleepBusy = true ∧ s.d.circs = [] ∧ (∀ n, n < 8 → (s.d.stack n).retries = []) ∧ s.d.reg pgPwr 0x110 ≠ 0) ∧
    (let s := wit (fun d => (((d.updPw (fun p => { p with asleep := true })).setReg pgPwr 0x114 7).setReg pgPwr 0x118 1).updPort 15
        (fun x => { x with link := 4 }))
     s.d.pw.asleep = true ∧ s.d.pw.gone = false ∧ s.d.pw.waking = false ∧ s.admits 16 pgPwr 0x108 = true ∧
       bit (s.d.reg pgPwr 0x114) 1 = true ∧ bit (s.d.reg pgPwr 0x114) 0 = true ∧ s.d.reg pgPwr 0x118 ≠ 0 ∧ s.d.live 87 = true ∧
       s.d.up 15 = true) ∧
    (wit (fun d => d.updPw (fun p => { p with waking := true }))).d.pw.waking = true := by decide +kernel

theorem witness_power_entry_and_trips :
    State.reset.d.pw.tripHold = false ∧ State.reset.d.pw.off = false ∧ State.reset.d.pw.mainOn = true ∧ State.reset.d.pw.gone = false ∧
      (wit (fun d => d.updPw (fun p => { p with release := some 1 }))).d.pw.release = some 1 ∧ State.reset.d.pw.release ≠ some 1 ∧
      (wit (fun d => d.updPw (fun p => { p with offBusy := true }))).d.pw.offBusy = true := by decide

theorem witness_pmbus : State.reset.a.pmb.page = 0 ∧ State.reset.d.part.grade = 0 ∧
    (wit (fun d => { d with part := { d.part with grade := 1 } })).d.part.grade = 1 ∧
    (witA id (fun a => { a with pmb := { a.pmb with page := 6 } })).a.pmb.page = 6 := by decide

theorem witness_interrupts :
    let s := wit (fun d => ((d.updIntc (fun y => { y with pend := srcBit 1022, mask := 0 }))).setReg pgIntc (0x600 + 4 * 511) 0x8000)
    State.reset.d.live 90 = true ∧ s.d.eligible 15 1022 = true ∧ (∀ m, m < 1022 → s.d.eligible 15 m = false) ∧
      (∀ m, m < 1023 → State.reset.d.eligible 0 m = false) ∧ State.reset.asserted 1022 true = false ∧
      srcHas State.reset.d.intc.level 0 = false ∧
      (let t := wit (fun d => d.updIntc (fun y => { y with active := srcBit 1022, pend := srcBit 1022, claimer := sset y.claimer 0 1022 15 }))
       srcHas t.d.intc.active 1022 = true ∧ srcHas t.d.intc.pend 1022 = true ∧ sget t.d.intc.claimer 0 1022 = 15) := by decide +kernel

theorem witness_interrupt_sources :
    let s := wit (fun d => d.updDk (fun x => { x with donePend := true }))
    s.asserted 192 true = true ∧ srcHas s.d.intc.level 192 = false := by decide +kernel

theorem witness_arbiter_contest :
    let s := wit (fun d => { d with carb := { d.carb with streak := sset [] 0 20 1 } })
    s.d.live 90 = true ∧ s.d.carb.holder = none ∧ s.d.carbPick [0, 20] = some 0 ∧
      s.d.carbPick ((List.range 21).filter (fun r => (0x100001 : BitVec 21).toNat.testBit r)) = some 0 ∧ 0 < s.d.streakOf 20 := by decide +kernel

theorem witness_error_acknowledgements :
    State.reset.d.sg.busy = false ∧ State.reset.a.sec.cmd = none ∧ State.reset.d.enabled 0 = true ∧ State.reset.d.enabled 4031 = true := by
  decide +kernel

/-- A frame of 60 zero bytes and its check sequence, to another station or to this one. -/
def tEth (other : Bool) : List Byte :=
  let bs := (if other then 2 else 0) :: List.replicate 59 0
  bs ++ leBytes 4 (crc32 bs).toNat

theorem witness_management_port :
    (let s := wit (fun d => (d.setReg pgMgmt 0x104 1).updMg (fun m => { m with linkUp := true }))
     s.d.live 88 = true ∧ s.d.mgEn = true ∧ s.d.mgmt.linkUp = true ∧ (tEth true).length = 64 ∧
       (∀ b : Bool, word (leNat ((tEth b).drop 60)) = crc32 ((tEth b).take 60) ∧ isPause (tEth b) = false) ∧
       s.d.mgAccepts (tEth true) = false ∧
       (let u := wit (fun d => { ((d.setReg pgMgmt 0x104 1).updMg (fun m => { m with linkUp := true })) with part := { d.part with mac := 0 } })
        u.d.mgAccepts (tEth false) = true ∧ u.d.mgmt.stopped = false ∧ u.d.workHeld = false ∧ u.d.mgOwned 0x130 u.d.mgmt.rxHead = [])) ∧
    (let s := wit (fun d => { (((((d.setReg pgMgmt 0x104 1).setReg pgMgmt 0x13C 1).updStk 0 (fun k => { k with trained := true })).updMg
        (fun m => { m with linkUp := true })).setBytes 0 ([64] ++ List.replicate 7 0 ++ [60])) with part := { d.part with mac := 0 } })
     s.d.mgAccepts (tEth false) = true ∧ s.d.mgmt.stopped = false ∧ s.d.workHeld = false ∧ s.d.mgOwned 0x130 s.d.mgmt.rxHead = [0] ∧
       s.d.mgBase 0x130 = 0 ∧ s.d.mgBuf 0x130 0 = 64 ∧ s.d.dmaOk 0 16 true = true ∧ 60 ≤ fld (s.d.mgW 0x130 0 2) 13 0 ∧
       s.d.dmaOk 64 60 true = true ∧ s.d.orderClear 64 60 = true ∧ s.d.orderClear 0 16 = true) ∧
    (let s := wit (fun d => ((((d.setReg pgMgmt 0x104 1).setReg pgMgmt 0x11C 1).updStk 0 (fun k => { k with trained := true })).setBytes 8
        (leBytes 4 0x8000003C)))
     s.d.mgEn = true ∧ s.d.workHeld = false ∧ s.d.mgOwned 0x110 s.d.mgmt.txHead = [0] ∧ s.d.dmaOk (s.d.mgBase 0x110) 16 true = true ∧
       bit (s.d.mgW 0x110 0 2) 31 = true ∧ fld (s.d.mgW 0x110 0 2) 13 0 = 60 ∧ s.d.dmaOk (s.d.mgBuf 0x110 0) 60 false = true) := by
  decide +kernel

theorem witness_register_access :
    let s := State.reset
    pageKind 8 = some .mgmt ∧ (regInfo .mgmt 0x104).isSome = true ∧ s.admits 0 8 0x104 = true ∧
      ((s.reached 0 8).trigger .mgmt 0 0x104 1).isNone = true ∧ s.d.refusesField .mgmt 0 0x104 = false ∧ s.d.coreMuted .mgmt 0x104 = false ∧
      pageKind 0x27 = some (.stack 7) ∧ (∀ p ∈ [0x20, 0x27, pgDk, pgFab, pgFlash, pgPwr, pgDbg], s.admits 0 p 0x1C = true) := by
  decide +kernel

theorem witness_mailbox :
    let s := wit (fun d => d.updHdr 0xB (fun h => { h with mbValid := true, mbWords := [1, 2] }))
    pageKind 0xB = some .fabric ∧ s.admits 0 0xB 0x30 = true ∧ (s.reached 0 0xB).wideValue .fabric 0 = none ∧
      freeCounter .fabric 0 = false ∧ s.admits 0 0xB 0x3C = true ∧ (s.d.hd 0xB).mbValid = true := by decide +kernel

theorem witness_indirect_access :
    (let s := wit (fun d => d.updHdr pgDbg (fun h => { h with indAddr := 15 }))
     s.admits 0 pgDbg 0x44 = true ∧ (s.d.hd pgDbg).indSpace = 0 ∧ (s.d.hd pgDbg).indAddr.toNat < 16 ∧ s.d.inj.busy = false) ∧
    (let s := wit (fun d => d.updHdr 0xB (fun h => { h with indAddr := 65536 }))
     pageKind 0xB = some .fabric ∧ s.admits 0 0xB 0x44 = true ∧ spaceLen .fabric (s.d.hd 0xB).indSpace ≤ (s.d.hd 0xB).indAddr.toNat) := by
  decide +kernel

theorem witness_bit_alias : pageKind 0xBF = some (.island 63) ∧ State.reset.admits 0 0xBF 0x20 = true ∧
    ((0xBF * 4096 + 0x20) * 32 + 31) * 4 + 3 < 2147483648 ∧ (((0xBF * 4096 + 0x20) * 32 + 31) * 4 + 3) % 4 ≠ 0 ∧
    (((0xBF * 4096 + 0x20) * 32 + 31) * 4 + 3) / 4 = ((0xBF * 4096 + 0x20) * 32 + 31) * 4 / 4 := by decide +kernel

theorem witness_debug_port :
    let s := witA (granted 16) (fun a => { a with tap := { a.tap with ir := 0x10 } })
    s.a.tap.ir = 0x10 ∧ s.d.hasGrant 16 = true ∧ (wit (granted 20)).d.hasGrant 16 = false ∧ s.a.tap.status ≠ 1 ∧ s.d.planeClosed 16 0 = false ∧ retBase + 65532 + 4 ≤ retBase + 65536 ∧
      (retBase + 65532) % 4 = 0 ∧
      (witA id (fun a => { a with tap := { a.tap with ir := 0x10, status := 1 } })).a.tap.status = 1 := by decide +kernel

theorem witness_debug_module :
    let s := witA id (fun a => { a with tap := { a.tap with ir := 0x11, halted := 0x8000 } })
    s.a.tap.ir = 0x11 ∧ s.d.live 88 = true ∧ s.a.tap.halted.testBit 15 = true ∧ s.a.tap.halted.testBit 0 = false := by decide +kernel

theorem witness_security_commands :
    State.reset.a.sec.cmd = none ∧ State.reset.a.sec.debugSeen = false ∧
    (let s := witA id (fun a => { a with sec := { a.sec with cmd := some (2, 255), boot := 0x800000FF } })
     s.a.sec.cmd.isSome = true ∧ s.d.live 90 = true ∧ s.a.sec.rollback < 255 ∧ 255 ≤ fld s.a.sec.boot 7 0 ∧ bit s.a.sec.boot 31 = true) ∧
    (let s := witA id (fun a => { a with sec := { a.sec with cmd := some (3, 3), boot := 0 } })
     s.a.sec.cmd = some (3, 3) ∧ s.a.sec.revEd.testBit 3 = false ∧ bit s.a.sec.boot 31 = false) ∧
    (witA id (fun a => { a with sec := { a.sec with cmd := some (4, 255), debugSeen := true } })).a.sec.debugSeen = true := by decide +kernel

/-- A boot DATA frame of 16 bytes for offset 0 (14 Table 14-4). -/
def tBoot (serial : DWord) : List Byte :=
  let bs := List.replicate 6 0xFF ++ List.replicate 6 0 ++ [0x88, 0xB5] ++ leBytes 4 2 ++ leBytes 8 serial.toNat ++ leBytes 4 0 ++
    leBytes 2 16 ++ List.replicate 28 0
  bs ++ leBytes 4 (crc32 bs).toNat

theorem witness_network_and_debug_boot :
    (let s := witA (fun d => d.updStk 0 (fun k => { k with trained := true })) (fun a => { a with sec := { a.sec with rom := .net 0 [] } })
     s.d.live 88 = true ∧ s.a.sec.rom = .net 0 [] ∧ bootPayload s.d.part.serial 0 [] = none ∧
       bootPayload s.d.part.serial 0 (tBoot s.d.part.serial) = some (List.replicate 16 0) ∧ s.d.stackClosed 0 = false ∧
       s.d.orderClear bootBase 16 = true ∧ s.d.pinOverlap bootBase 16 = none) ∧
    (let s := witA id (fun a => { a with sec := { a.sec with rom := .hold } })
     s.admits 0 pgDbg 0x11C = true ∧ s.a.sec.rom = .hold ∧ s.d.verifyImage s.a.sec 0 false = 8) := by decide +kernel

theorem witness_trace_and_injection :
    let s := State.reset
    let x : Desc := List.replicate 16 0
    s.d.inj.busy = false ∧ fld (s.d.reg pgDbg 0x100) 11 0 = 0 ∧ s.d.enabled 0 = true ∧ (s.d.ist 0).inReset = false ∧
      fld (dWait x 0) 31 30 = 0 ∧ s.d.entryCause 0 0 x = none ∧ (List.range 16).map (fun i => sget s.d.injDesc 0 i) = x ∧
      (wit (fun d => d.updIst 0 (fun t => { t with inReset := true }))).d.ist 0 ≠ s.d.ist 0 := by decide +kernel

/-- Stack 7 is trained, with one waiting read, one corrected burst and 8 postponed refreshes of its last bank. -/
def tStack (stale : Bool) : State := wit (fun d => d.updStk 7 (fun k =>
  { k with trained := true, retries := [{ reader := 1 }], corrs := [{ data := List.replicate 64 1, stale }], postponed := sset [] 0 4095 8 }))

theorem witness_stacks :
    let s : State := { tStack false with d := granted 20 (tStack false).d }
    s.d.hasGrant 20 = true ∧ (wit (granted 0)).d.hasGrant 0 = true ∧ s.d.burstBusy 7 (68719476672 / 64) = false ∧ s.d.live 71 = true ∧ s.d.live (iniIsland 20) = true ∧ s.d.planeClosed 20 0 = false ∧ portSize 64 = true ∧ s.d.stackClosed 7 = false ∧
      (68719476672 : Nat) % 64 = 0 ∧ s.d.pinOverlap (7 * 2 ^ 36 + 68719476672) 64 = none ∧ (1 : Nat) % 64 ≠ 0 ∧
      s.d.stackClosed 0 = true ∧ decLimits (s.d.decMode 7) = (2, 2) ∧ s.d.live 88 = true ∧ s.d.planeClosed 0 0 = false ∧
      (s.d.stack 7).retries = [{ reader := 1 }] ∧ ({ reader := 1 } : Retry).dbg = false ∧ ({ reader := 1 } : Retry).fresh = false ∧
      (s.d.stack 7).retries.all (fun r => decide (bankKey r.burst ≠ 127 * 32 + 31)) = true ∧ ((tStack true).d.stack 7).corrs = [{ data := List.replicate 64 1, stale := true }] ∧
      (s.d.stack 7).corrs = [{ data := List.replicate 64 1 }] ∧ sget (s.d.stack 7).postponed 0 (127 * 32 + 31) = 8 ∧
      (s.d.stack 7).selfRefresh = false ∧ bit ((wit (fun d => d.setReg (pgStk 7) 0x104 1)).d.reg (pgStk 7) 0x104) 0 = true ∧
      (s.d.stack 7).hot ≠ decide (105 ≤ 105) ∧ (s.d.stack 7).warm ≠ decide (85 ≤ 85) ∧
      (s.d.stack 0).trained = false ∧ (s.d.stack 0).failed = false ∧ anyFailed [127] [] = true ∧ anyFailed [] [(127, 1)] = true ∧ anyFailed [] [] = false := by decide +kernel

theorem witness_pinned_ring :
    let s := wit (fun d => (((d.setQueue 0 0 { st := .running }).setReg (pgCore 0) 0x404 0x10000).setReg (pgCore 0) 0x410 0).updStk 0
      (fun k => { k with trained := true }))
    s.d.stackClosed 0 = false ∧ (s.d.pinOverlap 0 64).isSome = true := by decide +kernel

theorem witness_vat_window :
    let s := wit (fun d => granted 0 ((d.setReg (pgCore 0) 0x800 3).updSlice 0 (fun v => { v with busy := false })))
    s.d.live (iniIsland 0) = true ∧ s.d.planeClosed 0 0 = false ∧ s.d.hasGrant 0 = true ∧ s.d.windowOpen 4088 8 = true ∧ s.d.windowOpen 4088 3 = false ∧
      s.d.windowServed 4088 (s.d.windowSlot 4088) = true ∧
      s.d.hostWrites 0 = true ∧ (wit (fun d => d.setReg (pgCore 0) 0x800 0)).d.hostWrites 0 = false ∧
      (let t := wit (fun d => d.updSlice 0 (fun v => { v with busy := true }))
       t.d.live 0 = true ∧ (t.d.slice 0).busy = true) ∧
      bit (s.d.reg (pgCore 0) 0x800) 1 = true ∧ (s.d.slice 0).busy = false ∧ s.d.bankSlot 0 (bankOf 0) (fun o => decide (o = 0)) = true := by
  decide +kernel

/-- Felt queue 255 of island 63 is enabled for job 31, with `n` handles; a push has arrived and one waits. -/
def tFelt (n : Nat) (buf : List FeltPushMsg) : State := wit (fun d =>
  let e : Die := { d with sbArr := sset d.sbArr [] (islNode 63) [{ body := .felt 255 7 31 }] }
  (e.updFelt 63 255 (fun q => { q with cfg := 0x9F000000, count := n })).updIsl 63 (fun x => { x with pushBuf := buf }))

theorem witness_felt_queues :
    let s := tFelt 63 []
    s.d.live 63 = true ∧ bit (s.d.feltQ 63 255).cfg 31 = true ∧ (s.d.feltQ 63 255).count < 64 ∧ (s.d.island 63).pushBuf = [] ∧
      bit (s.d.feltQ 63 0).cfg 31 = false ∧ sget s.d.sbArr [] (islNode 63) = [{ body := .felt 255 7 31 }] ∧
      fld (s.d.feltQ 63 255).cfg 28 24 = 31 ∧ 64 ≤ ((tFelt 64 []).d.feltQ 63 255).count ∧
      (let t := tFelt 63 [{ queue := 255, handle := 1, job := some 31 }]
       (t.d.island 63).pushBuf = [{ queue := 255, handle := 1, job := some 31 }] ∧ (t.d.feltQ 63 255).count < 64 ∧
         t.d.feltRefuses 63 255 (some 31) = false) := by decide +kernel

/-- Queue 3 of core 4031 as given, with a ring half 0 of `len` descriptors and half 1 of one. -/
def tQueue (x : Queue) (len : Nat) (mode : Word) : State := wit (fun d =>
  (((d.setQueue 4031 3 x).setReg (pgCore 4031) 0x584 (word (len * 65536))).setReg (pgCore 4031) 0x58C 0x10000).setReg (pgCore 4031) 0x590 mode)

theorem witness_queue_commands :
    (let s := tQueue {} 4096 4
     s.admits 0 (pgCore 4031) (qcmdOff 3) = true ∧ s.d.enabled 4031 = true ∧ (s.d.queue 4031 3).st = .idle ∧ s.d.qmode 4031 3 = 0 ∧
       s.d.ringOk 4031 3 false = true ∧ (s.d.queue 4031 3).infl = [] ∧ bit (s.d.qreg 4031 3 0x10) 2 = true ∧
       (s.d.queue 4031 3).flip = false ∧ s.d.ringOk 4031 3 true = true) ∧
    (let s := tQueue {} 0 3
     s.d.qmode 4031 3 = 3 ∧ s.d.ringOk 4031 3 false = false ∧ bit (s.d.qreg 4031 3 0x10) 2 = false) ∧
    ((tQueue { st := .running } 1 0).d.queue 4031 3).st = .running ∧ ((tQueue { st := .brk } 1 0).d.queue 4031 3).st = .brk ∧
    (let x := (tQueue { st := .stopped, lastPass := true, infl := [{}] } 1 0).d.queue 4031 3
     x.st = .stopped ∧ x.lastPass = true ∧ x.window = [] ∧ x.infl ≠ []) ∧
    (let x := (tQueue { st := .stopped, lastPass := true } 1 0).d.queue 4031 3
     x.lastPass = true ∧ x.window = [] ∧ x.infl = []) := by decide +kernel

theorem witness_queue_fetch_and_entry :
    (let s := wit (fun d => (((d.setQueue 0 0 { st := .running }).setReg (pgCore 0) 0x404 0x10000).updStk 0 (fun k => { k with trained := true })))
     s.d.live (islOf 0) = true ∧ s.d.enabled 0 = true ∧ s.d.fetchDue 0 0 = true ∧ s.d.stackClosed (s.d.ringBase 0 0 false / 2 ^ 36) = false ∧ (s.d.stack 0).failed = false ∧
       s.d.orderClear 0 256 = true ∧ s.d.oneShot 0 0 none (fun _ => true) = true) ∧
    (let l : CLine := { words := List.replicate 64 0 }
     let s := wit (fun d => let e : Die := { d with dcache := sset d.dcache {} 0 l }
       (e.setQueue 0 0 { st := .running, entered := 3 }).setReg (pgCore 0) 0x404 0x40000)
     s.d.cachedLine 0 0 3 = some l ∧ (s.d.queue 0 0).entered < s.d.ringLen 0 0 false ∧ (s.d.queue 0 0).held = false ∧
       s.d.entryCause 0 0 (List.replicate 16 0) = none) := by decide +kernel

/-- Core 0 runs queue 0 with the descriptor `x` in its window; page 0 of job 0, homed in slice 0, is resident, and the
bank plan has a slot for every owner. -/
def tRun (x : Desc) (f : Die → Die) : State := wit (fun d =>
  let d : Die := { d with pages := sset d.pages none 0 (some { home := 256 }), objs := sset d.objs none 0 (some { st := .resident }) }
  let d := (((d.setReg (pgCore 0) 0x840 0x55555555).setReg (pgCore 0) 0x844 0xAAAAAAAA).setReg (pgCore 0) 0x848 0xFFFFFFFF)
  let d := (d.setReg (pgJob 0) 0x104 16).updJob 0 (fun j => { j with enabled := true })
  f (d.setQueue 0 0 { st := .running, window := [{ d := x }] }))

/-- A descriptor with an operation and its word 15. -/
def tDesc (w0 : Nat) (w15 : Nat) : Desc := (List.range 16).map (fun i => if i = 0 then word w0 else if i = 15 then word w15 else 0)

/-- The descriptor of `tRun` wins its engine and everything it needs is there. -/
def tWins (w0 w15 : Nat) (f : Die → Die) : Bool :=
  let s := tRun (tDesc w0 w15) f
  let e : WinEnt := { d := tDesc w0 w15 }
  let opc := w0 % 256
  let extra : Die → Nat → Desc → Option (Nat × Nat) := if opc = opcGather ∨ opc = opcColl then Die.collFault else noExtra
  s.d.live (islOf 0) && s.d.enabled 0 && decide (dOpc e.d = opc) && !s.d.partSkipped (s.d.qjob 0 0) e.d && !s.d.updateSkipped (s.d.qjob 0 0) e.d &&
    (match s.d.readiness 0 0 e (extra s.d (s.d.qjob 0 0) e.d) with
    | .yes ops felts span => s.d.takes 0 0 0 e ops felts span extra && s.d.runsNow 0 0 e ops span
    | _ => false)

theorem witness_engines_run_the_winner :
    (∀ x ∈ [(opcOpa, 0), (opcOpaT, 0), (opcLoadacc + 2 ^ 22, 0), (opcDrain, 0), (opcMatvec, 0), (opcVec, 0), (opcTable, 0), (opcCopy, 0),
      (opcConvert, 0), (opcRng, 0), (opcUpdate, 64), (opcUpdate, 0), (opcBarrier, 0), (opcNop, 0), (opcSignal, 0), (opcColl, 0), (opcGather, 0)],
      tWins x.1 x.2 id = true) ∧
    tWins opcSkim 0 (fun d => { d with skimSlot := sset [] 0 0 0x80000000 }) = true ∧
    tWins opcReduce 0 (fun d => { d with regions := sset [] none 0 (some { w := 8, h := 8, streams := [(1, 5, 0, islNode 0)] }) }) = true := by
  decide +kernel

theorem witness_completion_and_signals :
    let s (e : Infl) := wit (fun d => (d.setQueue 0 0 { st := .running, infl := [e] }))
    let a : Infl := { ran := true }
    let b : Infl := { ran := true, left := 1 }
    ((s a).d.queue 0 0).infl[0]? = some a ∧ (s a).d.poolOfReq a = none ∧ (s a).d.arrayPending 0 0 a = false ∧
      ((s b).d.queue 0 0).infl[0]? = some b ∧ (s b).d.poolOfReq b = none ∧
      (∀ p, p < 16 → ((s a).d.port p).coll = none ∧ ((s a).d.port p).waiting = []) ∧
      sget (wit (fun d => { d with sbArr := sset d.sbArr [] (islNode 63) [{ body := .signal 4095 1 }] })).d.sbArr [] (islNode 63) =
        [{ body := .signal 4095 1 }] := by decide +kernel

theorem witness_array_and_tables :
    let s (c : Core) (f : Die → Die) := wit (fun d => f (d.setCore 0 c))
    let t : Tile := { slot := 31 }
    ((s { next := some t } id).d.core 0).active = none ∧ ((s { next := some t, active := some {} } id).d.core 0).active = some {} ∧
      (s { active := some t } id).d.arrayFree 0 = true ∧
      ((s { active := some t } (fun d => d.setQueue 0 0 { st := .running, window := [{ d := tDesc (opcMatvec) 0 }] })).d.slotWanted 0 0 = true) ∧
      0 < ((s { tbuf := 1 } id).d.core 0).tbuf ∧ State.reset.admits 0 (pgCore 0) 0x114 = true ∧ (State.reset.d.core 0).swap = none ∧
      ((s { swap := some 31 } id).d.core 0).swap = some 31 ∧ (s { swap := some 31 } id).d.inflight 0 = [] ∧
      State.reset.d.mvRunning 0 = none ∧ (State.reset.d.core 0).pool = [] ∧ State.reset.d.stageBad 0 = false := by decide +kernel

/-- A matrix-vector request of core 1 to the pool core 0 of job 0, and the request collected there. -/
def tPool (pool : List PoolReq) : State := wit (fun d =>
  let x : Desc := tDesc opcMatvec (64 + 3)
  let e : Infl := { d := x, ops := List.replicate 6 0, ran := true, left := 1 }
  let d : Die := { d with pages := sset d.pages none 0 (some { home := 256 }), objs := sset d.objs none 0 (some { st := .resident }) }
  (d.setQueue 1 0 { st := .running, infl := [e] }).updCore 0 (fun c => { c with pool }))

theorem witness_matvec_passes_and_pools :
    (let e : Infl := { d := tDesc opcMatvec 3, ran := true, left := 1 }
     let s := wit (fun d => d.setQueue 0 0 { st := .running, infl := [e] })
     s.d.mvRunning 0 = some (0, e) ∧ State.reset.d.mvRunning 0 = none) ∧
    (let e : Infl := { d := tDesc opcMatvec (64 + 3), ops := List.replicate 6 0, ran := true, left := 1 }
     let x : PoolReq := { ref := { core := 1, queue := 0, id := 1 } }
     let s := tPool []
     let t : State := { tPool [x] with d := (tPool [x]).d.updQueue 1 0 (fun y => { y with infl := y.infl ++ [{ e with id := 1 }] }) }
     (s.d.queue 1 0).infl[0]? = some e ∧ s.d.inflOf { core := 1, queue := 0, id := 0 } = some e ∧ s.d.poolOfReq e = some 0 ∧
       (s.d.core 0).pool = [] ∧ (s.d.core 0).batch = [] ∧
       t.d.inflOf x.ref = some { e with id := 1 } ∧ t.d.inflOf { core := 1, queue := 0, id := 0 } = some e ∧ sameBatch { e with id := 1 } e = true ∧
       (t.d.core 0).pool = [x] ∧ t.d.poolOfReq e = some 0 ∧ t.d.arrayFree 0 = true)  := by decide +kernel

/-- Every stack is trained, and job 0 is enabled with quotas and a declared stream 0. -/
def tJob (f : Die → Die) : State := wit (fun d =>
  let d := (List.range 8).foldl (fun d n => d.updStk n (fun k => { k with trained := true })) d
  let d := (((d.setReg (pgJob 0) 0x104 16).setReg (pgJob 0) 0x108 16).setReg pgDk 0x144 16).updJob 0 (fun j => { j with enabled := true })
  f (d.updStrm 0 (fun x => { x with en := true })))

/-- A region image of 2 x 2 cores at 0x1000, fixed at origin (0, 0), with a plan of no streams at 0x2000. -/
def tImage (a : Nat) (f : Die → Die) : State := tJob (fun d =>
  f ((((d.setBytes 0x1000 [2, 2, 0, 1, 0, 0, 0, 0x40]).setBytes (0x1000 + 40) [0, 0x20]).setBytes 0x2000 [0, 0, 0, 1, 4]).setReg pgDk 0x100 (word a)))

theorem witness_placement :
    (let s := tImage 0x1000 id
     s.d.live (iniIsland 0) = true ∧ s.admits 0 pgDk 0x10C = true ∧ s.d.dk.cmd = .none ∧ (s.d.job s.d.dkJob).enabled = true ∧
       (State.reset.d.job State.reset.d.dkJob).enabled = false ∧ s.d.region s.d.dkRegion = none ∧ s.d.dkAddr % 64 = 0 ∧
       s.d.sectionsOk [(s.d.dkAddr, 64)] = true ∧ s.d.headerOk s.d.dkAddr = true ∧
       s.d.sectionsOk (s.d.sections s.d.dkAddr (s.d.readImage s.d.dkAddr)) = true ∧ s.d.planOk (s.d.readImage s.d.dkAddr) = true ∧
       s.d.feltOk (s.d.readImage s.d.dkAddr) = true ∧
       (match s.d.search (s.d.readImage s.d.dkAddr) s.d.dkRegion with | .ok r => decide (r = (0, 0, 0)) | .error _ => false) = true) ∧
    (tImage 0x1008 id).d.dkAddr % 64 ≠ 0 ∧
    (let g : Region := { w := 2, h := 2 }
     let s := tImage 0x1000 (fun d => { d with regions := sset [] none 0 (some g) })
     (s.d.region s.d.dkRegion).isSome = true ∧ s.d.regionQuiet g = true ∧ s.d.homedIn s.d.dkRegion = [] ∧
       (let u := tImage 0x1000 (fun d => d.setQueue 0 0 { st := .running })
        u.d.regionQuiet { g with used := [0] } = false)) ∧
    (let s := tImage 0x1000 (fun d => d.updDk (fun x => { x with cmd := .placing 0 { w := 2, h := 2 } 0x1000 }))
     s.d.dk.cmd ≠ .none ∧ s.d.planHeld { w := 2, h := 2 } = false ∧
       (let u := tImage 0x1000 (fun d => { d with nent := sset [] 0 64 (word (512 * 512)) })
        u.d.planHeld { w := 2, h := 2 } = true)) := by decide +kernel

/-- A page list of one record at 0x1000: its operation, on page 0 homed in slice 0. -/
def tPages (op : Nat) (more : Die → Die) : State := tJob (fun d =>
  more (((d.setBytes 0x1000 ([0, 0, 0, BitVec.ofNat 8 (op * 16)] ++ [0, 1])).setReg pgDk 0x100 0x1000).setReg pgDk 0x108 1))

/-- The list is being worked on. -/
def tListed (d : Die) : Die := d.updDk (fun x => { x with cmd := .pages 0 0x1000 1 0 1 })

/-- Page 0 of job 0, homed in slice 0, and its object. -/
def tPage (o : PObj) (d : Die) : Die := { d with pages := sset d.pages none 0 (some { home := 256 }), objs := sset d.objs none 0 (some o) }

theorem witness_page_commands :
    (let s := tPages 5 id
     s.admits 0 pgDk 0x10C = true ∧ s.d.dk.cmd = .none ∧ (s.d.job s.d.dkJob).enabled = true ∧ s.d.dkCount = 1 ∧ s.d.dkAddr = 0x1000 ∧
       0x1000 + 16 ≤ stackEnd ∧ (∀ k, k < 8 → s.d.stackClosed k = false) ∧ recOp (s.d.recAt 0x1000 0) = 5 ∧ State.reset.d.dkCount = 0) ∧
    (let s := tPages 1 tListed
     let r := s.d.recAt 0x1000 0
     s.d.live 89 = true ∧ s.d.dk.cmd = .pages 0 0x1000 1 0 1 ∧ recReserved r = false ∧ recOp r = 1 ∧ recHintBad r = false ∧ recHint r ≠ 1 ∧
       s.d.page 0 (recPage r) = none ∧ s.d.streamBad 0 (recHome r) = false ∧ s.d.homeBad (recHome r) = false ∧
       (match s.d.takeSpage 0 (s.d.stackFor 0 (recPage r)) with | .ok k => decide (k = 0) | .error _ => false) = true ∧
       (match s.d.recDeclare 0 r with | .ok _ => true | .error _ => false) = true ∧
       (match s.d.recRelease 0 r with | .ok _ => false | .error _ => true) = true) ∧
    (∀ op ∈ [2, 3, 5], let s := tPages op (fun d => tListed (tPage {} d))
     let r := s.d.recAt 0x1000 0
     recOp r = op ∧ recReserved r = false ∧ recHintBad r = false ∧ s.d.page 0 (recPage r) = some { home := 256 } ∧ s.d.objKey 0 (recPage r) = some 0 ∧
       s.d.obj 0 = some {}) ∧
    (let dirty : PObj := { st := .resident, dirty := true }
     let s := tPages 5 (fun d => tListed (tPage dirty d))
     recOp (s.d.recAt 0x1000 0) = 5 ∧ s.d.obj 0 = some dirty ∧ s.d.requested 0 = false) ∧
    (let s := tPages 4 tListed
     let r := s.d.recAt 0x1000 0
     let t := tPages 4 (fun d => tListed { d with objs := sset d.objs none (2 ^ 28) (some {}) })
     recOp r = 4 ∧ recReserved r = false ∧ recHintBad r = false ∧ recHint r ≠ 1 ∧ recShared r = 0 ∧ s.d.page 0 (recPage r) = none ∧
       s.d.streamBad 0 (recHome r) = false ∧ s.d.obj (2 ^ 28) = none ∧ s.d.homeBad (recHome r) = false ∧ bit (recHome r) 8 = true ∧
       (match s.d.takeSpage 0 (s.d.stackFor 0 (recPage r)) with | .ok k => decide (k = 0) | .error _ => false) = true ∧
       t.d.recAt 0x1000 0 = r ∧ t.d.page 0 (recPage r) = none ∧ t.d.streamBad 0 (recHome r) = false ∧ t.d.obj (2 ^ 28) = some {}) := by
  decide +kernel

theorem witness_residency :
    (let s := tJob (tPage { waiting := true })
     s.d.live 89 = true ∧ s.d.obj 0 = some { waiting := true } ∧ s.d.homeFrame { waiting := true } = some 0) ∧
    (let s := tJob (tPage { st := .filling, zero := true })
     s.d.zeroSlot 0 = true ∧ s.d.live (islOf 0) = true ∧ (s.d.mappings 0).any (fun p => (s.d.homeSlice p.2).isSome) = true) ∧
    (let carrying (kind : ReqKind) (o : PObj) := tJob (fun d => tPage o (Die.updDk d (fun x =>
        { x with reqs := [{ kind, granted := true, sheets := 16 }] })))
     (carrying .demand { st := .filling }).d.carried 0 (fun x => decide (x ≠ .writeback)) = some { granted := true, sheets := 16 } ∧
       ((carrying .demand { st := .filling }).d.mappings 0).any (fun p => ((carrying .demand { st := .filling }).d.homeSlice p.2).isSome) = true ∧
       (carrying .writeback { st := .resident }).d.carried 0 (fun x => decide (x = .writeback)) = some { kind := .writeback, granted := true, sheets := 16 } ∧
       (carrying .writeback { st := .resident }).d.stackClosed 0 = false) ∧
    (let s := tJob (tPage { st := .draining })
     s.d.inFlight 0 .demand = false ∧ s.d.inFlight 0 .writeback = false ∧ s.d.inFlight 0 .prefetch = false) := by decide +kernel

theorem witness_stack_bandwidth :
    let s := tJob (fun d => d.updDk (fun x => { x with reqs := [{ stack := 7 }] }))
    s.d.live 89 = true ∧ s.d.workHeld = false ∧ s.d.flying 7 = 0 ∧ s.d.stackClosed 7 = false ∧ s.d.pendStreams 0 = [] ∧
      s.d.pendStreams 7 = [0] ∧ s.d.grantee 7 [0] = some 0 ∧ s.d.oldestReq 0 7 = some 0 ∧ storeWf {} s.d.strms = true ∧
      (let t := tJob (fun d => let e := tPage { st := .resident, dirty := true } d
         { e with pages := sset [] none 0 (some { hint := 4, home := 256 }) })
       t.d.objHint 0 = 4 ∧ t.d.requested 0 = false) := by decide +kernel

/-- Job 0 walks a schedule of one layer of one page, with the object and the quota given. -/
def tWalk (o : PObj) (quota : Word) (f : Job → Job) : State := tJob (fun d =>
  tPage o (((((d.setReg (pgJob 0) 0x104 quota).setReg (pgJob 0) 0x114 0x80000001).setBytes 0 (leBytes 8 (2 ^ 60 + 1))).setBytes 8
    (leBytes 8 (2 * 2 ^ 60))).setBytes 16 (leBytes 8 (15 * 2 ^ 60)) |>.updJob 0 f))

theorem witness_prefetch_walk :
    (let s := tWalk {} 16 id
     s.d.live 89 = true ∧ bit (s.d.reg (pgJob 0) 0x114) 31 = true ∧ (s.d.job 0).pfBlocked = false ∧ (s.d.job 0).pfBad = false ∧
       s.d.pfWindow 0 = some [0] ∧ s.d.pfLayers 0 (s.d.pfCount 0) 0 = some ([[0]], false) ∧ s.d.objKey 0 0 = some 0 ∧
       (s.d.pfRead 0 []).2 = true ∧ s.d.homeSlice { home := 256 } = some 0 ∧ s.d.obj 0 = some {} ∧ s.d.pfOut 0 = 0 ∧ s.d.overQuota 0 = false ∧ s.d.pfRoom 0 = true) ∧
    ((tWalk { st := .resident } 16 id).d.obj 0 = some { st := .resident }) ∧
    (let s := tWalk {} 0 (fun j => { j with pfBlocked := true })
     s.d.pfRoom 0 = false ∧ s.d.pfDraining 0 = false ∧ s.d.pfVictim 0 = none ∧ s.d.overQuota 0 = false ∧ (s.d.job 0).pfBlocked = true) ∧
    ((tWalk {} 16 (fun j => { j with pfPos := 1 })).d.job 0).pfPos ≠ 0 ∧
    (let s : State := { tWalk {} 16 id with d := (tWalk {} 16 id).d.updStk 0 (fun k => { k with failed := true, trained := false }) }
     s.d.rangeOpen 0 (8 * s.d.pfRecords 0 (s.d.pfCount 0) 0) = false ∧ (s.d.pfRead 0 []).2 = false) ∧
    (let seen (st : PState) (ev : Option Nat) : State :=
        let s := tWalk {} 1 (fun j => { j with pfEv := ev })
        { s with d := { s.d with pages := sset s.d.pages none 1 (some { home := 256 }), objs := sset s.d.objs none 1 (some { st, frame := 1 }) } }
     (seen .resident none).d.pfRoom 0 = false ∧ (seen .resident none).d.pfVictim 0 = some 1 ∧ (seen .resident none).d.pfDraining 0 = false ∧
       (seen .resident none).d.overQuota 0 = false ∧ (seen .draining (some 1)).d.pfDraining 0 = true ∧
       (seen .draining (some 1)).d.pfRoom 0 = false ∧ (seen .draining (some 1)).d.overQuota 0 = false) := by
  decide +kernel

theorem witness_jobs_and_barriers :
    (let s := tJob id
     (s.d.job 0).enabled = true ∧ (s.d.job 31).enabled = false ∧ s.d.jobPlaced 0 = false ∧ (s.d.job 0).aborting = false ∧
       s.d.jobInFlight 0 = false ∧ (∀ n, n < 8 → (s.d.stack n).trained = true) ∧ (State.reset.d.stack 7).trained = false) ∧
    (tJob (fun d => { d with regions := sset [] none 0 (some { w := 2, h := 2 }) })).d.jobPlaced 0 = true ∧
    (tJob (fun d => d.setQueue 0 0 { infl := [{}] })).d.jobInFlight 0 = true ∧
    (let s (now : List (Option DescRef)) := tJob (fun d => d.updBar 31 63 (fun x => { x with hostExpect := 1, now }))
     (s []).d.barExpect 31 63 = 1 ∧ ((s []).d.bar 31 63).now = [] ∧ ((s [none]).d.bar 31 63).now = [none] ∧
       ((s [none]).d.bar 31 63).waitWb = false) := by decide +kernel

/-- Node entry at `n * 96 + o * 16 + s` that takes stream `id` from port `p`, slot `q`. -/
def tEnt (n o s id p q : Nat) (d : Die) : Die := { d with nent := sset d.nent 0 (n * 96 + o * 16 + s) (word (id * 512 + p * 16 + q)) }

/-- A flit waits at a port. -/
def tFlit (n port : Nat) (f : Flit) (d : Die) : Die := d.pushFlit n port f

/-- Every word of slice `n`'s bank plan. -/
def tPlan (n : Nat) (plan : Word) (d : Die) : Die := (List.range 16).foldl (fun d x => d.setReg (pgCore n) (0x840 + 4 * x) plan) d

theorem witness_lath_flits :
    (let f : Flit := { stream := 511, slot := 3 }
     let s := wit (fun d => tFlit 65 2 f (tEnt 65 0 4 511 2 3 d))
     s.d.live (islOf 65) = true ∧ crossing 65 2 = false ∧ s.d.atPort 65 2 = [f] ∧
       s.d.takers 65 2 3 = [(0, 4)] ∧ s.d.ownerOf 65 [(0, 4)] = 511 ∧ entOwner (s.d.nodeEnt 65 0 4) = 511 ∧ outNode 65 0 = some 66 ∧
       islOf 66 = islOf 65 ∧ s.d.atPort 65 1 = [] ∧
       (s.d.atPort 65 2).findIdx? (fun f => decide (f.slot = 3)) = some 0 ∧ (s.d.atPort 65 2).findIdx? (fun f => decide (f.slot = 4)) = none) ∧
    (let s := wit (fun d => tFlit 8 2 { stream := 5, slot := 0 } (tEnt 8 3 15 5 2 0 d))
     s.d.live (islOf 8) = true ∧ crossing 8 2 = true ∧ s.d.atPort 8 2 = [{ stream := 5, slot := 0 }] ∧
       s.d.takers 8 2 0 = [(3, 15)] ∧ s.d.ownerOf 8 [(3, 15)] = 5 ∧ State.reset.d.atPort 8 2 = [] ∧ s.d.takers 8 2 1 = []) ∧
    (let s := wit (fun d => tFlit 65 6 { stream := 5 } (tEnt 65 1 7 5 6 0 d))
     s.d.atPort 65 6 = [{ stream := 5 }] ∧ s.d.injectors 65 6 7 5 = [(1, 7)] ∧ s.d.injectors 65 6 8 5 = [] ∧ s.d.ownerOf 65 [(1, 7)] = 5 ∧
       (s.d.atPort 65 6).findIdx? (fun f => decide (s.d.injectors 65 6 7 f.stream ≠ [])) = some 0) := by decide +kernel

theorem witness_lath_flits_edges :
    (let s := wit (fun d => tFlit 65 2 { stream := 6, par := false } (tEnt 65 0 0 5 2 0 d))
     s.d.takers 65 2 0 = [(0, 0)] ∧ s.d.ownerOf 65 [(0, 0)] ≠ 6) ∧
    (let f : Flit := { stream := 512, data := List.replicate 16 1, slot := 3 }
     let c : Circ := { id := 512, left := 2, node := some 65 }
     let s (plan : Word) := wit (fun d => tPlan 65 plan { tFlit 65 2 f (tEnt 65 4 15 512 2 3 d) with circs := [c] })
     (s 3).d.atPort 65 2 = [f] ∧ (s 3).d.takers 65 2 3 = [(4, 15)] ∧ entOwner ((s 3).d.nodeEnt 65 4 15) = 512 ∧ (s 3).d.circ 512 = some c ∧
       (s 3).d.lathBank 65 15 0 = true ∧ (s 0).d.atPort 65 2 = [f] ∧ (s 0).d.takers 65 2 3 = [(4, 15)] ∧
       entOwner ((s 0).d.nodeEnt 65 4 15) = 512 ∧ (s 0).d.circ 512 = some c ∧ (s 0).d.lathBank 65 15 0 = false) ∧
    (let f : Flit := { stream := 512, data := List.replicate 16 1, slot := 3 }
     let c : Circ := { id := 512, left := 2, obj := some 0, wback := true }
     let s := wit (fun d => tPage {} { tFlit 0 1 f (tEnt 0 1 15 512 1 3 d) with circs := [c] })
     crossing 0 1 = false ∧ s.d.atPort 0 1 = [f] ∧ s.d.takers 0 1 3 = [(1, 15)] ∧ entOwner (s.d.nodeEnt 0 1 15) = 512 ∧ outNode 0 1 = none ∧
       s.d.circ 512 = some c ∧ s.d.obj 0 = some {}) := by decide +kernel

theorem witness_lath_credits :
    (let s (w : List Flit) (u : Nat) := wit (fun d => { d with seamBack := sset [] 0 127 1, seamUsed := sset [] 0 127 u, seamWait := sset [] [] 127 w })
     0 < sget (s [] 1).d.seamBack 0 127 ∧ (s [] 1).d.pw.seamShut = false ∧ (s [] 1).d.live (islOf (coreAt 32 63)) = true ∧
       sget (s [] 1).d.seamWait [] 127 = [] ∧ sget (s [{}] 1).d.seamWait [] 127 = [{}] ∧ (s [{}] 1).d.seamPasses 127 = true ∧
       ({ (s [{}] 9).d.updPw (fun p => { p with levW := 2 }) with seamUsed := sset [] 0 127 8 } : Die).seamPasses 127 = false) ∧
    (let s := wit (fun d => { d with sbArr := sset [] [] 7 [{ body := .violation 9 {} 3 true }] })
     s.d.live (islOf 7) = true ∧ sget s.d.sbArr [] 7 = [{ body := .violation 9 {} 3 true }]) := by decide +kernel

/-- Object 0 in frame 0 has a granted request; the bank plan of slice 0 gives the frame's bank to the Lath. -/
def tGrant (kind : ReqKind) (plan : Word) : State := tJob (fun d =>
  tPage {} ((tPlan 0 plan d).updDk (fun x => { x with reqs := [{ kind, granted := true }] })))

theorem witness_transit_circuits :
    (∀ kind ∈ [ReqKind.demand, .writeback], let s := tGrant kind 3
     s.d.live 89 = true ∧ s.d.workHeld = false ∧ s.d.uncarried 0 = some { kind, granted := true } ∧ s.d.obj 0 = some {} ∧
       s.d.freeCircuit = some 0 ∧ s.d.stackClosed 0 = false ∧
       s.d.orderClear (s.d.pageAddr 0 0) (64 * s.d.sheetBursts (s.d.pageAddr 0 0)) = true) ∧
    (let s := tGrant .demand 3
     s.d.routeOpen (fillRoute 0 0) (some 0) = true ∧ (s.d.mapBest (fillRoute 0 0) (edgeEntry 0 0) (fun x => s.d.lathBank 0 x 0) 16).isSome = true) ∧
    (let s := tGrant .writeback 3
     s.d.routeOpen (wbRoute 0 0) none = true ∧ (s.d.mapBest (wbRoute 0 0) (0, 5) (fun _ => true) 16).isSome = true) ∧
    (let s := tGrant .demand 0
     s.d.mapBest (fillRoute 0 0) (edgeEntry 0 0) (fun x => s.d.lathBank 0 x 0) 16 = none) ∧
    (let r : CopyReq := { ref := { core := 1, queue := 2 }, b := 513 }
     let s := wit (fun d => tPlan 1 0xF { d.setQueue 1 2 { infl := [{ d := tDesc opcCopy 0 }] } with copyq := [r] })
     s.d.inflOf r.ref = some { d := tDesc opcCopy 0 } ∧ s.d.circs = [] ∧ s.d.routeOpen (copyRoute 0 1) (some 1) = true ∧
       (s.d.mapBest (copyRoute 0 1) (0, 5) (fun x => s.d.lathBank 1 x 1) 16).isSome = true ∧
       ((wit (tPlan 1 0)).d.mapBest (copyRoute 0 1) (0, 5) (fun x => (wit (tPlan 1 0)).d.lathBank 1 x 1) 16) = none) ∧
    (∀ out : Bool, let m : PeMove := { out }
     let s := wit (fun d => tPlan 0 3 (d.updPort 0 (fun x => { x with moves := [m] })))
     (s.d.port 0).moves = [m] ∧ s.d.circs = [] ∧
       (s.d.mapBest (wbRoute 8 0) (0, 5) (fun x => s.d.lathBank 0 x 0) 16).isSome = true ∧
       (s.d.mapBest (fillRoute 8 0) (edgeEntry 8 0) (fun x => s.d.lathBank 0 x 0) 16).isSome = true ∧
       s.d.routeOpen (wbRoute 8 0) none = true ∧ s.d.routeOpen (fillRoute 8 0) (some 0) = true) ∧
    (wit (fun d => { d with heldPlan := sset [] [] 0 [0] })).d.routeOpen (fillRoute 0 0) (some 0) = false ∧
    (wit (fun d => d.updPw (fun p => { p with sleepBusy := true }))).d.workHeld = true := by decide +kernel

theorem witness_sideband_moves :
    (let s (l : List SbMsg) := wit (fun d => { d with sbq := sset (sset [] [] (65 * 6 + 4) [{ dst := 66 }]) [] (66 * 6 + 1) l })
     (s []).d.live (islOf 65) = true ∧ sbOut 65 66 = 0 ∧ outNode 65 0 = some 66 ∧ arrPort 0 - 1 = 1 ∧ islOf 66 = islOf 65 ∧
       (sget (s []).d.sbq [] (66 * 6 + 1)).length < 8 ∧ 8 ≤ (sget (s (List.replicate 8 {})).d.sbq [] (66 * 6 + 1)).length ∧
       sget (s []).d.sbq [] (65 * 6 + 4) = [{ dst := 66 }]) ∧
    sbOut 66 66 = 4 ∧ ({ dst := 66 } : SbMsg).forUnit = false ∧ ({ body := .circuit 512 true } : SbMsg).forUnit = true ∧
    (let s := wit (fun d => ({ d with sbq := sset [] [] (7 * 6 + 4) [{ dst := 8 }] } : Die).updIst (islOf 8) (fun t => { t with inReset := true }))
     outNode 7 0 = some 8 ∧ islOf 8 ≠ islOf 7 ∧ (s.d.ist (islOf 8)).inReset = true ∧ s.d.live (islOf 7) = true ∧ sbOut 7 8 = 0) ∧
    (wit (fun d => d.updIst 89 (fun t => { t with isolated := true }))).d.live (islOf 65) = true ∧
    (let s (l : List Infl) := wit (fun d => { d.setQueue 7 3 { infl := l } with sbArr := sset [] [] 7 [{ body := .reexec { core := 7, queue := 3, id := 2 } }] })
     (s []).d.live (islOf 7) = true ∧ sget (s []).d.sbArr [] 7 = [{ body := .reexec { core := 7, queue := 3, id := 2 } }] ∧
       ((s []).d.queue 7 3).infl.find? (fun e => decide (e.id = 2)) = none ∧
       ((s [{ id := 2 }]).d.queue 7 3).infl.find? (fun e => decide (e.id = 2)) = some { id := 2 }) := by decide +kernel

/-- Region 0 covers island 0, whose tile 0 is as given. -/
def tTile (t : RTile) (f : Die → Die) : State := wit (fun d =>
  f { d with regions := sset [] none 0 (some { w := 8, h := 8 }), rtile := sset [] {} 0 t })

theorem witness_island_reducers :
    (∀ raw ∈ [0, 1], let f : Flit := { data := [0x3F800000], addr := raw, ref := { core := 63, id := 255 } }
     let s (t : RTile) := tTile t (tFlit (rNode 0 3) 7 f)
     let t : RTile := { w0 := 0x80000000 }
     (s t).d.live 0 = true ∧ (s t).d.atPort (rNode 0 3) 7 = [f] ∧ 0 < ((s t).d.share (rNode 0 3)).2.1 ∧
       ((s t).d.share (rNode 0 3)).1 = 0 ∧ ((s t).d.rt 0 0).valid = true ∧ ((s t).d.rt 0 0).delivering = 0 ∧
       0 < ((s { t with delivering := 1 }).d.rt 0 0).delivering) ∧
    (let s (c : Core) := wit (fun d => d.updCore 0 (fun _ => { c with landing := [{ slot := 31 }] }))
     (s {}).d.live (islOf 0) = true ∧ ((s {}).d.core 0).landing = [{ slot := 31 }] ∧ (s {}).d.slotBound 0 31 = false ∧
       (s { next := some { slot := 31 } }).d.slotBound 0 31 = true) ∧
    (let s (t : RTile) := tTile t (fun d => d.updIsl 0 (fun x => { x with fbq := [0] }))
     let all : RTile → Bool := fun u => decide (u.region = 0)
     (s {}).d.live 0 = true ∧ ((s {}).d.island 0).fbq = [0] ∧ (State.reset.d.island 0).fbq = [] ∧
       (s { fallback := true }).d.fallbackBusy 0 all = true ∧
       (s { w0 := 0xC0000000, w1 := 0x00200000 }).d.fallbackBusy 0 (fun _ => true) = false ∧
       (s { w0 := 0xC0000000, w1 := 0x00200000 }).d.fallbackBusy 0 all = false ∧
       (s { w0 := 0xC0000000, w1 := 0x00200000 }).d.reserveFits 0 0 = true ∧
       (wit (fun d => d.updRt 0 0 (fun _ => { w0 := 0xC0000000, region := 5 }))).d.reserveFits 0 0 = false ∧
       (let u := tTile { w0 := 0xC1FF8000 } (fun d =>
          Die.updRt { d with regions := sset [] none 0 (some { w := 4, h := 4 }) } 0 1 (fun _ => { w0 := 0xC1FF83E8 }))
        u.d.reserveFits 0 0 = false)) := by decide +kernel

/-- Job 0 of the Skim in a state, with barriers 0, 1 and 2 and communicator 0. -/
def tSkim (x : SkimJob) : State := wit (fun d => { d with skimCfg := sset [] 0 0 (word (64 + 2 * 4096)), skim := sset [] {} 0 x })

theorem witness_skim_collection :
    (let part : SbMsg := { body := .skimPart 63 0x3F800000 false 1 {} }
     let s := wit (fun d => { d with sbArr := sset (sset [] [] (islNode 63) [part]) [] (islNode 0) [{ body := .collect 31 }] })
     s.d.live 63 = true ∧ sget s.d.sbArr [] (islNode 63) = [part] ∧ s.d.live 0 = true ∧
       sget s.d.sbArr [] (islNode 0) = [{ body := .collect 31 }] ∧ (max (s.d.seqNo 0) 0 + 1) % 2 ^ 32 = 1) ∧
    (∀ st ∈ [0, 1], let s := { tSkim { st } with d := { (tSkim { st }).d with sbArr := sset [] [] dkNode [{ body := .notice 0 4 }] } }
     s.d.live 89 = true ∧ sget s.d.sbArr [] dkNode = [{ body := .notice 0 4 }] ∧ (s.d.skimJ 0).st = st) ∧
    (let s := tSkim
     (s {}).admits 15 pgSkim 0x10C = true ∧ ((s {}).d.skimJ 0).st = 0 ∧ fld ((s {}).d.skimW 0 0) 5 0 = 0 ∧ fld ((s {}).d.skimW 0 0) 11 6 = 1 ∧
       fld ((s {}).d.skimW 0 0) 17 12 = 2 ∧ ((s { st := 3, sentRec := true }).d.skimJ 0).st = 3 ∧
       ((s { st := 3, sentRec := true }).d.skimJ 0).sentRec = true ∧ ((s { st := 6 }).d.skimJ 0).st = 6 ∧
       (let u := wit (fun d => { d with skimCfg := sset [] 0 1 1, comms := sset [] 0 9 1, skim := sset [] {} 0 { st := 3 } })
        fld (u.d.commW (u.d.skimComm 0) 1) 13 0 ≠ fld (u.d.commW (u.d.skimComm 0) 1) 29 16 ∧ (u.d.skimJ 0).st = 3)) := by decide +kernel

/-- Port 15 with a link state, its partner awake. -/
def tLink (n : Nat) (f : Die → Die) : State := wit (fun d => f (d.updPort 15 (fun x => { x with link := n })))

/-- A frame of type `ty` and subtype `sub` to `dst`, link sequence 0, and `TTL`. -/
def tFrame (ty vc dst sub ttl : Nat) : Frame :=
  Frame.seal ((State.reset.d.mkFrame ty vc dst [word (sub * 2 ^ 28)] []).setW 2 (word (ttl * 256)))

theorem witness_port_links :
    (let s (n : Nat) (w : Word) := tLink n (fun d => { d with shad := sset d.shad 0 (rkey (pgPort 15) 0x108) w })
     (s 5 0).admits 16 (pgPort 15) 0x1C = true ∧
       (let v := (s 5 0xFFFFFFFF).d.shadow (pgPort 15) 0x108
        128 < fld v 31 24 + fld v 23 16 + fld v 15 8 + fld v 7 0) ∧
       (let v := (s 5 0x20202020).d.shadow (pgPort 15) 0x108
        fld v 31 24 + fld v 23 16 + fld v 15 8 + fld v 7 0 ≤ 128) ∧
       ((s 5 0).d.port 15).link = 5) ∧
    (let s := tLink 0 (fun d => { d with shad := sset d.shad 0 (rkey (pgPort 15) 0x104) 1 })
     bit ((s.d.commitPage (pgPort 15)).reg (pgPort 15) 0x104) 0 = true ∧
       bit ((State.reset.d.commitPage (pgPort 15)).reg (pgPort 15) 0x104) 0 = false) ∧
    (∀ n, n < 6 → (tLink n id).d.live 87 = true ∧ ((tLink n id).d.port 15).link = n ∧ (tLink n id).d.pw.asleep = false) ∧
    (let f (own : Bool) : Frame := Frame.seal (State.reset.d.mkFrame 3 0 0xFFFF [0, word (if own then 1 else 2)] [])
     symbolErrors [] ≤ 15 ∧ 15 < symbolErrors ((List.finRange 16).map (fun i => (⟨i.val, by omega⟩, 1))) ∧
     ∀ own : Bool, (tLink 3 id).d.nextIn 15 (f own) = true ∧ (f own).hOk = true ∧ (f own).pOk = true ∧ (f own).kind = some (3, 0) ∧
       ((f own).dw 3 = State.reset.d.part.serial ↔ own = true)) := by decide +kernel

theorem witness_fabric_frames :
    (let s := tLink 4 id
     s.d.live 87 = true ∧ (s.d.port 15).link = 4 ∧ s.d.pw.asleep = false ∧ s.d.pw.sleepBusy = false ∧ (s.d.port 15).rseq = 0 ∧ (s.d.port 15).inFrames = [] ∧
       ((tLink 4 (fun d => d.updPort 15 (fun x => { x with rseq := 1 }))).d.port 15).rseq = 1 ∧
       s.d.fab.epoch = 0 ∧ s.d.fab.addr = 0) ∧
    (∀ k ∈ [(6, 0, 0xFFFF, 0), (2, 0, 0xFFFF, 0), (1, 2, 0, 0), (1, 3, 0, 1), (1, 2, 0, 2), (7, 1, 0, 0), (7, 0, 0, 1), (7, 0, 0, 2), (7, 1, 0, 3),
        (4, 0, 0, 0), (4, 0, 0, 1), (4, 0, 0, 2), (4, 0, 0, 3), (4, 0, 0, 4), (4, 0, 0, 5), (5, 0, 0, 0), (5, 0, 0, 1), (5, 0, 0, 2)],
      let f := tFrame k.1 k.2.1 k.2.2.1 k.2.2.2 2
      (tLink 4 id).d.nextIn 15 f = true ∧ f.hOk = true ∧ f.pOk = true ∧ f.kind = some (k.1, if k.1 = 2 ∨ k.1 = 6 then 0 else k.2.2.2) ∧ f.lseq = 0 ∧ f.epoch = 0 ∧ f.ttl = 2 ∧
        fld (f.w 3) 27 22 ≤ fld (f.w 3) 21 16) ∧
    (let f := tFrame 1 2 7 0 1
     f.dst ≠ State.reset.d.fab.addr ∧ f.ttl ≤ 1 ∧ f.kind = some (1, 0) ∧ (tFrame 1 2 7 0 2).dst ≠ State.reset.d.fab.addr) ∧
    (let f := Frame.seal ((tFrame 4 0 0 0 2).setW 3 (word (2 ^ 22)))
     fld (f.w 3) 21 16 < fld (f.w 3) 27 22 ∧ f.kind = some (4, 0) ∧ f.hOk = true) ∧
    (wit (fun d => d.updFab (fun x => { x with epoch := 1 }))).d.fab.epoch ≠ (tFrame 1 2 0 0 2).epoch := by decide +kernel

theorem witness_fabric_management :
    (tFrame 4 0 0 2 2).ty = 4 ∧ (tFrame 4 0 0 2 2).sub = 2 ∧ State.reset.d.assignOk (tFrame 4 0 0 2 2) = false ∧ (tFrame 5 0 0 2 2).ty = 5 ∧
      State.reset.d.fromCoord (tFrame 5 0 0 2 2) = true ∧
      (wit (fun d => d.updFab (fun x => { x with coordAddr := 1 }))).d.fromCoord (tFrame 5 0 0 2 2) = false ∧
      (let f := Frame.seal (State.reset.d.mkFrame 4 0 0 [word (2 * 2 ^ 28)] (beBytes 4 1 ++ beBytes 4 0 ++ beBytes 8 1 ++ List.replicate 48 0))
       f.sub = 2 ∧ f.ty = 4 ∧ State.reset.d.assignOk f = true) ∧
      State.reset.d.live 90 = true ∧ State.reset.d.fab.best.1 = State.reset.d.part.serial.toNat ∧ State.reset.d.fab.coord = false ∧
      (tLink 4 id).d.up 15 = true ∧ (tLink 4 id).d.live (72 + 15) = true ∧ (tLink 5 id).d.up 15 = false ∧
      (wit (fun d => d.setReg pgFab 0x138 1)).d.reg pgFab 0x138 ≠ 0 ∧ State.reset.d.reg pgFab 0x138 ≠ 1 ∧
      State.reset.admits 0 pgFab 0x124 = true ∧ fld (0 : Word) 13 0 = State.reset.d.fab.txHead ∧
      (let s := tJob id
       let b := ((s.reached 0 pgFab).d.setReg pgFab 0x124 1).txUnits 0 1 []
       let hdr := (List.range 16).map (fun i => word (beNat ((b.2.drop (4 * i)).take 4)))
       s.d.fab.txHead = 0 ∧ fld (hdr.getD 0 0) 22 16 = 0 ∧ fld (hdr.getD 0 0) 31 28 = 0) := by decide +kernel

/-- Job 31 in a phase, with one slot, and the securing controller as given. -/
def tSg (phase : Nat) (g : Sg) : State := wit (fun d =>
  { d with flCfg := sset (sset [] 0 (31 * 32 + 10) (word (0x50000 + phase))) 0 (31 * 32 + 14) 1, sg := g })

/-- Job 31 captures, with one protected page, whose stack copy lies at 0 and is poisoned or not. -/
def tCapture (g : Sg) (poisoned : Bool) : State :=
  let s := tSg 0 g
  let d : Die := { s.d with
    flCfg := sset s.d.flCfg 0 (31 * 32 + 2) 1, pages := sset [] none (31 * 2 ^ 23) (some { home := 256 }),
    objs := sset [] none (31 * 2 ^ 23) (some { stackValid := true }) }
  { s with d := d.setBytes (s.d.pageAddr 0 0 + 4096 + 64 + 55) (if poisoned then [0x80] else []) }

theorem witness_securing :
    (∀ p, p < 4 → (tSg p { due := 0x80000000 }).admits 0 pgFlash 0x10C = true ∧ (tSg p { due := 0x80000000 }).d.flPhase 31 = p ∧
      (tSg p { due := 0x80000000 }).d.sg.due.toNat.testBit 31 = true ∧ (tSg p {}).d.sg.due.toNat.testBit 31 = false ∧
      (tSg p {}).d.sg.busy = false ∧ (tSg p { busy := true }).d.sg.busy = true) ∧
    (tSg 0 {}).d.freeSlot 31 = some 0 ∧ State.reset.d.freeSlot 31 = none ∧
    (∀ op, op < 6 → let s := tSg 1 { busy := true, op, job := 31 }
      s.d.live 89 = true ∧ s.d.sg.busy = true ∧ s.d.sg.job = 31 ∧ s.d.sg.sends = [] ∧ s.d.sg.recvs = [] ∧ s.d.captureWaits 31 = false ∧
        s.d.flP 31 ≤ s.d.sg.index) ∧
    (∀ b : Bool, let s := tCapture { busy := true, op := 1, job := 31 } b
      s.d.captureWaits 31 = false ∧ s.d.sg.index < s.d.flP 31 ∧ s.d.protClear 31 0 = true ∧ s.d.protPoisoned 31 0 = b) ∧
    (let s := tCapture { busy := true, op := 1, job := 31 } false
     (s.d.updDk (fun x => { x with reqs := [{ kind := .writeback, obj := 31 * 2 ^ 23 }] })).captureWaits 31 = true) := by decide +kernel

theorem witness_recovery_and_flash :
    (let s (a : Word) := wit (fun d => { (d.setReg pgFlash 0x110 a) with flCfg := sset [] 0 14 1 })
     (s 0).admits 0 pgFlash 0x10C = true ∧ (s 0).d.sg.busy = false ∧ bit ((s 0).d.reg pgFlash 0x110) 5 = false ∧
       (eraseList (fld ((s 0).d.reg pgFlash 0x110) 15 8)).contains ((s 0).d.flRank 0) = false ∧
       (let a := (s 0x140).d.reg pgFlash 0x110
        (eraseList (fld a 15 8)).contains ((s 0x140).d.flRank 0) = true ∧
          (eraseList (fld a 15 8)).length ≤ ([0, 1].filter (fun p => (fld a 7 6).testBit p)).length ∧
          (s 0x140).d.fillSlot 0 (fld a 31 16) = some 0 ∧
          ((wit (fun d => d.setReg pgFlash 0x110 0x140)).d.fillSlot 0 0) = none) ∧
       (let a := (s 0x100).d.reg pgFlash 0x110
        ([0, 1].filter (fun p => (fld a 7 6).testBit p)).length < (eraseList (fld a 15 8)).length)) ∧
    State.reset.d.jobPlaced 0 = false ∧ State.reset.d.objs = [] ∧ State.reset.d.slotOf 0 0 = none ∧
    (let s (f : Die → Die) := wit (fun d => f { d with flCfg := sset [] 0 14 1, flash := sset [] 0 1 2 })
     (s id).d.slotOf 0 0 = some 0 ∧ (s id).d.slotOk 0 0 = false ∧ (s (fun d => d.setSlotState 0 0 2)).d.slotOf 0 0 = some 0 ∧
       (s (fun d => d.setSlotState 0 0 2)).d.slotOk 0 0 = true) ∧
    (let s := tJob (fun d => { (d.setReg pgFlash 0x110 0x40) with flCfg := sset [] 0 2 1 })
     s.d.heldStripes 0 0 = [0] ∧ s.d.rangeOpen (s.d.pieceAddr 0 0 0) 65536 = true ∧ s.d.pinOverlap (s.d.pieceAddr 0 0 0) 65536 = none ∧
       s.d.orderClear (s.d.pieceAddr 0 0 0) 65536 = true) ∧
    (let s (busy : Bool) : State := tJob (fun d =>
        (d.updSg (fun g => { g with xfer := some (true, 0, 7, 1) })).updStk 0 (fun k => { k with retries := if busy then [{}] else [] }))
     (s true).d.orderClear 0 65536 = false ∧ (s false).d.orderClear 0 65536 = true ∧ (s false).d.rangeOpen 0 65536 = true) ∧
    (tJob (fun d => { d with regions := sset [] none 0 (some { w := 2, h := 2 }) })).d.jobPlaced 0 = true ∧
    (State.reset.d.skimJ 0).st = 0 ∧ ((tSkim { st := 1 }).d.skimJ 0).st ≠ 0 ∧
    (∀ g, g < 8 → bit (sget State.reset.d.skimGen 0 ((0 * 8 + g) * 4)) 31 = false) ∧
    bit (sget (wit (fun d => { d with skimGen := sset [] 0 28 0x80000000 })).d.skimGen 0 ((0 * 8 + 7) * 4)) 31 = true ∧
    State.reset.admits 0 pgFlash 0x14C = true ∧ bit (0x80000001 : Word) 31 = true ∧ State.reset.d.sg.xfer = none ∧ fld (0x80000001 : Word) 15 0 ≠ 0 ∧
    State.reset.d.live 89 = true ∧ State.reset.d.pinOverlap 0 65536 = none ∧
    (∀ b : Bool, (wit (fun d => d.updSg (fun g => { g with xfer := some (b, 0, 7, 1) }))).d.sg.xfer = some (b, 0, 7, 1)) := by decide +kernel

theorem witness_end_of_interrupt :
    let s := wit (fun d => d.updIntc (fun y => { y with active := srcBit 1022, claimer := sset y.claimer 0 1022 15 }))
    (1022 : Nat) < 1023 ∧ s.admits 0 pgIntc (0x540 + 4 * 15) = true ∧ srcHas s.d.intc.active 1022 = true ∧
      sget s.d.intc.claimer 0 1022 = 15 ∧ srcHas State.reset.d.intc.active 1022 = false := by decide +kernel

theorem witness_fuse_commands_under_debug : ∀ op ∈ [2, 3, 4],
    let s := witA id (fun a => { a with sec := { a.sec with cmd := some (op, 3), debugSeen := true } })
    s.d.live 90 = true ∧ s.a.sec.cmd = some (op, 3) ∧ s.a.sec.debugSeen = true := by decide +kernel

/-- What a command answers from a state satisfies `f`. -/
def gives (i : Instr) (s : State) (f : State → Bool) : Bool := match exec i s with
  | .next t => f t
  | _ => false

theorem witness_memory_form_kept : Memory.wf State.reset.d.mem = true ∧ Memory.wf (tImage 0x1000 id).d.mem = true ∧
    gives (.readRetry 0 0 0) (tImage 0x1000 id) (fun t => t.d.mem = (tImage 0x1000 id).d.mem) = true := by decide +kernel

theorem witness_always_on_island_kept : Aon.legal State.reset.a = true ∧
    (match step State.reset with | .next t => decide (t = State.reset) | _ => false) = true := by decide +kernel

/-- WAKE_FRAME: a DATA frame for this module in its epoch wakes it when fabric wakes are enabled. -/
theorem witness_wake_frame :
    let s := tLink 4 (fun d => (d.setReg pgPwr 0x114 4).updPw (fun p => { p with asleep := true }))
    let f := tFrame 1 2 0 0 2
    s.d.wakesOn f = true ∧ s.d.live (72 + 15) = true ∧ s.d.up 15 = true ∧ s.d.pw.asleep = true ∧ s.d.pw.gone = false ∧
      s.d.pw.waking = false := by decide +kernel

theorem witness_every_step_completes : (witA id id).pending = [] ∧ ({ State.reset with pending := [.wakePin] } : State).pending = [.wakePin] := by
  decide +kernel

/-! ## Ill-formed commands are refused, one for each check of `Instr.wf` -/

theorem illformed_sizes : Instr.wf (.registerWrite 0 0 0 3 0) = false ∧ Instr.wf (.vatWindowRead 0 0 5 none none) = false ∧
    Instr.wf (.vatWindowWrite 0 0 128 0 none none) = false ∧ Instr.wf (.vatWindowWrite 0 0 1 256 none none) = false ∧
    Instr.wf (.stackAccess 0 0 0 7 none 0 0) = false ∧ Instr.wf (.stackAccess 0 0 0 4 (some (2 ^ 32)) 0 0) = false ∧
    Instr.wf (.bitAlias 0 0 none 3) = false := by decide

theorem illformed_numbers : Instr.wf (.stackBringup 0 [] [] [128]) = false ∧ Instr.wf (.stackBringup 0 [(128, 0)] [] []) = false ∧
    Instr.wf (.stackBringup 0 [(0, 262144)] [] []) = false ∧ Instr.wf (.stackBringup 0 [] [(256, 0)] []) = false ∧
    Instr.wf (.codeword 0 {} []) = false ∧ Instr.wf (.page false 256) = false ∧
    Instr.wf (.levelChangeDone true [92]) = false ∧ Instr.wf (.wakeDone [92] []) = false ∧ Instr.wf (.wakeDone [] [8]) = false := by decide

theorem illformed_errors : Instr.wf (.opa 0 [(2097152, 0, false)]) = false ∧ Instr.wf (.vec 0 [(0, 33, false)]) = false ∧
    Instr.wf (.place 0 [(549755813888, 0, 0)]) = false ∧ Instr.wf (.circuitOpen (.page 0) [(0, 37, 0)] []) = false ∧
    Instr.wf (.pages 0 [(0, 0, 37)]) = false ∧ Instr.wf (.txTail 0 0 [(0, 37, 0)]) = false := by decide

theorem illformed_frames : Instr.wf (.hello 0 { hdr := [] }) = false ∧
    Instr.wf (.credit 0 { hdr := List.replicate 16 0, pay := [0] }) = false ∧
    Instr.wf (.dataSheet 0 { hdr := 0x00450000 :: List.replicate 15 0, pay := List.replicate 4416 0 }) = false ∧
    Instr.wf (.dataSheet 0 (tFrame 1 2 0 0 2)) = true := by decide +kernel

/-! ## The specification's worked examples -/

/-- 02 R34: the group sum is rounded once, so the cell holds 0x3F800001. -/
theorem test_group_sum : accStep 0x3F800000 (List.replicate 2 ((mxValue 3 0x79 8).mul (mxValue 3 0x79 8))) = 0x3F800001 := by decide +kernel

/-- 02 R42: 1 + 3 * 2^-9 to bf16 with two draws, and by R41. -/
theorem test_stochastic : bf16.narrow (.sr 0x9A3C) (.fin false 515 (-9)) = 0x3F81 ∧ bf16.narrow (.sr 0xC351) (.fin false 515 (-9)) = 0x3F80 ∧
    bf16.narrow .rne (.fin false 515 (-9)) = 0x3F81 := by decide +kernel

/-- 02 R43: an E4M3 block of 10.0 and 0.3 (0x3E99999A). -/
theorem test_mx_block : mxBlock 3 [(.fin false 10 0, .rne), (f32 0x3E99999A, .rne)] = (0x7A, [0x7A, 0x52]) := by decide +kernel

/-- 02 R46-R48: 2^100, 1.0 and -2^100 in W320 deliver 1.0, and lie outside the window of W192. -/
theorem test_wide :
    let sum (w : Bool) : WideElt := [0x71800000, 0x3F800000, 0xF1800000].foldl (fun t x => t.add w (f32 x)) {}
    toF32 ((sum false).value false) = 0x3F800000 ∧ (sum true).oow = true := by decide +kernel

/-- 03 R88, R89: the table of the example at 1.375. -/
theorem test_table :
    let t (i : Nat) : Word := if i = 0 then word (2 ^ 32 - 32) else if i = 1 then 0xFE else if i = 8 + 111 then 0x3F000000
      else if i = 9 + 111 then 0x3E800000 else if i = 10 + 111 then 0xBE000000 else 0
    tableEval t 0x3FB00000 = 0x3F078000 ∧ bf16.narrow .rne (f32 0x3F078000) = 0x3F08 := by decide +kernel

/-- 09 R263: the first step of an ADAMW element. -/
theorem test_adamw :
    let hp (i : Nat) : Word := [0x3A800000, 0, 0x3F600000, 0x3E000000, 0x3F700000, 0x3D800000, 0x35800000, 0, 0x41000000, 0x41800000].getD i 0
    adamw hp 0x3F800000 0x3F800000 0 0 0x3E800000 = (0x3F7FC000, 0x3D000000, 0x3B800000) := by decide +kernel

/-- 09 R272: the norm of 6.25 and its clip factor. -/
theorem test_norm_and_clip : sqrt32 0x40C80000 = 0x40200000 ∧ div32 0x3F800000 0x40200000 = 0x3ECCCCCD ∧
    mul32 0x3F000000 0x3ECCCCCD = 0x3E4CCCCD := by decide +kernel

/-- 09 R278: Philox-4x32-10 of a zero key and counter, as published with the generator. -/
theorem test_philox : philox 0 0 (0, 0, 0, 0) = (0x6627E8D5, 0xE169C58D, 0xBC57AC4C, 0x9B00DBD8) := by decide +kernel

/-- 11 R326, R327: members 1 and 4 of the example are recovered from the others and both pieces. -/
theorem test_recovery :
    let data := [(0, 3), (2, 1), (3, 0), (5, 0), (6, 0), (7, 1), (8, 0x11), (9, 0x87)]
    let get (o : Nat) : Nat := data.foldl (fun a x => a ^^^ gfMul (recoverCoef [1, 4] 3 o x.1) x.2) 0
    get 1 = 0x10 ∧ get 4 = 2 := by decide +kernel

/-- 13 R409: copies A and B with SEQ 0x0001 and 0xFFFF, both valid: A is the newer. -/
theorem test_trim : trimPick true true 1 0xFFFF = some 1 := by decide

/-- 15 R444: an input of 2,050 W reads 0x1200. -/
theorem test_read_pin : gives (.readPin 2050000) State.reset (fun t => t.a.pmb.reply = some [0x00, 0x12]) = true := by decide +kernel

/-- 12 R370: host core 7 sets bit 23 of ITARGET_152 through the alias word 0x02080024305C. -/
theorem test_bit_alias : 0x02080024305C - 0x020800000000 = 0x24305C ∧
    gives (.bitAlias 7 0x24305C (some 1)) State.reset (fun t => t.d.reg pgIntc 0x860 = 0x00800000) = true := by decide +kernel

/-- 14 R416: SHA3-256 of the empty message, as published with the function (FIPS 202). -/
theorem test_sha3 : sha3 [] = beBytes 32 0xA7FFC6F8BF1ED76651C14756A061D662F580FF4DE43B49FA82D80A4B80F8434A := by decide +kernel

/-! ## Single steps -/

/-- 12 R374: with nothing eligible a claim answers 1023. -/
theorem test_claim : gives (.claim 0 0) State.reset (fun t => t.d.resp = .ok 1023) = true := by decide +kernel

/-- 05 R143, 05 R157: a host push of handle 0x1234 to an enabled queue stands in its first entry. -/
theorem test_push : gives (.push 0 0 5 0x1234) (wit (fun d => d.updFelt 0 5 (fun q => { q with cfg := 0x80000000 })))
    (fun t => (t.d.feltQ 0 5).count = 1 && sget t.d.feltMem 0 (5 * 64) = 0x1234) = true := by decide +kernel

/-- 07 R208, R211: a flit on a plan stream moves one node east and takes its new slot. -/
theorem test_lath_hop : gives (.lathFlit 65 2 false 3) (wit (fun d => tFlit 65 2 { stream := 511, slot := 3 } (tEnt 65 0 4 511 2 3 d)))
    (fun t => t.d.atPort 66 2 = [{ stream := 511, slot := 4 }]) = true := by decide +kernel

/-- 10 R288, log 139: the generator polynomial is the product of x + 2^j for j = 0 to 29. -/
theorem test_rs_generator :
    ((List.range 30).foldl (fun (x : List Nat × Nat) _ =>
      (List.zipWith (fun a b => a ^^^ b) (x.1 ++ [0]) (0 :: x.1.map (fun y => rsMul y x.2)), rsMul x.2 2)) ([1], 1)).1 = 1 :: rsGen := by
  decide +kernel

/-- 10 R288: ten units of a lane come back from a round cut into codewords. -/
theorem test_round : roundUnits ((roundCodewords 127 [(true, [7]), (false, [8])]).map (fun c => { cw := c })) =
    [(true, [7], false), (false, [8], false)] ++ List.replicate 78 (false, [], false) := by decide +kernel

end Sys2Proof.Tests
end

section
/-!
PROOFS. Adding an fp32 word to a W320 element (02 R44, R46): how an fp32 word decodes, how many units of `2 ^ -149`
a finite value holds, and how the sum meets the 310-bit range of `V`.
-/

namespace Sys2Proof

/-! ## fp32 words by their fields -/

/-- The sign bit of a word is its weight in the word's value. -/
theorem testBit_31_eq_decide (x : Word) : x.toNat.testBit 31 = decide (2 ^ 31 ≤ x.toNat) := by
  have hx : x.toNat < 2 ^ 32 := x.isLt
  rw [Nat.testBit_eq_decide_div_mod_eq, decide_eq_decide]
  omega

/-- An fp32 word by its fields (02 R28, Table 2-1): exponent field 255 is the special code, 0 the zeros and
subnormals, and every other one a normal value. -/
theorem f32_eq_by_fields (x : Word) :
    f32 x =
      if x.toNat / 2 ^ 23 % 256 = 255 then
        if x.toNat % 2 ^ 23 = 0 then .inf (decide (2 ^ 31 ≤ x.toNat)) else .nan
      else if x.toNat / 2 ^ 23 % 256 = 0 then .fin (decide (2 ^ 31 ≤ x.toNat)) (x.toNat % 2 ^ 23) (-149)
      else .fin (decide (2 ^ 31 ≤ x.toNat)) (x.toNat % 2 ^ 23 + 2 ^ 23) ((x.toNat / 2 ^ 23 % 256 : Nat) - 150) := by
  have hq : fp32.qmin = -149 := rfl
  have hexp (e : Nat) : (-149 : Int) + (e : Int) - 1 = (e : Int) - 150 := by omega
  rw [← testBit_31_eq_decide, f32, FltFmt.decode, hq, Nat.shiftRight_eq_div_pow, hexp]
  rfl

/-! ## Units of the least significant bit of `V` -/

/-- A value whose exponent is not below the weight of the unit is a whole number of units. -/
theorem Dy.fixed_eq_mul (m : Int) {e : Int} {k n : Nat} (h : e + k = n) : Dy.fixed ⟨m, e⟩ k = m * 2 ^ n := by
  simp [Dy.fixed, Dy.floor, h]

/-- A finite addend whose significand `m` weighs `2 ^ n` units of `V` enters a W320 element as `m * 2 ^ n` units under
its sign (02 R46). -/
theorem WideElt.add_fin_w320 (t : WideElt) (neg : Bool) (m : Nat) {e : Int} {n : Nat} (h : e + (149 : Nat) = n) :
    t.add false (.fin neg m e) =
      t.addV false (if neg then -((m * 2 ^ n : Nat) : Int) else ((m * 2 ^ n : Nat) : Int)) := by
  simp only [WideElt.add, Num.dy, Dy.fixed_eq_mul _ h]
  cases neg <;> simp

/-- The sum is kept when it lies in the 310-bit range of `V`, and else refused with `OVF` (02 R44, R46). -/
theorem WideElt.addV_w320 (t : WideElt) (q : Int) :
    t.addV false q =
      if -(2 ^ 309 : Int) ≤ t.v + q ∧ t.v + q < 2 ^ 309 then { t with v := t.v + q } else { t with ovf := true } := by
  simp [WideElt.addV, inBits, wideBits, -Int.reducePow]

/-- Settles O56: the fp32 word is split by its exponent field, and of a finite word the least significant bit weighs
`2 ^ -149` or `2 ^ (E - 150)`, a whole number of units of `V`. -/
theorem wideAddition : Obligations.wide_addition := by
  unfold Obligations.wide_addition
  refine ⟨rfl, fun t x => ?_⟩
  intro E F neg m q
  have hf : f32 x = if E = 255 then if F = 0 then .inf neg else .nan
      else if E = 0 then .fin neg F (-149) else .fin neg (F + 2 ^ 23) ((E : Int) - 150) := f32_eq_by_fields x
  by_cases hs : E = 255
  · by_cases hF : F = 0
    · cases hneg : neg <;> simp [hf, hs, hF, hneg, WideElt.add]
    · simp [hf, hs, hF, WideElt.add]
  · have hadd : t.add false (f32 x) = t.addV false q := by
      by_cases hE : E = 0
      · rw [hf, if_neg hs, if_pos hE, WideElt.add_fin_w320 t neg F (n := 0) (by omega)]
        simp [q, m, hE]
      · rw [hf, if_neg hs, if_neg hE, WideElt.add_fin_w320 t neg _ (n := E - 1) (by omega)]
        simp [q, m, hE]
    rw [hadd, WideElt.addV_w320]
    simp [hs, -Int.reducePow]

end Sys2Proof
end

section
/-!
PROOFS. The end of an interrupt (12 R374): a bit of a per-source array after a change of one source, the source a write
of `EOI_c` names, and the controller after the write.
-/

namespace Sys2Proof.Machine

/-! ## Bits of a per-source array -/

/-- The array of source `n` holds its own bit alone. -/
theorem srcBit_getLsbD (n k : Nat) : (srcBit n).getLsbD k = (decide (k < 1024) && decide (n = k)) := by
  rw [srcBit, BitVec.getLsbD_ofNat, Nat.testBit_two_pow]

theorem srcHas_or_srcBit (v : BitVec 1024) (n : Nat) {k : Nat} (hk : k < 1024) :
    srcHas (v ||| srcBit n) k = (srcHas v k || decide (n = k)) := by
  simp only [srcHas, BitVec.testBit_toNat, BitVec.getLsbD_or, srcBit_getLsbD, hk, decide_true, Bool.true_and]

theorem srcHas_and_not_srcBit (v : BitVec 1024) (n : Nat) {k : Nat} (hk : k < 1024) :
    srcHas (v &&& ~~~(srcBit n)) k = (srcHas v k && !decide (n = k)) := by
  simp only [srcHas, BitVec.testBit_toNat, BitVec.getLsbD_and, BitVec.getLsbD_not, srcBit_getLsbD, hk, decide_true,
    Bool.true_and]

/-! ## The controller after an end of interrupt -/

/-- The controller after the end of interrupt of source `n`, which its page asserts again or not (12 R371, R374). -/
def Intc.ended (x : Intc) (n : Nat) (again : Bool) : Intc :=
  { x with
    active := x.active &&& ~~~(srcBit n)
    pend := if again then x.pend ||| srcBit n else x.pend
    claimer := serase x.claimer n }

section
variable (x : Intc) (n : Nat) (again : Bool)

@[simp] theorem Intc.ended_mask : (x.ended n again).mask = x.mask := rfl
@[simp] theorem Intc.ended_hold : (x.ended n again).hold = x.hold := rfl

/-- The active bit of the source is cleared, and no other one. -/
theorem Intc.srcHas_ended_active {k : Nat} (hk : k < 1024) :
    srcHas (x.ended n again).active k = (srcHas x.active k && !decide (n = k)) :=
  srcHas_and_not_srcBit x.active n hk

/-- A source that is asserted at its end of interrupt is pending after it (12 R371). -/
theorem Intc.srcHas_ended_pend {k : Nat} (hk : k < 1024) :
    srcHas (x.ended n again).pend k = (srcHas x.pend k || again && decide (n = k)) := by
  cases again
  · simp [Intc.ended]
  · simp [Intc.ended, srcHas_or_srcBit x.pend n hk]

end

/-- A source pending at its end of interrupt waits only for its mask, its target and its group's hold-off (12 R372). -/
theorem Die.eligible_ended (d : Die) (c : Nat) {n : Nat} (again : Bool) (hn : n < 1024) (hp : srcHas d.intc.pend n = true) :
    (d.updIntc (fun x => x.ended n again)).eligible c n =
      (!srcHas d.intc.mask n && (d.target n).testBit c && !(d.intc.hold.toNat.testBit (n / 32))) := by
  have htarget : (d.updIntc (fun x => x.ended n again)).target n = d.target n := rfl
  simp [Die.eligible, htarget, Intc.srcHas_ended_active, Intc.srcHas_ended_pend, hn, hp]

/-! ## What a grant leaves alone -/

@[simp] theorem State.reached_intc (s : State) (ini page : Nat) : (s.reached ini page).d.intc = s.d.intc := by
  obtain ⟨m, k, x, hd⟩ := s.reached_d ini page
  rw [hd]

@[simp] theorem State.reached_regs (s : State) (ini page : Nat) : (s.reached ini page).d.regs = s.d.regs := by
  obtain ⟨m, k, x, hd⟩ := s.reached_d ini page
  rw [hd]

/-- The target mask of a source lies in its page's registers, which a grant leaves alone. -/
@[simp] theorem State.reached_target (s : State) (ini page k : Nat) : (s.reached ini page).d.target k = s.d.target k := by
  simp only [Die.target, Die.reg, State.reached_regs]

/-! ## A write of `EOI_c` -/

/-- The field `SOURCE` of a write of source `n` to `EOI_c` is `n` (12 Table 12-10). -/
theorem fld_source_word {n : Nat} (hn : n < 1024) : fld (word n) 9 0 = n := by
  simp only [fld, word, BitVec.toNat_ofNat, Nat.shiftRight_zero]
  omega

/-- The claimer of an active source ends its interrupt. -/
theorem State.eoi_claimed {s : State} {c n : Nat} (hn : n < 1023) (ha : srcHas s.d.intc.active n = true)
    (hc : sget s.d.intc.claimer 0 n = c) :
    s.eoi c (word n) =
      s.onD (fun d => d.updIntc (fun x => x.ended n (s.asserted n (srcHas s.d.intc.level n)))) := by
  unfold State.eoi
  dsimp only
  rw [fld_source_word (by omega), if_pos ⟨hn, ha, hc⟩]
  rfl

/-- Any other write is counted in `EOI_IGNORED` and does nothing. -/
theorem State.eoi_ignored {s : State} {c n : Nat} (hn : n < 1023)
    (h : ¬ (srcHas s.d.intc.active n = true ∧ sget s.d.intc.claimer 0 n = c)) :
    s.eoi c (word n) = s.onD (fun d => d.count pgIntc 2) := by
  unfold State.eoi
  dsimp only
  rw [fld_source_word (by omega), if_neg (fun hs => h hs.2)]
  rfl

/-- A served write of `EOI_c` acts on the state that its grant leaves. -/
theorem exec_eoi_admitted {s : State} {ini : Ini} {c : Fin 16} (v : Word)
    (h : s.admits ini pgIntc (0x540 + 4 * c.val) = true) :
    exec (.eoi ini c v) s = .next ((s.reached ini pgIntc).eoi c v) := by
  change execEoi ini c v s = _
  rw [execEoi, State.cpl_admitted h]

end Sys2Proof.Machine

namespace Sys2Proof
open Machine

/-- Settles O54: a write by the claimer of an active source leaves the controller `Intc.ended`, which is read bit by
bit; every other write is the ignored one. -/
theorem endOfInterrupt : Obligations.end_of_interrupt := by
  unfold Obligations.end_of_interrupt
  intro s ini c n hn hadm
  rw [exec_eoi_admitted _ hadm]
  refine ⟨fun hact hclaim => ?claimed, fun hnot => ?ignored⟩
  case claimed =>
    refine ⟨_, rfl, ?_⟩
    rw [State.eoi_claimed hn (by simpa using hact) (by simpa using hclaim)]
    have hn' : n < 1024 := by omega
    refine ⟨?_, by simp, by simp, fun k hk hkn => ⟨?_, ?_⟩, fun hpend k => ?_, rfl, by simp, rfl⟩
    · simp [Intc.srcHas_ended_active, hn']
    · simp [Intc.srcHas_ended_active, hk, hkn.symm]
    · simp [Intc.srcHas_ended_pend, hk, hkn.symm]
    · simp [Die.eligible_ended, hn', hpend]
  case ignored =>
    rw [State.eoi_ignored hn (by simpa using hnot)]

end Sys2Proof
end

section
/-!
PROOFS. The end of a fuse command while a debug session has been seen (14 R421): the refused result, the counter of
fuses advanced by none, and the state after the command.
-/

namespace Sys2Proof.Machine

/-! ## A counter advanced by nothing -/

theorem bump_zero (c : DWord) : bump c 0 = c := BitVec.add_zero c

/-- Counting no event leaves every counter at its value, although the store may list it anew. -/
theorem Die.sget_ctr_count_zero (d : Die) (page sel k : Nat) : sget (d.count page sel 0).ctr 0 k = sget d.ctr 0 k := by
  unfold Die.count
  rw [sget_sset, bump_zero]
  split
  case isTrue h => rw [h, Die.ctrOf]
  case isFalse => rfl

/-! ## A fuse command under debug -/

/-- The refusal comes before every other check of a revocation (14 R421). -/
theorem revokeResult_of_debugSeen {x : Sec} (h : x.debugSeen = true) (rev used arg : Nat) :
    revokeResult x rev used arg = 1 := by
  rw [revokeResult, if_pos h]

/-- Under debug each of ROLLBACK_ADVANCE, REVOKE_ED and REVOKE_MLDSA blows no fuse and has result REFUSED_DEBUG. -/
theorem Sec.ended_of_debugSeen {x : Sec} {op : Nat} (hop : op ∈ [2, 3, 4]) (h : x.debugSeen = true) (arg : Nat) :
    x.ended op arg = (x, 1, 0) := by
  have hop : op = 2 ∨ op = 3 ∨ op = 4 := by simpa using hop
  obtain rfl | rfl | rfl := hop
  case inl => simp [Sec.ended, h]
  case inr.inl => simp [Sec.ended, revokeResult_of_debugSeen h]
  case inr.inr => simp [Sec.ended, revokeResult_of_debugSeen h]

/-- The end of a running command, given what it does to the fuses; every command but ATTEST counts the fuses blown. -/
theorem State.secEnd_of_ended {s : State} {op arg r n : Nat} {x : Sec} (hcmd : s.a.sec.cmd = some (op, arg)) (hop : op ≠ 1)
    (hend : s.a.sec.ended op arg = (x, r, n)) :
    s.secEnd =
      (s.onD (fun d => d.count pgSec 6 n)).updSec (fun _ => { x with cmd := none, donePend := true, result := r }) := by
  unfold State.secEnd
  rw [hcmd]
  dsimp only
  rw [hend, if_neg hop]
  rfl

/-- SEC_COMMAND_END ends the running command when the control island is live. -/
theorem exec_secCommandEnd_of_live {s : State} (h : s.d.live 90 = true) : exec .secCommandEnd s = .next s.secEnd := by
  change execSecCommandEnd s = _
  rw [execSecCommandEnd, if_pos h]

end Sys2Proof.Machine

namespace Sys2Proof
open Machine

/-- Settles O55: under debug a fuse command leaves its fuses and counts none blown, so every counter reads as before. -/
theorem fuseCommandsUnderDebug : Obligations.fuse_commands_under_debug := by
  unfold Obligations.fuse_commands_under_debug
  intro s op arg hop hlive hcmd hseen
  have hne : op ≠ 1 := by rintro rfl; simp at hop
  have hend : s.a.sec.ended op arg = (s.a.sec, 1, 0) := Sec.ended_of_debugSeen hop hseen arg
  refine ⟨(s.d.count pgSec 6 0).ctr, ?_, s.d.sget_ctr_count_zero pgSec 6⟩
  rw [exec_secCommandEnd_of_live hlive, State.secEnd_of_ended hcmd hne hend]
  rfl

end Sys2Proof
end

section
/-!
PROOFS. The queue of commands: no operation on the whole state adds to it or reorders it, and each command answers a next
state (log 1, log 2).
-/

namespace Sys2Proof.Machine

variable (s : State)

/-! ## Resets and the release -/

theorem State.mk_pending (d : Die) (a : Aon) (l : List Instr) : (State.mk d a l).pending = l := rfl

theorem State.pending_ite {p : Prop} [Decidable p] {a b : State} (ha : a.pending = s.pending) (hb : b.pending = s.pending) :
    (if p then a else b).pending = s.pending := by
  split
  · exact ha
  · exact hb

@[simp] theorem State.cutFuse_pending : s.cutFuse.pending = s.pending := by
  unfold State.cutFuse
  split <;> rfl

@[simp] theorem State.resetSec_pending : s.resetSec.pending = s.pending := by
  simp [State.resetSec]

@[simp] theorem State.noteReset_pending (code : Nat) : (s.noteReset code).pending = s.pending := rfl

@[simp] theorem State.moduleReset_pending (code : Nat) : (s.moduleReset code).pending = s.pending := by
  unfold State.moduleReset
  split
  · rfl
  · simp

@[simp] theorem State.resetIsland_pending (i code : Nat) : (s.resetIsland i code).pending = s.pending := by
  simp [State.resetIsland, apply_ite State.pending]

@[simp] theorem State.islandReset_pending (i code : Nat) : (s.islandReset i code).pending = s.pending := by
  simp [State.islandReset, apply_ite State.pending]

@[simp] theorem State.rstReq_pending (ini : Nat) (v : Word) : (s.rstReq ini v).pending = s.pending := by
  simp [State.rstReq, apply_ite State.pending]

@[simp] theorem State.clockFault_pending (i : Nat) : (s.clockFault i).pending = s.pending := by
  simp [State.clockFault]

@[simp] theorem State.wdtCmd_pending (v : Word) : (s.wdtCmd v).pending = s.pending := by
  simp [State.wdtCmd, apply_ite State.pending]

@[simp] theorem State.rstCmd_pending (v : Word) : (s.rstCmd v).pending = s.pending := rfl

@[simp] theorem State.rstOvr_pending (ini : Nat) (v : Word) : (s.rstOvr ini v).pending = s.pending := by
  simp [State.rstOvr, apply_ite State.pending]

/-! ## Boot -/

@[simp] theorem State.bootPass_pending (src a : Nat) : (s.bootPass src a).pending = s.pending := s.updSec_pending _

/-- The state in which hart 0 has read the image at `a`. -/
def State.bootRead (s : State) (a : Nat) (es : List BurstErr) : State := { s with d := (s.d.readBoot a es).1 }

theorem State.tryImage_passed {src a : Nat} {es : List BurstErr}
    (h : (s.bootRead a es).d.verifyImage s.a.sec a (s.d.readBoot a es).2 = 1) :
    s.tryImage src a es = ((s.bootRead a es).bootPass src a, true) := if_pos h

theorem State.tryImage_failed {src a c : Nat} {es : List BurstErr}
    (hc : (s.bootRead a es).d.verifyImage s.a.sec a (s.d.readBoot a es).2 = c) (h : c ≠ 1) :
    s.tryImage src a es = ((s.bootRead a es).updSec (fun x => { x with boot := bootCode x.boot src c }), false) := by
  subst hc
  exact if_neg h

@[simp] theorem State.tryImage_pending (src a : Nat) (es : List BurstErr) : (s.tryImage src a es).1.pending = s.pending := by
  by_cases h : (s.bootRead a es).d.verifyImage s.a.sec a (s.d.readBoot a es).2 = 1
  · rw [s.tryImage_passed h]
    exact State.bootPass_pending _ src a
  · rw [s.tryImage_failed rfl h]
    exact State.updSec_pending _ _

@[simp] theorem State.bootRequest_pending (off : Nat) : (s.bootRequest off).pending = s.pending := State.mk_pending ..

@[simp] theorem State.bootFrom_pending (es : List BurstErr) (l : List Nat) : (s.bootFrom es l).pending = s.pending := by
  induction l generalizing s with
  | nil => rfl
  | cons src rest ih => simp [State.bootFrom, apply_ite State.pending, ih]

@[simp] theorem State.bootGo_pending (es : List BurstErr) : (s.bootGo es).pending = s.pending := by
  unfold State.bootGo
  split
  · simp [apply_ite State.pending]
  · rfl

@[simp] theorem State.bootStart_pending : s.bootStart.pending = s.pending := by
  simp [State.bootStart]

@[simp] theorem State.hostUp_pending : s.hostUp.pending = s.pending := by
  simp [State.hostUp]

@[simp] theorem State.netFail_pending (rest : List Nat) (code : Nat) (es : List BurstErr) :
    (s.netFail rest code es).pending = s.pending := by
  simp [State.netFail]

@[simp] theorem State.bootData_pending (off : Nat) (rest : List Nat) (data : List Byte) (es : List BurstErr) :
    (s.bootData off rest data es).pending = s.pending := by
  simp [State.bootData, apply_ite State.pending]

@[simp] theorem State.dbgBoot_pending (v : Word) (es : List BurstErr) : (s.dbgBoot v es).pending = s.pending := by
  simp [State.dbgBoot, apply_ite State.pending]

@[simp] theorem State.hartGo_pending (v : Word) : (s.hartGo v).pending = s.pending := by
  simp [State.hartGo, apply_ite State.pending]

/-! ## Power, PMBus and security -/

theorem State.foldl_pending {α : Type} {f : State → α → State} (h : ∀ t x, (f t x).pending = t.pending) (l : List α) :
    (l.foldl f s).pending = s.pending := by
  induction l generalizing s with
  | nil => rfl
  | cons x l ih => rw [List.foldl_cons, ih, h]

@[simp] theorem State.levelDone_pending (west : Bool) (bad : List Nat) : (s.levelDone west bad).pending = s.pending := by
  unfold State.levelDone
  split
  · rfl
  · dsimp only
    exact (State.foldl_pending _ (fun t (r : Nat × Nat) => t.resetIsland_pending r.1 r.2) _).trans
      (State.foldl_pending _ State.clockFault_pending _)

@[simp] theorem State.sleep_pending : s.sleep.pending = s.pending := by
  simp [State.sleep, apply_ite State.pending]

@[simp] theorem State.wakeDone_pending (bad lost : List Nat) (runs : List (Nat × List (Nat × Nat) × List (Nat × Nat))) :
    (s.wakeDone bad lost runs).pending = s.pending := by
  unfold State.wakeDone
  split
  · rfl
  · exact State.foldl_pending _ (fun t i => t.clockFault_pending i) _

@[simp] theorem State.pwrCmd_pending (ini : Nat) (v : Word) : (s.pwrCmd ini v).pending = s.pending := by
  unfold State.pwrCmd
  dsimp only
  split
  · rfl
  · split
    · rfl
    · split <;> simp

@[simp] theorem State.modCmd_pending (v : Word) : (s.modCmd v).pending = s.pending := by
  simp [State.modCmd, State.offCmd, apply_ite State.pending]

@[simp] theorem State.pmbRead_pending (ok : Nat → Bool) (v : Nat) : (s.pmbRead ok v).pending = s.pending := rfl

@[simp] theorem State.pmbStatus_pending (r : Nat) : (s.pmbStatus r).pending = s.pending := rfl

@[simp] theorem State.attest_pending : s.attest.pending = s.pending := rfl

@[simp] theorem State.secCmd_pending (v : Word) : (s.secCmd v).pending = s.pending := by
  unfold State.secCmd
  dsimp only
  split
  · rfl
  · split <;> rfl

@[simp] theorem State.secEnd_pending : s.secEnd.pending = s.pending := by
  unfold State.secEnd
  split <;> rfl

@[simp] theorem State.tapIr_pending (ir : Nat) : (s.tapIr ir).pending = s.pending := by
  simp [State.tapIr, apply_ite State.pending]

@[simp] theorem State.eoi_pending (c : Nat) (v : Word) : (s.eoi c v).pending = s.pending := by
  simp [State.eoi, apply_ite State.pending]

/-! ## Register pages -/

@[simp] theorem State.senseTemp_pending (k : PageKind) (o : Nat) : (s.senseTemp k o).pending = s.pending := by
  unfold State.senseTemp
  split <;> rfl

@[simp] theorem State.regRead_pending (k : PageKind) (page o : Nat) : (s.regRead k page o).1.pending = s.pending := by
  unfold State.regRead
  dsimp only
  split <;> simp

@[simp] theorem State.snapshot_pending (k : PageKind) (page sel : Nat) : (s.snapshot k page sel).1.pending = s.pending := by
  unfold State.snapshot
  split
  · rfl
  · split <;> rfl

@[simp] theorem State.mailSelect_pending (k : PageKind) (page sel : Nat) : (s.mailSelect k page sel).pending = s.pending := by
  simp [State.mailSelect]

@[simp] theorem State.indEnd_pending (page : Nat) (ok : Bool) (v : Nat) : (s.indEnd page ok v).pending = s.pending := by
  simp [State.indEnd, apply_ite State.pending]

@[simp] theorem State.indGet_pending (k : PageKind) (sp a : Nat) (err : Option Bool) :
    (s.indGet k sp a err).1.pending = s.pending := by
  cases k <;> simp only [State.indGet]
  case deckle =>
    split
    · split <;> rfl
    all_goals rfl

@[simp] theorem State.indSet_pending (k : PageKind) (sp a : Nat) (v : Word) (err : Option Bool) :
    (s.indSet k sp a v err).1.pending = s.pending := by
  cases k <;> simp only [State.indSet]
  case sec =>
    split
    · rfl
    · split
      · split <;> rfl
      · rfl

@[simp] theorem State.indAccess_pending (k : PageKind) (page : Nat) (wr : Option Word) (err : Option Bool) :
    (s.indAccess k page wr err).pending = s.pending := by
  unfold State.indAccess
  dsimp only
  split
  · simp
  · cases wr with
    | some v => simp
    | none => dsimp only; split <;> simp

@[simp] theorem State.pageRead_pending (k : PageKind) (page o : Nat) (err : Option Bool) :
    (s.pageRead k page o err).pending = s.pending := by
  simp [State.pageRead, apply_ite State.pending]

/-- A trigger register's effect leaves the queue alone. -/
theorem State.trigger_pending (k : PageKind) (ini o : Nat) (v : Word) :
    ∀ t ∈ s.trigger k ini o v, t.pending = s.pending := by
  unfold State.trigger
  dsimp only
  split
  case h_33 =>
    intro t ht
    split_ifs at ht <;> cases ht <;> simp
  all_goals simp

@[simp] theorem State.fieldWrite_pending (k : PageKind) (ini page o : Nat) (v : Word) :
    (s.fieldWrite k ini page o v).pending = s.pending := by
  unfold State.fieldWrite
  split
  · rfl
  · split
    · rfl
    · split
      · next t h => exact s.trigger_pending k ini o v t h
      · rfl

@[simp] theorem State.pageWrite_pending (k : PageKind) (ini page o : Nat) (v : Word) (err : Option Bool) :
    (s.pageWrite k ini page o v err).pending = s.pending := by
  unfold State.pageWrite
  split
  · split <;> simp [apply_ite State.pending]
  · simp

@[simp] theorem State.pageAccess_pending (ini page o : Nat) (wr : Option Word) (err : Option Bool) :
    (s.pageAccess ini page o wr err).pending = s.pending := by
  unfold State.pageAccess
  split
  · rfl
  · cases wr <;> simp

@[simp] theorem State.bitAccess_pending (ini page o b : Nat) (wr : Option Bool) :
    (s.bitAccess ini page o b wr).pending = s.pending := by
  unfold State.bitAccess
  split
  · rfl
  · split
    · rfl
    · cases wr with
      | none => dsimp only; split <;> simp
      | some v => simp [apply_ite State.pending]

/-! ## Commands that answer a next state and leave the queue alone -/

/-- The outcome is a next state whose queue is that of `s`. -/
def Completes (s : State) (o : Host.Outcome State Fault Refusal) : Prop := ∃ t, o = .next t ∧ t.pending = s.pending

theorem completes_next {s t : State} (h : t.pending = s.pending) : Completes s (.next t) := ⟨t, rfl, h⟩

theorem completes_at (i : Nat) (f : Die → Die) : Completes s (s.at_ i f) := by
  obtain ⟨t, h, -, hp⟩ := s.at_next i f
  exact ⟨t, h, hp⟩

theorem completes_onDie (f : Die → Die) : Completes s (s.onDie f) := completes_next rfl

theorem completes_cpl (ini page off : Nat) {f : State → State} (hf : ∀ t, (f t).pending = t.pending) :
    Completes s (s.cpl ini page off f) := by
  unfold State.cpl
  split
  · exact completes_next rfl
  · dsimp only
    split
    · exact completes_next rfl
    · exact completes_next (hf _)

theorem completes_cplD (ini page off : Nat) (f : Die → Die) : Completes s (s.cplD ini page off f) :=
  completes_cpl s ini page off (fun _ => rfl)

theorem completes_atHost {f : State → State} (hf : (f s).pending = s.pending) : Completes s (s.atHost f) :=
  completes_next (s.pending_ite hf rfl)

theorem completes_sized (ini page o size : Nat) {f : State → State} (hf : ∀ t, (f t).pending = t.pending) :
    Completes s (s.sized ini page o size f) := by
  unfold State.sized
  split
  · exact completes_cpl s ini page o hf
  · exact completes_cpl s ini page o (fun _ => rfl)

theorem completes_window (ini off : Nat) (wr : Bool) (f : Die → Die) : Completes s (s.window ini off wr f) := by
  have hw : (s.windowed ini off wr f).pending = s.pending := by
    unfold State.windowed
    dsimp only
    split <;> rfl
  unfold State.window
  split
  · exact completes_next rfl
  · exact completes_next (s.pending_ite hw hw)

theorem completes_contest (done : Bool) (reqs : Die → List Nat) : Completes s (s.contest done reqs) := by
  unfold State.contest
  split <;> exact completes_next rfl

theorem completes_bitAlias (ini a : Nat) (wr : Option Word) (size : Nat) : Completes s (execBitAlias ini a wr s size) := by
  unfold execBitAlias
  exact completes_cpl s ini _ _ (fun t => by simp [apply_ite State.pending])

theorem completes_stackAccess (k ini off size : Nat) (wr : Option Nat) (n mis : Nat) :
    Completes s (execStackAccess k ini off size wr n mis s) := by
  unfold execStackAccess
  split
  · exact completes_next rfl
  · dsimp only
    split <;> exact completes_next rfl

theorem completes_readRetry (k n mis : Nat) : Completes s (execReadRetry k n mis s) := by
  unfold execReadRetry
  split
  · exact completes_next rfl
  · split
    · exact completes_next rfl
    · exact completes_next (s.pending_ite rfl rfl)

/-- The state after a command that completes has the queue of the state before it. -/
theorem State.after_pending {o : Host.Outcome State Fault Refusal} (h : Completes s o) : (s.after o).pending = s.pending := by
  obtain ⟨t, rfl, ht⟩ := h
  exact ht

/-! ## The debug port -/

@[simp] theorem State.romAccess_pending (size : Nat) (wr : Option Nat) : (s.romAccess size wr).pending = s.pending := by
  cases wr <;> rfl

@[simp] theorem State.retAccess_pending (addr size : Nat) (wr : Option Nat) : (s.retAccess addr size wr).pending = s.pending := by
  cases wr <;> rfl

@[simp] theorem State.transfer_pending (r : Nat) : (s.transfer r).pending = s.pending := rfl

@[simp] theorem State.mapAccess_pending (addr size : Nat) (wr : Option Nat) (n mis : Nat) (err : Option Bool) (drop : Option CoreNo) :
    (s.mapAccess addr size wr n mis err drop).pending = s.pending := by
  unfold State.mapAccess
  dsimp only
  split
  · exact s.after_pending (completes_stackAccess s ..)
  · split
    · cases wr with
      | none => exact s.after_pending (completes_window s ..)
      | some v => exact s.after_pending (completes_window s ..)
    · split
      · exact s.after_pending (completes_sized s _ _ _ _ (fun t => t.pageAccess_pending ..))
      · split
        · exact s.after_pending (completes_bitAlias s ..)
        · simp [apply_ite State.pending]

@[simp] theorem State.dbgAccess_pending (op size addr : Nat) (data : DWord) (n mis : Nat) (err : Option Bool) (drop : Option CoreNo) :
    (s.dbgAccess op size addr data n mis err drop).pending = s.pending := by
  simp [State.dbgAccess, State.tapTake, apply_ite State.pending]

@[simp] theorem State.dmControl_pending (v : Word) : (s.dmControl v).pending = s.pending := by
  unfold State.dmControl
  dsimp only
  generalize hu : s.updAon _ = u
  have hp : u.pending = s.pending := by rw [← hu, State.updAon_pending]
  refine s.pending_ite hp (s.pending_ite hp (s.pending_ite ?_ (s.pending_ite ?_ hp)))
  · exact (State.updAon_pending _ _).trans (s.pending_ite hp hp)
  · exact (State.updAon_pending _ _).trans (s.pending_ite hp hp)

@[simp] theorem State.dmCommand_pending (v : Word) : (s.dmCommand v).pending = s.pending := by
  simp [State.dmCommand, apply_ite State.pending]

@[simp] theorem State.sbAccess_pending (wr : Bool) (n mis : Nat) (err : Option Bool) (drop : Option CoreNo) :
    (s.sbAccess wr n mis err drop).pending = s.pending := by
  unfold State.sbAccess
  -- The map's answer is named before the match on it is compared, or the kernel would run the access.
  obtain ⟨m, hm⟩ : ∃ m, m = s.mapAccess := ⟨_, rfl⟩
  have hp (addr size : Nat) (x : Option Nat) : (m addr size x n mis err drop).pending = s.pending := by
    rw [hm, State.mapAccess_pending]
  rw [← hm]
  refine s.pending_ite rfl (s.pending_ite (s.updAon_pending _) (s.pending_ite (s.updAon_pending _) ?_))
  extract_lets _ u
  have hu : u.pending = s.pending := hp ..
  split
  · exact (State.updAon_pending _ _).trans hu
  · exact (State.updAon_pending _ _).trans hu

@[simp] theorem State.dmWrite_pending (a : Nat) (v : Word) (n mis : Nat) (err : Option Bool) (drop : Option CoreNo) :
    (s.dmWrite a v n mis err drop).pending = s.pending := by
  unfold State.dmWrite
  dsimp only
  refine s.pending_ite (s.dmControl_pending v) (s.pending_ite rfl (s.pending_ite (s.updAon_pending _)
    (s.pending_ite (s.dmCommand_pending v) (s.pending_ite (s.updAon_pending _) (s.pending_ite (s.pending_ite ?_ ?_)
      (s.pending_ite ?_ (s.pending_ite (s.updAon_pending _) rfl)))))))
  all_goals simp

@[simp] theorem State.dmiAccess_pending (op a : Nat) (v : Word) (n mis : Nat) (err : Option Bool) (drop : Option CoreNo) :
    (s.dmiAccess op a v n mis err drop).pending = s.pending := by
  unfold State.dmiAccess
  dsimp only
  refine s.pending_ite (s.pending_ite ?_ ?_) (s.pending_ite ?_ ?_)
  all_goals simp

/-! ## Every command completes -/

theorem completes_bootData (bs : List Byte) (es : List BurstErr) : Completes s (execBootData bs s es) := by
  refine completes_atHost s ?_
  split
  · split
    · exact State.bootData_pending ..
    · rfl
  · rfl

theorem completes_bootRequestRetry : Completes s (execBootRequestRetry s) := by
  refine completes_atHost s ?_
  split
  · exact s.bootRequest_pending _
  · rfl

theorem completes_networkBootTimeout (es : List BurstErr) : Completes s (execNetworkBootTimeout s es) := by
  refine completes_atHost s ?_
  split
  · exact s.netFail_pending ..
  · rfl

theorem completes_releaseSequence (boot clk : Nat) : Completes s (execReleaseSequence boot clk s) := by
  refine completes_next (s.pending_ite rfl ?_)
  split
  · simp [apply_ite State.pending]
  · simp
  · simp [apply_ite State.pending]
  · rfl

theorem completes_islandRelease (i : Nat) : Completes s (execIslandRelease i s) := by
  refine completes_next (s.pending_ite rfl ?_)
  split
  · rfl
  · simp [apply_ite State.pending]
  · rfl

/-- Whatever the command, it answers a next state and leaves the queue alone (log 1). -/
theorem exec_completes (c : Instr) : Completes s (exec c s) := by
  unfold exec
  cases c
  case windowEntry | descriptorFetch | nop | barrier | signal | opa | opaT | loadacc | drain | matvec | vec | tableApply
    | copy | convert | rngFill | reduce | skimPart | update | gather | coll | swapTokenEntry | flushToken | tbufHalfFill
    | matvecPassEnd | bpoolRequest | bpoolTimeout | ftabSwap | descriptorComplete | eventSignal | patrolScrub | feltPush
    | feltPushBuffer | slotPlanLoad | declare | setHint | release | share | writeback | homeFrameTaken | fillDone |
    zeroFillDone | drainDone | writebackDone | stackGrant | rateWindow | spillIdleWriteback | prefetchRequest |
    pfWalkResume | abortingClear | barrierRelease | deckleReady | lathFlit | violation | crossingExit | circuitOpen |
    sidebandMessage | accLanding | reducerContribution | fallbackStart | reexec | correctiveWrite | refresh | stackScrub
    | hot | skimContribution | collect | screedNotice | linkTraining | laneLock | codeword | hello | helloTimer |
    fabSilence | heartbeat | credit | creditTimer | dataSheet | dataSkim | dataHost | query | report | assign | addrAck
    | fence | linkEvent | routeWrite | routeCommit | routeSync | fabGrant | final | repeatStream | collAbort |
    coordinator | collTimeout | sgOperationEnd | flXferDone | flashMedia | mgmtFrameRx | mgmtFrameTx | sourceAssert |
    holdoffExpiry | wakeFrame | resetScrubDone | warm | codewordLockLoss | mgLinkUp =>
    dsimp only
    exact completes_at s ..
  case numClear | ftabSwapRequest | start | stop | resume | abort | reset | flip | pregArm | ackIrq | push | place |
    remove | pages | cmdAck | pfAdvance | pfReset | enable | retire | jobAbort | barArrive | islErrClr | stkErrAck |
    skimEnable | skimDisable | forceSkip | skimAck | linkEnable | txTail | eventAck | cpErrClr | capture | fold0 | fold1
    | sgCommit | abandon | serve | fill | rebuild | restore | sgResume | sgAck | flXfer | flErrClr | mgErrClr | claim |
    ipendSet | ipendClr | imaskSet | imaskClr | carbClass | wbAck | eaAck | wake | inject | injAck | freeze | thaw |
    mark =>
    exact completes_cplD s ..
  case stackBringup | levelChangeDone | wakeDone | brownOut | pinReset | referenceFailure | clockFault | lockUp |
    watchdog | secCommandEnd | extest | samplePreload | idcode | dbgport | dmi | bypass | dbgportAccess | offPowerDown |
    page | clearFaults | voutMode | statusWord | statusVout | statusIout | statusInput | statusTemperature | readVin |
    readIin | readVout | readIout | readTemperature1 | readPout | readPin | mfrId | mfrModel | refFallback |
    referenceInRange | dmiAccess =>
    exact completes_next (by simp [apply_ite State.pending])
  case blkCommit | mboxSel | mboxDataHi | indData | eoi | goWest | goEast | sleep | pwrAck | wakeAck | softwareReset |
    debugReset | wdtStart | kick | lockupAck | suspectAck | histAck | force | dbgBootGo | secHartGo | attest |
    rollbackAdvance | revokeEd | revokeMldsa | secAck | off | tripAck =>
    exact completes_cpl s _ _ _ (fun t => by simp)
  case seamCredit | heartbeatTimer | levelQuiescent | levelTimeout | sleepQuiet | sleepTimeout | wakePin | wakeTimer |
    prechargeMate | mainSwitchClose | mainSwitchOpen | thermalTrip | tripHoldExpiry | matedDebounce | surpriseRemoval =>
    exact completes_onDie s ..
  case vatWindowRead | vatWindowWrite | vatWindowTimeout =>
    exact completes_window s ..
  case arbiterGrant | arbiterRetry =>
    exact completes_contest s ..
  case registerWrite =>
    exact completes_sized s _ _ _ _ (fun t => t.pageAccess_pending ..)
  case bitAlias =>
    exact completes_bitAlias s ..
  case stackAccess =>
    exact completes_stackAccess s ..
  case readRetry =>
    exact completes_readRetry s ..
  case powerOn =>
    exact completes_next s.cutFuse_pending
  case releaseSequence =>
    exact completes_releaseSequence s ..
  case islandRelease =>
    exact completes_islandRelease s _
  case bootData =>
    exact completes_bootData s ..
  case bootRequestRetry =>
    exact completes_bootRequestRetry s
  case networkBootTimeout =>
    exact completes_networkBootTimeout s ..

end Sys2Proof.Machine

namespace Sys2Proof
open Machine

/-- Settles O57: the command at the front completes on the rest of the queue, and an empty queue is its own rest. -/
theorem everyStepCompletes : Obligations.every_step_completes := by
  unfold Obligations.every_step_completes
  intro s
  rcases hq : s.pending with - | ⟨c, rest⟩
  · exact ⟨s, by rw [step, hq], by rw [hq]; rfl⟩
  · obtain ⟨t, ht, hp⟩ := exec_completes { s with pending := rest } c
    exact ⟨t, by rw [step, hq]; exact ht, hp⟩

end Sys2Proof
end

section
/-!
PROOFS. Served accesses: what a command that ends in one access does once the access is served, and what the grant
leaves as it was.
-/

namespace Sys2Proof.Machine

/-! ## Served accesses -/

/-- A command that is one access with an effect on the die has that effect once the access is served. -/
theorem exec_cplD_served {s : State} {c : Instr} {ini page off : Nat} {f : Die → Die}
    (hc : exec c s = s.cplD ini page off f) (h : s.admits ini page off = true) :
    exec c s = .next ((s.reached ini page).onD f) := hc.trans (State.cplD_admitted h)

/-- So does one with an effect on the whole state. -/
theorem exec_cpl_served {s : State} {c : Instr} {ini page off : Nat} {f : State → State}
    (hc : exec c s = s.cpl ini page off f) (h : s.admits ini page off = true) :
    exec c s = .next (f (s.reached ini page)) := hc.trans (State.cpl_admitted h)

/-- A command that is one event of an island that runs. -/
theorem exec_at_live {s : State} {c : Instr} {i : Nat} {f : Die → Die} (hc : exec c s = s.at_ i f)
    (h : s.d.live i = true) : exec c s = .next (s.onD f) := hc.trans (State.at_live h)

/-- Two effects that agree on the die leave the same state. -/
theorem State.next_onD_congr {s : State} {f g : Die → Die} (h : f s.d = g s.d) :
    (.next (s.onD f) : Host.Outcome State Fault Refusal) = .next (s.onD g) := by
  rw [State.onD, h, State.onD]

section
variable (s : State) (ini page : Nat)

/-- What a served access finds is what stood there before, but for the arbiter, its counters, the trace numbers and
the response. -/
theorem State.reached_keeps {α : Type} (g : Die → α)
    (h : ∀ (d : Die) m c x r, g { d with trS := m, carb := c, ctr := x, resp := r } = g d) :
    g (s.reached ini page).d = g s.d := by
  obtain ⟨m, c, x, hd⟩ := s.reached_d ini page
  rw [hd, h]

@[simp] theorem State.reached_resp : (s.reached ini page).d.resp = .ok 0 := by
  obtain ⟨m, c, x, hd⟩ := s.reached_d ini page
  rw [hd]

@[simp] theorem State.reached_pw : (s.reached ini page).d.pw = s.d.pw := s.reached_keeps ini page Die.pw (fun _ _ _ _ _ => rfl)
@[simp] theorem State.reached_mem : (s.reached ini page).d.mem = s.d.mem := s.reached_keeps ini page Die.mem (fun _ _ _ _ _ => rfl)
@[simp] theorem State.reached_shad : (s.reached ini page).d.shad = s.d.shad := s.reached_keeps ini page Die.shad (fun _ _ _ _ _ => rfl)
@[simp] theorem State.reached_sg : (s.reached ini page).d.sg = s.d.sg := s.reached_keeps ini page Die.sg (fun _ _ _ _ _ => rfl)
@[simp] theorem State.reached_inj : (s.reached ini page).d.inj = s.d.inj := s.reached_keeps ini page Die.inj (fun _ _ _ _ _ => rfl)
@[simp] theorem State.reached_skimPend : (s.reached ini page).d.skimPend = s.d.skimPend :=
  s.reached_keeps ini page Die.skimPend (fun _ _ _ _ _ => rfl)
@[simp] theorem State.reached_islSt : (s.reached ini page).d.islSt = s.d.islSt := s.reached_keeps ini page Die.islSt (fun _ _ _ _ _ => rfl)
@[simp] theorem State.reached_hdr : (s.reached ini page).d.hdr = s.d.hdr := s.reached_keeps ini page Die.hdr (fun _ _ _ _ _ => rfl)
@[simp] theorem State.reached_reg (p o : Nat) : (s.reached ini page).d.reg p o = s.d.reg p o := by simp [Die.reg]
@[simp] theorem State.reached_shadow (p o : Nat) : (s.reached ini page).d.shadow p o = s.d.shadow p o := by simp [Die.shadow]
@[simp] theorem State.reached_ist (i : Nat) : (s.reached ini page).d.ist i = s.d.ist i := by simp [Die.ist]
@[simp] theorem State.reached_hd (p : Nat) : (s.reached ini page).d.hd p = s.d.hd p := by simp [Die.hd]
@[simp] theorem State.reached_enabled (n : Nat) : (s.reached ini page).d.enabled n = s.d.enabled n :=
  s.reached_keeps ini page (Die.enabled · n) (fun _ _ _ _ _ => rfl)

/-- The grant leaves the always-on island alone, but for `DEBUG_SEEN`. -/
theorem State.reached_a : (s.reached ini page).a =
    if ini = iniDebug then { s.a with sec := { s.a.sec with debugSeen := true } } else s.a := s.granted_a ini page

/-- Part of the always-on island that is not `DEBUG_SEEN` is as before. -/
theorem State.reached_a_keeps {α : Type} (g : Aon → α)
    (h : ∀ a : Aon, g { a with sec := { a.sec with debugSeen := true } } = g a) : g (s.reached ini page).a = g s.a := by
  rw [State.reached_a]
  split
  · exact h _
  · rfl

@[simp] theorem State.reached_wdtRunning : (s.reached ini page).a.wdtRunning = s.a.wdtRunning :=
  s.reached_a_keeps ini page Aon.wdtRunning (fun _ => rfl)
@[simp] theorem State.reached_trim : (s.reached ini page).a.trim = s.a.trim := s.reached_a_keeps ini page Aon.trim (fun _ => rfl)
@[simp] theorem State.reached_history : (s.reached ini page).a.history = s.a.history :=
  s.reached_a_keeps ini page Aon.history (fun _ => rfl)
@[simp] theorem State.reached_tap : (s.reached ini page).a.tap = s.a.tap := s.reached_a_keeps ini page Aon.tap (fun _ => rfl)
@[simp] theorem State.reached_cmd : (s.reached ini page).a.sec.cmd = s.a.sec.cmd :=
  s.reached_a_keeps ini page (fun a => a.sec.cmd) (fun _ => rfl)

end

/-! ## Acknowledgements -/

/-- Clearing bit `j` of a register leaves every other bit. -/
theorem testBit_clearBit {w : Nat} (x : BitVec w) (j : Nat) {k : Nat} (hk : k < w) :
    (x &&& ~~~(BitVec.ofNat w (2 ^ j))).toNat.testBit k = (x.toNat.testBit k && !decide (j = k)) := by
  rw [BitVec.testBit_toNat, BitVec.getLsbD_and, BitVec.getLsbD_not, BitVec.getLsbD_ofNat, Nat.testBit_two_pow,
    BitVec.testBit_toNat]
  simp [hk]

theorem Die.cpErrClr_eq (d : Die) (p : Nat) (v : Word) : d.cpErrClr p v =
    d.updPort p (fun x => { x with err := x.err &&& (127 - fld v 6 0), peFailV := !bit v 7 && x.peFailV }) := by
  unfold Die.cpErrClr
  cases bit v 7 <;> rfl

theorem Die.sgCmd_ack {d : Die} (h : d.sg.busy = false) (j : Nat) :
    d.sgCmd 11 j = d.updSg (fun x => { x with donePend := false }) := by
  simp [Die.sgCmd, h]

theorem State.secCmd_ack {s : State} (h : s.a.sec.cmd = none) :
    s.secCmd (secWord 5 0) = s.updSec (fun x => { x with donePend := false }) := by
  have hop : fld (secWord 5 0) 31 28 = 5 := by decide
  simp [State.secCmd, h, hop]

theorem Die.numClear_enabled {d : Die} {n : Nat} (h : d.enabled n = true) : d.numClear n 1 =
    d.updCore n (fun c => { c with
      nonfinite := false, srcArray := false, srcMv := false, srcVec := false, srcScreed := false, srcConvert := false }) := by
  have hb : bit 1 0 = true := by decide
  rw [Die.numClear, if_pos hb, Die.onCore, if_pos h]

end Sys2Proof.Machine

namespace Sys2Proof
open Machine

/-- Settles O1: both sides are the step's two cases on the queue. -/
theorem stepTakesFront : Obligations.step_takes_front := by
  unfold Obligations.step_takes_front
  exact ⟨fun _ _ => rfl, fun s hs => by rw [step, hs]⟩

/-- Settles O16: each acknowledgement is one access, and its effect is the clearing of the bits named. -/
theorem errorAcknowledgements : Obligations.error_acknowledgements := by
  unfold Obligations.error_acknowledgements
  intro s ini v
  refine ⟨fun h => ⟨exec_cplD_served rfl h, exec_cplD_served rfl h⟩, fun h => exec_cplD_served rfl h,
    fun h => exec_cplD_served rfl h, fun i h => exec_cplD_served rfl h, fun p h => ?port, fun k h => exec_cplD_served rfl h,
    fun h => exec_cplD_served rfl h, fun j h hb => ?securing, fun h hc => ?security, fun h => exec_cplD_served rfl h,
    fun n h hn => ?core, fun j h => ⟨_, exec_cplD_served (f := fun d => d.skimAck j) rfl h, ?skim⟩⟩
  case port => exact (exec_cplD_served (f := fun d => d.cpErrClr p v) rfl h).trans (State.next_onD_congr (Die.cpErrClr_eq ..))
  case securing =>
    refine (exec_cplD_served (f := fun d => d.sgCmd 11 j) rfl h).trans (State.next_onD_congr (Die.sgCmd_ack ?_ _))
    rw [State.reached_sg, hb]
  case security =>
    rw [exec_cpl_served (f := fun s => s.secCmd (secWord 5 0)) rfl h, State.secCmd_ack (by rw [State.reached_cmd, hc])]
  case core =>
    refine (exec_cplD_served (f := fun d => d.numClear n 1) rfl h).trans (State.next_onD_congr (Die.numClear_enabled ?_))
    rw [State.reached_enabled, hn]
  case skim =>
    have hj : j.val < 32 := j.isLt
    rw [State.onD_d, Die.skimAck, State.reached_skimPend]
    refine ⟨by rw [testBit_clearBit _ _ hj]; simp, fun k hk hkj => by rw [testBit_clearBit _ _ hk]; simp [hkj.symm]⟩

end Sys2Proof
end

section
/-!
PROOFS. The interrupt controller's arrays, its claims and its sources, and the arbiter's contests (12 R359-R377).
-/

namespace Sys2Proof.Machine

/-! ## Arrays of sources -/

/-- The sources a write of word `w` names (12 R377). -/
theorem srcHas_srcWord (w : Nat) (v : Word) {n : Nat} (hn : n < 1024) :
    srcHas (srcWord w v) n = (decide (n / 32 = w) && bit v (n % 32) && decide (n < 1023)) := by
  have hv (k : Nat) (hk : 32 ≤ k) : v.toNat.testBit k = false :=
    Nat.testBit_lt_two_pow (lt_of_lt_of_le v.isLt (Nat.pow_le_pow_right (by omega) hk))
  rw [srcHas, srcWord, BitVec.testBit_toNat, BitVec.getLsbD_ofNat, Nat.testBit_mod_two_pow, Nat.testBit_mul_two_pow, bit]
  rcases lt_trichotomy (n / 32) w with h | h | h
  · simp [show ¬ 32 * w ≤ n by omega, show n / 32 ≠ w by omega]
  · simp [hn, h, show 32 * w ≤ n by omega, show n - 32 * w = n % 32 by omega, Bool.and_comm]
  · simp [hv (n - 32 * w) (by omega), show n / 32 ≠ w by omega]

theorem srcHas_or (x y : BitVec 1024) (n : Nat) : srcHas (x ||| y) n = (srcHas x n || srcHas y n) := by
  simp only [srcHas, BitVec.testBit_toNat, BitVec.getLsbD_or]

theorem srcHas_and_not (x y : BitVec 1024) {n : Nat} (hn : n < 1024) : srcHas (x &&& ~~~y) n = (srcHas x n && !srcHas y n) := by
  simp only [srcHas, BitVec.testBit_toNat, BitVec.getLsbD_and, BitVec.getLsbD_not, hn, decide_true, Bool.true_and]

section
variable {s : State} {c : Instr} {ini off : Nat} {f : Intc → Intc}

/-- A served write of the controller changes the controller that stood there before the grant. -/
theorem exec_intc_served (hc : exec c s = s.cplD ini pgIntc off (fun d => d.updIntc f))
    (h : s.admits ini pgIntc off = true) (g : Intc → Intc) (hg : f s.d.intc = g s.d.intc) :
    exec c s = .next ((s.reached ini pgIntc).onD (fun d => d.updIntc g)) := by
  refine (exec_cplD_served hc h).trans (State.next_onD_congr ?_)
  rw [Die.updIntc, State.reached_intc, hg, Die.updIntc, State.reached_intc]

end

/-! ## Claims and sources -/

/-- Core `c` takes source `n` (12 R373). -/
def Die.taken (d : Die) (c n : Nat) : Die :=
  ((d.updIntc (fun x => { x with
    active := x.active ||| srcBit n, pend := x.pend &&& ~~~(srcBit n), claimer := sset x.claimer 0 n c
    hold := if fld (d.reg pgIntc (0x580 + 4 * (n / 32))) 15 0 ≠ 0 then x.hold ||| BitVec.ofNat 32 (2 ^ (n / 32)) else x.hold })).count
      pgIntc (0x100 + c)).respond (.ok n)

/-- A search from 0 finds the lowest number that passes. -/
theorem find?_range_lowest {p : Nat → Bool} {k n : Nat} (hn : n < k) (hp : p n = true) (hl : ∀ m, m < n → p m = false) :
    (List.range k).find? p = some n :=
  List.find?_range_eq_some.2 ⟨hp, List.mem_range.2 hn, fun m hm => by simp [hl m hm]⟩

theorem find?_range_none {p : Nat → Bool} {k : Nat} (h : ∀ m, m < k → p m = false) : (List.range k).find? p = none :=
  List.find?_range_eq_none.2 (fun m hm => by simp [h m hm])

/-- The lowest eligible source is the one taken. -/
theorem Die.claim_lowest {d : Die} {c n : Nat} (hn : n < 1023) (he : d.eligible c n = true)
    (hl : ∀ m, m < n → d.eligible c m = false) : d.claim c = d.taken c n := by
  have hf := find?_range_lowest hn he hl
  unfold Die.claim
  simp only [hf]
  rfl

/-- With no eligible source a claim answers 1023 and counts. -/
theorem Die.claim_none {d : Die} {c : Nat} (h : ∀ m, m < 1023 → d.eligible c m = false) :
    d.claim c = (d.count pgIntc 1).respond (.ok 1023) := by
  have hf := find?_range_none h
  unfold Die.claim
  simp only [hf]

@[simp] theorem State.reached_eligible (s : State) (ini page c n : Nat) :
    (s.reached ini page).d.eligible c n = s.d.eligible c n := by
  simp [Die.eligible]

/-- A rising source becomes pending (12 R371). -/
theorem Die.senseSource_rising {d : Die} {n : Nat} (h : srcHas d.intc.level n = false) : d.senseSource n true =
    d.updIntc (fun x => { x with pend := x.pend ||| srcBit n, level := x.level ||| srcBit n }) := by
  simp [Die.senseSource, h]

theorem exec_sourceAssert_live {s : State} {n : Fin 1024} (hn : n.val < 1023) (fact : Bool) (h : s.d.live 90 = true) :
    exec (.sourceAssert n fact) s = .next (s.onD (fun d => d.senseSource n (s.asserted n fact))) := by
  refine (exec_at_live (f := fun d => if n.val < 1023 then d.senseSource n (s.asserted n fact) else d) rfl h).trans
    (State.next_onD_congr ?_)
  rw [if_pos hn]

end Sys2Proof.Machine

namespace Sys2Proof
open Machine

/-- Settles O13: each write puts or clears the bits of `srcWord`, and a holdoff's end clears its own bit. -/
theorem interruptArrays : Obligations.interrupt_arrays := by
  unfold Obligations.interrupt_arrays
  intro named s ini w v
  have hset (x : BitVec 1024) (n : Nat) (hn : n < 1024) : srcHas (x ||| srcWord w v) n = (srcHas x n || named w v n) := by
    rw [srcHas_or, srcHas_srcWord _ _ hn]
  have hclr (x : BitVec 1024) (n : Nat) (hn : n < 1024) : srcHas (x &&& ~~~(srcWord w v)) n = (srcHas x n && !named w v n) := by
    rw [srcHas_and_not _ _ hn, srcHas_srcWord _ _ hn]
  refine ⟨fun h => ⟨_, exec_intc_served (f := fun x => { x with pend := x.pend ||| srcWord w v }) rfl h _ rfl, hset _⟩,
    fun h => ⟨_, exec_intc_served (f := fun x => { x with pend := x.pend &&& ~~~(srcWord w v) }) rfl h _ rfl, hclr _⟩,
    fun h => ⟨_, exec_intc_served (f := fun x => { x with mask := x.mask ||| srcWord w v }) rfl h _ rfl, hset _⟩,
    fun h => ⟨_, exec_intc_served (f := fun x => { x with mask := x.mask &&& ~~~(srcWord w v) }) rfl h _ rfl, hclr _⟩,
    fun h => ⟨s.d.intc.hold &&& ~~~(BitVec.ofNat 32 (2 ^ w.val)), exec_at_live (f := fun d => d.updIntc _) rfl h, fun g hg => ?_⟩⟩
  rw [testBit_clearBit _ _ hg]
  simp [eq_comm]

/-- Settles O14: a claim takes the source that the search finds first, and a source's edge sets or drops its bits. -/
theorem interruptClaims : Obligations.interrupt_claims := by
  unfold Obligations.interrupt_claims
  intro others s ini c n hn
  have hn' : n < 1024 := by omega
  refine ⟨fun h => ⟨fun he hl => ?taken, fun hl => ?empty⟩, fun k fact hk hlive => ⟨fun ha hlev => ?rises, fun ha => ?falls⟩⟩
  case taken =>
    refine ⟨_, (exec_cplD_served (f := fun d => d.claim c) rfl h).trans (State.next_onD_congr (g := fun d => d.taken c n)
      (Die.claim_lowest hn (by simpa using he) (fun m hm => by simpa using hl m hm))), rfl, ?_⟩
    have hi : ((s.reached ini pgIntc).d.taken c n).intc.mask = (s.reached ini pgIntc).d.intc.mask := rfl
    simp only [State.onD_d, State.onD_pending, hi, State.reached_intc, State.reached_pending, and_true]
    simp only [Die.taken, Die.respond, Die.count, Die.updIntc, State.reached_intc, sget_sset_same]
    refine ⟨by simp [srcHas_or_srcBit, hn'], by simp [srcHas_and_not_srcBit, hn'], trivial, fun k hk hkn => ⟨?_, ?_⟩⟩
    · simp [srcHas_or_srcBit, hk, hkn.symm]
    · simp [srcHas_and_not_srcBit, hk, hkn.symm]
  case empty =>
    exact (exec_cplD_served (f := fun d => d.claim c) rfl h).trans
      (State.next_onD_congr (Die.claim_none (fun m hm => by simpa using hl m hm)))
  case rises =>
    subst hk
    refine ⟨_, (exec_sourceAssert_live hn fact hlive).trans (State.next_onD_congr
      (g := fun d => d.updIntc (fun x => { x with pend := x.pend ||| srcBit k, level := x.level ||| srcBit k }))
      (by rw [ha, Die.senseSource_rising hlev])), ?_⟩
    refine ⟨by simp [Die.updIntc, srcHas_or_srcBit, hn'], by simp [Die.updIntc, srcHas_or_srcBit, hn'], fun m hm hmk => ⟨rfl, ?_⟩⟩
    simp [Die.updIntc, srcHas_or_srcBit, hm, hmk.symm]
  case falls =>
    subst hk
    refine ⟨_, exec_sourceAssert_live hn fact hlive, ?_⟩
    rw [State.onD_d, ha]
    exact ⟨by simp [Die.senseSource, Die.updIntc, srcHas_and_not_srcBit, hn'], rfl, rfl⟩

end Sys2Proof
end

section
/-!
PROOFS. The arbiter's contests (12 R358-R362).
-/

namespace Sys2Proof.Machine

/-! ## The pick -/

/-- The request picked is one of those made, and no other is of a lower class (12 R359). -/
theorem Die.carbPick_some {d : Die} {reqs : List Nat} {w : Nat} (h : d.carbPick reqs = some w) :
    w ∈ reqs ∧ w < 21 ∧ ∀ r ∈ reqs, d.carbClass w ≤ d.carbClass r := by
  unfold Die.carbPick at h
  split at h
  · cases h
  · next c hc =>
    obtain ⟨-, hmin⟩ := List.min?_eq_some_iff.1 hc
    have hp := List.find?_some h
    simp only [Bool.and_eq_true, List.contains_iff_mem, decide_eq_true_eq] at hp
    obtain ⟨hw, hcw⟩ := hp
    obtain ⟨k, -, hk⟩ := List.mem_map.1 (List.mem_of_find?_eq_some h)
    refine ⟨hw, by omega, fun r hr => ?_⟩
    rw [hcw]
    exact hmin _ (List.mem_map_of_mem hr)

/-- A requester alone is picked, wherever the rotation of its class stands. -/
theorem Die.carbPick_alone (d : Die) {r : Nat} (hr : r < 21) : d.carbPick [r] = some r := by
  have hf (l : Nat) : ((List.range 21).map (fun k => (l + 1 + k) % 21)).find?
      (fun x => [r].contains x && decide (d.carbClass x = d.carbClass r)) = some r := by
    have hmem : r ∈ (List.range 21).map (fun k => (l + 1 + k) % 21) :=
      List.mem_map.2 ⟨(r + 21 - (l + 1) % 21) % 21, List.mem_range.2 (by omega), by omega⟩
    obtain ⟨x, hx⟩ := Option.isSome_iff_exists.1 (List.find?_isSome.2 ⟨r, hmem, by simp⟩ :
      (((List.range 21).map (fun k => (l + 1 + k) % 21)).find?
        (fun x => [r].contains x && decide (d.carbClass x = d.carbClass r))).isSome)
    have hp := List.find?_some hx
    simp only [Bool.and_eq_true, List.contains_iff_mem, List.mem_singleton] at hp
    rw [hx, hp.1]
  simp only [Die.carbPick, List.map_cons, List.map_nil, List.min?_singleton, hf]

/-! ## Losses -/

theorem Die.streakOf_carbLose (d : Die) (r x : Nat) :
    (d.carbLose r).streakOf x = d.streakOf x + if x = r then 1 else 0 := by
  have h : (d.carbLose r).streakOf x = sget (sset d.carb.streak 0 r (d.streakOf r + 1)) 0 x := rfl
  rw [h, sget_sset]
  split
  · next hx => rw [hx]
  · rfl

/-- Each loser of a contest has one more consecutive loss, and nothing else of the arbiter changes. -/
theorem Die.foldl_carbLose (d : Die) (l : List Nat) (hl : l.Nodup) :
    (l.foldl Die.carbLose d).carb.holder = d.carb.holder ∧ (l.foldl Die.carbLose d).carb.last = d.carb.last ∧
    ∀ x, (l.foldl Die.carbLose d).streakOf x = d.streakOf x + if x ∈ l then 1 else 0 := by
  induction l generalizing d with
  | nil => simp
  | cons r l ih =>
    obtain ⟨hr, hl⟩ := List.nodup_cons.1 hl
    obtain ⟨h1, h2, h3⟩ := ih (d.carbLose r) hl
    refine ⟨h1, h2, fun x => ?_⟩
    rw [List.foldl_cons, h3, Die.streakOf_carbLose]
    by_cases hx : x = r
    · simp [hx, hr]
    · simp [hx]

end Sys2Proof.Machine

namespace Sys2Proof
open Machine

/-- Settles O15: the pick is a request of the lowest class, and the others are the losers counted. -/
theorem arbiterContest : Obligations.arbiter_contest := by
  unfold Obligations.arbiter_contest
  intro s hlive hfree
  refine ⟨fun mask w hw => ?grant, fun r hr => ?retry, fun ini v => ⟨fun h => ?low, fun h => ?high⟩⟩
  case grant =>
    set reqs := (List.range 21).filter (fun r => mask.toNat.testBit r) with hreqs
    have hmem (r : Nat) : r ∈ reqs ↔ r < 21 ∧ mask.toNat.testBit r = true := by simp [hreqs]
    obtain ⟨hwm, hw21, hmin⟩ := Die.carbPick_some hw
    have hnd : (reqs.filter (fun r => decide (r ≠ w))).Nodup := (List.nodup_range.filter _).filter _
    obtain ⟨hh, hlast, hst⟩ := (s.d.carbGrant w).foldl_carbLose _ hnd
    have hd : s.d.contest reqs = (reqs.filter (fun r => decide (r ≠ w))).foldl Die.carbLose (s.d.carbGrant w) := by
      simp only [Die.contest, hfree, hw]
    have he : exec (.arbiterGrant false mask) s = s.contest false (fun _ => reqs) := rfl
    rw [he, State.contest, if_neg (by simp [hlive])]
    refine ⟨_, rfl, ?_⟩
    simp only [Bool.false_eq_true, if_false, hd]
    refine ⟨hh, ((hmem w).1 hwm).2, hw21, ?_, fun r hr hm => hmin r ((hmem r).2 ⟨hr, hm⟩), fun r hr => ?_, trivial⟩
    · rw [hlast]; rfl
    · rw [hst r]
      have : r ∈ reqs.filter (fun r => decide (r ≠ w)) ↔ mask.toNat.testBit r = true ∧ r ≠ w := by
        simp [hmem, hr]
      simp only [this]
      rfl
  case retry =>
    have he : exec (.arbiterRetry false r) s =
        s.contest false (fun d => if 0 < d.streakOf r ∧ r.val < 21 then [r.val] else []) := rfl
    rw [he, State.contest, if_neg (by simp [hlive])]
    refine ⟨_, rfl, ?_⟩
    simp only [Bool.false_eq_true, if_false, hr, r.isLt, and_self, if_true, Die.contest, hfree, Die.carbPick_alone _ r.isLt]
    simp [Die.carbGrant, Die.count]
  case low => exact exec_cplD_served (f := fun d => d.writeClass false v) rfl h
  case high => exact exec_cplD_served (f := fun d => d.writeClass true v) rfl h

end Sys2Proof
end

section
/-!
PROOFS. The PMBus side, the TAP and the harts' debug module, mailboxes, and the state right after reset.
-/

namespace Sys2Proof.Machine

/-! ## PMBus status bytes -/

theorem Pmb.st_setSt (p : Pmb) (page r v g k : Nat) (hr : r < 8) (hk : k < 8) :
    (p.setSt page r v).st g k = if g = page ∧ k = r then v else p.st g k := by
  simp only [Pmb.st, Pmb.setSt, sget_sset]
  have h : g * 8 + k = page * 8 + r ↔ g = page ∧ k = r := by omega
  simp only [h]

/-- CLEAR_FAULTS on the PMBus side: the page's status bytes are 0, and the access is answered. -/
def Pmb.cleared (p : Pmb) : Pmb := { p.answer [] with status := sclear p.status (p.page * 8) 8 }

theorem Pmb.st_cleared (p : Pmb) (g r : Nat) (hr : r < 8) : p.cleared.st g r = if g = p.page then 0 else p.st g r := by
  simp only [Pmb.st, Pmb.cleared, sget_sclear]
  have h : p.page * 8 ≤ g * 8 + r ∧ g * 8 + r < p.page * 8 + 8 ↔ g = p.page := by omega
  simp only [h]

/-- A page that supports a reading answers it. -/
theorem State.pmbRead_supported {s : State} {ok : Nat → Bool} (h : ok s.a.pmb.page = true) (v : Nat) :
    s.pmbRead ok v = s.updPmb (fun p => p.answerW v) := by
  simp only [State.pmbRead, State.updPmb, State.updAon, h, if_true]

/-! ## Bits of a mask -/

/-- A number by its bits above bit `i`, that bit, and the bits below it. -/
theorem testBit_three_parts (q : Nat) (b : Bool) {r i : Nat} (hr : r < 2 ^ i) (k : Nat) :
    (2 ^ (i + 1) * q + (b.toNat * 2 ^ i + r)).testBit k =
      if k < i then r.testBit k else if k = i then b else q.testBit (k - (i + 1)) := by
  have hlt : b.toNat * 2 ^ i + r < 2 ^ (i + 1) := by
    rw [Nat.pow_succ]
    cases b <;> simp <;> omega
  rw [Nat.testBit_two_pow_mul_add _ hlt, Nat.mul_comm b.toNat, Nat.testBit_two_pow_mul_add _ hr]
  rcases lt_trichotomy k i with h | h | h
  · simp [h, show k < i + 1 by omega]
  · cases b <;> simp [h]
  · simp [show ¬ k < i + 1 by omega, show ¬ k < i by omega, show k ≠ i by omega]

theorem eq_three_parts (x i : Nat) : x = 2 ^ (i + 1) * (x / 2 ^ (i + 1)) + ((x.testBit i).toNat * 2 ^ i + x % 2 ^ i) := by
  have h2 := Nat.div_add_mod x (2 ^ (i + 1))
  have h3 : x % 2 ^ (i + 1) = x % 2 ^ i + 2 ^ i * (x / 2 ^ i % 2) := Nat.mod_pow_succ
  rw [Nat.toNat_testBit, Nat.mul_comm]
  rw [Nat.mul_comm] at h2 h3
  omega

/-- Putting a bit of a mask leaves its other bits. -/
theorem testBit_maskBit (x i : Nat) (v : Bool) (k : Nat) :
    (maskBit x i v).testBit k = if k = i then v else x.testBit k := by
  have hr : x % 2 ^ i < 2 ^ i := Nat.mod_lt _ (by positivity)
  have hx := eq_three_parts x i
  have hm : maskBit x i v = 2 ^ (i + 1) * (x / 2 ^ (i + 1)) + (v.toNat * 2 ^ i + x % 2 ^ i) := by
    unfold maskBit
    split
    · next h => rw [h] at hx; exact hx
    · next h =>
      cases v
      · simp only [Bool.not_eq_false] at h
        simp only [h, Bool.toNat_true] at hx
        simp
        omega
      · simp only [Bool.not_eq_true] at h
        simp only [h, Bool.toNat_false] at hx
        simp
        omega
  have hx' := testBit_three_parts (x / 2 ^ (i + 1)) (x.testBit i) hr k
  rw [← hx] at hx'
  rw [hm, testBit_three_parts _ _ hr, hx']
  grind

/-! ## The debug module -/

/-- `dmcontrol` of a halt or a resume request for a hart, as it is kept (log 47): it selects that hart. -/
theorem hartsel_of_request (t : Tap) (h : Fin 16) (b : Nat) (hb : b = 30 ∨ b = 31) :
    (t.setDm 0x10 (word (2 ^ b + h.val * 2 ^ 16 + 1) &&& 0x07FFFFC1)).hartsel = h.val := by
  have hw : ∀ h : Fin 16, ∀ b ∈ [30, 31],
      fld (word (2 ^ b + h.val * 2 ^ 16 + 1) &&& 0x07FFFFC1) 15 6 * 1024 +
        fld (word (2 ^ b + h.val * 2 ^ 16 + 1) &&& 0x07FFFFC1) 25 16 = h.val := by decide
  have := hw h b (by simpa using hb)
  simpa [Tap.hartsel, Tap.dmReg, Tap.setDm] using this

/-- A request word: its bit 0 is set, and of bits 30 and 31 the one named. -/
theorem bit_of_request (h : Fin 16) : bit (word (2 ^ 31 + h.val * 2 ^ 16 + 1)) 0 = true ∧
    bit (word (2 ^ 31 + h.val * 2 ^ 16 + 1)) 31 = true ∧ bit (word (2 ^ 30 + h.val * 2 ^ 16 + 1)) 0 = true ∧
    bit (word (2 ^ 30 + h.val * 2 ^ 16 + 1)) 31 = false ∧ bit (word (2 ^ 30 + h.val * 2 ^ 16 + 1)) 30 = true := by
  revert h
  decide

end Sys2Proof.Machine

namespace Sys2Proof
open Machine

/-- Settles O10: each is one change of the PMBus side. -/
theorem pmbusSettings : Obligations.pmbus_settings := by
  unfold Obligations.pmbus_settings
  intro s
  refine ⟨fun v hv => ?page, fun v => rfl, ⟨Pmb.cleared, rfl, rfl, rfl, fun r hr => ?same, fun g r hr hg => ?other⟩,
    fun h1 h6 => ?mode, rfl, fun hg => ?gradeA, fun hg => ?gradeB⟩
  case page =>
    have he : exec (.page false v) s = .next (s.updPmb (fun p => if 6 < v then p.refuse else { p.answer [] with page := v })) := rfl
    simp only [he, if_neg (Nat.not_lt.2 hv)]
    rfl
  case same => rw [Pmb.st_cleared _ _ _ hr, if_pos rfl]
  case other => rw [Pmb.st_cleared _ _ _ hr, if_neg hg]
  case mode =>
    have he : exec .voutMode s = .next (s.updPmb (fun p => if railPage p.page then p.answer [0x14] else p.refuse)) := rfl
    simp only [he, State.updPmb, State.updAon, railPage, h1, h6, decide_true, Bool.and_self, if_true]
    rfl
  all_goals
    have he : exec .mfrModel s =
      .next (s.updPmb (fun p => p.answer [8, 0x53, 0x51, 0x2D, 0x45, 0x47, 0x31, 0x2D, 0x41 + s.d.part.grade % 2])) := rfl
    rw [he, hg]
    rfl

/-- Settles O11: the page supports the reading, so its value is answered. -/
theorem pmbusReadings : Obligations.pmbus_readings := by
  unfold Obligations.pmbus_readings
  intro two s
  refine ⟨fun v h0 => ?input, fun v h1 h6 => ?rail, fun v => rfl⟩
  case input =>
    have hin (u : State) (hu : u.a.pmb.page = 0) (w : Nat) : u.pmbRead inputPage w = u.updPmb (fun p => p.answerW w) :=
      State.pmbRead_supported (by rw [hu]; rfl) w
    refine ⟨⟨(s.a.pmb.sense v false).answerW (linear11 v), ?_, rfl, h0, ?_⟩, congrArg _ (hin s h0 _), congrArg _ (hin s h0 _)⟩
    · exact congrArg _ (hin (s.updPmb (fun p => p.sense v false)) h0 (linear11 v))
    · exact (Pmb.st_setSt _ 0 3 _ 0 3 (by omega) (by omega)).trans (if_pos ⟨rfl, rfl⟩)
  case rail =>
    have hrail (w : Nat) : s.pmbRead railPage w = s.updPmb (fun p => p.answerW w) :=
      State.pmbRead_supported (by simp [railPage, h1, h6]) w
    exact ⟨congrArg _ (hrail _), congrArg _ (hrail _), congrArg _ (hrail _)⟩

/-- Settles O12: each answers the byte it puts into the page's status. -/
theorem pmbusStatus : Obligations.pmbus_status := by
  unfold Obligations.pmbus_status
  intro s
  refine ⟨rfl, fun vin heavy h0 => ?input, fun c r hc => ?free⟩
  case input =>
    have hst : (s.a.pmb.sense vin heavy).st 0 3 = s.a.pmb.st 0 3 ||| inputBits vin heavy :=
      (Pmb.st_setSt _ 0 3 _ 0 3 (by omega) (by omega)).trans (if_pos ⟨rfl, rfl⟩)
    refine ⟨(s.a.pmb.sense vin heavy).answer [(s.a.pmb.sense vin heavy).st s.a.pmb.page 3], rfl, ?_, hst⟩
    rw [h0, hst]
    rfl
  case free =>
    have he : exec c s = .next (s.pmbStatus r) ∧ r < 8 := by
      rcases hc with h | h | h <;> cases h <;> exact ⟨rfl, by decide⟩
    obtain ⟨he, hr⟩ := he
    have hst (k : Nat) (hk : k < 8) :
        (s.pmbStatus r).a.pmb.st s.a.pmb.page k =
          if s.a.pmb.page = s.a.pmb.page ∧ k = r then (Config.freeWord s.d.free).toNat % 256 else s.a.pmb.st s.a.pmb.page k :=
      Pmb.st_setSt _ _ _ _ _ _ hr hk
    refine ⟨_, (Config.freeWord s.d.free).toNat % 256, he, Nat.mod_lt _ (by decide), rfl, ?_, fun k hk hkr => ?_, rfl, rfl, rfl⟩
    · rw [hst r hr, if_pos ⟨rfl, rfl⟩]
    · rw [hst k hk, if_neg (fun h => hkr h.2)]

/-- Settles O22: a TAP instruction puts its code into the instruction register. -/
theorem tapInstructions : Obligations.tap_instructions := by
  unfold Obligations.tap_instructions
  intro s seen
  refine ⟨rfl, rfl, rfl, fun _ => rfl, rfl, rfl, fun t low h => ?_⟩
  have he : exec .idcode s = .next (s.updAon (fun a => { a with tap := { a.tap with ir := 0x02 } })) := rfl
  obtain rfl := Host.Outcome.next.inj (he.symm.trans h)
  rfl

/-- Settles O60: the reset state lists nothing, so every read gives the value of what is not listed. -/
theorem resetState : Obligations.reset_state := by
  unfold Obligations.reset_state
  intro s
  have hq (n q : Nat) : s.d.queue n q = {} := by
    unfold Die.queue
    split
    · rfl
    · rfl
  refine ⟨rfl, rfl, fun _ => rfl, by decide, fun _ _ => ⟨rfl, rfl⟩, fun _ _ => rfl, fun n q => ?_, fun _ => ⟨rfl, rfl⟩, rfl, rfl,
    rfl, rfl, rfl, rfl, rfl⟩
  rw [hq]
  exact ⟨rfl, rfl, rfl⟩

end Sys2Proof
end

section
/-!
PROOFS. The harts' debug module, mailboxes, and the commands of the RESET page.
-/

namespace Sys2Proof.Machine

/-! ## Halt and resume requests -/

/-- The state in which `dmcontrol` holds a request word. -/
def State.asked (s : State) (v : Word) : State := s.updAon (fun a => { a with tap := a.tap.setDm 0x10 (v &&& 0x07FFFFC1) })

/-- A halt request takes its hart into debug mode. -/
theorem State.dmControl_halt {s : State} (h : Fin 16) (hl : s.d.live 88 = true) :
    s.dmControl (word (2 ^ 31 + h.val * 2 ^ 16 + 1)) =
      (if s.a.tap.halted.testBit h then s.asked (word (2 ^ 31 + h.val * 2 ^ 16 + 1))
        else (s.asked (word (2 ^ 31 + h.val * 2 ^ 16 + 1))).updSec (fun x => { x with debugSeen := true })).updAon
          (fun a => { a with tap := { a.tap with halted := maskBit s.a.tap.halted h true } }) := by
  obtain ⟨b0, b31, -, -, -⟩ := bit_of_request h
  have hsel := hartsel_of_request s.a.tap h 31 (.inr rfl)
  have h16 : ¬ (16 ≤ h.val) := by omega
  simp only [State.dmControl, b0, b31, hsel, State.updAon_a, State.updAon_d, hl, h16, Bool.true_eq_false, or_self, if_false, if_true]
  rfl

/-- A resume request takes its halted hart out of debug mode, or leaves it there after one step. -/
theorem State.dmControl_resume {s : State} (h : Fin 16) (hl : s.d.live 88 = true) (hh : s.a.tap.halted.testBit h = true) :
    s.dmControl (word (2 ^ 30 + h.val * 2 ^ 16 + 1)) =
      (if s.a.tap.step.testBit h then (s.asked (word (2 ^ 30 + h.val * 2 ^ 16 + 1))).updSec (fun x => { x with debugSeen := true })
        else s.asked (word (2 ^ 30 + h.val * 2 ^ 16 + 1))).updAon (fun a => { a with tap := { a.tap with
          halted := maskBit s.a.tap.halted h (s.a.tap.step.testBit h), resumed := maskBit s.a.tap.resumed h true } }) := by
  obtain ⟨-, -, b0, b31, b30⟩ := bit_of_request h
  have hsel := hartsel_of_request s.a.tap h 30 (.inl rfl)
  have h16 : ¬ (16 ≤ h.val) := by omega
  have hh' : (s.a.tap.setDm 0x10 (word (2 ^ 30 + h.val * 2 ^ 16 + 1) &&& 0x07FFFFC1)).halted.testBit h = true := hh
  simp only [State.dmControl, b0, b31, b30, hsel, State.updAon_a, State.updAon_d, hl, h16, hh', Bool.true_eq_false,
    Bool.false_eq_true, or_self, and_self, if_false, if_true]
  rfl

/-- The state in which the TAP has taken a DMI write to `dmcontrol`. -/
def State.dmiTaken (s : State) (v : Word) : State :=
  s.updAon (fun x => { x with tap := { x.tap with dmiAddr := 0x10, dmiOp := 0, dmiData := v } })

theorem exec_dmiAccess_dmcontrol {s : State} (hi : s.a.tap.ir = 0x11) (v : Word) :
    exec (.dmiAccess 2 0x10 v 0 0 none none) s = .next ((s.dmiTaken v).dmControl v) := by
  have he : exec (.dmiAccess 2 0x10 v 0 0 none none) s =
      .next (if s.a.tap.ir = 0x11 then (s.dmiTaken v).dmControl v else s) := rfl
  rw [he, if_pos hi]

/-! ## Mailboxes -/

/-- The snapshot of a 64-bit counter holds its low word, then its high word (12 R368). -/
theorem State.mailSelect_counter {s : State} {k : PageKind} {page sel : Nat} (hw : s.wideValue k sel = none)
    (hf : freeCounter k sel = false) :
    s.mailSelect k page sel = s.onD (fun d => d.updHdr page (fun h =>
      { h with mbSel := sel, mbNext := 0, mbValid := true,
               mbWords := [word (s.d.ctrOf page sel).toNat, word ((s.d.ctrOf page sel).toNat / 2 ^ 32)] })) := by
  have hs : s.snapshot k page sel = (s, dwords (s.d.ctrOf page sel)) := by
    simp only [State.snapshot, hw, hf, Bool.false_eq_true, if_false]
  rw [State.mailSelect, hs]
  rfl

theorem fld_selector_word (sel : Fin 65536) : fld (word sel) 15 0 = sel := by
  simp only [fld, word, BitVec.toNat_ofNat, Nat.shiftRight_zero]
  omega

theorem Die.mailHi_valid {d : Die} {page : Nat} (h : (d.hd page).mbValid = true) :
    d.mailHi page = (d.updHdr page (fun h => { h with mbNext := h.mbNext + 2, mbValid := decide (h.mbNext + 2 < h.mbWords.length) })).respond
      (.ok ((d.hd page).mbWords.getD ((d.hd page).mbNext + 1) 0).toNat) := by
  simp [Die.mailHi, h]

/-! ## The RESET page -/

theorem State.wdtCmd_start {s : State} (hb : s.d.pw.offBusy = false) (ho : s.d.pw.off = false) :
    s.wdtCmd 1 = s.updAon (fun a => { a with wdtRunning := true, wdtFrom := (s.d.reg pgRst 0x114).toNat }) := by
  have b0 : bit 1 0 = true := by decide
  have b1 : bit 1 1 = false := by decide
  simp only [State.wdtCmd, b0, b1, hb, ho, Bool.not_false, and_self, if_true, Bool.false_eq_true, false_and, if_false]

theorem State.wdtCmd_kick {s : State} (hr : s.a.wdtRunning = true) :
    s.wdtCmd 2 = s.updAon (fun a => { a with wdtFrom := (s.d.reg pgRst 0x114).toNat }) := by
  have b0 : bit 2 0 = false := by decide
  have b1 : bit 2 1 = true := by decide
  simp only [State.wdtCmd, b0, b1, hr, and_self, if_true, Bool.false_eq_true, false_and, if_false]

theorem State.rstCmd_lockup (s : State) : s.rstCmd 4 = s.updAon (fun a => { a with lockup := false }) := by
  have b : bit 4 0 = false ∧ bit 4 1 = false ∧ bit 4 2 = true := by decide
  simp only [State.rstCmd, b, Bool.not_true, Bool.and_false, Bool.not_false, Bool.and_true, Bool.false_eq_true, if_false]

theorem State.rstCmd_suspect (s : State) : s.rstCmd 2 = s.updAon (fun a => { a with suspect := false }) := by
  have b : bit 2 0 = false ∧ bit 2 1 = true ∧ bit 2 2 = false := by decide
  simp only [State.rstCmd, b, Bool.not_true, Bool.and_false, Bool.not_false, Bool.and_true, Bool.false_eq_true, if_false]

theorem State.rstCmd_history (s : State) : s.rstCmd 1 = s.updAon (fun a => { a with history := 0 }) := by
  have b : bit 1 0 = true ∧ bit 1 1 = false ∧ bit 1 2 = false := by decide
  simp only [State.rstCmd, b, Bool.not_false, Bool.and_true, if_true]

/-- The word that names an island in a request names it in its low bits, and its bit 31 is set. -/
theorem island_of_packW (i : Fin 128) : fld (packW [(31, 1), (0, i.val % 128)]) 6 0 = i.val ∧
    bit (packW [(31, 1), (0, i.val % 128)]) 31 = true := by
  revert i
  decide

theorem State.rstOvr_held {s : State} {i : Fin 128} (hi : i.val < 91) (hr : (s.d.ist i).inReset = true) :
    s.rstOvr 16 (packW [(31, 1), (0, i.val % 128)]) = s.onD (fun d =>
      (d.count pgRst 0x12).updIst i (fun t => { t with inReset := false, isolated := true, unstable := true })) := by
  obtain ⟨hf, hb⟩ := island_of_packW i
  have hle : ¬ 90 < i.val := by omega
  simp only [State.rstOvr, hf, hb, hr, hle, iniDebug, ne_eq, not_true_eq_false, Bool.true_eq_false, or_self, if_false]
  rfl

end Sys2Proof.Machine

namespace Sys2Proof
open Machine

/-- Settles O24: the request's word selects its hart, whose bit of the halted harts it puts. -/
theorem debugModule : Obligations.debug_module := by
  unfold Obligations.debug_module
  intro s h hi hl
  refine ⟨⟨_, exec_dmiAccess_dmcontrol hi (word (2 ^ 31 + h.val * 2 ^ 16 + 1)), ?_⟩,
    fun hh => ⟨_, exec_dmiAccess_dmcontrol hi (word (2 ^ 30 + h.val * 2 ^ 16 + 1)), ?_⟩⟩
  · rw [State.dmControl_halt h (s := s.dmiTaken _) hl]
    simp only [State.updAon_a, State.updAon_d, State.updAon_pending, testBit_maskBit]
    refine ⟨if_pos trivial, fun k hk => if_neg hk, fun hh => ?_, ?_, ?_⟩
    · rw [if_neg (by rw [State.dmiTaken, State.updAon_a, hh]; decide)]
      rfl
    · split <;> rfl
    · split <;> rfl
  · rw [State.dmControl_resume h (s := s.dmiTaken _) hl hh]
    simp only [State.updAon_a, State.updAon_d, testBit_maskBit]
    refine ⟨if_pos trivial, fun k hk => if_neg hk, ?_⟩
    split <;> rfl

/-- Settles O19: a selection holds the counter's two words, and a read of the high word moves past them. -/
theorem mailbox : Obligations.mailbox := by
  unfold Obligations.mailbox
  intro s ini page k hk
  refine ⟨fun sel h hw hf => ?select, fun h hv => ?read⟩
  case select =>
    refine (exec_cpl_served (f := fun t => t.pageAccess ini page 0x30 (some (word sel)) none) rfl h).trans ?_
    rw [State.pageAccess, hk]
    have hp (t : State) : t.pageWrite k ini page 0x30 (word sel) none = t.mailSelect k page (fld (word sel) 15 0) := rfl
    simp only [hp, fld_selector_word]
    rw [State.mailSelect_counter hw hf]
  case read =>
    refine ⟨_, (exec_cpl_served (f := fun t => t.pageAccess ini page 0x3C none none) rfl h).trans (congrArg _ (?_ : _ =
      (s.reached ini page).onD (fun d => d.mailHi page))), ?_⟩
    · rw [State.pageAccess, hk]
      rfl
    · rw [State.onD_d, Die.mailHi_valid (by rw [State.reached_hd, hv])]
      have hd (d : Die) (f : Hdr → Hdr) (r : Resp) : ((d.updHdr page f).respond r).hd page = f (d.hd page) := (d.hd_updHdr page page f).trans (if_pos rfl)
      simp only [hd, State.reached_hd, true_and]
      exact ⟨rfl, rfl, s.reached_mem ini page⟩

/-- Settles O5: each command of the page changes its own record. -/
theorem resetPageCommands : Obligations.reset_page_commands := by
  unfold Obligations.reset_page_commands
  intro s ini
  refine ⟨fun h => ⟨?lockup, ?suspect, ?history⟩, fun h hb ho => ?start, fun h hr => ?kick, fun i h hi hr => ?force⟩
  case lockup => rw [exec_cpl_served (f := fun t => t.rstCmd 4) rfl h, State.rstCmd_lockup]
  case suspect => rw [exec_cpl_served (f := fun t => t.rstCmd 2) rfl h, State.rstCmd_suspect]
  case history => rw [exec_cpl_served (f := fun t => t.rstCmd 1) rfl h, State.rstCmd_history]
  case start =>
    rw [exec_cpl_served (f := fun t => t.wdtCmd 1) rfl h, State.wdtCmd_start (by simpa using hb) (by simpa using ho)]
    simp
  case kick =>
    rw [exec_cpl_served (f := fun t => t.wdtCmd 2) rfl h, State.wdtCmd_kick (by simpa using hr)]
    simp
  case force =>
    rw [exec_cpl_served (f := fun t => t.rstOvr 16 (packW [(31, 1), (0, i.val % 128)])) rfl h,
      State.rstOvr_held hi (by simpa using hr)]

end Sys2Proof
end

section
/-!
PROOFS. Resets (13 R397-R405): what a module-scope reset, a power-on and a reset of one island leave, and how a release
moves on.
-/

namespace Sys2Proof.Machine

/-! ## What no wipe touches -/

/-- The state of the islands, the power state, the flash and the part: what the operations below leave alone together. -/
def Die.frame (d : Die) : Store IslSt × Pwr × List Host.Cell × Part := (d.islSt, d.pw, d.flash, d.part)

theorem Die.frame_iff (d e : Die) :
    e.frame = d.frame ↔ e.islSt = d.islSt ∧ e.pw = d.pw ∧ e.flash = d.flash ∧ e.part = d.part := by
  simp [Die.frame]

theorem Die.ist_of_frame {d e : Die} (h : e.frame = d.frame) (i : Nat) : e.ist i = d.ist i := by
  rw [Die.ist, ((Die.frame_iff d e).1 h).1, Die.ist]

theorem Die.pw_of_frame {d e : Die} (h : e.frame = d.frame) : e.pw = d.pw := ((Die.frame_iff d e).1 h).2.1

theorem Die.flash_of_frame {d e : Die} (h : e.frame = d.frame) : e.flash = d.flash := ((Die.frame_iff d e).1 h).2.2.1

/-- A property that no step of a loop changes is not changed by the loop. -/
theorem foldl_keeps {α β γ : Type} (g : α → γ) {f : α → β → α} (h : ∀ a b, g (f a b) = g a) (l : List β) (a : α) :
    g (l.foldl f a) = g a := by
  induction l generalizing a with
  | nil => rfl
  | cons b l ih => rw [List.foldl_cons, ih, h]

variable (d : Die)

@[simp] theorem Die.frame_wipePages (p : Nat → Bool) (cold : Bool) : (d.wipePages p cold).frame = d.frame := rfl
@[simp] theorem Die.frame_wipeTiles (p : Nat → Bool) : (d.wipeTiles p).frame = d.frame := rfl
@[simp] theorem Die.frame_wipeControl : d.wipeControl.frame = d.frame := rfl
@[simp] theorem Die.frame_wipeHost : d.wipeHost.frame = d.frame := rfl
@[simp] theorem Die.frame_wipePort (p : Nat) : (d.wipePort p).frame = d.frame := rfl

/-- Clearing the securing phase of every job touches none of it either. -/
theorem Die.setPhases_frame : ((List.range 32).foldl (fun d j => d.setPhase j 0) d).frame = d.frame := by
  refine foldl_keeps Die.frame (fun _ _ => ?_) _ _
  rfl

@[simp] theorem Die.frame_wipeDeckle (whole : Bool) : (d.wipeDeckle whole).frame = d.frame := by
  have h (e : Die) := (Die.frame_iff _ _).1 e.setPhases_frame
  have h1 (e : Die) := (h e).1
  have h2 (e : Die) := (h e).2.1
  have h3 (e : Die) := (h e).2.2.1
  have h4 (e : Die) := (h e).2.2.2
  unfold Die.wipeDeckle
  cases whole
  · simp only [Die.frame, Bool.false_eq_true, if_false, h1, h2, h3, h4]
  · rfl

@[simp] theorem Die.frame_wipeStack (s : Nat) (cold : Bool) : (d.wipeStack s cold).frame = d.frame := by
  have h : (if (d.stack s).retries.any (fun r => decide (r.reader = 1)) then d.respond .busError else d).frame = d.frame := by
    split <;> rfl
  unfold Die.wipeStack
  cases cold
  · exact h
  · exact h

/-- A wipe of islands touches neither their reset state nor the power state, the flash and the part. -/
@[simp] theorem Die.frame_wipe (p : Nat → Bool) (cold : Bool) : (d.wipe p cold).frame = d.frame := by
  unfold Die.wipe
  refine (foldl_keeps Die.frame (fun e q => ?_) _ _).trans ((foldl_keeps Die.frame (fun e s => ?_) _ _).trans ?_)
  · split
    · exact e.frame_wipePort q
    · rfl
  · split
    · exact e.frame_wipeStack s cold
    · rfl
  · simp [apply_ite Die.frame]

/-- The end of sleep leaves the reset state of the islands. -/
theorem Die.endSleep_islSt : d.endSleep.islSt = d.islSt := by
  unfold Die.endSleep
  dsimp only
  split
  · refine foldl_keeps Die.islSt (fun e s => ?_) _ _
    split <;> rfl
  · rfl

theorem Die.endSleep_pw :
    d.endSleep.pw = { d.pw with sleepBusy := false, asleep := false, waking := false, wakeHeld := 0 } := by
  unfold Die.endSleep
  dsimp only
  split
  · refine foldl_keeps Die.pw (fun e s => ?_) _ _
    split <;> rfl
  · rfl

theorem Die.endSleep_flash : d.endSleep.flash = d.flash := by
  unfold Die.endSleep
  dsimp only
  split
  · refine foldl_keeps Die.flash (fun e s => ?_) _ _
    split <;> rfl
  · rfl

/-! ## Holding islands in reset -/

/-- Every island but the always-on one is in reset behind a closed wrapper (13 R401). -/
theorem Die.ist_holdAll (code : Nat) {i : Nat} (hi : i < 91) :
    (d.holdAll code).ist i = { d.ist i with inReset := true, isolated := true, locked := false, code } := by
  have go (n : Nat) : ((List.range n).foldl (fun d i => d.updIst i (fun t =>
      { t with inReset := true, isolated := true, locked := false, code })) d).ist i =
      if i < n then { d.ist i with inReset := true, isolated := true, locked := false, code } else d.ist i := by
    induction n with
    | zero => rfl
    | succ n ih =>
      rw [List.range_succ, List.foldl_append, List.foldl_cons, List.foldl_nil, Die.ist_updIst]
      rcases lt_trichotomy i n with h | h | h
      · rw [if_neg (by omega), ih, if_pos h, if_pos (by omega)]
      · subst h
        rw [if_pos rfl, ih, if_neg (by omega), if_pos (by omega)]
      · rw [if_neg (by omega), ih, if_neg (by omega), if_neg (by omega)]
  exact (go 91).trans (if_pos hi)

theorem Die.pw_holdAll (code : Nat) : (d.holdAll code).pw = d.pw := by
  refine foldl_keeps Die.pw (fun _ _ => ?_) (List.range 91) d
  rfl

theorem Die.flash_holdAll (code : Nat) : (d.holdAll code).flash = d.flash := by
  refine foldl_keeps Die.flash (fun _ _ => ?_) (List.range 91) d
  rfl

theorem Die.part_holdAll (code : Nat) : (d.holdAll code).part = d.part := by
  refine foldl_keeps Die.part (fun _ _ => ?_) (List.range 91) d
  rfl

theorem Die.mem_holdAll (code : Nat) : (d.holdAll code).mem = d.mem := by
  refine foldl_keeps Die.mem (fun _ _ => ?_) (List.range 91) d
  rfl

theorem Die.regs_holdAll (code : Nat) : (d.holdAll code).regs = d.regs := by
  refine foldl_keeps Die.regs (fun _ _ => ?_) (List.range 91) d
  rfl


/-! ## The security block at a reset -/

variable (s : State)

/-- A cut fuse command leaves the die as it was, but for a free value and a counter, and of the always-on island it
changes the security block alone. -/
theorem State.cutFuse_frame : s.cutFuse.d.frame = s.d.frame ∧ s.cutFuse.a = { s.a with sec := s.cutFuse.a.sec } := by
  unfold State.cutFuse
  split
  · exact ⟨rfl, rfl⟩
  · exact ⟨rfl, rfl⟩

theorem State.resetSec_frame : s.resetSec.d.frame = s.d.frame := s.cutFuse_frame.1

theorem State.resetSec_a : s.resetSec.a = { s.a with sec := s.resetSec.a.sec } := by
  unfold State.resetSec State.updSec
  rw [s.cutFuse_frame.2]

/-! ## A module-scope reset -/

/-- The state in which an accepted reset has been noted and a fuse command cut. -/
def State.readied (s : State) (code : Nat) : State := (s.noteReset code).resetSec

theorem State.readied_frame (code : Nat) : (s.readied code).d.frame = s.d.frame := (s.noteReset code).resetSec_frame

theorem State.readied_a (code : Nat) : (s.readied code).a =
    { s.a with history := s.a.history ||| 2 ^ (code - 1), sec := (s.readied code).a.sec } := (s.noteReset code).resetSec_a

/-- What a module-scope reset makes of the die, before it sets the power state (13 R401). -/
def Die.scrubbed (d : Die) (code : Nat) (dark : Bool) : Die := (d.endSleep.wipe (fun i => decide (i ≠ 91)) dark).holdAll code

theorem Die.ist_scrubbed (code : Nat) (dark : Bool) {i : Nat} (hi : i < 91) :
    ((d.scrubbed code dark).ist i).inReset = true ∧ ((d.scrubbed code dark).ist i).isolated = true := by
  rw [Die.scrubbed, Die.ist_holdAll _ _ hi]
  exact ⟨rfl, rfl⟩

theorem Die.pw_scrubbed (code : Nat) (dark : Bool) : (d.scrubbed code dark).pw =
    { d.pw with sleepBusy := false, asleep := false, waking := false, wakeHeld := 0 } := by
  rw [Die.scrubbed, Die.pw_holdAll, Die.pw_of_frame (Die.frame_wipe _ _ _), Die.endSleep_pw]

theorem Die.flash_scrubbed (code : Nat) (dark : Bool) : (d.scrubbed code dark).flash = d.flash := by
  rw [Die.scrubbed, Die.flash_holdAll, Die.flash_of_frame (Die.frame_wipe _ _ _), Die.endSleep_flash]

variable {s}

/-- The power state after an accepted module-scope reset outside a release (13 R401). -/
def Pwr.afterReset (x : Pwr) (code : Nat) : Pwr :=
  { x with
    sleepBusy := false, asleep := false, waking := false, wakeHeld := 0
    levW := 3, levE := 3, busyW := false, busyE := false, deferW := false, deferE := false, goW := none, goE := none,
    chgW := none, chgE := none, lateResets := [], offBusy := false, off := false,
    release := some (if x.mated then 2 else 1), relCode := code }

theorem Die.updPw_congr {d : Die} {f g : Pwr → Pwr} (h : f d.pw = g d.pw) : d.updPw f = d.updPw g := by
  rw [Die.updPw, h, Die.updPw]

theorem State.moduleReset_d {code : Nat} (h : s.refusesReset code = false) (hn : s.d.pw.release = none) :
    ∃ dark, (s.moduleReset code).d =
      ((s.readied code).d.scrubbed code dark).updPw (fun x => x.afterReset code) := by
  have hr : (s.noteReset code).d.pw.release = none := hn
  refine ⟨decide (code = 2) || s.d.pw.off, ?_⟩
  rw [State.moduleReset, if_neg (by simp [h])]
  simp only [hr, Option.isSome_none, Bool.false_and, Bool.false_eq_true, if_false]
  refine Die.updPw_congr (d := (s.readied code).d.scrubbed code (decide (code = 2) || s.d.pw.off)) ?_
  rw [Die.pw_scrubbed]
  rfl

theorem State.moduleReset_a {code : Nat} (h : s.refusesReset code = false) (hn : s.d.pw.release = none) :
    (s.moduleReset code).a.last = code ∧ (s.moduleReset code).a.scope = 1 ∧
    (s.moduleReset code).a.history = s.a.history ||| 2 ^ (code - 1) ∧ (s.moduleReset code).a.wdtRunning = false ∧
    (s.moduleReset code).a.trim.fuseA = s.a.trim.fuseA ∧ (s.moduleReset code).a.trim.fuseB = s.a.trim.fuseB := by
  have hr : (s.noteReset code).d.pw.release = none := hn
  have ha := s.readied_a code
  have ht : (s.readied code).a.trim = s.a.trim := by rw [ha]
  have hh : (s.readied code).a.history = s.a.history ||| 2 ^ (code - 1) := by rw [ha]
  have hcut : s.a.trim.cutLoad.fuseA = s.a.trim.fuseA ∧ s.a.trim.cutLoad.fuseB = s.a.trim.fuseB := by
    unfold Trim.cutLoad
    split <;> exact ⟨rfl, rfl⟩
  rw [State.moduleReset, if_neg (by simp [h])]
  simp only [hr, Option.isSome_none, Bool.false_and, Bool.false_eq_true, if_false]
  refine ⟨trivial, trivial, hh, trivial, ?_⟩
  change (if decide (code = 2) = true then (s.readied code).a.trim.cutLoad.toDefault else (s.readied code).a.trim.cutLoad).fuseA = _ ∧
    (if decide (code = 2) = true then (s.readied code).a.trim.cutLoad.toDefault else (s.readied code).a.trim.cutLoad).fuseB = _
  rw [ht]
  split <;> exact hcut

theorem State.refusesReset_running {code : Nat} (hb : s.d.pw.offBusy = false) (ho : s.d.pw.off = false) :
    s.refusesReset code = false := by
  simp [State.refusesReset, hb, ho]

theorem State.refusesReset_pin : s.refusesReset 3 = false := by simp [State.refusesReset]

end Sys2Proof.Machine

namespace Sys2Proof
open Machine

/-- Settles O2: each source is an accepted module-scope reset with its own code. -/
theorem moduleResetSources : Obligations.module_reset_sources := by
  unfold Obligations.module_reset_sources
  intro resets s hn
  have key (code : Nat) (h : s.refusesReset code = false) : resets s (s.moduleReset code) code := by
    obtain ⟨dark, hd⟩ := State.moduleReset_d h hn
    obtain ⟨hl, hsc, hh, hw, hA, hB⟩ := State.moduleReset_a h hn
    have hpw := Die.pw_scrubbed (s.readied code).d code dark
    refine ⟨fun i hi => ?_, ?_, ?_, ?_, ?_, ?_, hl, hsc, hh, hw, hA, hB, ?_, s.moduleReset_pending code⟩
    · rw [hd, Die.ist_updPw]
      exact Die.ist_scrubbed (s.readied code).d code dark hi
    · rw [hd]; rfl
    · rw [hd]; rfl
    · rw [hd]; rfl
    · rw [hd, Die.updPw, hpw, Die.pw_of_frame (s.readied_frame code)]; rfl
    · rw [hd]; rfl
    · rw [hd, Die.updPw_flash]
      exact (Die.flash_scrubbed (s.readied code).d code dark).trans (Die.flash_of_frame (s.readied_frame code))
  refine ⟨fun hb ho => ⟨⟨_, rfl, key 2 (State.refusesReset_running hb ho)⟩, ⟨_, rfl, key 7 (State.refusesReset_running hb ho)⟩,
    fun hw ha => ⟨_, ?_, key 4 (State.refusesReset_running hb ho)⟩⟩, fun n h => ⟨_, ?_, key 3 State.refusesReset_pin⟩, fun n h => ?_⟩
  · have he : exec .watchdog s = .next (if s.a.wdtRunning ∧ !s.d.pw.asleep then s.moduleReset 4 else s) := rfl
    exact he.trans (congrArg _ (if_pos ⟨hw, by rw [ha]; rfl⟩))
  · have he : exec (.pinReset n) s = .next (if n < 50 then { s with d := s.d.count pgRst 0x11 } else s.moduleReset 3) := rfl
    exact he.trans (congrArg _ (if_neg (by omega)))
  · have he : exec (.pinReset n) s = .next (if n < 50 then { s with d := s.d.count pgRst 0x11 } else s.moduleReset 3) := rfl
    rw [he, if_pos h]
    rfl

end Sys2Proof
end

section
/-!
PROOFS. Power-on, and the resets of one island (13 R397, R401, R403).
-/

namespace Sys2Proof.Machine

variable (s : State)

/-! ## Power-on -/

/-- Putting more bits into a number keeps those it had. -/
theorem testBit_or_left {x y i : Nat} (h : x.testBit i = true) : (x ||| y).testBit i = true := by
  rw [Nat.testBit_or, h, Bool.true_or]

/-- A fuse command that a reset cuts may have blown its own fuses, and no others change (14 R420). -/
theorem State.cutFuse_fusesKept : Aon.fusesKept s.a s.cutFuse.a := by
  unfold State.cutFuse
  split
  · exact ⟨le_rfl, fun _ h => h, fun _ h => h, rfl, rfl, rfl, rfl, rfl⟩
  · dsimp only
    split
    · exact ⟨Nat.le_add_right _ _, fun _ h => h, fun _ h => h, rfl, rfl, rfl, rfl, rfl⟩
    · split
      · exact ⟨le_rfl, fun _ h => testBit_or_left h, fun _ h => h, rfl, rfl, rfl, rfl, rfl⟩
      · split
        · exact ⟨le_rfl, fun _ h => h, fun _ h => testBit_or_left h, rfl, rfl, rfl, rfl, rfl⟩
        · exact ⟨le_rfl, fun _ h => h, fun _ h => h, rfl, rfl, rfl, rfl, rfl⟩

theorem State.cutFuse_idle {s : State} (h : s.a.sec.cmd = none) : s.cutFuse = s := by
  rw [State.cutFuse, h]

/-- The die right after power-on, before the islands are held. -/
def Die.fresh (d : Die) : Die :=
  { part := d.part, flash := d.flash, free := d.free, resp := d.resp
    pw := { precharge := d.pw.precharge, mainOn := false, mated := false, release := some 1, relCode := 1 }
    fab := { best := (d.part.serial.toNat, 0) } }

/-! ## What a reset of one island does to the others -/

variable (d : Die)

@[simp] theorem Die.updObj_islSt (k : Nat) (f : PObj → PObj) : (d.updObj k f).islSt = d.islSt := by
  unfold Die.updObj
  split <;> rfl

@[simp] theorem Die.request_islSt (kind : ReqKind) (k : Nat) (o : PObj) (j : Nat) : (d.request kind k o j).islSt = d.islSt := by
  unfold Die.request
  dsimp only
  split <;> rfl

@[simp] theorem Die.drainWb_islSt (k : Nat) : (d.drainWb k).islSt = d.islSt := by
  unfold Die.drainWb
  split
  · rfl
  · split
    · simp
    · rfl

@[simp] theorem Die.dropRef_islSt (due : List Nat) (k : Nat) : (d.dropRef due k).islSt = d.islSt := by
  unfold Die.dropRef
  dsimp only
  rw [Die.drainWb_islSt]
  split
  · simp
  · split <;> simp

@[simp] theorem Die.dropInfl_islSt (i : Nat) : (d.dropInfl i).islSt = d.islSt := by
  unfold Die.dropInfl
  refine (foldl_keeps Die.islSt (fun e n => foldl_keeps Die.islSt (fun e x => foldl_keeps Die.islSt (fun e k => ?_) _ _) _ _) _ _).trans ?_
  · exact e.dropRef_islSt _ _
  · split <;> rfl

@[simp] theorem Die.seamFreed_islSt (n port k : Nat) : (d.seamFreed n port k).islSt = d.islSt := by
  unfold Die.seamFreed
  split <;> rfl

@[simp] theorem Die.purge_islSt (gone : List Nat) : (d.purge gone).islSt = d.islSt := by
  unfold Die.purge
  exact foldl_keeps Die.islSt (fun e x => by rw [Die.seamFreed_islSt]) _ _

@[simp] theorem Die.closeCircuits_islSt (p : Circ → Bool) : (d.closeCircuits p).islSt = d.islSt := by
  unfold Die.closeCircuits
  dsimp only
  split
  · rfl
  · simp

@[simp] theorem Die.cutCircuits_islSt (p : Circ → Bool) : (d.cutCircuits p).islSt = d.islSt := by
  unfold Die.cutCircuits
  rw [Die.closeCircuits_islSt]
  refine foldl_keeps Die.islSt (fun e c => ?_) _ _
  rfl

/-- Cutting off a tile island or a stack controller leaves the reset state of every island (13 R403). -/
theorem Die.cutOff_islSt {i : Nat} (hi : i < 72) : (d.cutOff i).islSt = d.islSt := by
  unfold Die.cutOff
  split
  · simp
  · simp [Die.cutStack]

/-! ## A reset of one island -/

/-- The state in which a reset of island `i` has touched what lies outside the island's own state. -/
def State.cutFor (s : State) (i : Nat) : State :=
  let s : State := { s with d := s.d.endSleep }
  let s := if i = 90 then s.resetSec else s
  let s := if i = 90 ∨ s.a.tap.waitsFor i then s.updAon (fun a => { a with tap := a.tap.cut }) else s
  let s := if i = 88 then s.updAon (fun a => { a with tap := { a.tap with halted := 0, step := 0 } }) else s
  if i = 88 then s.updSec (fun x => { x with rom := .none, harts := 0 }) else s

theorem State.resetIsland_eq (i code : Nat) : s.resetIsland i code =
    { s.cutFor i with
      d := (((s.cutFor i).d.cutOff i).wipe (fun k => decide (k = i)) false).updIst i
        (fun t => { t with inReset := true, isolated := true, locked := decide (code ≠ 7), code })
      a := { (s.cutFor i).a with last := code, scope := 2, causeIsl := i } } := rfl

/-- The islands' reset state, and of the always-on island the records of other resets. -/
def State.resetRecords (s : State) : Store IslSt × Nat × Bool × Nat := (s.d.islSt, s.a.history, s.a.lockup, s.a.lockCore)

theorem State.cutFor_records (i : Nat) : (s.cutFor i).resetRecords = s.resetRecords := by
  have h1 (s : State) : s.resetSec.resetRecords = s.resetRecords := by
    rw [State.resetRecords, s.resetSec_a, ((Die.frame_iff _ _).1 s.resetSec_frame).1]
    rfl
  have h2 (s : State) : ({ s with d := s.d.endSleep } : State).resetRecords = s.resetRecords := by
    rw [State.resetRecords, Die.endSleep_islSt]
    rfl
  have h3 (s : State) (f : Tap → Tap) : (s.updAon (fun a => { a with tap := f a.tap })).resetRecords = s.resetRecords := rfl
  have h4 (s : State) (f : Sec → Sec) : (s.updSec f).resetRecords = s.resetRecords := rfl
  simp only [State.cutFor, apply_ite State.resetRecords, h1, h2, h3 _ Tap.cut, h3 _ (fun t => { t with halted := 0, step := 0 }),
    h4, ite_self]

theorem State.resetIsland_ist (i code : Nat) : ((s.resetIsland i code).d.ist i).inReset = true ∧
    ((s.resetIsland i code).d.ist i).isolated = true ∧ ((s.resetIsland i code).d.ist i).code = code := by
  rw [State.resetIsland_eq, Die.ist_updIst, if_pos rfl]
  exact ⟨rfl, rfl, rfl⟩

/-- A reset of a tile island or a stack controller leaves every other island as it is. -/
theorem State.resetIsland_ist_other {i : Nat} (hi : i < 72) (code : Nat) {k : Nat} (hk : k ≠ i) :
    (s.resetIsland i code).d.ist k = s.d.ist k := by
  have h := congrArg Prod.fst (s.cutFor_records i)
  rw [State.resetIsland_eq, Die.ist_updIst, if_neg hk, Die.ist_of_frame (Die.frame_wipe _ _ _), Die.ist, Die.cutOff_islSt _ hi]
  exact congrArg (fun m => sget m {} k) h

theorem State.resetIsland_a (i code : Nat) : (s.resetIsland i code).a.last = code ∧ (s.resetIsland i code).a.scope = 2 ∧
    (s.resetIsland i code).a.causeIsl = i ∧ (s.resetIsland i code).a.history = s.a.history ∧
    (s.resetIsland i code).a.lockup = s.a.lockup ∧ (s.resetIsland i code).a.lockCore = s.a.lockCore := by
  have h := s.cutFor_records i
  simp only [State.resetRecords, Prod.mk.injEq] at h
  obtain ⟨-, hh, hl, hc⟩ := h
  rw [State.resetIsland_eq]
  exact ⟨rfl, rfl, rfl, hh, hl, hc⟩

variable {s}

/-- Outside a release, and with the island's clock running, a reset of one island is noted and runs (13 R400). -/
theorem State.islandReset_runs {i code : Nat} (hn : s.d.pw.release = none) (hi : i < 91) (hr : s.refusesReset code = false)
    (hs : s.d.pw.stopped i = false) : s.islandReset i code = (s.noteReset code).resetIsland i code := by
  have hnr : (s.noteReset code).d.pw.release = none := hn
  have hns : (s.noteReset code).d.pw.stopped i = false := hs
  rw [State.islandReset, if_neg (by simp [hr]; omega)]
  simp only [hnr, hns, Option.isSome_none, Bool.false_eq_true, false_and, if_false]

/-- The record of an island reset, and what it leaves of the other islands. -/
theorem State.islandReset_spec {i code : Nat} (hn : s.d.pw.release = none) (hi : i < 91) (hr : s.refusesReset code = false)
    (hs : s.d.pw.stopped i = false) :
    ((s.islandReset i code).d.ist i).inReset = true ∧ ((s.islandReset i code).d.ist i).isolated = true ∧
    ((s.islandReset i code).d.ist i).code = code ∧
    (i < 72 → ∀ k, k ≠ i → (s.islandReset i code).d.ist k = s.d.ist k) ∧ (s.islandReset i code).a.last = code ∧
    (s.islandReset i code).a.scope = 2 ∧ (s.islandReset i code).a.causeIsl = i ∧
    (s.islandReset i code).a.history = s.a.history ||| 2 ^ (code - 1) ∧ (s.islandReset i code).pending = s.pending := by
  rw [State.islandReset_runs hn hi hr hs]
  obtain ⟨h1, h2, h3⟩ := (s.noteReset code).resetIsland_ist i code
  obtain ⟨a1, a2, a3, a4, -, -⟩ := (s.noteReset code).resetIsland_a i code
  exact ⟨h1, h2, h3, fun h72 k hk => (s.noteReset code).resetIsland_ist_other h72 code hk, a1, a2, a3, a4,
    State.resetIsland_pending _ i code⟩

/-- The fields of a request of one island. -/
theorem rstWord_island (i : Fin 128) : bit (rstWord false i) 31 = true ∧ bit (rstWord false i) 30 = false ∧
    fld (rstWord false i) 6 0 = i.val := by
  revert i
  decide

theorem State.rstReq_island (ini : Nat) (i : Fin 128) (hi : i.val < 91) :
    s.rstReq ini (rstWord false i) = s.islandReset i (if ini = 16 then 6 else 5) := by
  obtain ⟨h1, h2, h3⟩ := rstWord_island i
  have h90 : ¬ 90 < i.val := by omega
  simp only [State.rstReq, h1, h2, h3, h90, Bool.true_eq_false, Bool.false_eq_true, if_false, iniDebug]
  rfl

/-- The state in which the lock-up of host core `c` is recorded (13 R407). -/
def State.lockNoted (s : State) (c : Nat) : State := s.updAon (fun a => { a with lockup := true, lockCore := c })

theorem Die.stopped_of_live {d : Die} {i : Nat} (h : d.live i = true) : d.pw.stopped i = false := by
  cases hs : d.pw.stopped i
  · rfl
  · simp [Die.live, hs] at h

end Sys2Proof.Machine

namespace Sys2Proof
open Machine

/-- Settles O3: power-on keeps the fuses that the cut fuse command leaves, and every store of the new die is empty. -/
theorem powerOnScrubs : Obligations.power_on_scrubs := by
  unfold Obligations.power_on_scrubs
  intro s ga
  obtain ⟨a, ha⟩ : ∃ a : Aon, exec (.powerOn ga) s = .next { s.cutFuse with d := s.cutFuse.d.fresh.holdAll 1, a := a } ∧
      Aon.fusesKept s.cutFuse.a a ∧ a.sec.rollback = s.cutFuse.a.sec.rollback ∧ a.sec.revEd = s.cutFuse.a.sec.revEd ∧
      a.sec.revMl = s.cutFuse.a.sec.revMl ∧ a.ga = ga.val % 8 ∧ a.last = 1 ∧ a.scope = 0 ∧ a.history = 1 :=
    ⟨_, rfl, ⟨le_rfl, fun _ h => h, fun _ h => h, rfl, rfl, rfl, rfl, rfl⟩, rfl, rfl, rfl, rfl, rfl, rfl, rfl⟩
  obtain ⟨he, hk, hr, hed, hml, hga, hl, hs, hh⟩ := ha
  obtain ⟨hpart, hflash⟩ : s.cutFuse.d.part = s.d.part ∧ s.cutFuse.d.flash = s.d.flash :=
    ⟨((Die.frame_iff _ _).1 s.cutFuse_frame.1).2.2.2, Die.flash_of_frame s.cutFuse_frame.1⟩
  refine ⟨_, he, fun i hi => ?_, Die.mem_holdAll _ _, Die.regs_holdAll _ _, (Die.part_holdAll _ _).trans hpart,
    (Die.flash_holdAll _ _).trans hflash, ?_, fun hc => ?_, ?_, hl, hs, hh, ?_, ?_⟩
  · dsimp only
    rw [Die.ist_holdAll _ _ hi]
    exact ⟨rfl, rfl⟩
  · obtain ⟨a1, a2, a3, a4, a5, a6, a7, a8⟩ := s.cutFuse_fusesKept
    obtain ⟨b1, b2, b3, b4, b5, b6, b7, b8⟩ := hk
    exact ⟨a1.trans b1, fun i h => b2 i (a2 i h), fun i h => b3 i (a3 i h), b4.trans a4, b5.trans a5, b6.trans a6,
      b7.trans a7, b8.trans a8⟩
  · rw [State.cutFuse_idle hc] at hr hed hml
    exact ⟨hr, hed, hml⟩
  · exact hga.trans (Nat.mod_eq_of_lt ga.isLt)
  · dsimp only
    rw [Die.pw_holdAll]
    rfl
  · exact s.cutFuse_pending

/-- Settles O4: each source is a reset of one island that runs, on the state its access or its record leaves. -/
theorem islandResets : Obligations.island_resets := by
  unfold Obligations.island_resets
  intro resets s hn hb ho
  have hr (code : Nat) : s.refusesReset code = false := State.refusesReset_running hb ho
  have served (ini : Nat) (i code : Nat) (hi : i < 91) (hs : s.d.pw.stopped i = false) :
      resets s ((s.reached ini pgRst).islandReset i code) i code := by
    have h := State.islandReset_spec (s := s.reached ini pgRst) (code := code) (by rw [State.reached_pw, hn]) hi
      (State.refusesReset_running (by rw [State.reached_pw, hb]) (by rw [State.reached_pw, ho])) (by rw [State.reached_pw, hs])
    simpa only [State.reached_ist, State.reached_history, State.reached_pending] using h
  refine ⟨fun ini i hi hs h hini => ⟨_, ?soft, served ini i 5 hi hs⟩, fun i hi hs h => ⟨_, ?debug, served 16 i 6 hi hs⟩,
    fun i hi hl => ⟨s.clockFault i, ?clock, ?_⟩, fun c hl hlim hhalt => ⟨(s.lockNoted c).islandReset 88 8, ?lockup, ?_⟩⟩
  case soft =>
    rw [exec_cpl_served (f := fun t => t.rstReq ini (rstWord false i)) rfl h, State.rstReq_island _ _ hi, if_neg hini]
  case debug =>
    rw [exec_cpl_served (f := fun t => t.rstReq 16 (rstWord false i)) rfl h, State.rstReq_island _ _ hi, if_pos rfl]
  case clock =>
    have he : exec (.clockFault i) s = .next (if s.d.live i ∧ i.val ≠ 91 then s.clockFault i else s) := rfl
    exact he.trans (congrArg _ (if_pos ⟨hl, by omega⟩))
  case lockup =>
    have he : exec (.lockUp c) s = .next (if s.d.live 88 = false ∨ s.d.reg pgRst 0x120 = 0 ∨ s.a.tap.halted.testBit c ∨ s.refusesReset 8
      then s else (s.lockNoted c).islandReset 88 8) := rfl
    refine he.trans (congrArg _ (if_neg ?_))
    rintro (h | h | h | h)
    · simp [hl] at h
    · exact hlim h
    · simp [hhalt] at h
    · simp [hr] at h
  · obtain ⟨h1, -, h3, h4, -⟩ := State.islandReset_spec (s := s) (code := 7) hn (by omega) (hr 7) (Die.stopped_of_live hl)
    have hi' (k : Nat) : (s.clockFault i).d.ist k =
        if k = i.val then { (s.islandReset i 7).d.ist i with clkFault := decide (i.val < 64) } else (s.islandReset i 7).d.ist k :=
      Die.ist_updIst ..
    refine ⟨?_, ?_, ?_, fun k hk => ?_⟩
    · rw [hi', if_pos rfl]; exact decide_eq_true hi
    · rw [hi', if_pos rfl]; exact h1
    · rw [hi', if_pos rfl]; exact h3
    · rw [hi', if_neg hk]; exact h4 (by omega) k hk
  · have hlive : s.d.pw.stopped 88 = false := Die.stopped_of_live hl
    obtain ⟨-, -, -, -, hlk, hlc⟩ :=
      ((s.lockNoted c).noteReset 8).resetIsland_a 88 8
    have hrun := State.islandReset_runs (s := s.lockNoted c) (i := 88) (code := 8)
      hn (by omega) (hr 8) hlive
    refine ⟨State.islandReset_spec (s := s.lockNoted c) (i := 88) (code := 8)
      hn (by omega) (hr 8) hlive, ?_, ?_⟩
    · rw [hrun, hlk]; rfl
    · rw [hrun, hlc]; rfl

end Sys2Proof
end

section
/-!
PROOFS. How a release moves on (13 Table 13-7), and the level changes (13 R388-R391).
-/

namespace Sys2Proof.Machine

variable {s : State}

/-! ## The release -/

/-- Step 2 of a release: the straps are sampled where the reset asks for it, and the trim load begins (13 R399). -/
def State.trimBegun (s : State) (boot clk : Nat) : State :=
  ((if s.d.pw.relCode ≤ 3 then s.updAon (fun a => a.sample boot clk) else s).updAon
    (fun a => { a with trim := { a.trim with loading := true } })).updPwr (fun x => { x with release := some 4 })

/-- The straps sampled are in range, and the reserved clock mode acts as mode 0 (13 R382). -/
theorem Aon.sample_straps (a : Aon) (boot clk : Fin 4) :
    (a.sample boot clk).bootSrc = boot ∧ (a.sample boot clk).clkMode = clk ∧ (a.sample boot clk).clkEff < 3 := by
  have hb := boot.isLt
  have hc := clk.isLt
  refine ⟨Nat.mod_eq_of_lt hb, Nat.mod_eq_of_lt hc, ?_⟩
  simp only [Aon.sample]
  split <;> omega

/-- A trace record leaves the reset state of the islands. -/
theorem Die.trace_islSt (d : Die) (i k : Nat) (p : Word) : (d.trace i k p).islSt = d.islSt := by
  obtain ⟨c, f, n, r, t, h⟩ := d.trace_eq i k p
  rw [h]

theorem Die.ist_openIsland (d : Die) (i k : Nat) :
    (d.openIsland i).ist k = if k = i then { code := (d.ist i).code } else d.ist k := by
  have h : (d.openIsland i).ist k = (d.updIst i (fun t => { code := t.code })).ist k := by
    rw [Die.ist, Die.openIsland, Die.trace_islSt, Die.ist]
  rw [h, Die.ist_updIst]

/-! ## Level requests -/

theorem State.reached_spanning (s : State) (ini page : Nat) : (s.reached ini page).d.spanning = s.d.spanning :=
  s.reached_keeps ini page Die.spanning (fun _ _ _ _ _ => rfl)

/-- `PWR_CMD` with one bit set, outside a power-off, gives that bit's command alone (13 R411). -/
theorem State.pwrCmd_one (hg : s.d.pw.gone = false) (ini : Nat) :
    s.pwrCmd ini 1 = s.onD (fun d => d.go s.a.trim.levelOk true) ∧ s.pwrCmd ini 2 = s.onD (fun d => d.go s.a.trim.levelOk false) ∧
    s.pwrCmd ini 4 = s.sleep ∧ s.pwrCmd ini 8 = s.onD Die.pwrAck ∧ s.pwrCmd ini 16 = s.onD Die.wakeAck := by
  have hb : (List.range 6).filter (bit 1) = [0] ∧ (List.range 6).filter (bit 2) = [1] ∧ (List.range 6).filter (bit 4) = [2] ∧
      (List.range 6).filter (bit 8) = [3] ∧ (List.range 6).filter (bit 16) = [4] := by decide
  obtain ⟨b1, b2, b4, b8, b16⟩ := hb
  unfold State.pwrCmd
  simp only [hg, b1, b2, b4, b8, b16]
  exact ⟨rfl, rfl, rfl, rfl, rfl⟩

section
variable {d : Die}

theorem Die.go_west {ok : Nat} (hg : d.pw.gone = false) (hb : d.pw.busyW = false) (hd : d.pw.deferW = false)
    (hs : d.pw.sleepBusy = false) (hl : fld (d.reg pgPwr 0x104) 1 0 ≠ d.pw.levW)
    (hok : ok.testBit (fld (d.reg pgPwr 0x104) 1 0) = true) (hsp : d.spanning = false) :
    d.go ok true = d.updPw (fun p => { p with busyW := true, goW := some (fld (d.reg pgPwr 0x104) 1 0) }) := by
  have hsp' (f : Pwr → Pwr) : (d.updPw f).spanning = false := hsp
  simp only [Die.go, Pwr.busy, Pwr.deferred, Pwr.lev, hg, hb, hd, hs, hl, hok, hsp', if_true, if_false, Bool.false_eq_true,
    Bool.true_eq_false, or_self]

theorem Die.go_east {ok : Nat} (hg : d.pw.gone = false) (hb : d.pw.busyE = false) (hd : d.pw.deferE = false)
    (hs : d.pw.sleepBusy = false) (hl : fld (d.reg pgPwr 0x104) 3 2 ≠ d.pw.levE)
    (hok : ok.testBit (fld (d.reg pgPwr 0x104) 3 2) = true) (hsp : d.spanning = false) :
    d.go ok false = d.updPw (fun p => { p with busyE := true, goE := some (fld (d.reg pgPwr 0x104) 3 2) }) := by
  have hsp' (f : Pwr → Pwr) : (d.updPw f).spanning = false := hsp
  simp only [Die.go, Pwr.busy, Pwr.deferred, Pwr.lev, hg, hb, hd, hs, hl, hok, hsp', if_false, Bool.false_eq_true,
    Bool.true_eq_false, or_self]

theorem Die.levelQuiet_west {t : Nat} (hb : d.pw.busyW = true) (hd : d.pw.deferW = false) (hg : d.pw.goW = some t)
    (hc : d.pw.chgW = none) (hq : d.quiescent true false = true) :
    d.levelQuiet true = d.updPw (fun p => { p with chgW := some t }) := by
  simp only [Die.levelQuiet, Pwr.busy, Pwr.deferred, Pwr.goal, Pwr.chg, hb, hd, hg, hc, hq, if_true, Option.isSome_none,
    Bool.true_eq_false, Bool.false_eq_true, Bool.not_true, Bool.or_false, or_self, false_and, if_false]

/-! ## The end of a level change -/

theorem Die.trace_frame (i k : Nat) (p : Word) : (d.trace i k p).frame = d.frame := by
  obtain ⟨c, f, n, r, t, h⟩ := d.trace_eq i k p
  rw [h]
  rfl

theorem Die.seamDrain_frame (n o l k : Nat) : (d.seamDrain n o l k).frame = d.frame := by
  induction k generalizing d with
  | zero => rfl
  | succ k ih =>
    rw [Die.seamDrain]
    split
    · rfl
    · split
      · rw [ih, Die.seamPass]
        split <;> rfl
      · rfl

/-- The seam lanes starting again move flits alone. -/
theorem Die.seamRestart_frame : d.seamRestart.frame = d.frame := by
  unfold Die.seamRestart
  refine foldl_keeps Die.frame (fun e l => ?_) _ _
  exact e.seamDrain_frame ..

/-- The end of a level request of the east half that spans no other. -/
theorem Die.levelOver_east_pw (hd : d.pw.deferE = false) :
    (d.levelOver false).pw = { d.pw with busyE := false, goE := none } := by
  have h : d.pw.deferred false = false := hd
  simp only [Die.levelOver, h, Bool.false_eq_true, if_false]
  rfl

theorem Die.levelOver_west_pw (hd : d.pw.deferW = false) :
    (d.levelOver true).pw = { d.pw with busyW := false, goW := none } := by
  have h : d.pw.deferred true = false := hd
  simp only [Die.levelOver, h, Bool.false_eq_true, if_false, if_true]
  rfl

end

/-- The die after a level change of the east half with every island locked (13 R391). -/
def Die.levelledEast (d : Die) : Die :=
  let d := ((((d.levelTake false).levelResult false 0).levelOver false).updPw (fun p => { p with lateResets := [] })).seamRestart
  d.trace 91 8 (packW [(2, d.pw.levE), (0, d.pw.levW)])

theorem State.levelDone_east {l : Nat} (hb : s.d.pw.busyE = true) (hd : s.d.pw.deferE = false) (hc : s.d.pw.chgE = some l)
    (hl : s.d.pw.lateResets = []) : s.levelDone false [] = s.onD Die.levelledEast := by
  simp only [State.levelDone, Pwr.chg, Pwr.busy, Pwr.deferred, hb, hd, hc, hl, Bool.false_eq_true, if_false, Option.isNone_some,
    Bool.true_eq_false, or_self, Bool.false_and, List.filter_nil, List.foldl_nil, List.foldl_cons, List.any_nil]
  rfl

theorem Die.levelledEast_pw {d : Die} {l : Nat} (hd : d.pw.deferE = false) (hc : d.pw.chgE = some l) : d.levelledEast.pw =
    { d.pw with levE := l, chgE := none, resE := 0, donePend := true, busyE := false, goE := none, lateResets := [] } := by
  have ht : d.levelTake false = (d.updPw (fun p => { p with levE := l, chgE := none })).count pgPwr 1 := by
    simp only [Die.levelTake, Pwr.chg, hc, Bool.false_eq_true, if_false]
  have hr : (d.levelTake false).levelResult false 0 =
      ((d.updPw (fun p => { p with levE := l, chgE := none })).count pgPwr 1).updPw (fun p => { p with resE := 0, donePend := true }) := by
    rw [ht]
    rfl
  have hp : ((d.levelTake false).levelResult false 0).pw = { d.pw with levE := l, chgE := none, resE := 0, donePend := true } := by
    rw [hr]
    rfl
  rw [Die.levelledEast, Die.pw_of_frame (Die.trace_frame ..), Die.pw_of_frame Die.seamRestart_frame, Die.updPw_pw,
    Die.levelOver_east_pw (by rw [hp, hd]), hp]

end Sys2Proof.Machine

namespace Sys2Proof
open Machine

/-- Settles O6: each command takes the branch of its step. -/
theorem releaseMovesOn : Obligations.release_moves_on := by
  unfold Obligations.release_moves_on
  intro s
  refine ⟨fun boot clk hm => ⟨fun h => ?step2, fun h => ?step4, fun h hd => ?step5⟩, fun h => ⟨fun hc => ?falls, fun hc => ?dead,
    fun hd => ?back⟩, fun i hi hr hn hm ho hb => ⟨s.onD (fun d => d.openIsland i), ?opens, ?ist, fun k hk => ?others, rfl⟩⟩
  case step2 =>
    have he : exec (.releaseSequence boot clk) s = execReleaseSequence boot clk s := rfl
    refine ⟨s.trimBegun boot clk, ?_, rfl, rfl, fun hc => ?_⟩
    · rw [he, execReleaseSequence, if_neg (by simp [hm]), h]
      rfl
    · rw [State.trimBegun, if_pos hc]
      exact Aon.sample_straps s.a boot clk
  case step4 =>
    have he : exec (.releaseSequence boot clk) s = execReleaseSequence boot clk s := rfl
    rw [he, execReleaseSequence, if_neg (by simp [hm]), h]
    rfl
  case step5 =>
    have he : exec (.releaseSequence boot clk) s = execReleaseSequence boot clk s := rfl
    rw [he, execReleaseSequence, if_neg (by simp [hm]), h]
    exact congrArg _ (if_neg (by simp [hd]))
  case falls =>
    have he : exec .refFallback s = execRefFallback s := rfl
    rw [he, execRefFallback, if_neg (by simp [h]), if_neg hc]
  case dead =>
    have he : exec .refFallback s = execRefFallback s := rfl
    rw [he, execRefFallback, if_neg (by simp [h]), if_pos hc]
  case back =>
    have he : exec .referenceInRange s = execReferenceInRange s := rfl
    rw [he, execReferenceInRange, if_pos ⟨h, hd⟩]
  case opens =>
    have he : exec (.islandRelease i) s = execIslandRelease i s := rfl
    rw [he, execIslandRelease, if_neg (by simp [hr, hm, ho, hb]; omega), hn]
    rfl
  case ist => rw [State.onD_d, Die.ist_openIsland, if_pos rfl]
  case others => rw [State.onD_d, Die.ist_openIsland, if_neg hk]

/-- Settles O7: each request, and each event of one under way, takes the branch its state gives. -/
theorem levelRequests : Obligations.level_requests := by
  unfold Obligations.level_requests
  intro s
  refine ⟨fun ini h hg hs hsp => ⟨fun hb hd hl hok => ?west, fun hb hd hl hok => ?east⟩, fun t hb hd hgo hc hq => ?quiet,
    fun l hb hd hc hl => ⟨s.onD Die.levelledEast, ?done, ?after⟩, fun hb hd hc ht =>
    ⟨s.onD (fun d => (d.levelOver true).levelResult true 3), ?timeout, ?ended⟩⟩
  case west =>
    refine (exec_cpl_served (f := fun t => t.pwrCmd ini 1) rfl h).trans (congrArg _ ?_)
    have hgo := Die.go_west (d := (s.reached ini pgPwr).d) (ok := s.a.trim.levelOk) (by rw [State.reached_pw, hg])
      (by rw [State.reached_pw, hb]) (by rw [State.reached_pw, hd]) (by rw [State.reached_pw, hs])
      (by rw [State.reached_pw, State.reached_reg]; exact hl) (by rw [State.reached_reg, hok]) (by rw [State.reached_spanning, hsp])
    rw [State.reached_reg] at hgo
    rw [(State.pwrCmd_one (s := s.reached ini pgPwr) (by rw [State.reached_pw, hg]) ini).1, State.reached_trim]
    exact congrArg (fun d => ({ s.reached ini pgPwr with d := d } : State)) hgo
  case east =>
    refine (exec_cpl_served (f := fun t => t.pwrCmd ini 2) rfl h).trans (congrArg _ ?_)
    have hgo := Die.go_east (d := (s.reached ini pgPwr).d) (ok := s.a.trim.levelOk) (by rw [State.reached_pw, hg])
      (by rw [State.reached_pw, hb]) (by rw [State.reached_pw, hd]) (by rw [State.reached_pw, hs])
      (by rw [State.reached_pw, State.reached_reg]; exact hl) (by rw [State.reached_reg, hok]) (by rw [State.reached_spanning, hsp])
    rw [State.reached_reg] at hgo
    rw [(State.pwrCmd_one (s := s.reached ini pgPwr) (by rw [State.reached_pw, hg]) ini).2.1, State.reached_trim]
    exact congrArg (fun d => ({ s.reached ini pgPwr with d := d } : State)) hgo
  case quiet =>
    exact congrArg _ (congrArg (fun d => ({ s with d := d } : State)) (Die.levelQuiet_west hb hd hgo hc hq))
  case done => exact congrArg _ (State.levelDone_east hb hd hc hl)
  case after =>
    rw [State.onD_d, Die.levelledEast_pw hd hc]
    exact ⟨rfl, rfl, rfl, rfl, rfl, rfl, rfl⟩
  case timeout =>
    have he : exec (.levelTimeout true) s = s.onDie (fun d =>
      if d.pw.busy true = false ∨ (d.pw.chg true).isSome ∨ d.reg pgPwr 0x110 = 0 then d
      else (d.levelOver true).levelResult true 3) := rfl
    rw [he]
    refine congrArg (fun d => Host.Outcome.next ({ s with d := d } : State)) (if_neg ?_)
    rintro (h | h | h)
    · exact absurd (hb.symm.trans h) (by decide)
    · rw [show s.d.pw.chg true = none from hc] at h
      cases h
    · exact ht h
  case ended =>
    have hp : ((s.d.levelOver true).levelResult true 3).pw =
        { (s.d.levelOver true).pw with resW := 3, donePend := true } := rfl
    rw [State.onD_d, hp, Die.levelOver_west_pw hd]
    exact ⟨rfl, rfl, rfl, rfl, rfl, rfl⟩

end Sys2Proof
end

section
/-!
PROOFS. Sleep and wake (13 R392-R396), the main switch, its trips and the prepared power-off (15 R435-R442).
-/

namespace Sys2Proof.Machine

variable {s : State} {d : Die}

/-- An effect that changes the power state alone. -/
theorem State.next_onD_updPw {f : Die → Die} {g : Pwr → Pwr} (h : f s.d = s.d.updPw g) :
    (.next (s.onD f) : Host.Outcome State Fault Refusal) = .next (s.updPwr g) := by
  rw [State.onD, h, State.updPwr]

/-! ## Sleep entry -/

theorem State.sleep_enters (hg : s.d.pw.gone = false) (hs : s.d.pw.sleepBusy = false) (ha : s.d.pw.asleep = false)
    (hbw : s.d.pw.busyW = false) (hbe : s.d.pw.busyE = false) (hdw : s.d.pw.deferW = false) (hde : s.d.pw.deferE = false)
    (hr : s.d.pw.release = none) (ht : s.a.trim.loading = false) (hi : ∀ i, i < 91 → (s.d.ist i).inReset = false) :
    s.sleep = s.updPwr (fun p => { p with sleepBusy := true, wakeHeld := 0 }) := by
  have hany : (List.range 91).any (fun i => (s.d.ist i).inReset) = false := by
    rw [List.any_eq_false]
    intro i h
    rw [hi i (List.mem_range.1 h)]
    decide
  unfold State.sleep
  dsimp only
  rw [if_neg (by simp [hg, hs, ha]), if_neg (by simp [hbw, hbe, hdw, hde, hr, ht, hany])]

/-- The state of the stacks after a loop that changes one stack at a time. -/
theorem Die.stack_foldl {f : Die → Nat → Die} {P : Stk → Stk → Prop} (hown : ∀ e n, P (e.stack n) ((f e n).stack n))
    (hother : ∀ e m n, n ≠ m → (f e m).stack n = e.stack n) (d : Die) (k : Nat) {n : Nat} (hn : n < k) :
    P (d.stack n) (((List.range k).foldl f d).stack n) := by
  have hlater (j : Nat) : j ≤ n → ((List.range j).foldl f d).stack n = d.stack n := by
    induction j with
    | zero => exact fun _ => rfl
    | succ j ih =>
      intro hj
      rw [List.range_succ, List.foldl_append, List.foldl_cons, List.foldl_nil, hother _ _ _ (by omega), ih (by omega)]
  induction k with
  | zero => omega
  | succ k ih =>
    rw [List.range_succ, List.foldl_append, List.foldl_cons, List.foldl_nil]
    rcases Nat.lt_succ_iff_lt_or_eq.1 hn with h | rfl
    · rw [hother _ _ _ (by omega)]
      exact ih h
    · have := hown ((List.range n).foldl f d) n
      rwa [hlater n le_rfl] at this

/-- What a trace record does not move is as before. -/
theorem Die.trace_keeps {α : Type} (g : Die → α)
    (h : ∀ (d : Die) c f n r t, g { d with ctr := c, free := f, trS := n, trRec := r, trc := t } = g d) (i k : Nat) (p : Word) :
    g (d.trace i k p) = g d := by
  obtain ⟨c, f, n, r, t, he⟩ := d.trace_eq i k p
  rw [he, h]

/-- The trained stacks refresh themselves. -/
def Die.refreshing (d : Die) : Die :=
  (List.range 8).foldl (fun d s => d.updStk s (fun k => if k.trained then { k with selfRefresh := true } else k)) d

theorem Die.fallAsleep_stack {n : Nat} (hn : n < 8) (ht : (d.stack n).trained = true) :
    (d.fallAsleep.stack n).selfRefresh = true := by
  have h : (d.refreshing.stack n).selfRefresh = true :=
    Die.stack_foldl (P := fun x y => x.trained = true → y.selfRefresh = true) (fun e n h => by simp [h])
      (fun e m n hnm => by simp [hnm]) d 8 hn ht
  have he : d.fallAsleep.stack n = (d.refreshing.trace 91 0xB 0).stack n := rfl
  rw [he, Die.trace_keeps (fun e => e.stack n) (fun _ _ _ _ _ _ => rfl), h]

theorem Die.fallAsleep_mem : d.fallAsleep.mem = d.mem := by
  have he : d.fallAsleep.mem = (d.refreshing.trace 91 0xB 0).mem := rfl
  rw [he, Die.trace_keeps Die.mem (fun _ _ _ _ _ _ => rfl)]
  refine foldl_keeps Die.mem (fun e n => ?_) (List.range 8) d
  rfl

/-! ## Wake -/

/-- A wake event of a sleeping module that is not on its way out begins the wake. -/
theorem Die.wakeEvent_asleep (ha : d.pw.asleep = true) (hg : d.pw.gone = false) (hw : d.pw.waking = false) (b : Nat) :
    d.wakeEvent b = d.updPw (fun x => { x with waking := true, wakeCause := 2 ^ b }) := by
  obtain ⟨hb, ho⟩ : d.pw.offBusy = false ∧ d.pw.off = false := by simpa [Pwr.gone] using hg
  rw [Die.wakeEvent, if_neg (by simp [hb, ho, hw]), if_pos ha]

theorem Die.setEyes_stack (n : Nat) (pins eyes : List (Nat × Nat)) :
    (∀ m, m ≠ n → (d.setEyes n pins eyes).stack m = d.stack m) ∧ (d.setEyes n pins eyes).frame = d.frame ∧
      (d.setEyes n pins eyes).mem = d.mem := by
  unfold Die.setEyes
  refine ⟨fun m hm => ?_, ?_, ?_⟩
  · refine foldl_keeps (fun e => Die.stack e m) (fun e c => ?_) _ _
    simp [hm]
  · refine foldl_keeps Die.frame (fun e c => ?_) _ _
    rfl
  · refine foldl_keeps Die.mem (fun e c => ?_) _ _
    rfl

theorem Die.frame_updStk (d : Die) (n : Nat) (f : Stk → Stk) : (d.updStk n f).frame = d.frame := rfl

/-- A run of Table 8-5 on a stack in self-refresh records its eyes and takes it out of self-refresh. -/
theorem Die.wakeStack_eq (lost : List Nat) (runs : List (Nat × List (Nat × Nat) × List (Nat × Nat))) {n : Nat}
    (h : (d.stack n).selfRefresh ≠ false) : ∃ pins eyes f, d.wakeStack lost runs n = (d.setEyes n pins eyes).updStk n f ∧
      ∀ k, (f k).selfRefresh = false := by
  rw [Die.wakeStack, if_neg h]
  cases runs.find? (fun r => decide (r.1 = n)) with
  | none =>
    dsimp only
    split
    · exact ⟨_, _, _, rfl, fun _ => rfl⟩
    · exact ⟨_, _, _, rfl, fun _ => rfl⟩
  | some r =>
    dsimp only
    split
    · exact ⟨_, _, _, rfl, fun _ => rfl⟩
    · exact ⟨_, _, _, rfl, fun _ => rfl⟩

/-- A stack's own part of a wake takes it out of self-refresh and leaves the others. -/
theorem Die.wakeStack_stack (lost : List Nat) (runs : List (Nat × List (Nat × Nat) × List (Nat × Nat))) (n : Nat) :
    ((d.wakeStack lost runs n).stack n).selfRefresh = false ∧
    (∀ m, m ≠ n → (d.wakeStack lost runs n).stack m = d.stack m) ∧ (d.wakeStack lost runs n).frame = d.frame ∧
    (d.wakeStack lost runs n).mem = d.mem := by
  by_cases h : (d.stack n).selfRefresh = false
  · rw [Die.wakeStack, if_pos h]
    exact ⟨h, fun _ _ => rfl, rfl, rfl⟩
  · obtain ⟨pins, eyes, f, he, hf⟩ := d.wakeStack_eq lost runs h
    obtain ⟨h1, h2, h3⟩ := d.setEyes_stack n pins eyes
    rw [he]
    exact ⟨by simp [hf], fun m hm => by simp [hm, h1 m hm], (Die.frame_updStk ..).trans h2, (Die.updStk_mem ..).trans h3⟩

/-- The die in which a wake has ended, before its ports send what waits (13 Table 13-5). -/
def Die.awake (d : Die) : Die :=
  let d := d.updPw (fun p => { p with asleep := false, waking := false, wokePend := true })
  let d := (List.range 8).foldl (fun d n => d.wakeStack [] [] n) d
  let d := (List.range 16).foldl (fun d p => if d.up p then d.updPort p (fun x => { x with wakeNak := true, creditDue := true }) else d) d
  d.trace 91 0xB 1

theorem Die.awake_keeps {α : Type} (g : Die → α)
    (h : ∀ (d : Die) c f n r t, g { d with ctr := c, free := f, trS := n, trRec := r, trc := t } = g d)
    (hp : ∀ (e : Die) p f, g (e.updPort p f) = g e) : g d.awake = g ((List.range 8).foldl (fun d n => d.wakeStack [] [] n)
      (d.updPw (fun p => { p with asleep := false, waking := false, wokePend := true }))) := by
  unfold Die.awake
  refine (Die.trace_keeps g h _ _ _).trans (foldl_keeps g (fun e p => ?_) _ _)
  split
  · exact hp _ _ _
  · rfl

theorem Die.awake_pw : d.awake.pw = { d.pw with asleep := false, waking := false, wokePend := true } := by
  rw [Die.awake_keeps Die.pw (fun _ _ _ _ _ _ => rfl) (fun _ _ _ => rfl)]
  refine (foldl_keeps Die.pw (fun e n => ?_) _ _).trans rfl
  exact Die.pw_of_frame (e.wakeStack_stack [] [] n).2.2.1

theorem Die.awake_mem : d.awake.mem = d.mem := by
  rw [Die.awake_keeps Die.mem (fun _ _ _ _ _ _ => rfl) (fun _ _ _ => rfl)]
  refine (foldl_keeps Die.mem (fun e n => ?_) _ _).trans rfl
  exact (e.wakeStack_stack [] [] n).2.2.2

theorem Die.awake_stack {n : Nat} (hn : n < 8) : (d.awake.stack n).selfRefresh = false := by
  rw [Die.awake_keeps (fun e => (e.stack n).selfRefresh) (fun _ _ _ _ _ _ => rfl) (fun _ _ _ => rfl)]
  exact Die.stack_foldl (P := fun _ y => y.selfRefresh = false) (fun e n => (e.wakeStack_stack [] [] n).1)
    (fun e m n h => (e.wakeStack_stack [] [] m).2.1 n h) _ 8 hn

theorem exec_wakeDone_waking (h : s.d.pw.waking = true) :
    exec (.wakeDone [] []) s = .next (s.onD (fun _ => ((List.range 16).foldl Die.pump s.d.awake).fabSettle)) := by
  have he : exec (.wakeDone [] []) s = .next (s.wakeDone [] [] []) := rfl
  rw [he, State.wakeDone, if_neg (by simp [h])]
  rfl

end Sys2Proof.Machine

namespace Sys2Proof
open Machine

/-- Settles O8: entry, wake and their acknowledgements, each by the branch its state gives. -/
theorem sleepAndWake : Obligations.sleep_and_wake := by
  unfold Obligations.sleep_and_wake
  intro wakes s
  refine ⟨fun ini h hg => ⟨fun hs ha hbw hbe hdw hde hr ht hi => ?sleep, ?pwrAck, ?wakeAck⟩,
    fun hs hc hrt => ⟨s.onD Die.fallAsleep, ?quiet, rfl, rfl, rfl, rfl, Die.fallAsleep_mem, rfl, fun n hn ht => Die.fallAsleep_stack hn ht⟩,
    fun hs ht => ?timeout, fun ha hg hw => ⟨fun h => ?port, fun hb => ?pin, fun hb ht => ?timer, fun p f hl hu hf => ?frame⟩,
    fun hw => ⟨s.d.awake, exec_wakeDone_waking hw, by rw [Die.awake_pw], by rw [Die.awake_pw], by rw [Die.awake_pw], Die.awake_mem,
      fun n hn => Die.awake_stack hn⟩⟩
  case sleep =>
    have hone := State.pwrCmd_one (s := s.reached ini pgPwr) (by rw [State.reached_pw, hg]) ini
    refine (exec_cpl_served (f := fun t => t.pwrCmd ini 4) rfl h).trans (congrArg _ (hone.2.2.1.trans (State.sleep_enters ?_ ?_ ?_ ?_ ?_ ?_
      ?_ ?_ ?_ ?_)))
    all_goals simp only [State.reached_pw, State.reached_trim, State.reached_ist]
    all_goals assumption
  case pwrAck =>
    have hone := State.pwrCmd_one (s := s.reached ini pgPwr) (by rw [State.reached_pw, hg]) ini
    exact (exec_cpl_served (f := fun t => t.pwrCmd ini 8) rfl h).trans (congrArg _ hone.2.2.2.1)
  case wakeAck =>
    have hone := State.pwrCmd_one (s := s.reached ini pgPwr) (by rw [State.reached_pw, hg]) ini
    exact (exec_cpl_served (f := fun t => t.pwrCmd ini 16) rfl h).trans (congrArg _ hone.2.2.2.2)
  case quiet =>
    have he : exec .sleepQuiet s = .next (s.onD (fun d =>
      if d.pw.sleepBusy = false ∨ d.circs ≠ [] ∨ (List.range 8).any (fun n => decide ((d.stack n).retries ≠ [])) then d
      else d.fallAsleep)) := rfl
    refine he.trans (State.next_onD_congr (if_neg ?_))
    rintro (h | h | h)
    · exact absurd (hs.symm.trans h) (by decide)
    · exact h hc
    · obtain ⟨n, hn, hne⟩ := List.any_eq_true.1 h
      exact (of_decide_eq_true hne) (hrt n (List.mem_range.1 hn))
  case timeout =>
    have he : exec .sleepTimeout s = .next (s.onD (fun d =>
      if d.pw.sleepBusy = false ∨ d.reg pgPwr 0x110 = 0 then d
      else d.updPw (fun p => { p with sleepBusy := false, wakeHeld := 0, resS := 3, donePend := true }))) := rfl
    refine he.trans (State.next_onD_updPw (if_neg ?_))
    rintro (h | h)
    · exact absurd (hs.symm.trans h) (by decide)
    · exact ht h
  case port =>
    have hd : (s.reached 16 pgPwr).d.wakeCmd 16 = (s.reached 16 pgPwr).d.updPw (fun x => { x with waking := true, wakeCause := 2 ^ 3 }) :=
      Die.wakeEvent_asleep (by rw [State.reached_pw, ha]) (by rw [State.reached_pw, hg]) (by rw [State.reached_pw, hw]) 3
    exact ⟨_, (exec_cplD_served (f := fun d => d.wakeCmd 16) rfl h).trans (State.next_onD_updPw hd), rfl⟩
  case pin =>
    have he : exec .wakePin s = .next (s.onD (fun d => if bit (d.reg pgPwr 0x114) 1 then d.wakeEvent 1 else d)) := rfl
    exact ⟨_, he.trans (State.next_onD_updPw ((if_pos hb).trans (Die.wakeEvent_asleep ha hg hw 1))), rfl⟩
  case timer =>
    have he : exec .wakeTimer s = .next (s.onD (fun d =>
      if d.pw.asleep ∧ bit (d.reg pgPwr 0x114) 0 ∧ d.reg pgPwr 0x118 ≠ 0 then d.wakeEvent 0 else d)) := rfl
    exact ⟨_, he.trans (State.next_onD_updPw ((if_pos ⟨ha, hb, ht⟩).trans (Die.wakeEvent_asleep ha hg hw 0))), rfl⟩
  case frame =>
    have hd := Die.wakeEvent_asleep (d := s.d.count (pgPort p) 2 f.units) ha hg hw 2
    refine ⟨_, (exec_at_live (f := fun d => if !d.up p ∨ !d.wakesOn f then d
      else (if d.pw.asleep then d.count (pgPort p) 2 f.units else d).wakeEvent 2) rfl hl).trans (congrArg Host.Outcome.next ?_), rfl⟩
    rw [State.onD, if_neg (by simp [hu, hf]), if_pos ha, hd]
    rfl

end Sys2Proof
end

section
/-!
PROOFS. The main switch, its trips and the prepared power-off (15 R435-R442).
-/

namespace Sys2Proof.Machine

variable {s : State}

/-- The state after the write of `MOD_CMD.OFF` (15 R441). -/
def State.leaving (s : State) : State :=
  { s with
    d := (s.d.liftHold true true).updPw (fun p => { p with
      offBusy := true, sleepBusy := false, wakeHeld := 0, busyW := false, busyE := false, deferW := false, deferE := false,
      goW := none, goE := none, chgW := none, chgE := none })
    a := { s.a with wdtRunning := false } }

theorem State.leaving_mem (s : State) : s.leaving.d.mem = s.d.mem := rfl
theorem State.leaving_islSt (s : State) : s.leaving.d.islSt = s.d.islSt := rfl

theorem State.offCmd_eq (h : s.d.pw.gone = false) : s.offCmd = s.leaving := by
  rw [State.offCmd, if_neg (by simp [h])]
  rfl

theorem State.modCmd_off : s.modCmd 1 = s.offCmd := by
  have b : bit 1 0 = true ∧ bit 1 1 = false := by decide
  simp only [State.modCmd, b, if_true, Bool.false_eq_true, if_false]

theorem State.modCmd_ack : s.modCmd 2 = s.updPwr (fun p => { p with trips := 0 }) := by
  have b : bit 2 0 = false ∧ bit 2 1 = true := by decide
  simp only [State.modCmd, b, if_true, Bool.false_eq_true, if_false]
  rfl

/-- The state in which the module is OFF (15 Table 15-7). -/
def State.poweredDown (s : State) : State :=
  { s.resetSec with
    d := (s.resetSec.d.scrubbed s.resetSec.a.last true).updPw (fun p => { p with
      levW := 3, levE := 3, offBusy := false, off := true, mainOn := false, release := none, lateResets := [] })
    a := { s.resetSec.a with
      trim := s.resetSec.a.trim.cutLoad, sec := { s.resetSec.a.sec with rom := .none }, refDead := false } }

end Sys2Proof.Machine

namespace Sys2Proof
open Machine

/-- Settles O9: each event changes the switch and its records as its condition gives. -/
theorem powerEntryAndTrips : Obligations.power_entry_and_trips := by
  unfold Obligations.power_entry_and_trips
  intro s
  refine ⟨rfl, fun vin bulk h1 h2 h3 h4 ht ho => ?close, fun vin hm hv => ?opens, fun west east hm h110 hw he => ?trip, rfl,
    fun h => ?mated, fun h => ?mates, fun ho => ?removed, fun ini h => ⟨fun hg => ⟨(s.reached ini pgPwr).leaving, ?off, ?left⟩, ?ack⟩,
    fun hb => ⟨s.poweredDown, ?down, ?dark⟩⟩
  case close =>
    have he : exec (.mainSwitchClose vin bulk) s = .next (s.onD (fun d =>
      if vin < 52000 ∨ 66000 < vin ∨ vin + 2000 < bulk ∨ bulk + 2000 < vin ∨ d.pw.tripHold ∨ d.pw.off then d
      else d.updPw (fun p => { p with mainOn := true }))) := rfl
    refine he.trans (State.next_onD_updPw (if_neg ?_))
    simp only [ht, ho, Bool.false_eq_true, or_false]
    omega
  case opens =>
    have hd : exec (.mainSwitchOpen vin false) s = .next (s.onD (fun d => if d.pw.mainOn = false then d
      else
        let d := if 68000 < vin then d.trip 1 else d
        if vin < 45000 then d.updPw (fun p => { p with mainOn := false }) else d)) := rfl
    refine hd.trans (State.next_onD_updPw ?_)
    rw [if_neg (by simp [hm])]
    simp only [hv, if_true, if_neg (show ¬ 68000 < vin by omega)]
  case trip =>
    have hd : exec (.thermalTrip west east) s = .next (s.onD (fun d =>
      let d := d.updPw (fun p => { p with tempW := min 255 west, tempE := min 255 east })
      if 110 ≤ max west east ∧ d.pw.mainOn then d.trip 2 else d)) := rfl
    refine hd.trans (congrArg Host.Outcome.next ?_)
    have h1 : min 255 west = west := by omega
    have h2 : min 255 east = east := by omega
    rw [h1, h2, State.onD]
    dsimp only
    rw [if_pos ⟨h110, hm⟩]
    rfl
  case mated =>
    have hd : exec .matedDebounce s = .next (s.onD (fun d => d.updPw (fun p =>
      { p with mated := true, release := if p.release = some 1 then some 2 else p.release }))) := rfl
    refine hd.trans (State.next_onD_updPw (Die.updPw_congr ?_))
    rw [if_pos h]
  case mates =>
    have hd : exec .matedDebounce s = .next (s.onD (fun d => d.updPw (fun p =>
      { p with mated := true, release := if p.release = some 1 then some 2 else p.release }))) := rfl
    refine hd.trans (State.next_onD_updPw (Die.updPw_congr ?_))
    rw [if_neg h]
  case removed =>
    have hd : exec .surpriseRemoval s = .next (s.onD (fun d =>
      if d.pw.off then d else d.updPw (fun p => { p with mainOn := false, mated := false }))) := rfl
    exact hd.trans (State.next_onD_updPw (if_neg (by simp [ho])))
  case off =>
    refine (exec_cpl_served (f := fun t => t.modCmd 1) rfl h).trans (congrArg Host.Outcome.next ?_)
    exact State.modCmd_off.trans (State.offCmd_eq (by rw [State.reached_pw, hg]))
  case ack =>
    exact (exec_cpl_served (f := fun t => t.modCmd 2) rfl h).trans (congrArg Host.Outcome.next State.modCmd_ack)
  case left =>
    exact ⟨rfl, rfl, rfl, rfl, rfl, (State.leaving_mem _).trans (s.reached_mem ini pgPwr),
      (State.leaving_islSt _).trans (s.reached_islSt ini pgPwr)⟩
  case down =>
    have hd : exec .offPowerDown s = execOffPowerDown s := rfl
    rw [hd, execOffPowerDown, if_neg (by simp [hb])]
    unfold State.poweredDown Die.scrubbed
    rfl
  case dark =>
    refine ⟨rfl, rfl, rfl, ?_, fun i hi => ?_⟩
    · rw [State.poweredDown, Die.updPw_flash]
      exact (Die.flash_scrubbed s.resetSec.d s.resetSec.a.last true).trans (Die.flash_of_frame s.resetSec_frame)
    · rw [State.poweredDown, Die.ist_updPw]
      exact Die.ist_scrubbed s.resetSec.d s.resetSec.a.last true hi

end Sys2Proof
end

section
/-!
PROOFS. Register writes and commits, indirect access and bit aliases (00 R10-R13, 12 R364-R370).
-/

namespace Sys2Proof.Machine

/-! ## Register writes -/

theorem rkey_div (p : Nat) {q : Nat} (hq : q < 4096) : rkey p q / 4096 = p := by
  unfold rkey
  omega

section
variable {d : Die} {page o : Nat}

@[simp] theorem Die.shadow_setReg (v : Word) (p q : Nat) : (d.setReg page o v).shadow p q = d.shadow p q := rfl
@[simp] theorem Die.reg_setShadow (v : Word) (p q : Nat) : (d.setShadow page o v).reg p q = d.reg p q := rfl

theorem Die.reg_setReg_other (v : Word) {p q : Nat} (h : rkey p q ≠ rkey page o) : (d.setReg page o v).reg p q = d.reg p q :=
  sget_sset_other _ _ _ _ h

theorem Die.reg_setReg_same (v : Word) : (d.setReg page o v).reg page o = v := sget_sset_same ..

theorem Die.shadow_setShadow_other (v : Word) {p q : Nat} (h : rkey p q ≠ rkey page o) :
    (d.setShadow page o v).shadow p q = d.shadow p q := sget_sset_other _ _ _ _ h

theorem Die.shadow_setShadow_same (v : Word) : (d.setShadow page o v).shadow page o = v := sget_sset_same ..

/-- A write of the RW and CS fields of a register: what its register and its shadow hold, and nothing else changes. -/
theorem Die.writeField_spec {k : PageKind} {r : RegInfo} (hr : regInfo k o = some r) (v : Word) :
    (d.writeField k page o v).reg page o = (d.reg page o &&& ~~~r.rw) ||| (v &&& r.rw) ∧
    (r.cs ≠ 0 → (d.writeField k page o v).shadow page o = v &&& r.cs) ∧
    (∀ p q, rkey p q ≠ rkey page o →
      (d.writeField k page o v).reg p q = d.reg p q ∧ (d.writeField k page o v).shadow p q = d.shadow p q) ∧
    ∃ x y, d.writeField k page o v = { d with regs := x, shad := y } := by
  have hw : d.writeField k page o v =
      (fun e : Die => if r.cs = 0 then e else e.setShadow page o (v &&& r.cs))
        (if r.rw = 0 then d else d.setReg page o ((d.reg page o &&& ~~~r.rw) ||| (v &&& r.rw))) := by
    rw [Die.writeField, hr]
  obtain ⟨e, he⟩ : ∃ e, e = (if r.rw = 0 then d else d.setReg page o ((d.reg page o &&& ~~~r.rw) ||| (v &&& r.rw))) := ⟨_, rfl⟩
  have hreg : e.reg page o = (d.reg page o &&& ~~~r.rw) ||| (v &&& r.rw) := by
    rw [he]
    split
    · next h =>
      rw [h, show ~~~(0 : Word) = BitVec.allOnes 32 from rfl, BitVec.and_allOnes]
      simp
    · exact Die.reg_setReg_same _
  have hoth (p q : Nat) (h : rkey p q ≠ rkey page o) : e.reg p q = d.reg p q := by
    rw [he]
    split
    · rfl
    · exact Die.reg_setReg_other _ h
  have hsh (p q : Nat) : e.shadow p q = d.shadow p q := by
    rw [he]
    split <;> rfl
  have hform : ∃ x, e = { d with regs := x } := by
    rw [he]
    split
    · exact ⟨d.regs, rfl⟩
    · exact ⟨_, rfl⟩
  rw [hw, ← he]
  dsimp only
  split
  · next h0 =>
    obtain ⟨x, hx⟩ := hform
    exact ⟨hreg, fun h => absurd h0 h, fun p q h => ⟨hoth p q h, hsh p q⟩, x, d.shad, hx⟩
  · obtain ⟨x, hx⟩ := hform
    refine ⟨hreg, fun _ => Die.shadow_setShadow_same _, fun p q h => ⟨hoth p q h, ?_⟩, x, _, by rw [hx]; rfl⟩
    rw [Die.shadow_setShadow_other _ h, hsh]

/-! ## Commits -/

/-- The registers after a commit: the keys that pass `p` read their shadow, the others stay (12 R365). -/
theorem sget_commit (sh kept : Store Word) (p : Nat → Bool) (k : Nat) :
    sget ((sh.filter (fun c => p c.1)).foldr (fun c m => sset m (resetVal c.1) c.1 c.2) kept) (resetVal k) k =
      if p k then sget sh (sget kept (resetVal k) k) k else sget kept (resetVal k) k := by
  induction sh with
  | nil => simp [sget]
  | cons c t ih =>
    obtain ⟨j, v⟩ := c
    by_cases hj : p j
    · rw [List.filter_cons_of_pos (by simpa using hj), List.foldr_cons]
      by_cases hjk : j = k
      · subst hjk
        rw [sget_sset_same, if_pos hj, sget, if_pos rfl]
      · rw [sget_sset_other _ _ _ _ (fun h => hjk h.symm), ih, sget, if_neg hjk]
    · rw [List.filter_cons_of_neg (by simpa using hj), ih]
      by_cases hjk : j = k
      · subst hjk
        rw [if_neg hj, if_neg hj]
      · rw [sget, if_neg hjk]

theorem Die.reg_commitPage (p q : Nat) (hq : q < 4096) :
    (d.commitPage page).reg p q = if p = page ∧ isCs (rkey p q) = true then d.shadow p q else d.reg p q := by
  have hk := rkey_div p hq
  have h := sget_commit d.shad (skeep d.regs (fun k => !(decide (k / 4096 = page) && isCs k)))
    (fun k => decide (k / 4096 = page) && isCs k) (rkey p q)
  refine h.trans ?_
  rw [sget_skeep, hk]
  by_cases hp : p = page ∧ isCs (rkey p q) = true
  · obtain ⟨rfl, hcs⟩ := hp
    simp [hcs, Die.shadow]
  · have : (decide (p = page) && isCs (rkey p q)) = false := by simpa [Bool.and_eq_false_iff, not_and_or] using hp
    simp [this, if_neg hp, Die.reg]

/-- On these pages a commit copies the shadows and does nothing else. -/
theorem Die.commit_plain {k : PageKind} (ini : Nat)
    (h : (∃ i, k = .stack i) ∨ k = .deckle ∨ k = .fabric ∨ k = .flash ∨ k = .power ∨ k = .debug) :
    d.commit k ini page = d.commitPage page := by
  rcases h with ⟨i, rfl⟩ | rfl | rfl | rfl | rfl | rfl <;> rfl

end

end Sys2Proof.Machine

namespace Sys2Proof
open Machine

/-- Settles O18: a write is `writeField` on the state its access reaches, and a commit of these pages `commitPage`. -/
theorem registerAccess : Obligations.register_access := by
  unfold Obligations.register_access
  intro s ini page k hk
  refine ⟨fun o v r h ho h4 hr ht hrf hm => ?write, fun o n v h hn => ?bounced, fun hkind h => ?commit⟩
  case write =>
    have hd : exec (.registerWrite ini page o 4 v) s = s.cpl ini page o (fun t => t.pageAccess ini page o (some v) none) :=
      if_pos ⟨rfl, h4⟩
    have hpa : (s.reached ini page).pageAccess ini page o (some v) none =
        (s.reached ini page).onD (fun d => d.writeField k page o v) := by
      have hrf' : (s.reached ini page).d.refusesField k ini o = false := by
        rw [s.reached_keeps ini page (fun d => d.refusesField k ini o) (fun _ _ _ _ _ => rfl), hrf]
      have hm' : (s.reached ini page).d.coreMuted k o = false := by
        rw [s.reached_keeps ini page (fun d => d.coreMuted k o) (fun _ _ _ _ _ => rfl), hm]
      have hpw : (s.reached ini page).pageWrite k ini page o v none = (s.reached ini page).fieldWrite k ini page o v := by
        unfold State.pageWrite
        exact if_neg (by omega)
      rw [State.pageAccess, hk]
      dsimp only
      rw [hpw, State.fieldWrite, hrf', hm', ht]
      rfl
    obtain ⟨h1, h2, h3, x, y, he⟩ := Die.writeField_spec (d := (s.reached ini page).d) (page := page) hr v
    refine ⟨_, (exec_cpl_served hd h).trans (congrArg Host.Outcome.next hpa), ?_⟩
    rw [State.onD_d]
    refine ⟨h1.trans (by rw [State.reached_reg]), h2, ?_, ?_, ?_, ?_, fun p q hpq => ?_, rfl⟩
    · rw [he]; exact s.reached_resp ini page
    · rw [he]; exact s.reached_mem ini page
    · rw [he]; exact s.reached_hdr ini page
    · rw [he]
    · exact ⟨(h3 p q hpq).1.trans (by rw [State.reached_reg]), (h3 p q hpq).2.trans (by rw [State.reached_shadow])⟩
  case bounced =>
    have hd : exec (.registerWrite ini page o n v) s = s.cpl ini page o (fun t => t.respond .busError) :=
      if_neg (by omega)
    rw [exec_cpl_served hd h]
    rfl
  case commit =>
    have hpa : (s.reached ini page).pageAccess ini page 0x1C (some 1) none = (s.reached ini page).onD (fun d => d.commitPage page) := by
      have hb : bit 1 0 = true := by decide
      rw [State.pageAccess, hk]
      have hw (t : State) : t.pageWrite k ini page 0x1C 1 none = if bit 1 0 then { t with d := t.d.commit k ini page } else t := rfl
      simp only [hw, hb, if_true]
      rw [Die.commit_plain _ hkind]
      rfl
    refine ⟨_, (exec_cpl_served (f := fun t => t.pageAccess ini page 0x1C (some 1) none) rfl h).trans (congrArg Host.Outcome.next hpa),
      s.reached_resp ini page, s.reached_shad ini page, s.reached_mem ini page, fun o ho hcs => ?_, fun p q hq hne => ?_⟩
    · rw [State.onD_d, Die.reg_commitPage _ _ ho, if_pos ⟨rfl, hcs⟩, State.reached_shadow]
    · rw [State.onD_d, Die.reg_commitPage _ _ hq, if_neg, State.reached_reg]
      rintro ⟨rfl, hcs⟩
      exact hne ⟨rfl, hcs⟩

end Sys2Proof
end

section
/-!
PROOFS. Indirect access and bit aliases (12 R369, R370).
-/

namespace Sys2Proof.Machine

variable {s : State}

/-! ## Indirect access -/

theorem exec_indData_served {ini : Ini} {page : Fin 16384} {k : PageKind} (hk : pageKind page = some k) (wr : Option Word)
    (err : Option Bool) (h : s.admits ini page 0x44 = true) :
    exec (.indData ini page wr err) s = .next ((s.reached ini page).indAccess k page wr err) := by
  refine (exec_cpl_served (f := fun t => t.pageAccess ini page 0x44 wr err) rfl h).trans (congrArg Host.Outcome.next ?_)
  rw [State.pageAccess, hk]
  cases wr with
  | none => rfl
  | some v => rfl

theorem State.indAccess_past {k : PageKind} {page : Nat} (wr : Option Word) (err : Option Bool)
    (h : spaceLen k (s.d.hd page).indSpace ≤ (s.d.hd page).indAddr.toNat) :
    s.indAccess k page wr err = s.onD (fun d => (d.updHdr page (fun h => { h with lastErr := true })).respond .busError) := by
  simp only [State.indAccess, if_pos h]
  rfl

/-- The debug page's space 0 holds sixteen words, which an injection under way locks. -/
theorem State.indAccess_debug (hs : (s.d.hd pgDbg).indSpace = 0) (ha : (s.d.hd pgDbg).indAddr.toNat < 16) (hb : s.d.inj.busy = false) :
    (∀ v, s.indAccess .debug pgDbg (some v) none = s.onD (fun d =>
      (Die.updHdr { d with injDesc := sset d.injDesc 0 (s.d.hd pgDbg).indAddr.toNat v } pgDbg (fun h =>
        { h with indAddr := h.indAddr + 1, lastErr := false })).respond (.ok 0))) ∧
    s.indAccess .debug pgDbg none none = s.onD (fun d => (d.updHdr pgDbg (fun h =>
      { h with indAddr := h.indAddr + 1, lastErr := false })).respond (.ok (sget s.d.injDesc 0 (s.d.hd pgDbg).indAddr.toNat).toNat)) := by
  have hlen : ¬ spaceLen .debug 0 ≤ (s.d.hd pgDbg).indAddr.toNat := Nat.not_le.2 ha
  refine ⟨fun v => ?_, ?_⟩
  · simp only [State.indAccess, if_neg hlen, hs, State.indSet, hb, Bool.false_eq_true, if_false]
    rfl
  · simp only [State.indAccess, if_neg hlen, hs, State.indGet, hb, Bool.false_eq_true, if_false]
    rfl

/-! ## Bits of a register -/

/-- Replacing one bit of a register leaves its other bits. -/
theorem bit_setFld (w : Word) (b : Nat) (v : Bool) {i : Nat} (hi : i < 32) :
    bit (setFld w b b (b2n v)) i = if i = b then v else bit w i := by
  have hr : w.toNat % 2 ^ b < 2 ^ b := Nat.mod_lt _ (by positivity)
  have hx := eq_three_parts w.toNat b
  have hpow : b + 1 - b = 1 := by omega
  have hv : b2n v % 2 ^ 1 = v.toNat := by cases v <;> rfl
  have hbit : (w.toNat >>> b) % 2 ^ 1 = (w.toNat.testBit b).toNat := by
    rw [Nat.toNat_testBit, Nat.shiftRight_eq_div_pow, pow_one]
  have hm : w.toNat - (w.toNat.testBit b).toNat * 2 ^ b + v.toNat * 2 ^ b =
      2 ^ (b + 1) * (w.toNat / 2 ^ (b + 1)) + (v.toNat * 2 ^ b + w.toNat % 2 ^ b) := by omega
  have hx' := testBit_three_parts (w.toNat / 2 ^ (b + 1)) (w.toNat.testBit b) hr i
  rw [← hx] at hx'
  rw [bit, setFld, BitVec.testBit_toNat, BitVec.getLsbD_ofNat, hpow, hv, hbit, Nat.shiftLeft_eq, Nat.shiftLeft_eq, hm,
    testBit_three_parts _ _ hr, bit, hx']
  simp only [hi, decide_true, Bool.true_and]
  grind

/-! ## Bit aliases -/

section
variable {ini : Ini} {page b : Nat} {k : PageKind}

/-- The effect of an access to the word that stands for bit `b` of `INT_MASK`. -/
def State.maskAlias (s : State) (ini page b : Nat) (aligned : Bool) (wr : Option Word) : State :=
  if aligned then s.bitAccess ini page 0x20 b (wr.map (fun v => bit v 0)) else s.respond .busError

/-- The word that stands for bit `b` of `INT_MASK` of a page is an access to that register (12 R370). -/
theorem exec_bitAlias_mask {a : Fin 2147483648} (hb : b < 32) (ha : a.val / 4 = (page * 4096 + 0x20) * 32 + b) (size : Nat)
    (wr : Option Word) : exec (.bitAlias ini a wr size) s =
      s.cpl ini page 0x20 (fun t => t.maskAlias ini page b (decide (size = 4 ∧ a.val % 4 = 0)) wr) := by
  have hd : exec (.bitAlias ini a wr size) s = execBitAlias ini a wr s size := rfl
  have h1 : a.val / 4 / 32 / 4096 = page := by omega
  have h2 : a.val / 4 / 32 % 4096 = 0x20 := by omega
  have h3 : a.val / 4 % 32 = b := by omega
  rw [hd, execBitAlias]
  simp only [h1, h2, h3]
  refine congrArg (State.cpl s ini page 0x20) (funext fun t => ?_)
  unfold State.maskAlias
  by_cases h : size = 4 ∧ a.val % 4 = 0
  · simp [h]
  · rw [if_pos (by omega)]
    simp [h]

theorem State.bitAccess_mask_write (hk : pageKind page = some k) (hb : b < 32) (v : Bool) :
    s.bitAccess ini page 0x20 b (some v) =
      s.onD (fun d => d.setReg page 0x20 (setFld (s.d.reg page 0x20) b b (b2n v))) := by
  have hw : writableBit k 0x20 b = true := by
    have hall : ∀ b, b < 32 → bit (0xFFFFFFFF ||| 0) b = true := by decide
    have hr : regInfo k 0x20 = some (rwReg 0xFFFFFFFF) := rfl
    have h := hall b hb
    unfold writableBit
    rw [hr]
    dsimp only [rwReg]
    rw [h]
    rfl
  have hn : noAlias k 0x20 = false := by
    cases k <;> rfl
  have ht : (!(decide (0x100 ≤ 0x20) && (regInfo k 0x20).isNone)) = true := by
    cases k <;> rfl
  rw [State.bitAccess, hk]
  dsimp only
  rw [hn, hw, if_neg Bool.false_ne_true, if_pos ⟨rfl, .inr ht⟩]
  rfl

theorem State.bitAccess_mask_read (hk : pageKind page = some k) :
    s.bitAccess ini page 0x20 b none = s.respond (.ok (b2n (bit (s.d.reg page 0x20) b))) := by
  have hn : noAlias k 0x20 = false := by
    cases k <;> rfl
  rw [State.bitAccess, hk]
  dsimp only
  rw [hn]
  rfl

end

end Sys2Proof.Machine

namespace Sys2Proof
open Machine

/-- Settles O20: an access past the end is refused before the space is looked at; in space 0 of the debug page it moves a
word. -/
theorem indirectAccess : Obligations.indirect_access := by
  unfold Obligations.indirect_access
  intro s ini
  refine ⟨fun h hs ha hb => ?debug, fun page k wr err hk h hl => ?past⟩
  case debug =>
    obtain ⟨hw, hr⟩ := State.indAccess_debug (s := s.reached ini pgDbg) (by rw [State.reached_hd, hs])
      (by rw [State.reached_hd]; exact ha) (by rw [State.reached_inj, hb])
    have hinj : (s.reached ini pgDbg).d.injDesc = s.d.injDesc := s.reached_keeps ini pgDbg Die.injDesc (fun _ _ _ _ _ => rfl)
    refine ⟨fun v => ?_, ?_⟩
    · refine (exec_indData_served (page := 7) rfl (some v) none h).trans (congrArg Host.Outcome.next ((hw v).trans ?_))
      rw [State.reached_hd]
      have hresp (d : Die) (f : Hdr → Hdr) (x : Store Word) (he : d.resp = .ok 0) :
          (Die.updHdr { d with injDesc := x } pgDbg f).respond (.ok 0) = Die.updHdr { d with injDesc := x } pgDbg f := by
        rw [← he]
        rfl
      exact congrArg (fun d => ({ s.reached ini pgDbg with d := d } : State)) (hresp _ _ _ (State.reached_resp ..))
    · refine (exec_indData_served (page := 7) rfl none none h).trans (congrArg Host.Outcome.next (hr.trans ?_))
      rw [State.reached_hd, hinj]
  case past =>
    refine (exec_indData_served hk wr err h).trans (congrArg Host.Outcome.next (State.indAccess_past wr err ?_))
    rw [State.reached_hd]
    exact hl

/-- Settles O21: the bit's own word gives one bit of `INT_MASK`, which is replaced or answered. -/
theorem bitAlias : Obligations.bit_alias := by
  unfold Obligations.bit_alias
  intro s ini page b a k hp hk hb ha h
  have ha4 : a.val / 4 = (page * 4096 + 0x20) * 32 + b := by omega
  have ha0 : a.val % 4 = 0 := by omega
  have served (size : Nat) (wr : Option Word) (o : Fin 2147483648) (ho : o.val / 4 = (page * 4096 + 0x20) * 32 + b) :=
    exec_cpl_served (exec_bitAlias_mask (s := s) (ini := ini) hb ho size wr) h
  have hyes (t : State) (wr : Option Word) : t.maskAlias ini page b (decide (4 = 4 ∧ a.val % 4 = 0)) wr =
      t.bitAccess ini page 0x20 b (wr.map (fun v => bit v 0)) := by
    simp [State.maskAlias, ha0]
  refine ⟨fun v => ⟨_, (served 4 (some v) a ha4).trans (congrArg Host.Outcome.next ((hyes _ _).trans (State.bitAccess_mask_write hk hb _))), ?_⟩,
    ⟨_, (served 4 none a ha4).trans (congrArg Host.Outcome.next ((hyes _ _).trans (State.bitAccess_mask_read hk))), ?_, s.reached_regs ini page⟩,
    fun size wr hs => ?_, fun o wr ho heq => ?_⟩
  · rw [State.onD_d, Die.reg_setReg_same, State.reached_reg]
    refine ⟨?_, fun i hi hib => ?_, fun p o hpo => ?_, s.reached_shad ini page, s.reached_mem ini page⟩
    · rw [bit_setFld _ _ _ hb, if_pos rfl]
    · rw [bit_setFld _ _ _ hi, if_neg hib]
    · rw [Die.reg_setReg_other _ hpo, State.reached_reg]
  · rw [State.reached_reg]
    rfl
  · rw [served size wr a ha4, State.maskAlias, if_neg (by simp [hs])]
    rfl
  · rw [served 4 wr o (by rw [heq, ha4]), State.maskAlias, if_neg (by simp [ho])]
    rfl

end Sys2Proof
end

section
/-!
PROOFS. Security commands, injection and the trace commands (14 R420-R429).
-/

namespace Sys2Proof.Machine

variable {s : State}

/-! ## Security commands -/

/-- The operation and the argument of a word written to `SEC_CMD`. -/
theorem fld_secWord {op arg : Nat} (hop : op < 16) (harg : arg < 256) :
    fld (secWord op arg) 31 28 = op ∧ fld (secWord op arg) 7 0 = arg := by
  have hn : (secWord op arg).toNat = op * 2 ^ 28 + arg := by
    simp only [secWord, packW, pack, word, BitVec.toNat_ofNat, Nat.shiftLeft_eq]
    omega
  rw [fld, fld, hn, Nat.shiftRight_eq_div_pow, Nat.shiftRight_eq_div_pow]
  omega

/-- A command with an argument starts while none runs. -/
theorem State.secCmd_starts {op arg : Nat} (h : s.a.sec.cmd = none) (hop : op = 2 ∨ op = 3 ∨ op = 4) (harg : arg < 256) :
    s.secCmd (secWord op arg) = s.updSec (fun x => { x with cmd := some (op, arg) }) := by
  obtain ⟨h1, h2⟩ := fld_secWord (op := op) (arg := arg) (by omega) harg
  simp only [State.secCmd, h, h1, h2, Option.isSome_none, Bool.false_eq_true, if_false]
  rcases hop with rfl | rfl | rfl <;> rfl

theorem State.secCmd_running (h : s.a.sec.cmd.isSome = true) (v : Word) : s.secCmd v = s.respond .busError := by
  rw [State.secCmd, if_pos h]

theorem State.secCmd_attest (h : s.a.sec.cmd = none) : s.secCmd (secWord 1 0) = s.attest := by
  obtain ⟨h1, -⟩ := fld_secWord (op := 1) (arg := 0) (by omega) (by omega)
  simp only [State.secCmd, h, h1, Option.isSome_none, Bool.false_eq_true, if_false]

theorem State.reportBody_length (aon : DWord) : (s.reportBody aon).length = 64 := by
  simp [State.reportBody]

/-- The nonce and the claim stand behind the eight head words and the eight words of the measurement. -/
theorem State.reportBody_nonce (aon : DWord) {i : Nat} (hi : i < 16) : (s.reportBody aon).getD (16 + i) 0 = sget s.a.sec.nonce 0 i := by
  interval_cases i <;> rfl

/-- The report begins with its body. -/
theorem sget_report (body sig : List Word) {i : Nat} (hi : i < body.length) :
    sget (ssetList [] 0 0 (body ++ sig)) 0 i = body.getD i 0 := by
  rw [sget_ssetList, if_pos ⟨Nat.zero_le _, by rw [List.length_append]; omega⟩, Nat.sub_zero, List.getD_append _ _ _ _ hi]

/-- An attestation makes a report of its body; nothing else of the fuses' side changes. -/
theorem State.attest_spec : ∃ aon sig fr, s.attest = { s with
    d := { s.d with free := fr },
    a := { s.a with sec := { s.a.sec with report := ssetList [] 0 0 (s.reportBody aon ++ sig), cmd := some (1, 0) } } } :=
  ⟨_, _, _, rfl⟩

/-! ## The end of a fuse command -/

section
variable {x : Sec} {arg : Nat}

theorem Sec.ended_rollback (hdbg : x.debugSeen = false) (hlt : x.rollback < arg) (hle : arg ≤ fld x.boot 7 0) :
    x.ended 2 arg = ({ x with rollback := arg }, 0, arg - x.rollback) := by
  simp [Sec.ended, hdbg, hlt, hle]

/-- A slot that no fuse revokes yet is revoked while no image runs. -/
theorem revokeResult_unused {rev used : Nat} (hdbg : x.debugSeen = false) (harg : arg < 4) (hrev : rev.testBit arg = false)
    (hboot : bit x.boot 31 = false) : revokeResult x rev used arg = 0 := by
  simp [revokeResult, hdbg, hrev, hboot, Nat.not_lt.2 (Nat.le_of_lt_succ harg)]

theorem Sec.ended_revokeEd (hdbg : x.debugSeen = false) (harg : arg < 4) (hrev : x.revEd.testBit arg = false)
    (hboot : bit x.boot 31 = false) : x.ended 3 arg = ({ x with revEd := x.revEd ||| 2 ^ arg }, 0, 1) := by
  simp [Sec.ended, revokeResult_unused hdbg harg hrev hboot, hrev]

theorem Sec.ended_revokeMl (hdbg : x.debugSeen = false) (harg : arg < 4) (hrev : x.revMl.testBit arg = false)
    (hboot : bit x.boot 31 = false) : x.ended 4 arg = ({ x with revMl := x.revMl ||| 2 ^ arg }, 0, 1) := by
  simp [Sec.ended, revokeResult_unused hdbg harg hrev hboot, hrev]

end

/-! ## Trace commands -/

/-- The order to freeze or thaw as it reaches one island. -/
def Die.freezeOne (v : Bool) (d : Die) (i : Nat) : Die :=
  if (d.ist i).inReset ∨ (d.ist i).isolated then d
  else { d with trc := sset d.trc 0 (i * 2) (setFld (d.trcCfg i) 29 29 (b2n v)) }

section
variable {d : Die} {v : Bool}

theorem Die.freezeOne_keeps {α : Type} (g : Die → α) (h : ∀ (d : Die) x, g { d with trc := x } = g d) (i : Nat) :
    g (d.freezeOne v i) = g d := by
  unfold Die.freezeOne
  split
  · rfl
  · exact h ..

theorem Die.trcCfg_freezeOne (i j : Nat) : (d.freezeOne v i).trcCfg j =
    if j = i ∧ (d.ist i).inReset = false ∧ (d.ist i).isolated = false then setFld (d.trcCfg j) 29 29 (b2n v) else d.trcCfg j := by
  unfold Die.freezeOne
  split
  · next h => rw [if_neg (by grind)]
  · next h =>
    rw [Die.trcCfg, sget_sset]
    by_cases hj : j = i
    · subst hj
      rw [if_pos rfl, if_pos (by grind)]
    · rw [if_neg (by omega), if_neg (by tauto)]
      rfl

/-- The order reaches the islands that are out of reset behind an open wrapper (log 51). -/
theorem Die.freezeAll_spec (n : Nat) :
    ((List.range n).foldl (Die.freezeOne v) d).islSt = d.islSt ∧ ((List.range n).foldl (Die.freezeOne v) d).trRec = d.trRec ∧
    ∀ j, ((List.range n).foldl (Die.freezeOne v) d).trcCfg j =
      if j < n ∧ (d.ist j).inReset = false ∧ (d.ist j).isolated = false then setFld (d.trcCfg j) 29 29 (b2n v) else d.trcCfg j := by
  induction n with
  | zero => simp
  | succ n ih =>
    obtain ⟨h1, h2, h3⟩ := ih
    rw [List.range_succ, List.foldl_append, List.foldl_cons, List.foldl_nil]
    have hist (j : Nat) : ((List.range n).foldl (Die.freezeOne v) d).ist j = d.ist j := by rw [Die.ist, h1, Die.ist]
    refine ⟨(Die.freezeOne_keeps Die.islSt (fun _ _ => rfl) n).trans h1,
      (Die.freezeOne_keeps Die.trRec (fun _ _ => rfl) n).trans h2, fun j => ?_⟩
    rw [Die.trcCfg_freezeOne, hist, h3]
    by_cases hj : j = n
    · subst hj
      simp
    · have hlt : j < n + 1 ↔ j < n := by omega
      simp [hj, hlt]

/-- What `FREEZE` and `THAW` leave: the flag of every island they reach, and the rest. -/
theorem Die.trcCmd_spec : d.trcCmd (if v then 1 else 2) = (List.range 92).foldl (Die.freezeOne v) d := by
  cases v <;> rfl

end

/-! ## Injection -/

/-- A descriptor with nothing wrong takes the window of its injected context. -/
theorem Die.inject_accepted {d : Die} {n q : Nat} {x : Desc} (hb : d.inj.busy = false) (hn : n = fld (d.reg pgDbg 0x100) 11 0)
    (hq : q = fld (d.reg pgDbg 0x100) 13 12) (hen : d.enabled n = true) (hrun : (d.ist (islOf n)).inReset = false)
    (hx : x = (List.range 16).map (fun i => sget d.injDesc 0 i)) (hw0 : fld (dWait x 0) 31 30 = 0)
    (hw1 : fld (dWait x 1) 31 30 = 0) (hc : d.entryCause n q x = none) :
    d.injCmd 1 = { d.updCore n (fun c => { c with injCtx := q, inj := { c.inj with
      window := [{ d := x, pass := (d.queue n q).pass.toNat }] } }) with inj := { d.inj with busy := true, core := n } } := by
  have hcmd : d.injCmd 1 = d.inject := rfl
  rw [hcmd, Die.inject, ← hn, ← hq, ← hx]
  have hcause : minCause (cause (decide (fld (dWait x 0) 31 30 ≠ 0) || decide (fld (dWait x 1) 31 30 ≠ 0)) bdEvent ++
      (d.entryCause n q x).toList) = none := by
    rw [hc, hw0, hw1]
    rfl
  simp only [hb, hrun, hen, hcause, Bool.false_eq_true, or_self, if_false, Bool.not_true]
  rfl

end Sys2Proof.Machine

namespace Sys2Proof
open Machine

/-- Settles O25: each command through its case of `State.secCmd`, its end through its case of `Sec.ended`. -/
theorem securityCommands : Obligations.security_commands := by
  unfold Obligations.security_commands
  intro s ini arg
  have hcmd (h : s.a.sec.cmd = none) : (s.reached ini pgSec).a.sec.cmd = none := by
    rw [State.reached_cmd, h]
  have served (c : Instr) (v : Word) (hc : exec c s = s.cpl ini pgSec 0x10C (fun t => t.secCmd v))
      (h : s.admits ini pgSec 0x10C = true) : exec c s = .next ((s.reached ini pgSec).secCmd v) := exec_cpl_served hc h
  have ended {op r n : Nat} {x : Sec} (hl : s.d.live 90 = true) (hop : op ≠ 1) (hc : s.a.sec.cmd = some (op, arg.val))
      (he : s.a.sec.ended op arg = (x, r, n)) : exec .secCommandEnd s = .next ((s.onD (fun d => d.count pgSec 6 n)).updSec
        (fun _ => { x with cmd := none, donePend := true, result := r })) :=
    (exec_secCommandEnd_of_live hl).trans (congrArg Host.Outcome.next (State.secEnd_of_ended hc hop he))
  refine ⟨fun h hn => ⟨?roll, ?ed, ?ml, ?attest⟩, fun h hb => ?running,
    fun hl hdbg => ⟨fun hc hlt hle => ended hl (by decide) hc (Sec.ended_rollback hdbg hlt hle),
      fun hc ha hr hb => ended hl (by decide) hc (Sec.ended_revokeEd hdbg ha hr hb),
      fun hc ha hr hb => ended hl (by decide) hc (Sec.ended_revokeMl hdbg ha hr hb)⟩, fun v h hboot => ?harts⟩
  case roll =>
    rw [served _ (secWord 2 arg) rfl h, State.secCmd_starts (hcmd hn) (by decide) arg.isLt]
  case ed =>
    rw [served _ (secWord 3 arg) rfl h, State.secCmd_starts (hcmd hn) (by decide) arg.isLt]
  case ml =>
    rw [served _ (secWord 4 arg) rfl h, State.secCmd_starts (hcmd hn) (by decide) arg.isLt]
  case attest =>
    obtain ⟨aon, sig, fr, ha⟩ := State.attest_spec (s := s.reached ini pgSec)
    have hs {α : Type} (g : Aon → α) (hg : ∀ a : Aon, g { a with sec := { a.sec with debugSeen := true } } = g a) :=
      s.reached_a_keeps ini pgSec g hg
    refine ⟨_, (served _ (secWord 1 0) rfl h).trans (congrArg Host.Outcome.next ((State.secCmd_attest (hcmd hn)).trans ha)),
      rfl, ?_, fun i hi => ?_, hs (·.sec.rollback) (fun _ => rfl), hs (·.sec.revEd) (fun _ => rfl), hs (·.sec.revMl) (fun _ => rfl),
      s.reached_mem ini pgSec⟩
    · rw [sget_report _ _ (by rw [State.reportBody_length]; omega)]
      rfl
    · rw [sget_report _ _ (by rw [State.reportBody_length]; omega), State.reportBody_nonce _ hi,
        hs (·.sec.nonce) (fun _ => rfl)]
  case running =>
    rw [served _ (secWord 1 0) rfl h, State.secCmd_running (by rw [State.reached_cmd, hb])]
    rfl
  case harts =>
    refine (exec_cpl_served (f := fun t => t.hartGo v) rfl h).trans (congrArg Host.Outcome.next (if_pos ?_))
    rw [s.reached_a_keeps ini pgSec (·.sec.boot) (fun _ => rfl), hboot]

/-- Settles O27: the order to freeze or thaw walks the islands, a mark is one trace record, and an injection one window. -/
theorem traceAndInjection : Obligations.trace_and_injection := by
  unfold Obligations.trace_and_injection
  intro s ini
  refine ⟨fun h => ?orders, fun v h => exec_cplD_served (f := fun d => d.trace 90 0xA v) rfl h,
    fun n q x h hb hn hq hen hrun hx hw0 hw1 hc => ?inject⟩
  case orders =>
    have hd (v : Bool) := Die.freezeAll_spec (d := (s.reached ini pgDbg).d) (v := v) 92
    have hcfg (i : Nat) : (s.reached ini pgDbg).d.trcCfg i = s.d.trcCfg i :=
      s.reached_keeps ini pgDbg (Die.trcCfg · i) (fun _ _ _ _ _ => rfl)
    have hrec : (s.reached ini pgDbg).d.trRec = s.d.trRec := s.reached_keeps ini pgDbg Die.trRec (fun _ _ _ _ _ => rfl)
    have served (v : Bool) (c : Instr) (hc : exec c s = s.cplD ini pgDbg 0x10C (fun d => d.trcCmd (if v then 1 else 2))) :
        exec c s = .next ((s.reached ini pgDbg).onD (fun d => (List.range 92).foldl (Die.freezeOne v) d)) :=
      (exec_cplD_served hc h).trans (State.next_onD_congr Die.trcCmd_spec)
    obtain ⟨-, hfr, hfc⟩ := hd true
    obtain ⟨-, htr, htc⟩ := hd false
    refine ⟨_, _, served true (.freeze ini) rfl, served false (.thaw ini) rfl, fun i hi hr hw => ?_, fun i hi hcl => ?_,
      hfr.trans hrec, htr.trans hrec⟩
    · rw [State.onD_d, State.onD_d, hfc, htc, State.reached_ist, if_pos ⟨hi, hr, hw⟩, if_pos ⟨hi, hr, hw⟩,
        bit_setFld _ _ _ (by omega), bit_setFld _ _ _ (by omega)]
      exact ⟨rfl, rfl⟩
    · have hno : ¬ (i < 92 ∧ (s.d.ist i).inReset = false ∧ (s.d.ist i).isolated = false) := by
        rintro ⟨-, h1, h2⟩
        simp [h1, h2] at hcl
      rw [State.onD_d, State.onD_d, hfc, htc, State.reached_ist, if_neg hno, if_neg hno, hcfg]
      exact ⟨rfl, rfl⟩
  case inject =>
    refine (exec_cplD_served (f := fun d => d.injCmd 1) rfl h).trans ?_
    have hq' : (s.reached ini pgDbg).d.queue n q = s.d.queue n q :=
      s.reached_keeps ini pgDbg (Die.queue · n q) (fun _ _ _ _ _ => rfl)
    rw [← hq']
    refine State.next_onD_congr (Die.inject_accepted ?_ ?_ ?_ ?_ ?_ ?_ hw0 hw1 ?_)
    · rw [State.reached_inj, hb]
    · rw [State.reached_reg, hn]
    · rw [State.reached_reg, hq]
    · rw [State.reached_enabled, hen]
    · rw [State.reached_ist, hrun]
    · rw [hx]
      exact congrArg (fun m => (List.range 16).map (fun i => sget m 0 i))
        (s.reached_keeps ini pgDbg Die.injDesc (fun _ _ _ _ _ => rfl)).symm
    · exact (s.reached_keeps ini pgDbg (Die.entryCause · n q x) (fun _ _ _ _ _ => rfl)).trans hc

end Sys2Proof
end

section
/-!
PROOFS. The debug port (14 R424-R426) on retained memory and on addresses that no range of the map lists.
-/

namespace Sys2Proof.Machine

/-! ## Bytes and transfers -/

/-- The bytes of a value depend on those bytes alone. -/
theorem leBytes_mod (n v : Nat) : leBytes n (v % 2 ^ (8 * n)) = leBytes n v := by
  induction n generalizing v with
  | zero => rfl
  | succ n ih =>
    have hp : 2 ^ (8 * (n + 1)) = 256 * 2 ^ (8 * n) := by
      rw [Nat.mul_succ, Nat.pow_add, Nat.mul_comm]
    rw [leBytes, leBytes, hp, Nat.mod_mul_right_div_self, ih]
    congr 1
    apply BitVec.eq_of_toNat_eq
    rw [BitVec.toNat_ofNat, BitVec.toNat_ofNat, Nat.mod_mul_right_mod]

section
variable (s : State)

/-- A transfer moves the arbiter and its counters alone. -/
theorem State.transfer_keeps {α : Type} (g : Die → α) (h : ∀ (d : Die) c x, g { d with carb := c, ctr := x } = g d) (r : Nat) :
    g (s.transfer r).d = g s.d := by
  obtain ⟨c, x, hd⟩ := s.d.transfer_eq r
  have hs : (s.transfer r).d = s.d.transfer r := rfl
  rw [hs, hd, h]

end

/-! ## The device address map -/

section
variable {s : State} {addr : Nat}

/-- An aligned word of retained memory, over an open control plane. -/
theorem State.mapAccess_retained (hlo : retBase ≤ addr) (hhi : addr + 4 ≤ retBase + 65536) (ha : addr % 4 = 0)
    (hp : s.d.planeClosed iniDebug 0 = false) (wr : Option Nat) (n mis : Nat) (err : Option Bool) (drop : Option CoreNo) :
    s.mapAccess addr 4 wr n mis err drop = (s.transfer iniDebug).retAccess addr 4 wr := by
  unfold retBase at hlo hhi
  have h1 : ¬ addr < stackEnd := by unfold stackEnd; omega
  have h2 : ¬ (vatBase ≤ addr ∧ addr < vatBase + 2 ^ 33) := by unfold vatBase; omega
  have h3 : ¬ (0x020000000000 ≤ addr ∧ addr < 0x020004000000) := by omega
  have h4 : ¬ (0x020800000000 ≤ addr ∧ addr < 0x020880000000) := by omega
  have h5 : 0x030000000000 ≤ addr ∧ addr < 0x030000050000 := by omega
  have h6 : ¬ (s.d.planeClosed iniDebug 0 = true ∨ addr % 4 ≠ 0) := by simp [hp, ha]
  have h7 : ¬ addr < retBase := by unfold retBase; omega
  unfold State.mapAccess
  dsimp only
  rw [if_neg h1, if_neg h2, if_neg h3, if_neg h4, if_pos h5, if_neg h6, if_neg h7]

/-- No range of the map lists an address past the retained memory. -/
theorem State.mapAccess_unlisted (h : 0x030000050000 ≤ addr) (size : Nat) (wr : Option Nat) (n mis : Nat) (err : Option Bool)
    (drop : Option CoreNo) : s.mapAccess addr size wr n mis err drop = (s.transfer iniDebug).respond .busError := by
  have h1 : ¬ addr < stackEnd := by unfold stackEnd; omega
  have h2 : ¬ (vatBase ≤ addr ∧ addr < vatBase + 2 ^ 33) := by unfold vatBase; omega
  have h3 : ¬ (0x020000000000 ≤ addr ∧ addr < 0x020004000000) := by omega
  have h4 : ¬ (0x020800000000 ≤ addr ∧ addr < 0x020880000000) := by omega
  have h5 : ¬ (0x030000000000 ≤ addr ∧ addr < 0x030000050000) := by omega
  unfold State.mapAccess
  dsimp only
  rw [if_neg h1, if_neg h2, if_neg h3, if_neg h4, if_neg h5]

/-! ## The debug port -/

/-- Where the debug port has shifted an address in: the access it makes has ended. -/
def State.dbgEnds (s : State) (addr : Nat) : State :=
  (s.updAon (fun a => { a with tap := { a.tap with addr, waits := waitIsland addr } })).tapTake

theorem exec_dbgport_selected {op sz : Fin 4} {addr : Fin 281474976710656} {v : DWord} (h : s.a.tap.ir = 0x10) :
    exec (.dbgportAccess op sz addr v 0 0 none none) s = .next (s.dbgAccess op sz addr v 0 0 none none) :=
  congrArg Host.Outcome.next (if_pos h)

/-- Launches with no operation, while an access is BUSY, or without a grant do nothing. -/
theorem State.dbgAccess_ignored {op size : Nat} (v : DWord)
    (h : (op ≠ 1 ∧ op ≠ 2) ∨ s.a.tap.status = 1 ∨ s.d.hasGrant iniDebug = false) :
    s.dbgAccess op size addr v 0 0 none none = s := if_pos h

/-- A granted access is made at the device address map as requester 16. -/
theorem State.dbgAccess_granted {op size : Nat} (v : DWord) (hop : op = 1 ∨ op = 2) (hb : s.a.tap.status ≠ 1)
    (hg : s.d.hasGrant iniDebug = true) : s.dbgAccess op size addr v 0 0 none none =
      (s.mapAccess addr (2 ^ (size % 4)) (if op = 2 then some (v.toNat % 2 ^ (8 * 2 ^ (size % 4))) else none) 0 0 none none).dbgEnds
        addr := by
  rw [State.dbgAccess, if_neg (by simp only [hg, Bool.true_eq_false, or_false]; omega)]
  rfl

end

end Sys2Proof.Machine

namespace Sys2Proof
open Machine

/-- Settles O23: a launch is ignored, or is an access to the map, which serves retained memory and refuses what it does
not list. -/
theorem debugPort : Obligations.debug_port := by
  unfold Obligations.debug_port
  intro s op sz addr v hir
  have ignored (h : (op.val ≠ 1 ∧ op.val ≠ 2) ∨ s.a.tap.status = 1 ∨ s.d.hasGrant iniDebug = false) :
      exec (.dbgportAccess op sz addr v 0 0 none none) s = .next s :=
    (exec_dbgport_selected hir).trans (congrArg Host.Outcome.next (State.dbgAccess_ignored v h))
  have made (op sz : Fin 4) (hop : op.val = 1 ∨ op.val = 2) (hb : s.a.tap.status ≠ 1) (hg : s.d.hasGrant 16 = true) :=
    (exec_dbgport_selected (op := op) (sz := sz) (addr := addr) (v := v) hir).trans
      (congrArg Host.Outcome.next (State.dbgAccess_granted v hop hb hg))
  refine ⟨fun h => ignored (.inr (.inr h)), fun h => ignored (.inr (.inl h)), fun h => ignored (.inl (by omega)),
    fun hb hg hp hlo hhi ha => ⟨?write, ?read⟩, fun hb hg hlo hop => ?unlisted⟩
  case write =>
    refine ⟨_, (made 2 2 (.inr rfl) hb hg).trans (congrArg (fun t => Host.Outcome.next (State.dbgEnds t addr))
      (State.mapAccess_retained hlo hhi ha hp _ 0 0 none none)), rfl, rfl, rfl, ?_, s.transfer_keeps Die.regs (fun _ _ _ => rfl) iniDebug, rfl⟩
    have hm := s.transfer_keeps Die.mem (fun _ _ _ => rfl) iniDebug
    have hv : leBytes 4 (v.toNat % 2 ^ (8 * 2 ^ ((2 : Fin 4).val % 4))) = leBytes 4 v.toNat := leBytes_mod 4 _
    have hw : ((s.transfer iniDebug).d.setBytes addr (leBytes 4 (v.toNat % 2 ^ (8 * 2 ^ ((2 : Fin 4).val % 4))))).mem =
        (s.d.setBytes addr (leBytes 4 v.toNat)).mem := by
      rw [hv, Die.setBytes, Die.setBytes, hm]
    exact hw
  case read =>
    refine ⟨_, (made 1 2 (.inl rfl) hb hg).trans (congrArg (fun t => Host.Outcome.next (State.dbgEnds t addr))
      (State.mapAccess_retained hlo hhi ha hp _ 0 0 none none)), rfl, ?_, s.transfer_keeps Die.mem (fun _ _ _ => rfl) iniDebug,
      s.transfer_keeps Die.regs (fun _ _ _ => rfl) iniDebug⟩
    exact congrArg (fun m => BitVec.ofNat 64 (leNat (sgetList m 0 addr.val 4))) (s.transfer_keeps Die.mem (fun _ _ _ => rfl) iniDebug)
  case unlisted =>
    exact ⟨_, (made op sz hop hb hg).trans (congrArg (fun t => Host.Outcome.next (State.dbgEnds t addr))
      (State.mapAccess_unlisted hlo _ _ 0 0 none none)), rfl, s.transfer_keeps Die.mem (fun _ _ _ => rfl) iniDebug,
      s.transfer_keeps Die.regs (fun _ _ _ => rfl) iniDebug⟩

end Sys2Proof
end

section
/-!
PROOFS. What the stack controllers make of an access without errors: the bytes it stores, and the service of the stacks,
which it leaves as it was (08 R242, R250).
-/

namespace Sys2Proof.Machine

/-! ## Lists of bytes -/

@[simp] theorem length_leBytes (n v : Nat) : (leBytes n v).length = n := by
  induction n generalizing v with
  | zero => rfl
  | succ n ih => rw [leBytes, List.length_cons, ih]

/-- A list of bytes is the list of the bytes of its value. -/
theorem leBytes_leNat (bs : List Byte) : leBytes bs.length (leNat bs) = bs := by
  induction bs with
  | nil => rfl
  | cons b t ih =>
    have hb := b.isLt
    have h1 : BitVec.ofNat 8 (b.toNat + 256 * leNat t) = b := by
      apply BitVec.eq_of_toNat_eq
      rw [BitVec.toNat_ofNat]
      omega
    have h2 : (b.toNat + 256 * leNat t) / 256 = leNat t := by omega
    rw [List.length_cons, leNat, leBytes, h1, h2, ih]

section
variable {d e : Die}

@[simp] theorem Die.length_bytes (a n : Nat) : (d.bytes a n).length = n := by
  simp [Die.bytes, sgetList]

theorem Die.getD_bytes {a n i : Nat} (hi : i < n) : (d.bytes a n).getD i 0 = d.byte (a + i) := by
  simp [Die.bytes, sgetList, Die.byte, List.getD_eq_getElem?_getD, hi]

/-- The bytes of a range are a list that they agree with one by one. -/
theorem Die.bytes_eq {a : Nat} {bs : List Byte} (h : ∀ i, i < bs.length → d.byte (a + i) = bs.getD i 0) :
    d.bytes a bs.length = bs := by
  refine List.ext_getElem (by simp) (fun i h1 h2 => ?_)
  have := h i h2
  rw [List.getD_eq_getElem _ _ h2] at this
  rw [← this]
  simp [Die.bytes, sgetList, Die.byte]

/-- A part of a range. -/
theorem Die.drop_take_bytes {a m o n : Nat} (h : o + n ≤ m) : ((d.bytes a m).drop o).take n = d.bytes (a + o) n := by
  refine List.ext_getElem (by simp; omega) (fun i h1 h2 => ?_)
  simp [Die.bytes, sgetList, Nat.add_assoc]

/-- A burst with the bytes of a value in it. -/
theorem getD_mergeBurst {b : List Byte} {o n v i : Nat} (hb : o + n ≤ b.length ∨ (b = [] ∧ o = 0)) (hi : i < b.length ∨ i < n) :
    (mergeBurst b o n v).getD i 0 = if o ≤ i ∧ i < o + n then (leBytes n v).getD (i - o) 0 else b.getD i 0 := by
  have ho : (b.take o).length = o := by
    rw [List.length_take]
    rcases hb with h | ⟨rfl, rfl⟩
    · omega
    · simp
  unfold mergeBurst
  by_cases h1 : i < o
  · rw [if_neg (by omega), List.append_assoc, List.getD_append _ _ _ _ (by omega), List.getD_eq_getElem?_getD,
      List.getElem?_take_of_lt h1, ← List.getD_eq_getElem?_getD]
  · by_cases h2 : i < o + n
    · rw [if_pos ⟨by omega, h2⟩, List.getD_append _ _ _ _ (by rw [List.length_append, ho, length_leBytes]; exact h2),
        List.getD_append_right _ _ _ _ (by omega), ho]
    · rw [if_neg (by omega), List.getD_append_right _ _ _ _ (by rw [List.length_append, ho, length_leBytes]; omega),
        List.length_append, ho, length_leBytes, List.getD_eq_getElem?_getD, List.getElem?_drop,
        show o + n + (i - (o + n)) = i by omega, ← List.getD_eq_getElem?_getD]

/-! ## The service of the stacks -/

/-- `e` is `d` after accesses that were served: memory and its changed map, the stacks' records, the counters and the answer
may differ, but no stack is opened or closed and no access is left waiting. -/
structure Die.Served (d e : Die) : Prop where
  form : ∃ m g k c r, e = { d with mem := m, changed := g, stk := k, ctr := c, resp := r }
  trained : ∀ s, (e.stack s).trained = (d.stack s).trained
  failed : ∀ s, (e.stack s).failed = (d.stack s).failed
  selfRefresh : ∀ s, (e.stack s).selfRefresh = (d.stack s).selfRefresh
  retries : ∀ s, (e.stack s).retries = (d.stack s).retries

namespace Die.Served

theorem refl (d : Die) : Die.Served d d := ⟨⟨_, _, _, _, _, rfl⟩, fun _ => rfl, fun _ => rfl, fun _ => rfl, fun _ => rfl⟩

theorem trans {f : Die} (h : Die.Served d e) (h' : Die.Served e f) : Die.Served d f := by
  obtain ⟨m, g, k, c, r, he⟩ := h.form
  obtain ⟨m', g', k', c', r', hf⟩ := h'.form
  refine ⟨⟨m', g', k', c', r', ?_⟩, fun s => (h'.trained s).trans (h.trained s), fun s => (h'.failed s).trans (h.failed s),
    fun s => (h'.selfRefresh s).trans (h.selfRefresh s), fun s => (h'.retries s).trans (h.retries s)⟩
  rw [hf, he]

/-- Part of the die that no stack access writes. -/
theorem keeps (h : Die.Served d e) {α : Type} (g : Die → α)
    (hg : ∀ (d : Die) m x k c r, g { d with mem := m, changed := x, stk := k, ctr := c, resp := r } = g d) : g e = g d := by
  obtain ⟨m, x, k, c, r, he⟩ := h.form
  rw [he, hg]

theorem stackClosed (h : Die.Served d e) (s : Nat) : e.stackClosed s = d.stackClosed s := by
  have hl := h.keeps (Die.live · (64 + s)) (fun _ _ _ _ _ _ => rfl)
  simp only [Die.stackClosed, h.trained, h.failed, h.selfRefresh, hl]

theorem rangeOpen (h : Die.Served d e) (a n : Nat) : e.rangeOpen a n = d.rangeOpen a n := by
  simp only [Die.rangeOpen, h.stackClosed]

theorem burstBusy (h : Die.Served d e) (s b : Nat) : e.burstBusy s b = d.burstBusy s b := by
  simp only [Die.burstBusy, h.retries]

theorem pinOverlap (h : Die.Served d e) (a n : Nat) : e.pinOverlap a n = d.pinOverlap a n :=
  h.keeps (Die.pinOverlap · a n) (fun _ _ _ _ _ _ => rfl)

theorem dmaOk (h : Die.Served d e) (a n : Nat) (wr : Bool) : e.dmaOk a n wr = d.dmaOk a n wr := by
  have hp := h.keeps (Die.planeClosed · 19 0) (fun _ _ _ _ _ _ => rfl)
  simp only [Die.dmaOk, h.rangeOpen, h.pinOverlap, hp]

theorem orderClear (h : Die.Served d e) (a n : Nat) : e.orderClear a n = d.orderClear a n := by
  simp only [Die.orderClear, h.burstBusy]

/-! ### Its steps -/

theorem count (d : Die) (p i n : Nat) : Die.Served d (d.count p i n) := ⟨⟨_, _, _, _, _, rfl⟩, fun _ => rfl, fun _ => rfl, fun _ => rfl, fun _ => rfl⟩

theorem respond (d : Die) (r : Resp) : Die.Served d (d.respond r) := ⟨⟨_, _, _, _, _, rfl⟩, fun _ => rfl, fun _ => rfl, fun _ => rfl, fun _ => rfl⟩

/-- A change of a stack's record that leaves its service alone. -/
theorem updStk (d : Die) (s : Nat) (f : Stk → Stk)
    (hf : (f (d.stack s)).trained = (d.stack s).trained ∧ (f (d.stack s)).failed = (d.stack s).failed ∧
      (f (d.stack s)).selfRefresh = (d.stack s).selfRefresh ∧ (f (d.stack s)).retries = (d.stack s).retries) :
    Die.Served d (d.updStk s f) := by
  obtain ⟨h1, h2, h3, h4⟩ := hf
  refine ⟨⟨_, _, _, _, _, rfl⟩, fun j => ?_, fun j => ?_, fun j => ?_, fun j => ?_⟩ <;> rw [Die.stack_updStk] <;> split
  · next h => subst h; exact h1
  · rfl
  · next h => subst h; exact h2
  · rfl
  · next h => subst h; exact h3
  · rfl
  · next h => subst h; exact h4
  · rfl

theorem stackWrite (d : Die) (a : Nat) (bs : List Byte) : Die.Served d (d.stackWrite a bs) := by
  obtain ⟨m, h⟩ := d.stackWrite_eq a bs
  rw [h]
  exact ⟨⟨_, _, _, _, _, rfl⟩, fun _ => rfl, fun _ => rfl, fun _ => rfl, fun _ => rfl⟩

theorem openBank (d : Die) (s b : Nat) : Die.Served d (d.openBank s b) := by
  unfold Die.openBank
  split
  · exact .refl d
  · exact (updStk d s _ ⟨rfl, rfl, rfl, rfl⟩).trans (count ..)

theorem newerWrite (d : Die) (s b : Nat) : Die.Served d (d.newerWrite s b) := by
  unfold Die.newerWrite
  exact updStk d s _ ⟨rfl, rfl, rfl, rfl⟩

theorem writeBurst (d : Die) (s b : Nat) (bs : List Byte) : Die.Served d (d.writeBurst s b bs) := by
  unfold Die.writeBurst
  exact (((openBank d s b).trans (count ..)).trans (stackWrite ..)).trans (newerWrite ..)

end Die.Served

/-! ## Single accesses -/

theorem Die.byte_openBank (s b x : Nat) : (d.openBank s b).byte x = d.byte x := by
  rw [Die.byte, Die.mem_openBank, Die.byte]

theorem Die.byte_count (p i n x : Nat) : (d.count p i n).byte x = d.byte x := rfl

theorem Die.byte_respond (r : Resp) (x : Nat) : (d.respond r).byte x = d.byte x := rfl

theorem Die.byte_newerWrite (s b x : Nat) : (d.newerWrite s b).byte x = d.byte x := rfl

theorem Die.byte_writeBurst {s b a : Nat} (ha : s * 2 ^ 36 + b * 64 = a) (bs : List Byte) (x : Nat) : (d.writeBurst s b bs).byte x =
    if a ≤ x ∧ x < a + bs.length then bs.getD (x - a) 0 else d.byte x := by
  rw [Die.writeBurst, Die.byte_newerWrite, Die.byte_stackWrite, ha, Die.byte_count, Die.byte_openBank]

/-- The state in which a burst is delivered to its reader: the read is counted and the bank open. -/
def Die.atBurst (d : Die) (s : Nat) (r : Retry) : Die := (if r.reader = 2 then d else d.count (pgStk s) 1).openBank s r.burst

theorem Die.Served.atBurst (d : Die) (s : Nat) (r : Retry) : Die.Served d (d.atBurst s r) := by
  unfold Die.atBurst
  split
  · exact .openBank ..
  · exact (Die.Served.count ..).trans (.openBank ..)

@[simp] theorem Die.atBurst_mem (s : Nat) (r : Retry) : (d.atBurst s r).mem = d.mem := by
  rw [Die.atBurst, Die.mem_openBank]
  split <;> rfl

/-- A burst with no symbol in error is delivered as it is stored. -/
theorem Die.readBurst_clean (s : Nat) (r : Retry) (mis : Nat) (again : Bool) :
    d.readBurst s r 0 mis again = (d.atBurst s r).deliver s r (d.bytes (s * 2 ^ 36 + r.burst * 64) 64) := by
  have hb : (d.atBurst s r).bytes (s * 2 ^ 36 + r.burst * 64) 64 = d.bytes (s * 2 ^ 36 + r.burst * 64) 64 := by
    rw [Die.bytes, Die.atBurst_mem, Die.bytes]
  have hd (m : Nat) : deceived m 0 mis = false := by simp [deceived]
  have hc (m : Nat) : decode m 0 mis = .clean := by simp [decode]
  rw [← hb]
  unfold Die.readBurst
  dsimp only
  rw [hd, hc]
  rfl

section
variable {s a v : Nat} {r : Retry} (ha : s * 2 ^ 36 + r.burst * 64 = a) (hr : r.reader ≠ 2) (ho : r.off % 64 + r.size ≤ 64) (mis : Nat)
include ha hr ho

/-- A read answers the bytes at its address. -/
theorem Die.access_read (hw : r.wr = none) :
    d.access s r 0 mis = (d.atBurst s r).respond (.ok (leNat (d.bytes (a + r.off % 64) r.size))) := by
  unfold Die.access
  rw [hw]
  dsimp only
  rw [Die.readBurst_clean, ha, Die.deliver, if_neg hr, hw]
  dsimp only
  rw [Die.drop_take_bytes ho]

/-- A delivered write puts its bytes into the burst that was read. -/
theorem Die.deliver_write {e : Die} {b : List Byte} (hb : b = d.bytes a 64 ∨ (b = [] ∧ r.size = 64)) (he : Die.Served d e)
    (hm : e.mem = d.mem) (hw : r.wr = some v) :
    Die.Served d (e.deliver s r b) ∧ (r.reader ≠ 3 → (e.deliver s r b).resp = .ok 0) ∧
    ∀ x, (e.deliver s r b).byte x = if a + r.off % 64 ≤ x ∧ x < a + r.off % 64 + r.size
      then (leBytes r.size v).getD (x - (a + r.off % 64)) 0 else d.byte x := by
  have hdel : e.deliver s r b = (if r.reader = 3 then e.writeBurst s r.burst (mergeBurst b (r.off % 64) r.size v)
      else (e.writeBurst s r.burst (mergeBurst b (r.off % 64) r.size v)).respond (.ok 0)) := by
    rw [Die.deliver, if_neg hr, hw]
  have hbyte (x : Nat) : (e.writeBurst s r.burst (mergeBurst b (r.off % 64) r.size v)).byte x =
      if a + r.off % 64 ≤ x ∧ x < a + r.off % 64 + r.size
        then (leBytes r.size v).getD (x - (a + r.off % 64)) 0 else d.byte x := by
    have hlen : (mergeBurst b (r.off % 64) r.size v).length = 64 := by
      rcases hb with rfl | ⟨rfl, h⟩
      · simp only [mergeBurst, List.length_append, List.length_take, List.length_drop, Die.length_bytes, length_leBytes]
        omega
      · simp only [mergeBurst, List.length_append, List.take_nil, List.drop_nil, List.length_nil, length_leBytes, h]
    have hold (i : Nat) (hi : i < 64) (hout : ¬ (r.off % 64 ≤ i ∧ i < r.off % 64 + r.size)) : b.getD i 0 = d.byte (a + i) := by
      rcases hb with rfl | ⟨-, h⟩
      · exact Die.getD_bytes hi
      · omega
    have hx : e.byte x = d.byte x := by rw [Die.byte, hm, Die.byte]
    rw [Die.byte_writeBurst ha, hlen, hx]
    by_cases hin : a ≤ x ∧ x < a + 64
    · rw [if_pos hin, getD_mergeBurst]
      · by_cases hw' : r.off % 64 ≤ x - a ∧ x - a < r.off % 64 + r.size
        · rw [if_pos hw', if_pos (by omega), Nat.sub_add_eq]
        · rw [if_neg hw', if_neg (by omega), hold _ (by omega) hw', Nat.add_sub_cancel' hin.1]
      · rcases hb with rfl | ⟨rfl, h⟩
        · left
          rw [Die.length_bytes]
          exact ho
        · right
          exact ⟨rfl, by omega⟩
      · rcases hb with rfl | ⟨-, h⟩
        · left
          rw [Die.length_bytes]
          omega
        · right
          omega
    · rw [if_neg hin, if_neg (by omega)]
  rw [hdel]
  split
  · next h3 => exact ⟨he.trans (.writeBurst ..), fun h => absurd h3 h, hbyte⟩
  · exact ⟨(he.trans (.writeBurst ..)).trans (.respond ..), fun _ => rfl, fun x => (Die.byte_respond ..).trans (hbyte x)⟩

/-- A write stores its bytes at its address and no other. -/
theorem Die.access_write (hw : r.wr = some v) :
    Die.Served d (d.access s r 0 mis) ∧ (r.reader ≠ 3 → (d.access s r 0 mis).resp = .ok 0) ∧
    ∀ x, (d.access s r 0 mis).byte x = if a + r.off % 64 ≤ x ∧ x < a + r.off % 64 + r.size
      then (leBytes r.size v).getD (x - (a + r.off % 64)) 0 else d.byte x := by
  unfold Die.access
  rw [hw]
  dsimp only
  split
  · next h64 => exact Die.deliver_write ha hr ho (.inr ⟨rfl, h64⟩) (.refl d) rfl hw
  · rw [Die.readBurst_clean, ha]
    exact Die.deliver_write ha hr ho (.inl rfl) ((Die.Served.count d (pgStk s) 7 1).trans (.atBurst ..)) (by rw [Die.atBurst_mem]; rfl) hw

end

/-! ## Writes of a range -/

/-- No pinned ring that keeps clear of a range overlaps a part of it. -/
theorem Die.pinOverlap_part {a n b m : Nat} (h : d.pinOverlap a n = none) (hlo : a ≤ b) (hhi : b + m ≤ a + n) :
    d.pinOverlap b m = none := by
  unfold Die.pinOverlap at h ⊢
  rw [List.findSome?_eq_none_iff] at h ⊢
  intro c hc
  have := h c hc
  dsimp only at this ⊢
  simp only [ite_eq_right_iff, reduceCtorEq, imp_false, Bool.not_eq_true, List.any_eq_false, Bool.and_eq_true,
    decide_eq_true_eq, not_and] at this ⊢
  intro x hx h1
  have := this x hx
  grind

/-- A part of an open range within one burst is open. -/
theorem Die.rangeOpen_part {a n b m : Nat} (h : d.rangeOpen a n = true) (hn : n ≤ 2 ^ 36) (hlo : a ≤ b) (hhi : b + m ≤ a + n)
    (hm : 0 < m) (hb : b % 64 + m ≤ 64) : d.rangeOpen b m = true := by
  simp only [Die.rangeOpen, Bool.and_eq_true, Bool.or_eq_true, decide_eq_true_eq, Bool.not_eq_true'] at h ⊢
  obtain ⟨hend, hopen⟩ := h
  obtain ⟨h1, h2⟩ := hopen.resolve_left (by omega)
  refine ⟨by omega, .inr ?_⟩
  have hsame : (b + m - 1) / 2 ^ 36 = b / 2 ^ 36 := by omega
  have hend : b / 2 ^ 36 = a / 2 ^ 36 ∨ b / 2 ^ 36 = (a + n - 1) / 2 ^ 36 := by omega
  rw [hsame]
  rcases hend with h | h <;> rw [h]
  · exact ⟨h1, h1⟩
  · exact ⟨h2, h2⟩

/-- A write of a block within one burst that nothing hinders stores its bytes and no other. -/
theorem Die.putPiece_spec {a : Nat} {bs : List Byte} (ho : d.rangeOpen a bs.length = true) (hp : d.pinOverlap a bs.length = none)
    (hc : d.burstBusy (a / 2 ^ 36) (a % 2 ^ 36 / 64) = false) (hb : a % 64 + bs.length ≤ 64) :
    (d.putPiece a bs).2 = true ∧ Die.Served d (d.putPiece a bs).1 ∧
    ∀ x, (d.putPiece a bs).1.byte x = if a ≤ x ∧ x < a + bs.length then bs.getD (x - a) 0 else d.byte x := by
  have hput : d.putPiece a bs = (d.access (a / 2 ^ 36)
      { burst := a % 2 ^ 36 / 64, off := a % 2 ^ 36, size := bs.length, wr := some (leNat bs), reader := 3 } 0 0, true) := by
    unfold Die.putPiece
    rw [ho, hp]
    dsimp only [Bool.not_true]
    unfold Die.arrive
    dsimp only
    rw [hc, if_neg Bool.false_ne_true]
    rfl
  have ha : a / 2 ^ 36 * 2 ^ 36 + a % 2 ^ 36 / 64 * 64 = a / 64 * 64 := by omega
  have hoff : a % 2 ^ 36 % 64 = a % 64 := by omega
  have ho' : a % 2 ^ 36 % 64 + bs.length ≤ 64 := by omega
  have hr : (3 : Nat) ≠ 2 := by decide
  obtain ⟨h1, -, h3⟩ := Die.access_write (d := d) (s := a / 2 ^ 36) (v := leNat bs)
    (r := { burst := a % 2 ^ 36 / 64, off := a % 2 ^ 36, size := bs.length, wr := some (leNat bs), reader := 3 }) ha hr ho' 0 rfl
  rw [hput]
  refine ⟨rfl, h1, fun x => (h3 x).trans ?_⟩
  dsimp only
  rw [hoff, leBytes_leNat, Nat.div_add_mod']

/-- One burst's part of a write of a range. -/
def Die.putOne (a : Nat) (bs : List Byte) (acc : Die × Bool) (b : Nat) : Die × Bool :=
  let lo := max a b
  let r := acc.1.putPiece lo ((bs.drop (lo - a)).take (b + 64 - lo))
  (r.1, acc.2 && r.2)

section
variable {a : Nat} {bs : List Byte} (hn : bs.length ≤ 2 ^ 36) (ho : d.rangeOpen a bs.length = true)
  (hp : d.pinOverlap a bs.length = none) (hc : d.orderClear a bs.length = true)
include hn ho hp hc

theorem Die.putOne_spec {e : Die} {j : Nat} (he : Die.Served d e) (hpos : 0 < bs.length)
    (hj : (a / 64 + j) * 64 < a + bs.length) :
    (Die.putOne a bs (e, true) ((a / 64 + j) * 64)).2 = true ∧ Die.Served d (Die.putOne a bs (e, true) ((a / 64 + j) * 64)).1 ∧
    ∀ x, (Die.putOne a bs (e, true) ((a / 64 + j) * 64)).1.byte x =
      if a ≤ x ∧ x < a + bs.length ∧ x / 64 = a / 64 + j then bs.getD (x - a) 0 else e.byte x := by
  obtain ⟨b, hb⟩ : ∃ b, b = (a / 64 + j) * 64 := ⟨_, rfl⟩
  obtain ⟨lo, hlo⟩ : ∃ lo, lo = max a b := ⟨_, rfl⟩
  have hlen : ((bs.drop (lo - a)).take (b + 64 - lo)).length = min (b + 64 - lo) (bs.length - (lo - a)) := by
    rw [List.length_take, List.length_drop]
  have hbusy : e.burstBusy (lo / 2 ^ 36) (lo % 2 ^ 36 / 64) = false := by
    rw [he.burstBusy]
    have hmem : b ∈ burstsOf a bs.length := by
      have hcount : j < (a + bs.length - 1) / 64 - a / 64 + 1 := by
        clear hc hlen hlo
        omega
      rw [burstsOf, if_neg (by omega), List.mem_map]
      exact ⟨j, List.mem_range.2 hcount, hb.symm⟩
    have := List.all_eq_true.1 hc b hmem
    have h1 : lo / 2 ^ 36 = b / 2 ^ 36 := by omega
    have h2 : lo % 2 ^ 36 / 64 = b % 2 ^ 36 / 64 := by omega
    rw [h1, h2]
    simpa using this
  have hopen : e.rangeOpen lo ((bs.drop (lo - a)).take (b + 64 - lo)).length = true := by
    rw [he.rangeOpen, hlen]
    exact Die.rangeOpen_part ho hn (by omega) (by omega) (by omega) (by omega)
  have hpin : e.pinOverlap lo ((bs.drop (lo - a)).take (b + 64 - lo)).length = none := by
    rw [he.pinOverlap, hlen]
    exact Die.pinOverlap_part hp (by omega) (by omega)
  obtain ⟨h1, h2, h3⟩ := Die.putPiece_spec hopen hpin hbusy (by rw [hlen]; omega)
  have hone : Die.putOne a bs (e, true) b = ((e.putPiece lo ((bs.drop (lo - a)).take (b + 64 - lo))).1,
      (e.putPiece lo ((bs.drop (lo - a)).take (b + 64 - lo))).2) := by
    rw [Die.putOne, ← hlo]
    rfl
  rw [← hb, hone]
  refine ⟨h1, he.trans h2, fun x => (h3 x).trans ?_⟩
  rw [hlen]
  by_cases hx : a ≤ x ∧ x < a + bs.length ∧ x / 64 = a / 64 + j
  · rw [if_pos hx, if_pos (by omega), List.getD_eq_getElem?_getD, List.getElem?_take_of_lt (by omega), List.getElem?_drop,
      show lo - a + (x - lo) = x - a by omega, ← List.getD_eq_getElem?_getD]
  · rw [if_neg hx, if_neg (by omega)]

/-- Any write of a block whose range is open, clear of pinned rings and of accesses that wait: its bytes are stored and no
other, burst by burst. -/
theorem Die.stackPut_spec :
    (d.stackPut a bs).2 = true ∧ Die.Served d (d.stackPut a bs).1 ∧
    ∀ x, (d.stackPut a bs).1.byte x = if a ≤ x ∧ x < a + bs.length then bs.getD (x - a) 0 else d.byte x := by
  have hput : d.stackPut a bs = (burstsOf a bs.length).foldl (Die.putOne a bs) (d, true) := rfl
  rw [hput, burstsOf]
  by_cases h0 : bs.length = 0
  · rw [if_pos h0]
    refine ⟨rfl, .refl d, fun x => ?_⟩
    rw [if_neg (by omega)]
    rfl
  rw [if_neg h0]
  have go (j : Nat) (hj : j = 0 ∨ (a / 64 + (j - 1)) * 64 < a + bs.length) :
      (((List.range j).map (fun i => (a / 64 + i) * 64)).foldl (Die.putOne a bs) (d, true)).2 = true ∧
      Die.Served d (((List.range j).map (fun i => (a / 64 + i) * 64)).foldl (Die.putOne a bs) (d, true)).1 ∧
      ∀ x, (((List.range j).map (fun i => (a / 64 + i) * 64)).foldl (Die.putOne a bs) (d, true)).1.byte x =
        if a ≤ x ∧ x < a + bs.length ∧ x / 64 < a / 64 + j then bs.getD (x - a) 0 else d.byte x := by
    induction j with
    | zero =>
      refine ⟨rfl, .refl d, fun x => ?_⟩
      rw [if_neg (by omega)]
      rfl
    | succ j ih =>
      obtain ⟨h1, h2, h3⟩ := ih (by omega)
      rw [List.range_succ, List.map_append, List.foldl_append, List.map_cons, List.map_nil, List.foldl_cons, List.foldl_nil]
      obtain ⟨acc, hacc⟩ : ∃ acc, acc = ((List.range j).map (fun i => (a / 64 + i) * 64)).foldl (Die.putOne a bs) (d, true) := ⟨_, rfl⟩
      rw [← hacc] at h1 h2 h3 ⊢
      obtain ⟨e, ok⟩ := acc
      obtain rfl : ok = true := h1
      obtain ⟨k1, k2, k3⟩ := Die.putOne_spec hn ho hp hc h2 (j := j) (Nat.pos_of_ne_zero h0) (by omega)
      refine ⟨k1, k2, fun x => ?_⟩
      rw [k3, h3]
      by_cases hx : a ≤ x ∧ x < a + bs.length ∧ x / 64 = a / 64 + j
      · rw [if_pos hx, if_pos (by omega)]
      · rw [if_neg hx]
        exact if_congr (by omega) rfl rfl
  obtain ⟨h1, h2, h3⟩ := go ((a + bs.length - 1) / 64 - a / 64 + 1) (by omega)
  refine ⟨h1, h2, fun x => (h3 x).trans (if_congr ?_ rfl rfl)⟩
  omega

end

end

end Sys2Proof.Machine
end

section
/-!
PROOFS. What every operation of the stack controllers leaves alone, with errors or without, and reads of a range.
-/

namespace Sys2Proof.Machine

variable {d e : Die}

/-- `e` is `d` but for what the stack controllers write: memory and its changed map, the stacks' records, the counters, the
answer and the free values. -/
def Die.StkOnly (d e : Die) : Prop :=
  ∃ m g k c r f, e = { d with mem := m, changed := g, stk := k, ctr := c, resp := r, free := f }

namespace Die.StkOnly

theorem refl (d : Die) : Die.StkOnly d d := ⟨_, _, _, _, _, _, rfl⟩

theorem trans {f : Die} (h : Die.StkOnly d e) (h' : Die.StkOnly e f) : Die.StkOnly d f := by
  obtain ⟨m, g, k, c, r, x, rfl⟩ := h
  obtain ⟨m', g', k', c', r', x', rfl⟩ := h'
  exact ⟨_, _, _, _, _, _, rfl⟩

/-- Part of the die that no stack controller writes. -/
theorem keeps (h : Die.StkOnly d e) {α : Type} (g : Die → α)
    (hg : ∀ (d : Die) m x k c r f, g { d with mem := m, changed := x, stk := k, ctr := c, resp := r, free := f } = g d) : g e = g d := by
  obtain ⟨m, x, k, c, r, f, rfl⟩ := h
  exact hg ..

theorem of_served (h : Die.Served d e) : Die.StkOnly d e := by
  obtain ⟨m, g, k, c, r, rfl⟩ := h.form
  exact ⟨_, _, _, _, _, _, rfl⟩

/-! ### The operations -/

theorem count (d : Die) (p i n : Nat) : Die.StkOnly d (d.count p i n) := ⟨_, _, _, _, _, _, rfl⟩
theorem respond (d : Die) (r : Resp) : Die.StkOnly d (d.respond r) := ⟨_, _, _, _, _, _, rfl⟩
theorem updStk (d : Die) (s : Nat) (f : Stk → Stk) : Die.StkOnly d (d.updStk s f) := ⟨_, _, _, _, _, _, rfl⟩
theorem freeBurst (d : Die) : Die.StkOnly d d.freeBurst.1 := ⟨_, _, _, _, _, _, rfl⟩
theorem pinRefused (d : Die) (n a : Nat) : Die.StkOnly d (d.pinRefused n a) := ⟨_, _, _, _, _, _, rfl⟩

theorem noteCorrected (d : Die) (s b n : Nat) (scrub : Bool) (bs : List Byte) : Die.StkOnly d (d.noteCorrected s b n scrub bs) := by
  unfold Die.noteCorrected
  dsimp only
  split
  · exact ⟨_, _, _, _, _, _, rfl⟩
  · exact ⟨_, _, _, _, _, _, rfl⟩

theorem noteUe (d : Die) (s b : Nat) (host : Bool) : Die.StkOnly d (d.noteUe s b host) := ⟨_, _, _, _, _, _, rfl⟩

theorem deliver (d : Die) (s : Nat) (r : Retry) (bs : List Byte) : Die.StkOnly d (d.deliver s r bs) := by
  unfold Die.deliver
  split
  · exact .refl d
  · cases r.wr with
    | none => exact .respond ..
    | some v =>
      dsimp only
      split
      · exact .of_served (.writeBurst ..)
      · exact (of_served (.writeBurst ..)).trans (.respond ..)

theorem readBurst (d : Die) (s : Nat) (r : Retry) (n mis : Nat) (again : Bool) : Die.StkOnly d (d.readBurst s r n mis again) := by
  have h1 : Die.StkOnly d (d.atBurst s r) := .of_served (.atBurst ..)
  have hat : (if r.reader = 2 then d else d.count (pgStk s) 1).openBank s r.burst = d.atBurst s r := rfl
  unfold Die.readBurst
  rw [hat]
  generalize d.atBurst s r = e at h1 ⊢
  have h2 (x : List Byte) : Die.StkOnly d (if deceived (e.decMode s) n mis then e.freeBurst else (e, x)).1 := by
    split
    · exact h1.trans (.freeBurst e)
    · exact h1
  dsimp only
  split
  · exact (h2 _).trans (.deliver ..)
  · exact ((h2 _).trans (.noteCorrected ..)).trans (.deliver ..)
  · split
    · have h3 := h1.trans (.noteUe e s r.burst (r.reader = 1))
      split
      · exact h3.trans (.respond ..)
      · exact h3
    · refine StkOnly.trans ?_ (.updStk ..)
      split
      · exact h1.trans (.respond ..)
      · exact h1

theorem access (d : Die) (s : Nat) (r : Retry) (n mis : Nat) : Die.StkOnly d (d.access s r n mis) := by
  unfold Die.access
  split
  · exact .readBurst ..
  · split
    · exact .deliver ..
    · exact (StkOnly.count ..).trans (.readBurst ..)

theorem arrive (d : Die) (s : Nat) (r : Retry) (n mis : Nat) : Die.StkOnly d (d.arrive s r n mis) := by
  unfold Die.arrive Die.queueBurst
  dsimp only
  split
  · split
    · exact (StkOnly.updStk ..).trans (.respond ..)
    · exact .updStk ..
  · exact .access ..

theorem putPiece (d : Die) (a : Nat) (bs : List Byte) : Die.StkOnly d (d.putPiece a bs).1 := by
  unfold Die.putPiece
  split
  · exact .refl d
  · split
    · exact .pinRefused ..
    · exact .arrive ..

theorem stackPut (d : Die) (a : Nat) (bs : List Byte) : Die.StkOnly d (d.stackPut a bs).1 := by
  have go (l : List Nat) (x : Die × Bool) : Die.StkOnly x.1 (l.foldl (Die.putOne a bs) x).1 := by
    induction l generalizing x with
    | nil => exact .refl _
    | cons b t ih => exact (StkOnly.putPiece x.1 _ _).trans (ih _)
  exact go _ (d, true)

end Die.StkOnly

/-! ## Reads of a range without errors -/

/-- A walk of steps that are served is served. -/
theorem Die.Served.foldl {β : Type} {f : Die → β → Die} (h : ∀ d b, Die.Served d (f d b)) (l : List β) (d : Die) :
    Die.Served d (l.foldl f d) := by
  induction l generalizing d with
  | nil => exact .refl d
  | cons b t ih => exact (h d b).trans (ih _)

theorem Die.Served.readBursts (d : Die) (bs : List Nat) : Die.Served d (d.readBursts bs) := by
  have h1 := Die.Served.foldl (f := fun (d : Die) s =>
    if (bs.filter (fun b => decide (b / 2 ^ 36 = s))).length = 0 then d
    else d.count (pgStk s) 1 (bs.filter (fun b => decide (b / 2 ^ 36 = s))).length) (fun d s => by
      split
      · exact .refl d
      · exact .count ..) (List.range 8) d
  unfold Die.readBursts
  dsimp only
  split
  · exact h1
  · exact h1.trans (Die.Served.foldl (fun _ _ => .openBank ..) bs _)

theorem Die.readBursts_mem (bs : List Nat) : (d.readBursts bs).mem = d.mem := by
  have go (l : List Nat) (e : Die) : (l.foldl (fun d b => Die.openBank d (b / 2 ^ 36) (b % 2 ^ 36 / 64)) e).mem = e.mem := by
    induction l generalizing e with
    | nil => rfl
    | cons b t ih => rw [List.foldl_cons, ih, Die.mem_openBank]
  have hcount (l : List Nat) (e : Die) : (l.foldl (fun (d : Die) s =>
      if (bs.filter (fun b => decide (b / 2 ^ 36 = s))).length = 0 then d
      else d.count (pgStk s) 1 (bs.filter (fun b => decide (b / 2 ^ 36 = s))).length) e).mem = e.mem := by
    induction l generalizing e with
    | nil => rfl
    | cons s t ih =>
      rw [List.foldl_cons, ih]
      split <;> rfl
  unfold Die.readBursts
  dsimp only
  split
  · exact hcount ..
  · rw [go]
    exact hcount ..

/-- A read of a range that meets no error reads its bursts, and all of them. -/
theorem Die.dmaRead_clean (a n : Nat) : d.dmaRead a n [] = (d.readBursts (burstsOf a n), true) := rfl

end Sys2Proof.Machine
end

section
/-!
PROOFS. The management port (12 R351-R354): its filter, a frame received into its ring, and one sent from it.
-/

namespace Sys2Proof.Machine

/-! ## Ranges and their bursts -/

section
variable {d e : Die} {a n b m : Nat}

theorem mem_burstsOf {x : Nat} : x ∈ burstsOf a n ↔ 0 < n ∧ ∃ j, x = j * 64 ∧ a / 64 ≤ j ∧ j ≤ (a + n - 1) / 64 := by
  unfold burstsOf
  split
  · next h => simp [h]
  · next h =>
    rw [List.mem_map]
    constructor
    · rintro ⟨i, hi, rfl⟩
      rw [List.mem_range] at hi
      exact ⟨Nat.pos_of_ne_zero h, a / 64 + i, rfl, by omega, by omega⟩
    · rintro ⟨-, j, rfl, h1, h2⟩
      refine ⟨j - a / 64, List.mem_range.2 (by omega), ?_⟩
      rw [Nat.add_sub_cancel' h1]

theorem Die.orderClear_part (h : d.orderClear a n = true) (hlo : a ≤ b) (hhi : b + m ≤ a + n) : d.orderClear b m = true := by
  unfold Die.orderClear at h ⊢
  rw [List.all_eq_true] at h ⊢
  intro x hx
  rw [mem_burstsOf] at hx
  obtain ⟨h0, j, rfl, h1, h2⟩ := hx
  exact h _ (mem_burstsOf.2 ⟨by omega, j, rfl, by omega, by omega⟩)

/-- What a DMA write that completes has met. -/
theorem Die.dmaOk_write (h : d.dmaOk a n true = true) : d.rangeOpen a n = true ∧ d.pinOverlap a n = none := by
  simp only [Die.dmaOk, Bool.true_and, Bool.and_eq_true, Bool.not_eq_true', Option.isSome_eq_false_iff, Option.isNone_iff_eq_none] at h
  exact ⟨h.1.1, h.2⟩

/-- The value of the bytes of a value. -/
theorem leNat_leBytes (n v : Nat) : leNat (leBytes n v) = v % 2 ^ (8 * n) := by
  induction n generalizing v with
  | zero => simp [leBytes, leNat, Nat.mod_one]
  | succ n ih =>
    have hp : 2 ^ (8 * (n + 1)) = 256 * 2 ^ (8 * n) := by
      rw [Nat.mul_succ, Nat.pow_add, Nat.mul_comm]
    rw [leBytes, leNat, ih, hp, BitVec.toNat_ofNat, Nat.mod_mul]

/-- A word whose bytes are those of `v`. -/
theorem Die.mword_of_bytes {v : Word} (h : ∀ i, i < 4 → d.byte (a + i) = (leBytes 4 v.toNat).getD i 0) : d.mword a = v := by
  have hb : d.bytes a 4 = leBytes 4 v.toNat := by
    have := Die.bytes_eq (d := d) (a := a) (bs := leBytes 4 v.toNat) (by rw [length_leBytes]; exact h)
    rwa [length_leBytes] at this
  rw [Die.mword, hb, leNat_leBytes, word]
  apply BitVec.eq_of_toNat_eq
  rw [BitVec.toNat_ofNat, Nat.mod_mod, Nat.mod_eq_of_lt v.isLt]

end

/-! ## The receive ring -/

section
variable {d : Die}

/-- The word of a finished descriptor, with its length. -/
theorem word_done_eop {n : Nat} (h : n < 2 ^ 28) :
    (packW [(31, 1), (30, 1), (29, b2n false), (28, b2n false)] ||| word n) = word (2 ^ 31 + 2 ^ 30 + n) := by
  have h3 : (packW [(31, 1), (30, 1), (29, b2n false), (28, b2n false)]).toNat = 2 ^ 30 * 3 := by decide
  apply BitVec.eq_of_toNat_eq
  have hn : n % 2 ^ 32 = n := Nat.mod_eq_of_lt (by omega)
  rw [BitVec.toNat_or, h3, word, word, BitVec.toNat_ofNat, BitVec.toNat_ofNat, hn, ← Nat.two_pow_add_eq_or_of_lt (by omega)]
  omega

/-- Writing a descriptor back is a write of its word 3. -/
theorem Die.mgBack_eq (o i : Nat) (v : Word) :
    d.mgBack o i v = (d.stackPut (d.mgBase o + 16 * i + 12) (leBytes 4 v.toNat)).1 := by
  have h : Die.mgBack = fun d o i v => (d.stackPut (d.mgBase o + 16 * i + 12) (leBytes 4 v.toNat)).1 := rfl
  exact congrFun (congrFun (congrFun (congrFun h d) o) i) v

/-- One buffer of a received frame: its bytes are stored, its descriptor written back, and the head moves past it. -/
theorem Die.mgPut_spec {i : Nat} {bs : List Byte} {mark : Word} (hn : bs.length ≤ 2 ^ 36)
    (hd : d.dmaOk (d.mgBase 0x130 + 16 * i) 16 true = true) (hb : d.dmaOk (d.mgBuf 0x130 i) bs.length true = true)
    (hoe : d.orderClear (d.mgBase 0x130 + 16 * i) 16 = true) (hob : d.orderClear (d.mgBuf 0x130 i) bs.length = true) :
    ∃ e, Die.mgPut (d, true) ((i, bs), mark) =
        (e.updMg (fun m => { m with rxHead := (i + 1) % d.mgSize 0x130 }), true) ∧ Die.Served d e ∧
      ∀ x, e.byte x = if d.mgBase 0x130 + 16 * i + 12 ≤ x ∧ x < d.mgBase 0x130 + 16 * i + 12 + 4
        then (leBytes 4 (mark ||| word bs.length).toNat).getD (x - (d.mgBase 0x130 + 16 * i + 12)) 0
        else if d.mgBuf 0x130 i ≤ x ∧ x < d.mgBuf 0x130 i + bs.length then bs.getD (x - d.mgBuf 0x130 i) 0 else d.byte x := by
  obtain ⟨ho, hp⟩ := Die.dmaOk_write hb
  obtain ⟨hoD, hpD⟩ := Die.dmaOk_write hd
  obtain ⟨-, s1, b1⟩ := Die.stackPut_spec hn ho hp hob
  obtain ⟨f, hf⟩ : ∃ f, f = (d.stackPut (d.mgBuf 0x130 i) bs).1 := ⟨_, rfl⟩
  rw [← hf] at s1 b1
  have hbase : f.mgBase 0x130 = d.mgBase 0x130 := s1.keeps (Die.mgBase · 0x130) (fun _ _ _ _ _ _ => rfl)
  have hsize : f.mgSize 0x130 = d.mgSize 0x130 := s1.keeps (Die.mgSize · 0x130) (fun _ _ _ _ _ _ => rfl)
  have hmod : (d.mgBase 0x130 + 16 * i + 12) % 64 + 4 ≤ 64 := by
    unfold Die.mgBase
    omega
  have hlen : (leBytes 4 (mark ||| word bs.length).toNat).length = 4 := length_leBytes ..
  obtain ⟨-, s2, b2⟩ := Die.stackPut_spec (d := f) (a := f.mgBase 0x130 + 16 * i + 12) (bs := leBytes 4 (mark ||| word bs.length).toNat)
    (by rw [hlen]; omega)
    (by
      rw [hlen, hbase, s1.rangeOpen]
      exact Die.rangeOpen_part hoD (by omega) (by omega) (by omega) (by omega) hmod)
    (by
      rw [hlen, hbase, s1.pinOverlap]
      exact Die.pinOverlap_part hpD (by omega) (by omega))
    (by
      rw [hlen, hbase, s1.orderClear]
      exact Die.orderClear_part hoe (by omega) (by omega))
  rw [hlen, hbase] at b2
  rw [← Die.mgBack_eq] at s2
  refine ⟨f.mgBack 0x130 i (mark ||| word bs.length), ?_, s1.trans s2, fun x => ?_⟩
  · have hs2 : (f.mgBack 0x130 i (mark ||| word bs.length)).mgSize 0x130 = d.mgSize 0x130 :=
      (s2.keeps (Die.mgSize · 0x130) (fun _ _ _ _ _ _ => rfl)).trans hsize
    unfold Die.mgPut
    dsimp only
    rw [hb, ← hf, hs2]
    rfl
  · rw [Die.mgBack_eq, hbase]
    exact (b2 x).trans (if_congr Iff.rfl rfl (b1 x))

/-- A read of one range that meets no error. -/
theorem Die.dmaReads_one (x : Nat × Nat) : d.dmaReads [x] [] = (d.readBursts (burstsOf x.1 x.2), true) := by
  rw [Die.dmaReads, List.foldl_cons, List.foldl_nil, Die.dmaRead_clean]
  rfl

/-- The buffers of a frame are stored one by one, once their descriptors are read. -/
def Die.mgStore (r : Die × Bool) (l : List (Nat × List Byte)) (last : Word) : Die :=
  if !r.2 then r.1.dmaStop
  else ((l.zipIdx.map (fun x => (x.1, if x.2 + 1 = l.length then last else word (2 ^ 31)))).foldl Die.mgPut (r.1, true)).1

theorem Die.mgDeliver_stored {bs : List Byte} {last : Word} {es : List BurstErr} {own : List Nat} {l : List (Nat × List Byte)}
    (hown : d.mgOwned 0x130 d.mgmt.rxHead = own) (h0 : own.isEmpty = false)
    (hfind : own.find? (fun i => !d.dmaOk (d.mgBase 0x130 + 16 * i) 16 true) = none) (hfill : d.mgFill own bs = some l) :
    d.mgDeliver bs last es = Die.mgStore (d.dmaReads (l.map (fun x => (d.mgBase 0x130 + 16 * x.1, 16))) es) l last := by
  have h : d.mgDeliver bs last es =
      (if (d.mgOwned 0x130 d.mgmt.rxHead).isEmpty then (d.count pgMgmt 6).mgErr 2
      else match (d.mgOwned 0x130 d.mgmt.rxHead).find? (fun i => !d.dmaOk (d.mgBase 0x130 + 16 * i) 16 true),
          d.mgFill (d.mgOwned 0x130 d.mgmt.rxHead) bs with
        | some i, _ => d.dmaErr (d.mgBase 0x130 + 16 * i) 16
        | none, none => (d.count pgMgmt 6).mgErr 2
        | none, some l => Die.mgStore (d.dmaReads (l.map (fun x => (d.mgBase 0x130 + 16 * x.1, 16))) es) l last) := by
    unfold Die.mgDeliver
    rfl
  rw [h, hown, h0, hfind, hfill]
  rfl

/-- A frame whose bytes the next owned buffer holds is delivered into it. -/
theorem Die.mgDeliver_one {i : Nat} {bs : List Byte} {last : Word} (hown : d.mgOwned 0x130 d.mgmt.rxHead = [i])
    (hd : d.dmaOk (d.mgBase 0x130 + 16 * i) 16 true = true) (hfit : bs.length ≤ fld (d.mgW 0x130 i 2) 13 0) :
    d.mgDeliver bs last [] = (Die.mgPut (d.readBursts (burstsOf (d.mgBase 0x130 + 16 * i) 16), true) ((i, bs), last)).1 := by
  have hfill : d.mgFill [i] bs = some [(i, bs)] := by
    rw [Die.mgFill]
    exact if_pos hfit
  have hfind : [i].find? (fun i => !d.dmaOk (d.mgBase 0x130 + 16 * i) 16 true) = none := by
    simp [hd]
  have hr : d.dmaReads ([(i, bs)].map (fun x => (d.mgBase 0x130 + 16 * x.1, 16))) [] =
      (d.readBursts (burstsOf (d.mgBase 0x130 + 16 * i) 16), true) := Die.dmaReads_one (d.mgBase 0x130 + 16 * i, 16)
  have hm : ([(i, bs)].zipIdx.map (fun x => (x.1, if x.2 + 1 = [(i, bs)].length then last else word (2 ^ 31)))) =
      [((i, bs), last)] := rfl
  rw [Die.mgDeliver_stored hown rfl hfind hfill, hr, Die.mgStore, hm, List.foldl_cons, List.foldl_nil]
  exact if_neg Bool.false_ne_true

theorem Die.mgDeliver_none {bs : List Byte} {last : Word} {es : List BurstErr} (hown : d.mgOwned 0x130 d.mgmt.rxHead = []) :
    d.mgDeliver bs last es = (d.count pgMgmt 6).mgErr 2 := by
  unfold Die.mgDeliver
  rw [hown]
  rfl

/-! ## The filter -/

variable {bs : List Byte} (hen : d.mgEn = true) (hup : d.mgmt.linkUp = true) (h64 : 64 ≤ bs.length)
  (hgood : word (leNat (bs.drop (bs.length - 4))) = crc32 (bs.take (bs.length - 4))) (hpause : isPause bs = false)
include hen hup h64 hgood hpause

/-- A good frame for another station is only counted. -/
theorem Die.mgRx_filtered (h : d.mgAccepts bs = false) (es : List BurstErr) : d.mgRx bs es = d.count pgMgmt 7 := by
  unfold Die.mgRx
  rw [if_neg (by simp [hen, hup]; omega)]
  simp only [hgood, decide_true, if_true, hpause, h, Bool.false_eq_true, and_false, if_false, Bool.not_false]

/-- A good frame that passes the filter is counted and delivered without its FCS. -/
theorem Die.mgRx_accepted (h : d.mgAccepts bs = true) (hlen : bs.length ≤ 9216) (hs : d.mgmt.stopped = false)
    (hw : d.workHeld = false) (es : List BurstErr) :
    d.mgRx bs es = ((d.count pgMgmt 2).count pgMgmt 4 bs.length).mgDeliver (bs.take (bs.length - 4))
      (packW [(31, 1), (30, 1), (29, b2n false), (28, b2n false)]) es := by
  have hno : ¬ (((d.count pgMgmt 2).count pgMgmt 4 bs.length).mgmt.stopped = true ∨
      ((d.count pgMgmt 2).count pgMgmt 4 bs.length).workHeld = true) := by
    have h1 : ((d.count pgMgmt 2).count pgMgmt 4 bs.length).workHeld = d.workHeld := rfl
    rw [h1, hw, Die.count_mgmt, Die.count_mgmt, hs]
    simp
  unfold Die.mgRx
  rw [if_neg (by simp [hen, hup]; omega)]
  simp only [hgood, decide_true, if_true, hpause, h, Bool.false_eq_true, and_false, if_false, Bool.not_true, if_neg hno,
    Nat.not_lt.2 hlen, decide_false]

end

/-! ## The transmit ring -/

section
variable {d : Die}

/-- The buffers of a run of descriptors. -/
def Die.mgBufs (d : Die) (l : List Nat) : List (Nat × Nat) := l.map (fun i => (d.mgBuf 0x110 i, fld (d.mgW 0x110 i 2) 13 0))

/-- The frame of a run is sent, once its buffers are read. -/
def Die.mgSent (d : Die) (l : List Nat) (r : Die × Bool) : Die :=
  if !r.2 then r.1.dmaStop
  else (((l.foldl (fun d i => d.mgBack 0x110 i (word (2 ^ 31))) r.1).count pgMgmt 1).count pgMgmt 3
      (wireFrame ((d.mgBufs l).flatMap (fun b => d.bytes b.1 b.2))).length).updMg (fun m => { m with
        txHead := (l.getLastD 0 + 1) % d.mgSize 0x110
        sent := wireFrame ((d.mgBufs l).flatMap (fun b => d.bytes b.1 b.2)) :: m.sent })

/-- Its buffers are read, once its descriptors are. -/
def Die.mgSend (d : Die) (l : List Nat) (es : List BurstErr) (rd : Die × Bool) : Die :=
  if !rd.2 then rd.1.dmaStop
  else if l.any (fun i => decide (fld (d.mgW 0x110 i 2) 13 0 = 0)) ∨ 9212 < (l.map (fun i => fld (d.mgW 0x110 i 2) 13 0)).sum then
    ((l.foldl (fun d i => d.mgBack 0x110 i (packW [(31, 1), (28, 1)])) rd.1).mgErr 1).updMg (fun m =>
      { m with txHead := (l.getLastD 0 + 1) % d.mgSize 0x110 })
  else if !((d.mgBufs l).all (fun b => d.dmaOk b.1 b.2 false)) then rd.1.dmaStop
  else d.mgSent l (rd.1.dmaReads (d.mgBufs l) es)

theorem Die.mgTx_sends {es : List BurstErr} {own l : List Nat} (hen : d.mgEn = true) (hs : d.mgmt.stopped = false)
    (hw : d.workHeld = false) (hown : d.mgOwned 0x110 d.mgmt.txHead = own)
    (hfind : own.find? (fun i => !d.dmaOk (d.mgBase 0x110 + 16 * i) 16 true) = none)
    (hrun : d.mgRun own = some l) :
    d.mgTx es = d.mgSend l es (d.dmaReads (l.map (fun i => (d.mgBase 0x110 + 16 * i, 16))) es) := by
  have h : d.mgTx es = (if !d.mgEn ∨ d.mgmt.stopped ∨ d.workHeld then d
      else match (d.mgOwned 0x110 d.mgmt.txHead).find? (fun i => !d.dmaOk (d.mgBase 0x110 + 16 * i) 16 true),
          d.mgRun (d.mgOwned 0x110 d.mgmt.txHead) with
        | some i, _ => d.dmaErr (d.mgBase 0x110 + 16 * i) 16
        | none, none => d
        | none, some l => d.mgSend l es (d.dmaReads (l.map (fun i => (d.mgBase 0x110 + 16 * i, 16))) es)) := by
    unfold Die.mgTx
    rfl
  have hno : ¬ ((!d.mgEn) = true ∨ d.mgmt.stopped = true ∨ d.workHeld = true) := by simp [hen, hs, hw]
  rw [h, if_neg hno, hown, hfind, hrun]

/-- One whole owned descriptor: its buffer is sent and the head moves past it. -/
theorem Die.mgTx_one {i a n : Nat} (hen : d.mgEn = true) (hs : d.mgmt.stopped = false) (hw : d.workHeld = false)
    (hown : d.mgOwned 0x110 d.mgmt.txHead = [i]) (hd : d.dmaOk (d.mgBase 0x110 + 16 * i) 16 true = true)
    (heop : bit (d.mgW 0x110 i 2) 31 = true) (ha : d.mgBuf 0x110 i = a) (hn : fld (d.mgW 0x110 i 2) 13 0 = n) (hpos : 0 < n)
    (hmax : n ≤ 9212) (hb : d.dmaOk a n false = true) :
    ∃ e : Die, d.mgTx [] = e.updMg (fun m => { m with
        txHead := (i + 1) % d.mgSize 0x110, sent := wireFrame (d.bytes a n) :: m.sent }) ∧ e.mgmt = d.mgmt := by
  have hfind : [i].find? (fun i => !d.dmaOk (d.mgBase 0x110 + 16 * i) 16 true) = none := by
    simp [hd]
  obtain ⟨g, hg⟩ : ∃ g, g = d.readBursts (burstsOf (d.mgBase 0x110 + 16 * i) 16) := ⟨_, rfl⟩
  have hrd : d.dmaReads ([i].map (fun i => (d.mgBase 0x110 + 16 * i, 16))) [] = (g, true) :=
    (Die.dmaReads_one (d.mgBase 0x110 + 16 * i, 16)).trans (by rw [hg])
  have hbufs : d.mgBufs [i] = [(a, n)] := by rw [Die.mgBufs, List.map_cons, List.map_nil, ha, hn]
  obtain ⟨f, hf⟩ : ∃ f, f = g.readBursts (burstsOf a n) := ⟨_, rfl⟩
  have hr : g.dmaReads [(a, n)] [] = (f, true) := (Die.dmaReads_one (a, n)).trans (by rw [hf])
  have hlen : ¬ (([i].any fun i => decide (fld (d.mgW 0x110 i 2) 13 0 = 0)) = true ∨
      9212 < ([i].map fun i => fld (d.mgW 0x110 i 2) 13 0).sum) := by
    simp [hn]
    omega
  have hall : (!([(a, n)].all fun b => d.dmaOk b.1 b.2 false)) = false := by simp [hb]
  have hflat : [(a, n)].flatMap (fun b => d.bytes b.1 b.2) = d.bytes a n := by simp
  refine ⟨((f.mgBack 0x110 i (word (2 ^ 31))).count pgMgmt 1).count pgMgmt 3 (wireFrame (d.bytes a n)).length, ?_, ?_⟩
  · rw [Die.mgTx_sends hen hs hw hown hfind (if_pos heop), hrd, Die.mgSend, if_neg (by exact Bool.false_ne_true), if_neg hlen,
      hbufs, hall, if_neg Bool.false_ne_true, hr, Die.mgSent, if_neg (by exact Bool.false_ne_true), hbufs, hflat, List.foldl_cons,
      List.foldl_nil]
    rfl
  · rw [Die.count_mgmt, Die.count_mgmt, Die.mgBack_eq]
    have h1 : Die.Served d f := by
      rw [hf, hg]
      exact (Die.Served.readBursts ..).trans (.readBursts ..)
    exact ((Die.StkOnly.of_served h1).trans (.stackPut ..)).keeps Die.mgmt (fun _ _ _ _ _ _ _ => rfl)

end

end Sys2Proof.Machine
end

section
/-!
PROOFS. The management port's obligation (12 R351-R355).
-/

namespace Sys2Proof.Machine

/-- A part of the die that reads memory, where no access has stored. -/
theorem Die.Served.keeps_mem {d e : Die} (h : Die.Served d e) (hm : e.mem = d.mem) {α : Type} (g : Die → α)
    (hg : ∀ (d : Die) x k c r, g { d with changed := x, stk := k, ctr := c, resp := r } = g d) : g e = g d := by
  obtain ⟨m, x, k, c, r, rfl⟩ := h.form
  obtain rfl : m = d.mem := hm
  exact hg ..

/-- A frame that passes the filter, with one owned descriptor whose buffer holds it. -/
theorem Die.mgRx_stored {d : Die} {bs : List Byte} {i : Nat} (hen : d.mgEn = true) (hup : d.mgmt.linkUp = true) (h64 : 64 ≤ bs.length)
    (hlen : bs.length ≤ 9216) (hgood : word (leNat (bs.drop (bs.length - 4))) = crc32 (bs.take (bs.length - 4)))
    (hpause : isPause bs = false) (hacc : d.mgAccepts bs = true) (hs : d.mgmt.stopped = false) (hw : d.workHeld = false)
    (hown : d.mgOwned 0x130 d.mgmt.rxHead = [i]) {e a n : Nat} (he : d.mgBase 0x130 + 16 * i = e) (ha : d.mgBuf 0x130 i = a)
    (hn : bs.length - 4 = n) (hde : d.dmaOk e 16 true = true) (hfit : n ≤ fld (d.mgW 0x130 i 2) 13 0) (hda : d.dmaOk a n true = true)
    (hoa : d.orderClear a n = true) (hoe : d.orderClear e 16 = true) :
    ∃ f, d.mgRx bs [] = f.updMg (fun m => { m with rxHead := (i + 1) % d.mgSize 0x130 }) ∧ Die.Served d f ∧
      ∀ x, f.byte x = if e + 12 ≤ x ∧ x < e + 12 + 4 then (leBytes 4 (word (2 ^ 31 + 2 ^ 30 + n)).toNat).getD (x - (e + 12)) 0
        else if a ≤ x ∧ x < a + n then (bs.take n).getD (x - a) 0 else d.byte x := by
  obtain ⟨c, hc⟩ : ∃ c, c = (d.count pgMgmt 2).count pgMgmt 4 bs.length := ⟨_, rfl⟩
  obtain ⟨g, hg⟩ : ∃ g, g = c.readBursts (burstsOf (c.mgBase 0x130 + 16 * i) 16) := ⟨_, rfl⟩
  have hdc : Die.Served d c := by
    rw [hc]
    exact (Die.Served.count ..).trans (.count ..)
  have hmc : c.mem = d.mem := by rw [hc, Die.count_mem, Die.count_mem]
  have hdg : Die.Served d g := by
    rw [hg]
    exact hdc.trans (.readBursts ..)
  have hmg : g.mem = d.mem := by rw [hg, Die.readBursts_mem, hmc]
  have ntake : (bs.take n).length = n := by
    rw [List.length_take]
    omega
  have hbaseC : c.mgBase 0x130 + 16 * i = e := by rw [hdc.keeps (Die.mgBase · 0x130) (fun _ _ _ _ _ _ => rfl), he]
  have hbase : g.mgBase 0x130 + 16 * i = e := by rw [hdg.keeps (Die.mgBase · 0x130) (fun _ _ _ _ _ _ => rfl), he]
  have hbuf : g.mgBuf 0x130 i = a := by rw [hdg.keeps_mem hmg (Die.mgBuf · 0x130 i) (fun _ _ _ _ _ => rfl), ha]
  have hsize : g.mgSize 0x130 = d.mgSize 0x130 := hdg.keeps (Die.mgSize · 0x130) (fun _ _ _ _ _ _ => rfl)
  obtain ⟨f, hput, hgf, hf⟩ := Die.mgPut_spec (d := g) (i := i) (bs := bs.take n)
    (mark := packW [(31, 1), (30, 1), (29, b2n false), (28, b2n false)]) (by rw [ntake]; omega)
    (by rw [hbase, hdg.dmaOk, hde]) (by rw [hbuf, ntake, hdg.dmaOk, hda]) (by rw [hbase, hdg.orderClear, hoe])
    (by rw [hbuf, ntake, hdg.orderClear, hoa])
  have hownC : c.mgOwned 0x130 c.mgmt.rxHead = [i] := by
    rw [hdc.keeps (fun d => d.mgOwned 0x130 d.mgmt.rxHead) (fun _ _ _ _ _ _ => rfl), hown]
  have hfitC : (bs.take n).length ≤ fld (c.mgW 0x130 i 2) 13 0 := by
    rw [ntake, hdc.keeps_mem hmc (Die.mgW · 0x130 i 2) (fun _ _ _ _ _ => rfl)]
    exact hfit
  refine ⟨f, ?_, hdg.trans hgf, fun x => ?_⟩
  · rw [Die.mgRx_accepted hen hup h64 hgood hpause hacc hlen hs hw [], hn, ← hc,
      Die.mgDeliver_one hownC (by rw [hbaseC, hdc.dmaOk, hde]) hfitC, ← hg, hput, hsize]
  · have hx : g.byte x = d.byte x := by rw [Die.byte, hmg, Die.byte]
    rw [hf, hbase, hbuf, ntake, hx, word_done_eop (by omega)]

end Sys2Proof.Machine

namespace Sys2Proof
open Machine

/-- Settles O17: each event of the port through its case of `Die.mgRx` and `Die.mgTx`. -/
theorem managementPort : Obligations.management_port := by
  unfold Obligations.management_port
  intro s hl
  have rx (bs : List Byte) : exec (.mgmtFrameRx bs []) s = .next (s.onD (fun d => d.mgRx bs [])) :=
    exec_at_live (f := fun d => d.mgRx bs []) rfl hl
  refine ⟨fun up pins => ?link, fun bs hen hup h64 hlen hgood hpause => ⟨fun ha => ?filtered, fun ha hs hw hown => ?dropped,
    fun i ha hs hw hown hde hfit hda hdis hoa hoe => ?stored⟩, fun i hen hs hw hown hd heop hpos hmax hb => ?sent⟩
  case link => exact ⟨_, exec_at_live rfl hl, rfl, rfl, rfl, rfl, rfl, rfl, rfl, rfl⟩
  case filtered => exact (rx bs).trans (State.next_onD_congr (Die.mgRx_filtered hen hup h64 hgood hpause ha []))
  case dropped =>
    refine (rx bs).trans (State.next_onD_congr ?_)
    rw [Die.mgRx_accepted hen hup h64 hgood hpause ha hlen hs hw, Die.mgDeliver_none (by exact hown)]
    rfl
  case stored =>
    obtain ⟨f, hrx, hf, hb⟩ := Die.mgRx_stored hen hup h64 hlen hgood hpause ha hs hw hown rfl rfl rfl hde hfit hda hoa hoe
    have hmg : f.mgmt = s.d.mgmt := hf.keeps Die.mgmt (fun _ _ _ _ _ _ => rfl)
    have hbase : f.mgBase 0x130 = s.d.mgBase 0x130 := hf.keeps (Die.mgBase · 0x130) (fun _ _ _ _ _ _ => rfl)
    have ntake : (bs.take (bs.length - 4)).length = bs.length - 4 := by
      rw [List.length_take]
      omega
    refine ⟨_, (rx bs).trans (State.next_onD_congr (g := fun _ => f.updMg (fun m => { m with rxHead := (i + 1) % s.d.mgSize 0x130 })) hrx),
      ?_, ?_, rfl, ?_, fun x h1 h2 => ?_, rfl, rfl⟩
    · have hbytes := Die.bytes_eq (d := f) (a := s.d.mgBuf 0x130 i) (bs := bs.take (bs.length - 4)) (fun j hj => by
        rw [hb, if_neg (by omega), if_pos (by omega), Nat.add_sub_cancel_left])
      rw [ntake] at hbytes
      exact hbytes
    · have hw3 : f.mword (f.mgBase 0x130 + 16 * i + 4 * 3) = word (2 ^ 31 + 2 ^ 30 + (bs.length - 4)) := by
        rw [hbase]
        exact Die.mword_of_bytes (fun j hj => by
          rw [hb, if_pos (by omega), Nat.add_sub_cancel_left])
      exact hw3
    · have herr : f.mgmt.err = s.d.mgmt.err := congrArg Mgmt.err hmg
      exact herr
    · exact (hb x).trans (by rw [if_neg (by omega), if_neg (by omega)])
  case sent =>
    obtain ⟨e, htx, hmg⟩ := Die.mgTx_one hen hs hw hown hd heop rfl rfl hpos hmax hb
    refine ⟨_, (exec_at_live (f := fun d => d.mgTx []) rfl hl).trans (State.next_onD_congr (g := fun _ => e.updMg (fun m => { m with
      txHead := (i + 1) % s.d.mgSize 0x110
      sent := wireFrame (s.d.bytes (s.d.mgBuf 0x110 i) (fld (s.d.mgW 0x110 i 2) 13 0)) :: m.sent })) htx), rfl, ?_, ?_, rfl, rfl⟩
    · exact congrArg (fun m : Mgmt => wireFrame (s.d.bytes (s.d.mgBuf 0x110 i) (fld (s.d.mgW 0x110 i 2) 13 0)) :: m.sent) hmg
    · have herr : e.mgmt.err = s.d.mgmt.err := congrArg Mgmt.err hmg
      exact herr

end Sys2Proof
end

section
/-!
PROOFS. Accesses to a stack, their errors, and the stack's upkeep (08 R240-R250).
-/

namespace Sys2Proof.Machine

/-! ## What a requester's access is -/

section
variable {s : State} {k : StackNo} {ini : Fin 22} {off : Fin 68719476736}

/-- The die on which a granted access of a requester arrives at its stack. -/
def Die.inbound (d : Die) (r k : Nat) : Die := (d.transfer r).hear (64 + k) ((d.transfer r).seqNo (iniIsland r))

/-- A granted access over an open control plane is made at the stack's port. -/
theorem exec_stackAccess_granted (hi : ini.val < 21) (hl : s.d.live (iniIsland ini) = true) (hg : s.d.hasGrant ini = true)
    (hp : s.d.planeClosed ini 0 = false) (n : Nat) (wr : Option Nat) (e : Fin 37) (mis : Fin 3) :
    ∃ a, exec (.stackAccess k ini off n wr e mis) s =
      .next { s with d := (s.d.inbound ini k).stackAccess k ini off n wr e mis, a := a } := by
  refine ⟨(s.transfer ini).a, ?_⟩
  have he : exec (.stackAccess k ini off n wr e mis) s = execStackAccess k ini off n wr e mis s := rfl
  rw [he]
  unfold execStackAccess
  simp only [hi, hl, hg, hp, decide_true, Bool.true_and, true_and, Bool.true_eq_false, or_self, if_false, Bool.false_eq_true, if_true]
  rfl

end

section
variable {d : Die} {r k : Nat}

theorem Die.inbound_eq : ∃ m c x, d.inbound r k = { d with trS := m, carb := c, ctr := x } := by
  obtain ⟨c, x, h⟩ := d.transfer_eq r
  unfold Die.inbound
  rw [h]
  exact ⟨_, c, x, rfl⟩

/-- What an arriving access finds is what stood there before it. -/
theorem Die.inbound_keeps {α : Type} (g : Die → α) (h : ∀ (d : Die) m c x, g { d with trS := m, carb := c, ctr := x } = g d) :
    g (d.inbound r k) = g d := by
  obtain ⟨m, c, x, he⟩ := d.inbound_eq (r := r) (k := k)
  rw [he, h]

variable {ini off n : Nat} {wr : Option Nat}

/-- An access the port does not take. -/
theorem Die.stackAccess_refused (h : d.stackClosed k = true ∨ off % n ≠ 0) (e mis : Nat) :
    d.stackAccess k ini off n wr e mis = d.respond .busError := by
  unfold Die.stackAccess
  exact if_pos (by tauto)

/-- The entry of an access in the controller. -/
def Die.entryOf (ini off n : Nat) (wr : Option Nat) : Retry :=
  { burst := off / 64, off, size := n, wr, reader := 1, dbg := decide (ini = iniDebug) }

/-- What a refused write into a pinned ring leaves in the records (12 R349). -/
def Die.pinNoted (d : Die) (k ini off n c a : Nat) : Die :=
  if ini < 16 ∧ n = 64 ∧ (d.pinRefused c a).inCarve k off then
    Die.count { d.pinRefused c a with wbLo := packW [(6, (a / 64) % 2 ^ 26), (0, 1)], wbHi := packW [(0, a / 2 ^ 32)] } pgSys 2
  else d.pinRefused c a

theorem Die.pinNoted_mem (c a : Nat) : (d.pinNoted k ini off n c a).mem = d.mem := by
  rw [Die.pinNoted]
  split <;> rfl

section
variable (hi : ini < 21) (hc : d.stackClosed k = false) (hs : portSize n = true) (ha : off % n = 0)
include hi hc hs ha

/-- A read, or a write that no pinned ring refuses, takes effect when its burst is free. -/
theorem Die.stackAccess_taken (hb : d.burstBusy k (off / 64) = false)
    (hp : wr.isSome = true → d.pinOverlap (k * 2 ^ 36 + off) n = none) (e mis : Nat) :
    d.stackAccess k ini off n wr e mis = d.access k (Die.entryOf ini off n wr) e mis := by
  have hcond : ¬ (d.stackClosed k = true ∨ (!portSize n) = true ∨ off % n ≠ 0 ∨ (decide (ini < 21) = false ∧ n ≠ 64)) := by
    simp [hc, hs, ha, hi]
  have hpin : (if wr.isSome then d.pinOverlap (k * 2 ^ 36 + off) n else none) = none := by
    split
    · next h => exact hp h
    · rfl
  have hent : ({ burst := off / 64, off, size := n, wr, reader := b2n (decide (ini < 21)), dbg := decide (ini = iniDebug) } : Retry) =
      Die.entryOf ini off n wr := by
    rw [decide_eq_true hi]
    rfl
  unfold Die.stackAccess
  rw [if_neg hcond]
  dsimp only
  rw [hpin, hent]
  dsimp only
  unfold Die.arrive
  exact if_neg (by rw [Die.entryOf, hb]; exact Bool.false_ne_true)

/-- A write into a pinned ring is refused. -/
theorem Die.stackAccess_pinned {v c : Nat} (hp : d.pinOverlap (k * 2 ^ 36 + off) n = some c) (e mis : Nat) :
    d.stackAccess k ini off n (some v) e mis = (d.pinNoted k ini off n c (k * 2 ^ 36 + off)).respond .busError := by
  have hcond : ¬ (d.stackClosed k = true ∨ (!portSize n) = true ∨ off % n ≠ 0 ∨ (decide (ini < 21) = false ∧ n ≠ 64)) := by
    simp [hc, hs, ha, hi]
  have h : d.stackAccess k ini off n (some v) e mis =
      if d.stackClosed k = true ∨ (!portSize n) = true ∨ off % n ≠ 0 ∨ (decide (ini < 21) = false ∧ n ≠ 64) then d.refuse
      else match d.pinOverlap (k * 2 ^ 36 + off) n with
        | some c => (d.pinNoted k ini off n c (k * 2 ^ 36 + off)).refuse
        | none => d.arrive k { burst := off / 64, off, size := n, wr := some v, reader := b2n (decide (ini < 21)), dbg := decide (ini = iniDebug) } e mis := rfl
  rw [h, if_neg hcond, hp]
  rfl

end

/-- An aligned access lies within its burst. -/
theorem portSize_fits (hs : portSize n = true) (ha : off % n = 0) : off % 64 + n ≤ 64 := by
  simp only [portSize, Bool.or_eq_true, decide_eq_true_eq] at hs
  rcases hs with (((rfl | rfl) | rfl) | rfl) | rfl <;> omega

end

end Sys2Proof.Machine

namespace Sys2Proof
open Machine

/-- Settles O28: an access that the port takes is `Die.access` of its burst. -/
theorem stackAccess : Obligations.stack_access := by
  unfold Obligations.stack_access
  intro s k ini off n hi hl hg hp hs
  have made (wr : Option Nat) : ∃ a, exec (.stackAccess k ini off n wr 0 0) s =
      .next { s with d := (s.d.inbound ini k).stackAccess k ini off n wr 0 0, a := a } :=
    exec_stackAccess_granted hi hl hg hp n wr 0 0
  have keeps {α : Type} (g : Die → α) (h : ∀ (d : Die) m c x, g { d with trS := m, carb := c, ctr := x } = g d) :=
    s.d.inbound_keeps (r := ini) (k := k) g h
  obtain ⟨d, hd⟩ : ∃ d, d = s.d.inbound ini k := ⟨_, rfl⟩
  rw [← hd] at keeps
  have hmem : d.mem = s.d.mem := keeps Die.mem (fun _ _ _ _ => rfl)
  have hregs : d.regs = s.d.regs := keeps Die.regs (fun _ _ _ _ => rfl)
  have hclosed : d.stackClosed k = s.d.stackClosed k := keeps (Die.stackClosed · k) (fun _ _ _ _ => rfl)
  have hbusy : d.burstBusy k (off.val / 64) = s.d.burstBusy k (off.val / 64) := keeps (Die.burstBusy · k (off.val / 64)) (fun _ _ _ _ => rfl)
  have hpin : d.pinOverlap (k.val * 2 ^ 36 + off.val) n = s.d.pinOverlap (k.val * 2 ^ 36 + off.val) n :=
    keeps (Die.pinOverlap · (k.val * 2 ^ 36 + off.val) n) (fun _ _ _ _ => rfl)
  have haddr : k.val * 2 ^ 36 + off.val / 64 * 64 + off.val % 64 = k.val * 2 ^ 36 + off.val := by omega
  refine ⟨fun hc ha hb => ⟨?read, fun v hv hno => ?write, fun v c hsome => ?pinned⟩, fun wr h => ?refused⟩
  case read =>
    obtain ⟨a, he⟩ := made none
    have hacc : d.stackAccess k ini off n none 0 0 = (d.atBurst k (Die.entryOf ini off n none)).respond
        (.ok (leNat (d.bytes (k.val * 2 ^ 36 + off.val) n))) := by
      rw [Die.stackAccess_taken hi (hclosed.trans hc) hs ha (hbusy.trans hb) (fun h => absurd h (by decide)), ← haddr]
      exact Die.access_read rfl (by decide : (1 : Nat) ≠ 2) (portSize_fits hs ha) 0 rfl
    have hserved := Die.Served.atBurst d k (Die.entryOf ini off n none)
    have hbytes : d.bytes (k.val * 2 ^ 36 + off.val) n = s.d.bytes (k.val * 2 ^ 36 + off.val) n := by rw [Die.bytes, hmem, Die.bytes]
    rw [← hd, hacc, hbytes] at he
    exact ⟨_, he, rfl, (Die.atBurst_mem ..).trans hmem, (hserved.keeps Die.regs (fun _ _ _ _ _ _ => rfl)).trans hregs, rfl⟩
  case write =>
    obtain ⟨a, he⟩ := made (some v)
    rw [← hd, Die.stackAccess_taken hi (hclosed.trans hc) hs ha (hbusy.trans hb) (fun _ => hpin.trans hno)] at he
    obtain ⟨h1, h2, h3⟩ := Die.access_write (d := d) (s := k) (v := v) (r := Die.entryOf ini off n (some v)) rfl
      (by decide : (1 : Nat) ≠ 2) (portSize_fits hs ha) 0 rfl
    obtain ⟨e, hE⟩ : ∃ e, e = d.access k (Die.entryOf ini off n (some v)) 0 0 := ⟨_, rfl⟩
    have hentry : (Die.entryOf ini off n (some v)).burst = off.val / 64 ∧ (Die.entryOf ini off n (some v)).off = off.val ∧
      (Die.entryOf ini off n (some v)).size = n := ⟨rfl, rfl, rfl⟩
    obtain ⟨e1, e2, e3⟩ := hentry
    rw [e1, e2, e3, haddr] at h3
    rw [← hE] at he h1 h2 h3
    have hx (x : Nat) : d.byte x = s.d.byte x := by rw [Die.byte, hmem, Die.byte]
    refine ⟨_, he, h2 (by decide : (1 : Nat) ≠ 3), ?_, fun x hx' => ?_, (h1.keeps Die.regs (fun _ _ _ _ _ _ => rfl)).trans hregs⟩
    · have hb := Die.bytes_eq (d := e) (a := k.val * 2 ^ 36 + off.val) (bs := leBytes n v) (fun i hi => by
        rw [length_leBytes] at hi
        rw [h3, if_pos (by omega), Nat.add_sub_cancel_left])
      rwa [length_leBytes] at hb
    · exact (h3 x).trans ((if_neg (by omega)).trans (hx x))
  case pinned =>
    obtain ⟨a, he⟩ := made (some v)
    rw [← hd, Die.stackAccess_pinned hi (hclosed.trans hc) hs ha (hpin.trans hsome)] at he
    exact ⟨_, he, rfl, (Die.pinNoted_mem ..).trans hmem⟩
  case refused =>
    obtain ⟨a, he⟩ := made wr
    rw [← hd, Die.stackAccess_refused (h.symm.imp_left hclosed.trans)] at he
    exact ⟨_, he, rfl, hmem, hregs⟩

end Sys2Proof
end

section
/-!
PROOFS. Symbols in error (08 R243-R246), and the upkeep of a stack (08 R247-R250).
-/

namespace Sys2Proof.Machine

variable {d : Die} {k n : Nat}

/-! ## The decoder in the default mode -/

/-- A decoder that no error deceives delivers the stored data. -/
theorem deceived_zero (m n : Nat) : deceived m n 0 = false := by
  simp [deceived]

theorem decode_corrected {m : Nat} (hm : decLimits m = (2, 2)) (h1 : 1 ≤ n) (h2 : n ≤ 2) (mis : Nat) :
    decode m n mis = .corrected n := by
  unfold decode
  rw [hm]
  simp only [show n ≠ 0 by omega, if_false, h2, if_true]

theorem decode_uncorrectable {m : Nat} (hm : decLimits m = (2, 2)) (h : 3 ≤ n) : decode m n 0 = .uncorrectable := by
  unfold decode
  rw [hm]
  simp only [show n ≠ 0 by omega, show ¬ n ≤ 2 by omega, if_false, or_true, if_true]

/-! ## Reads of a burst with symbols in error -/

section
variable {r : Retry}

theorem Die.decMode_atBurst : (d.atBurst k r).decMode k = d.decMode k :=
  (Die.Served.atBurst d k r).keeps (Die.decMode · k) (fun _ _ _ _ _ _ => rfl)

theorem Die.bytes_atBurst (a m : Nat) : (d.atBurst k r).bytes a m = d.bytes a m := by
  rw [Die.bytes, Die.atBurst_mem, Die.bytes]

/-- A burst that the decoder corrects is noted and delivered as it is stored. -/
theorem Die.readBurst_corrected (hm : decLimits (d.decMode k) = (2, 2)) (h1 : 1 ≤ n) (h2 : n ≤ 2) (again : Bool) :
    d.readBurst k r n 0 again = ((d.atBurst k r).noteCorrected k r.burst n (r.reader = 2) (d.bytes (k * 2 ^ 36 + r.burst * 64) 64)).deliver k r
      (d.bytes (k * 2 ^ 36 + r.burst * 64) 64) := by
  have hd := decode_corrected (m := (d.atBurst k r).decMode k) (by rw [Die.decMode_atBurst]; exact hm) h1 h2 0
  have hat : (if r.reader = 2 then d else d.count (pgStk k) 1).openBank k r.burst = d.atBurst k r := rfl
  rw [← Die.bytes_atBurst (k := k) (r := r)]
  unfold Die.readBurst
  rw [hat]
  dsimp only
  rw [hd, deceived_zero]
  rfl

/-- The first read of an uncorrectable burst leaves the access to a re-read. -/
theorem Die.readBurst_waits (hm : decLimits (d.decMode k) = (2, 2)) (h : 3 ≤ n) (hr : r.reader = 1) :
    d.readBurst k r n 0 false = ((d.atBurst k r).respond .none).updStk k (fun k => { k with
      retries := if k.retries.any (fun x => decide (x.burst = r.burst)) then r :: k.retries else k.retries ++ [r] }) := by
  have hd := decode_uncorrectable (m := (d.atBurst k r).decMode k) (by rw [Die.decMode_atBurst]; exact hm) h
  have hat : (if r.reader = 2 then d else d.count (pgStk k) 1).openBank k r.burst = d.atBurst k r := rfl
  unfold Die.readBurst
  rw [hat]
  dsimp only
  rw [hd]
  dsimp only
  rw [if_neg Bool.false_ne_true, if_pos hr]

/-- A re-read that is uncorrectable ends the access of a host. -/
theorem Die.readBurst_fails (hm : decLimits (d.decMode k) = (2, 2)) (h : 3 ≤ n) (hr : r.reader = 1) :
    d.readBurst k r n 0 true = ((d.atBurst k r).noteUe k r.burst true).respond .busError := by
  have hd := decode_uncorrectable (m := (d.atBurst k r).decMode k) (by rw [Die.decMode_atBurst]; exact hm) h
  have hat : (if r.reader = 2 then d else d.count (pgStk k) 1).openBank k r.burst = d.atBurst k r := rfl
  unfold Die.readBurst
  rw [hat]
  dsimp only
  rw [hd]
  dsimp only
  rw [if_pos rfl, if_pos hr, decide_eq_true hr]

/-- A burst is delivered to a read of a host. -/
theorem Die.deliver_read (hr : r.reader = 1) (hw : r.wr = none) (b : List Byte) :
    d.deliver k r b = d.respond (.ok (leNat ((b.drop (r.off % 64)).take r.size))) := by
  unfold Die.deliver
  rw [hw, if_neg (by omega)]

end

/-! ## Counters of a stack -/

theorem ckey_ne {p q c e : Nat} (hc : c < 65536) (he : e < 65536) (h : p ≠ q ∨ c ≠ e) : ckey p c ≠ ckey q e := by
  unfold ckey
  omega

/-- A corrected read adds one to `CORRECTED`, and no read of a burst or grant of the arbiter moves it otherwise. -/
theorem Die.ctrOf_noteCorrected (b m : Nat) (scrub : Bool) (bs : List Byte) :
    (d.noteCorrected k b m scrub bs).ctrOf (pgStk k) 3 = bump (d.ctrOf (pgStk k) 3) 1 := by
  have h : (d.noteCorrected k b m scrub bs).ctr = (d.count (pgStk k) 3).ctr := by
    unfold Die.noteCorrected
    dsimp only
    split <;> rfl
  rw [Die.ctrOf, h, ← Die.ctrOf, Die.ctrOf_count, if_pos rfl]

theorem Die.ctrOf_atBurst (r : Retry) : (d.atBurst k r).ctrOf (pgStk k) 3 = d.ctrOf (pgStk k) 3 := by
  have hopen (e : Die) : (e.openBank k r.burst).ctrOf (pgStk k) 3 = e.ctrOf (pgStk k) 3 := by
    unfold Die.openBank
    split
    · rfl
    · rw [Die.ctrOf_count, if_neg (ckey_ne (by omega) (by omega) (.inr (by omega)))]
      rfl
  rw [Die.atBurst, hopen]
  split
  · rfl
  · rw [Die.ctrOf_count, if_neg (ckey_ne (by omega) (by omega) (.inr (by omega)))]

theorem Die.ctrOf_inbound {r : Nat} (hr : r < 21) (hk : k < 8) : (d.inbound r k).ctrOf (pgStk k) 3 = d.ctrOf (pgStk k) 3 := by
  have h1 (e : Die) : (e.hear (64 + k) (e.seqNo (iniIsland r))).ctrOf (pgStk k) 3 = e.ctrOf (pgStk k) 3 := rfl
  have h2 (e : Die) : e.carbEnd.ctrOf (pgStk k) 3 = e.ctrOf (pgStk k) 3 := by
    unfold Die.carbEnd
    split <;> rfl
  have h3 (e : Die) : (e.carbGrant r).ctrOf (pgStk k) 3 = e.ctrOf (pgStk k) 3 := by
    unfold Die.carbGrant
    dsimp only
    rw [Die.ctrOf_count, if_neg (ckey_ne (by omega) (by omega) (.inl (by unfold pgStk pgCarb; omega)))]
    rfl
  unfold Die.inbound
  rw [h1]
  unfold Die.transfer
  split
  · rfl
  · split
    · rw [h2]
    · rw [h2, h3]

/-! ## Accesses that wait, and corrective writes -/

/-- The die once its oldest waiting read has left the queue of its stack. -/
def Die.retried (d : Die) (k : Nat) (l : List Retry) : Die := (d.updStk k (fun x => { x with retries := l })).count (pgStk k) 5

theorem Die.stack_retried (l : List Retry) : (d.retried k l).stack k = { d.stack k with retries := l } := by
  rw [Die.retried, Die.stack_count, Die.stack_updStk, if_pos rfl]

/-- The oldest waiting read of a host is read again. -/
theorem exec_readRetry_again {s : State} {k : StackNo} {r : Retry} {l : List Retry} (hl : s.d.live (64 + k.val) = true)
    (hr : (s.d.stack k).retries = r :: l) (hf : r.fresh = false) (hdbg : r.dbg = false) (n : Fin 37) {e : Die}
    (h : (s.d.retried k l).readBurst k r n 0 true = e) : exec (.readRetry k n 0) s = .next (s.onD (fun _ => e)) := by
  have he : exec (.readRetry k n 0) s = execReadRetry k n 0 s := rfl
  rw [he]
  unfold execReadRetry
  rw [if_neg (by simp [hl]), hr]
  dsimp only
  rw [hf, hdbg, ← h]
  simp only [Bool.false_eq_true, false_and, if_false]
  rfl

/-- The oldest pending corrective write is dropped as overtaken, or made. -/
def Die.correctOldest (d : Die) (k : Nat) (c : Corr) (l : List Corr) : Die :=
  if c.stale then (d.updStk k (fun x => { x with corrs := l })).count (pgStk k) 9
  else (d.updStk k (fun x => { x with corrs := l })).writeBurst k c.burst c.data

theorem exec_correctiveWrite {s : State} {k : StackNo} {c : Corr} {l : List Corr} (hl : s.d.live (64 + k.val) = true)
    (hc : (s.d.stack k).corrs = c :: l) {e : Die} (h : s.d.correctOldest k c l = e) :
    exec (.correctiveWrite k) s = .next (s.onD (fun _ => e)) := by
  have he : exec (.correctiveWrite k) s = s.at_ (64 + k.val) (fun d => match (d.stack k).corrs with
    | [] => d
    | c :: l => d.correctOldest k c l) := rfl
  rw [exec_at_live he hl]
  refine State.next_onD_congr ?_
  rw [hc]
  exact h

end Sys2Proof.Machine

namespace Sys2Proof
open Machine

/-- Settles O29: each read through its case of the decoder. -/
theorem stackErrorHandling : Obligations.stack_error_handling := by
  unfold Obligations.stack_error_handling
  intro s k n hlive
  refine ⟨fun off hl hg hp hc ha hb hm => ⟨fun h1 h2 => ?corrected, fun h3 => ?waits⟩,
    fun r l hret hr hw hdbg hfresh => ⟨?again, fun hm h3 => ?fails⟩, fun c l hcorr => ⟨fun hst => ?stale, fun hst hlen => ?written⟩⟩
  case corrected =>
    obtain ⟨a, he⟩ := exec_stackAccess_granted (ini := 0) (k := k) (off := off) (by decide) hl hg hp 8 none n 0
    have keeps {α : Type} (g : Die → α) (h : ∀ (d : Die) m c x, g { d with trS := m, carb := c, ctr := x } = g d) :=
      s.d.inbound_keeps (r := 0) (k := k) g h
    have hctr : (s.d.inbound 0 k).ctrOf (pgStk k) 3 = s.d.ctrOf (pgStk k) 3 := Die.ctrOf_inbound (by omega) k.isLt
    obtain ⟨d, hd⟩ : ∃ d, d = s.d.inbound 0 k := ⟨_, rfl⟩
    have hcoe : s.d.inbound ((0 : Fin 22) : Nat) k = d := hd.symm
    rw [← hd] at keeps hctr
    have hmem : d.mem = s.d.mem := keeps Die.mem (fun _ _ _ _ => rfl)
    have hclosed : d.stackClosed k = false := (keeps (Die.stackClosed · k) (fun _ _ _ _ => rfl)).trans hc
    have hbusy : d.burstBusy k (off.val / 64) = false := (keeps (Die.burstBusy · k (off.val / 64)) (fun _ _ _ _ => rfl)).trans hb
    have hmode : decLimits (d.decMode k) = (2, 2) := by rw [keeps (Die.decMode · k) (fun _ _ _ _ => rfl), hm]
    have hacc : d.stackAccess k ((0 : Fin 22) : Nat) off 8 none n ((0 : Fin 3) : Nat) =
        d.readBurst k (Die.entryOf 0 off 8 none) n 0 false :=
      Die.stackAccess_taken (by decide) hclosed (by decide) ha hbusy (fun h => absurd h (by decide)) n 0
    rw [hcoe, hacc, Die.readBurst_corrected hmode h1 h2, Die.deliver_read rfl rfl] at he
    have hbytes : ((d.bytes (k.val * 2 ^ 36 + off.val / 64 * 64) 64).drop (off.val % 64)).take 8 = s.d.bytes (k.val * 2 ^ 36 + off.val) 8 := by
      have haddr : k.val * 2 ^ 36 + off.val / 64 * 64 + off.val % 64 = k.val * 2 ^ 36 + off.val := by omega
      rw [Die.drop_take_bytes (by omega), haddr, Die.bytes, hmem, Die.bytes]
    refine ⟨_, he, ?_, ?_, ?_⟩
    · exact congrArg (fun b => Resp.ok (leNat b)) hbytes
    · rw [Die.respond_mem, Die.mem_noteCorrected, Die.atBurst_mem, hmem]
    · refine (Die.ctrOf_noteCorrected ..).trans ?_
      rw [Die.ctrOf_atBurst, hctr]
  case waits =>
    obtain ⟨a, he⟩ := exec_stackAccess_granted (ini := 0) (k := k) (off := off) (by decide) hl hg hp 8 none n 0
    have keeps {α : Type} (g : Die → α) (h : ∀ (d : Die) m c x, g { d with trS := m, carb := c, ctr := x } = g d) :=
      s.d.inbound_keeps (r := 0) (k := k) g h
    obtain ⟨d, hd⟩ : ∃ d, d = s.d.inbound 0 k := ⟨_, rfl⟩
    have hcoe : s.d.inbound ((0 : Fin 22) : Nat) k = d := hd.symm
    rw [← hd] at keeps
    have hmem : d.mem = s.d.mem := keeps Die.mem (fun _ _ _ _ => rfl)
    have hclosed : d.stackClosed k = false := (keeps (Die.stackClosed · k) (fun _ _ _ _ => rfl)).trans hc
    have hbusy : d.burstBusy k (off.val / 64) = false := (keeps (Die.burstBusy · k (off.val / 64)) (fun _ _ _ _ => rfl)).trans hb
    have hmode : decLimits (d.decMode k) = (2, 2) := by rw [keeps (Die.decMode · k) (fun _ _ _ _ => rfl), hm]
    have hacc : d.stackAccess k ((0 : Fin 22) : Nat) off 8 none n ((0 : Fin 3) : Nat) =
        d.readBurst k (Die.entryOf 0 off 8 none) n 0 false :=
      Die.stackAccess_taken (by decide) hclosed (by decide) ha hbusy (fun h => absurd h (by decide)) n 0
    have hretries : ((d.atBurst k (Die.entryOf 0 off 8 none)).stack k).retries = (s.d.stack k).retries :=
      ((Die.Served.atBurst ..).retries k).trans (keeps (fun d => (d.stack k).retries) (fun _ _ _ _ => rfl))
    rw [hcoe, hacc, Die.readBurst_waits hmode h3 rfl] at he
    refine ⟨_, he, rfl, ?_, ?_⟩
    · rw [Die.updStk_mem, Die.respond_mem, Die.atBurst_mem, hmem]
    · have hany : (s.d.stack k).retries.any (fun x => decide (x.burst = off.val / 64)) = false := hb
      rw [Die.stack_updStk, if_pos rfl, Die.stack_respond]
      dsimp only
      rw [hretries]
      exact if_neg (by rw [Die.entryOf, hany]; exact Bool.false_ne_true)
  case again =>
    have hread : (s.d.retried k l).readBurst k r 0 0 true = ((s.d.retried k l).atBurst k r).respond
        (.ok (leNat (((s.d.bytes (k.val * 2 ^ 36 + r.burst * 64) 64).drop (r.off % 64)).take r.size))) := by
      rw [Die.readBurst_clean, Die.deliver_read hr hw]
      rfl
    refine ⟨_, exec_readRetry_again hlive hret hfresh hdbg 0 hread, ?_, rfl, ?_⟩
    · rw [State.onD_d, Die.stack_respond, (Die.Served.atBurst ..).retries, Die.stack_retried]
    · rw [State.onD_d, Die.respond_mem, Die.atBurst_mem]
      rfl
  case fails =>
    refine ⟨_, exec_readRetry_again hlive hret hfresh hdbg n (Die.readBurst_fails hm h3 hr), ?_, rfl, ?_, ?_, ?_⟩
    · rw [State.onD_d, Die.stack_respond, Die.noteUe, Die.stack_updStk, if_pos rfl]
      dsimp only
      rw [Die.chanAdd, Die.stack_updStk, if_pos rfl, Die.stack_count]
      dsimp only
      rw [(Die.Served.atBurst ..).retries, Die.stack_retried]
    · rw [State.onD_d, Die.stack_respond, Die.noteUe, Die.stack_updStk, if_pos rfl]
    · rw [State.onD_d, Die.stack_respond, Die.noteUe, Die.stack_updStk, if_pos rfl]
    · rw [State.onD_d, Die.respond_mem, Die.noteUe, Die.updStk_mem, Die.chanAdd, Die.updStk_mem, Die.count_mem, Die.atBurst_mem]
      rfl
  case stale => exact exec_correctiveWrite hlive hcorr (if_pos hst)
  case written =>
    obtain ⟨d, hd⟩ : ∃ d, d = s.d.updStk k (fun x => { x with corrs := l }) := ⟨_, rfl⟩
    have hbyte (x : Nat) : d.byte x = s.d.byte x := by rw [hd]; rfl
    have hw : s.d.correctOldest k c l = d.writeBurst k c.burst c.data := by
      rw [hd, Die.correctOldest, if_neg (by rw [hst]; exact Bool.false_ne_true)]
    refine ⟨_, exec_correctiveWrite hlive hcorr hw, ?_, fun x hx => ?_⟩
    · have hb := Die.bytes_eq (d := d.writeBurst k c.burst c.data) (a := k.val * 2 ^ 36 + c.burst * 64) (bs := c.data) (fun i hi => by
        rw [Die.byte_writeBurst rfl, if_pos (by omega), Nat.add_sub_cancel_left])
      rwa [hlen] at hb
    · rw [State.onD_d, Die.byte_writeBurst rfl, if_neg (by omega), hbyte]

end Sys2Proof
end

section
/-!
PROOFS. The upkeep of a stack: bring-up, refresh, scrub and temperature (08 R247-R251).
-/

namespace Sys2Proof.Machine

variable {d : Die} {k : Nat}

/-! ## Bring-up -/

/-- The eyes and failed pins are recorded channel by channel, and nothing else of a stack's service changes. -/
theorem Die.Served.setEyes (d : Die) (k : Nat) (pins eyes : List (Nat × Nat)) : Die.Served d (d.setEyes k pins eyes) := by
  unfold Die.setEyes
  exact Die.Served.foldl (fun d c => .updStk d k _ ⟨rfl, rfl, rfl, rfl⟩) (List.range 128) d

theorem Die.setEyes_mem (pins eyes : List (Nat × Nat)) : (d.setEyes k pins eyes).mem = d.mem := by
  unfold Die.setEyes
  refine foldl_keeps Die.mem (fun _ _ => ?_) (List.range 128) d
  rfl

/-- An untrained stack without a failure is trained, and zeroed unless its contents stood in self-refresh. -/
theorem Die.bringUp_trained (ht : (d.stack k).trained = false) (hf : (d.stack k).failed = false) {chans : List Nat}
    {pins eyes : List (Nat × Nat)} (hok : anyFailed chans pins = false) :
    ((d.bringUp k chans pins eyes).stack k).trained = true ∧ ((d.bringUp k chans pins eyes).stack k).selfRefresh = false ∧
    ∀ x, (d.bringUp k chans pins eyes).byte x =
      if (d.stack k).selfRefresh = false ∧ k * 2 ^ 36 ≤ x ∧ x < k * 2 ^ 36 + 2 ^ 36 then 0 else d.byte x := by
  obtain ⟨e, he⟩ : ∃ e, e = d.setEyes k pins eyes := ⟨_, rfl⟩
  have hmem : e.mem = d.mem := by rw [he, Die.setEyes_mem]
  have hb : d.bringUp k chans pins eyes =
      (if (d.stack k).selfRefresh then e else e.zeroBytes (k * 2 ^ 36) (2 ^ 36)).updStk k (fun k => { k with trained := true, selfRefresh := false }) := by
    unfold Die.bringUp
    dsimp only
    rw [if_neg (by simp [ht, hf]), hok, ← he, if_neg Bool.false_ne_true]
  have hx (x : Nat) : e.byte x = d.byte x := by rw [Die.byte, hmem, Die.byte]
  have hupd (f : Die) (g : Stk → Stk) (x : Nat) : (f.updStk k g).byte x = f.byte x := rfl
  rw [hb]
  refine ⟨?_, ?_, fun x => ?_⟩
  · rw [Die.stack_updStk, if_pos rfl]
  · rw [Die.stack_updStk, if_pos rfl]
  · rw [hupd]
    by_cases hs : (d.stack k).selfRefresh
    · rw [if_pos hs, if_neg (by simp [hs]), hx]
    · rw [if_neg hs, Die.byte_zeroBytes, hx]
      exact if_congr (by simp [hs]) rfl rfl

/-- With a failed channel or pin the stack is failed, and keeps what it holds. -/
theorem Die.bringUp_failed (ht : (d.stack k).trained = false) (hf : (d.stack k).failed = false) {chans : List Nat}
    {pins eyes : List (Nat × Nat)} (hbad : anyFailed chans pins = true) :
    ((d.bringUp k chans pins eyes).stack k).failed = true ∧ ((d.bringUp k chans pins eyes).stack k).trained = false ∧
    (d.bringUp k chans pins eyes).mem = d.mem := by
  obtain ⟨e, he⟩ : ∃ e, e = d.setEyes k pins eyes := ⟨_, rfl⟩
  have hserved : Die.Served d e := by
    rw [he]
    exact .setEyes ..
  have hmem : e.mem = d.mem := by rw [he, Die.setEyes_mem]
  have hb : d.bringUp k chans pins eyes = e.updStk k (fun k => { k with failed := true, selfRefresh := false }) := by
    unfold Die.bringUp
    dsimp only
    rw [if_neg (by simp [ht, hf]), if_pos hbad, he]
  rw [hb, Die.stack_updStk, if_pos rfl]
  exact ⟨rfl, (hserved.trained k).trans ht, by rw [Die.updStk_mem, hmem]⟩

/-! ## Refresh, scrub and temperature -/

/-- A refresh of the bank with key `b`, with accesses queued at it or not. -/
def Die.refreshed (d : Die) (k b : Nat) (queued : Bool) : Die :=
  if !queued then d.updStk k (fun x => { x with postponed := sset x.postponed 0 b 0 })
  else if sget (d.stack k).postponed 0 b < 8 then
    d.updStk k (fun x => { x with postponed := sset x.postponed 0 b (sget (d.stack k).postponed 0 b + 1) })
  else d.count (pgStk k) 0xA

theorem exec_refresh {s : State} {k : StackNo} (hl : s.d.live (64 + k.val) = true) (ht : (s.d.stack k).trained = true)
    (hs : (s.d.stack k).selfRefresh = false) (ch : Fin 128) (bank : Fin 32) (queued : Bool) :
    exec (.refresh k ch bank queued) s = .next (s.onD (fun d => d.refreshed k (ch.val * 32 + bank.val)
      (queued || (d.stack k).retries.any (fun r => decide (bankKey r.burst = ch.val * 32 + bank.val))))) := by
  have he : exec (.refresh k ch bank queued) s = s.at_ (64 + k.val) (fun d =>
      if (d.stack k).trained = false ∨ (d.stack k).selfRefresh then d
      else d.refreshed k (ch.val * 32 + bank.val)
        (queued || (d.stack k).retries.any (fun r => decide (bankKey r.burst = ch.val * 32 + bank.val)))) := rfl
  rw [exec_at_live he hl]
  exact State.next_onD_congr (if_neg (by simp [ht, hs]))

/-- The scrubber reads its burst, which has no symbol in error, and moves on. -/
theorem Die.scrub_clean (b : Nat) : d.readBurst k { burst := b, off := b * 64, reader := 2 } 0 0 false = d.openBank k b := by
  rw [Die.readBurst_clean]
  rfl

/-- The scrubber's position after its burst `b`, and the end of a round. -/
def Die.scrubMoved (d : Die) (k b : Nat) : Die :=
  (if b + 1 = 2 ^ 30 then d.count (pgStk k) 8 else d).updStk k (fun x => { x with scrubPos := (b + 1) % 2 ^ 30 })

theorem Die.scrubMoved_spec (b : Nat) : ((d.scrubMoved k b).stack k).scrubPos = (b + 1) % 2 ^ 30 ∧ (d.scrubMoved k b).mem = d.mem := by
  unfold Die.scrubMoved
  rw [Die.stack_updStk, if_pos rfl, Die.updStk_mem]
  refine ⟨rfl, ?_⟩
  split
  · exact Die.count_mem ..
  · rfl

theorem exec_stackScrub {s : State} {k : StackNo} (hl : s.d.live (64 + k.val) = true) (hc : s.d.stackClosed k = false)
    (hen : bit (s.d.reg (pgStk k) 0x104) 0 = true) :
    exec (.stackScrub k 0 0) s = .next (s.onD (fun d => (d.openBank k (d.stack k).scrubPos).scrubMoved k (d.stack k).scrubPos)) := by
  have he : exec (.stackScrub k 0 0) s = s.at_ (64 + k.val) (fun d =>
      if d.stackClosed k ∨ bit (d.reg (pgStk k) 0x104) 0 = false then d
      else (d.readBurst k { burst := (d.stack k).scrubPos, off := (d.stack k).scrubPos * 64, reader := 2 } 0 0 false).scrubMoved k
        (d.stack k).scrubPos) := rfl
  rw [exec_at_live he hl]
  refine State.next_onD_congr ?_
  rw [if_neg (by simp [hc, hen]), Die.scrub_clean]

end Sys2Proof.Machine

namespace Sys2Proof
open Machine

/-- Settles O30: each upkeep command through its case of what it does to the stack's record. -/
theorem stackUpkeep : Obligations.stack_upkeep := by
  unfold Obligations.stack_upkeep
  intro s k hl
  refine ⟨fun eyes ht hf => ⟨fun chans pins es hok => ?trained, fun chans pins es hbad => ?failed⟩,
    fun ch bank p hp ht hs => ⟨fun hidle => ?idle, fun hlt => ?postponed, fun hge => ?forced⟩,
    fun hc hen hpos => ?scrub, fun t => ⟨fun h => ?hot, fun h => ?warm⟩⟩
  case trained =>
    obtain ⟨h1, h2, h3⟩ := Die.bringUp_trained ht hf (eyes := eyes) hok
    exact ⟨_, congrArg Host.Outcome.next (if_pos hl), h1, h2, h3⟩
  case failed =>
    obtain ⟨h1, h2, h3⟩ := Die.bringUp_failed ht hf (eyes := eyes) hbad
    exact ⟨_, congrArg Host.Outcome.next (if_pos hl), h1, h2, h3⟩
  case idle =>
    have hany : (s.d.stack k).retries.any (fun r => decide (bankKey r.burst = ch.val * 32 + bank.val)) = false := by
      rw [List.any_eq_false]
      intro r hr
      have := List.all_eq_true.1 hidle r hr
      simpa using this
    refine (exec_refresh hl ht hs ch bank false).trans (State.next_onD_congr ?_)
    rw [hany]
    rfl
  case postponed =>
    refine (exec_refresh hl ht hs ch bank true).trans (State.next_onD_congr ?_)
    rw [Bool.true_or, Die.refreshed, if_neg (by decide), ← hp, if_pos hlt]
  case forced =>
    refine (exec_refresh hl ht hs ch bank true).trans (State.next_onD_congr ?_)
    rw [Bool.true_or, Die.refreshed, if_neg (by decide), ← hp, if_neg (Nat.not_lt.2 hge)]
  case scrub =>
    obtain ⟨h1, h2⟩ := Die.scrubMoved_spec (d := s.d.openBank k (s.d.stack k).scrubPos) (k := k) (s.d.stack k).scrubPos
    exact ⟨_, exec_stackScrub hl hc hen, h1, h2.trans (Die.mem_openBank ..)⟩
  case hot =>
    exact (exec_at_live (f := fun d => if (d.stack k).hot = decide (105 ≤ t) then d else d.stackTemp k t) rfl hl).trans
      (State.next_onD_congr (if_neg h))
  case warm =>
    exact (exec_at_live (f := fun d => if (d.stack k).warm = decide (85 ≤ t) then d else d.stackTemp k t) rfl hl).trans
      (State.next_onD_congr (if_neg h))

end Sys2Proof
end

section
/-!
PROOFS. The host window of the Vat, and its scrubbers (05 R152, R158-R160).
-/

namespace Sys2Proof.Machine

/-! ## Counters alone -/

/-- `e` is `d` but for its counters. -/
def Die.Counted (d e : Die) : Prop := ∃ c, e = { d with ctr := c }

namespace Die.Counted

variable {d e : Die}

theorem refl (d : Die) : Die.Counted d d := ⟨d.ctr, rfl⟩

theorem trans {f : Die} (h : Die.Counted d e) (h' : Die.Counted e f) : Die.Counted d f := by
  obtain ⟨c, rfl⟩ := h
  obtain ⟨c', rfl⟩ := h'
  exact ⟨c', rfl⟩

theorem count (d : Die) (p i n : Nat) : Die.Counted d (d.count p i n) := ⟨_, rfl⟩

/-- A walk that counts. -/
theorem foldl {β : Type} {f : Die → β → Die} (h : ∀ d b, Die.Counted d (f d b)) (l : List β) (d : Die) :
    Die.Counted d (l.foldl f d) := by
  induction l generalizing d with
  | nil => exact refl d
  | cons b t ih => exact (h d b).trans (ih _)

/-- Part of the die that is not a counter. -/
theorem keeps (h : Die.Counted d e) {α : Type} (g : Die → α) (hg : ∀ (d : Die) c, g { d with ctr := c } = g d) : g e = g d := by
  obtain ⟨c, rfl⟩ := h
  exact hg ..

end Die.Counted

/-! ## The slots of a route -/

/-- Two dies whose plans and entries give every output the same free slots map a route alike. -/
theorem Die.mapRoute_congr {d e : Die} (h : ∀ n o s, e.slotFree n o s = d.slotFree n o s) (okL : Nat → Bool)
    (route : List (Nat × Nat)) (port skip : Nat) (ps : List Nat) : e.mapRoute okL route port skip ps = d.mapRoute okL route port skip ps := by
  have hslots (n o skip : Nat) (ps : List Nat) : e.mapSlots n o skip okL ps = d.mapSlots n o skip okL ps := by
    simp only [Die.mapSlots, Die.nextSlot, h]
  induction route generalizing port skip ps with
  | nil => rfl
  | cons x t ih => simp only [Die.mapRoute, hslots, ih]

theorem Die.mapBest_congr {d e : Die} (h : ∀ n o s, e.slotFree n o s = d.slotFree n o s) (hedge : ∀ n p, e.edgeFree n p = d.edgeFree n p)
    (hroom : ∀ route k, e.seamRoom route k = d.seamRoom route k) (route : List (Nat × Nat)) (src : Nat × Nat) (okL : Nat → Bool) (k : Nat) :
    e.mapBest route src okL k = d.mapBest route src okL k := by
  have hfrom (k : Nat) : e.mapFrom route src okL k = d.mapFrom route src okL k := by
    simp only [Die.mapFrom, h, hedge, Die.mapRoute_congr h]
  induction k with
  | zero => rfl
  | succ k ih => simp only [Die.mapBest, hroom, hfrom, ih]

/-- Counters and the arbiter have no part in whether a window circuit can open. -/
theorem Die.windowServed_transfer (d : Die) (c : Carb) (x : Store DWord) (off : Nat) (okL : Nat → Bool) :
    ({ d with carb := c, ctr := x } : Die).windowServed off okL = d.windowServed off okL := by
  have hm := Die.mapBest_congr (d := d) (e := { d with carb := c, ctr := x }) (fun _ _ _ => rfl) (fun _ _ => rfl) (fun _ _ => rfl)
  unfold Die.windowServed Die.oneShot
  simp only [hm]
  rfl

/-! ## The window -/

section
variable {s : State} {ini : Ini} {off : Nat}

/-- A granted access of a requester other than the debug port, over an open control plane. -/
theorem State.window_served (hl : s.d.live (iniIsland ini) = true) (hg : s.d.hasGrant ini = true)
    (hp : s.d.planeClosed ini 0 = false) (hi : ini.val ≠ 16) (wr : Bool) (f : Die → Die) :
    s.window ini off wr f = .next ((s.transfer ini).onD f) := by
  unfold State.window
  rw [if_neg (by simp [hl, hg])]
  dsimp only
  rw [if_neg (by simp [iniDebug, hi])]
  unfold State.windowed
  dsimp only
  rw [hp]
  rfl

theorem State.transfer_a (hi : ini.val ≠ 16) : (s.transfer ini).a = s.a := if_neg hi

end

section
variable {d : Die} {off n : Nat}

/-- A circuit of one slot that carries a window access loses no flit and counts. -/
theorem Die.oneShotRun_whole (a m k : Nat) : ∃ e, d.oneShotRun a m k none = (e, false) ∧ Die.Counted d e := by
  unfold Die.oneShotRun
  refine ⟨_, rfl, ?_⟩
  refine Die.Counted.trans ?_ (.foldl (fun _ _ => .count ..) _ _)
  unfold Die.countCircuit
  dsimp only
  split
  · exact (Die.Counted.count ..).trans (.count ..)
  · exact .count ..

/-- A read of a clean line answers the payload bytes. -/
theorem Die.windowRead_clean (ho : d.windowOpen off n = true) (hs : d.windowServed off (d.windowSlot off) = true) :
    ∃ e, d.windowRead off n none none = e.respond (.ok (leNat (d.bytes (vatBase + off) n))) ∧ Die.Counted d e := by
  obtain ⟨e, he, hc⟩ := d.oneShotRun_whole (windowStack (off / 2 ^ 21)) (off / 2 ^ 21) 1
  have hb : (e.count (pgCore (off / 2 ^ 21)) 0x45).bytes (vatBase + off) n = d.bytes (vatBase + off) n :=
    hc.keeps (Die.bytes · (vatBase + off) n) (fun _ _ => rfl)
  refine ⟨e.count (pgCore (off / 2 ^ 21)) 0x45, ?_, hc.trans (.count ..)⟩
  rw [← hb]
  unfold Die.windowRead
  dsimp only
  rw [ho, hs, he]
  rfl

/-- A write of a clean line that its frame takes stores its bytes. -/
theorem Die.windowWrite_clean (ho : d.windowOpen off n = true) (hw : d.hostWrites (off / 4096) = true)
    (hs : d.windowServed off (d.windowSlot off) = true) (v : Nat) :
    ∃ e, d.windowWrite off n v none none =
      (((e.setBytes (vatBase + off) (leBytes n v)).dirtyFrame (off / 4096)).count (pgCore (off / 2 ^ 21)) 0x46).respond (.ok 0) ∧
      Die.Counted d e := by
  obtain ⟨e, he, hc⟩ := d.oneShotRun_whole (windowStack (off / 2 ^ 21)) (off / 2 ^ 21) 1
  refine ⟨e, ?_, hc⟩
  unfold Die.windowWrite
  dsimp only
  rw [ho, hs, hw, he]
  rfl

/-- A write into a frame marks its page and changes no payload byte and no side band. -/
theorem Die.dirtyFrame_keeps (g : Nat) : (d.dirtyFrame g).mem = d.mem ∧ (d.dirtyFrame g).side = d.side := by
  unfold Die.dirtyFrame
  split
  · exact ⟨rfl, rfl⟩
  · unfold Die.updObj
    split <;> exact ⟨rfl, rfl⟩

theorem Die.windowWrite_refused (ho : d.windowOpen off n = true) (hw : d.hostWrites (off / 4096) = false) (v : Nat)
    (err : Option Bool) (drop : Option Nat) : d.windowWrite off n v err drop = d.hostRefused (off / 2 ^ 21) := by
  unfold Die.windowWrite
  dsimp only
  rw [ho, hw]
  rfl

theorem Die.windowRead_shut (ho : d.windowOpen off n = false) (hl : d.live (islOf (off / 2 ^ 21)) = true) (err : Option Bool)
    (drop : Option Nat) : d.windowRead off n err drop = d.hostRefused (off / 2 ^ 21) := by
  unfold Die.windowRead
  dsimp only
  rw [ho]
  exact if_pos hl

/-- A slice under its reset scrub serves no window access. -/
theorem Die.windowServed_busy (hb : (d.slice (off / 2 ^ 21)).busy = true) (okL : Nat → Bool) : d.windowServed off okL = false := by
  unfold Die.windowServed
  dsimp only
  rw [hb]
  rfl

end

end Sys2Proof.Machine

namespace Sys2Proof
open Machine

/-- Settles O31: a window access is a transfer, then what `Die.windowRead` and `Die.windowWrite` do. -/
theorem vatWindow : Obligations.vat_window := by
  unfold Obligations.vat_window
  intro s ini off n hl hg hp hi
  have served (wr : Bool) (f : Die → Die) := State.window_served (off := off) hl hg hp hi wr f
  have keeps {α : Type} (g : Die → α) (h : ∀ (d : Die) c x, g { d with carb := c, ctr := x } = g d) := s.transfer_keeps g h ini
  obtain ⟨u, hu⟩ : ∃ u, u = s.transfer ini := ⟨_, rfl⟩
  have hua : u.a = s.a := by rw [hu, State.transfer_a hi]
  have hup : u.pending = s.pending := by rw [hu]; rfl
  rw [← hu] at served keeps ⊢
  have hmem : u.d.mem = s.d.mem := keeps Die.mem (fun _ _ _ => rfl)
  have hside : u.d.side = s.d.side := keeps Die.side (fun _ _ _ => rfl)
  have hopen : u.d.windowOpen off n = s.d.windowOpen off n := keeps (Die.windowOpen · off n) (fun _ _ _ => rfl)
  have hserved : u.d.windowServed off (u.d.windowSlot off) = s.d.windowServed off (s.d.windowSlot off) :=
    keeps (fun d => d.windowServed off (d.windowSlot off)) (fun d c x => Die.windowServed_transfer d c x off _)
  have hwrites : u.d.hostWrites (off.val / 4096) = s.d.hostWrites (off.val / 4096) := keeps (Die.hostWrites · (off.val / 4096)) (fun _ _ _ => rfl)
  have hlive : u.d.live (islOf (off.val / 2 ^ 21)) = s.d.live (islOf (off.val / 2 ^ 21)) := keeps (Die.live · (islOf (off.val / 2 ^ 21))) (fun _ _ _ => rfl)
  refine ⟨fun ho hs => ⟨?read, fun hw v hv => ?write⟩, fun ho hw v err drop => ?refused, fun ho hr err drop => ?shut, fun hr hb => ?timeout⟩
  case read =>
    obtain ⟨e, he, hc⟩ := Die.windowRead_clean (hopen.trans ho) (hserved.trans hs)
    refine ⟨_, (served false (fun d => d.windowRead off n none none)).trans (State.next_onD_congr (g := fun _ =>
      e.respond (.ok (leNat (u.d.bytes (vatBase + off) n)))) he), ?_, ?_, ?_, hua, hup⟩
    · rw [Die.bytes, hmem, ← Die.bytes]
      rfl
    · exact (hc.keeps Die.mem (fun _ _ => rfl)).trans hmem
    · exact (hc.keeps Die.side (fun _ _ => rfl)).trans hside
  case write =>
    obtain ⟨e, he, hc⟩ := Die.windowWrite_clean (hopen.trans ho) (hwrites.trans hw) (hserved.trans hs) v
    have hbyte (x : Nat) : e.byte x = s.d.byte x := by
      rw [Die.byte, hc.keeps Die.mem (fun _ _ => rfl), hmem, Die.byte]
    obtain ⟨hm, hsd⟩ := Die.dirtyFrame_keeps (d := e.setBytes (vatBase + off) (leBytes n v)) (off.val / 4096)
    obtain ⟨f, hf⟩ : ∃ f, f = (e.setBytes (vatBase + off) (leBytes n v)).dirtyFrame (off.val / 4096) := ⟨_, rfl⟩
    rw [← hf] at he hm hsd
    have hfbyte (x : Nat) : f.byte x = if vatBase + off.val ≤ x ∧ x < vatBase + off.val + n
        then (leBytes n v).getD (x - (vatBase + off.val)) 0 else s.d.byte x := by
      rw [Die.byte, hm, ← Die.byte, Die.byte_setBytes, length_leBytes, hbyte]
    refine ⟨_, (served true (fun d => d.windowWrite off n v none none)).trans (State.next_onD_congr (g := fun _ =>
      (f.count (pgCore (off / 2 ^ 21)) 0x46).respond (.ok 0)) he), rfl, ?_, ?_, fun x hx => ?_⟩
    · have hb := Die.bytes_eq (d := f) (a := vatBase + off.val) (bs := leBytes n v) (fun i hi => by
        rw [length_leBytes] at hi
        rw [hfbyte, if_pos (by omega), Nat.add_sub_cancel_left])
      rw [length_leBytes] at hb
      exact hb
    · exact hsd.trans ((hc.keeps Die.side (fun _ _ => rfl)).trans hside)
    · exact (hfbyte x).trans (if_neg (by omega))
  case refused =>
    exact (served true _).trans (State.next_onD_congr (Die.windowWrite_refused (hopen.trans ho) (hwrites.trans hw) v err _))
  case shut =>
    exact (served false _).trans (State.next_onD_congr (Die.windowRead_shut (hopen.trans ho) (hlive.trans hr) err _))
  case timeout =>
    refine (served false _).trans (State.next_onD_congr (if_pos ⟨hlive.trans hr, ?_⟩))
    rw [Die.windowServed_busy (by rw [keeps (Die.slice · (off.val / 2 ^ 21)) (fun _ _ _ => rfl), hb])]
    rfl

/-- Settles O32: both commands of an island that runs. -/
theorem scrubbers : Obligations.scrubbers := by
  unfold Obligations.scrubbers
  intro s n hl
  refine ⟨fun hen hb hslot => ?_, exec_at_live (f := fun d => d.updSlice n (fun v => { v with busy := false })) rfl hl⟩
  have he : exec (.patrolScrub n none) s = s.at_ (islOf n) (fun d =>
      if !bit (d.reg (pgCore n) 0x800) 1 ∨ (d.slice n).busy ∨
          !d.bankSlot n (bankOf (frameOf (n.val * 512 + (d.slice n).pos / 33))) (fun o => decide (o = 0)) then d
      else (d.count (pgCore n) 0x44).updSlice n (fun v => { v with pos := ((d.slice n).pos + 1) % (512 * 33) })) := rfl
  exact (exec_at_live he hl).trans (State.next_onD_congr (if_neg (by simp [hen, hb, hslot])))

end Sys2Proof
end

section
/-!
PROOFS. Felt queues (05 R153-R157).
-/

namespace Sys2Proof.Machine

/-- One more handle stands at the tail of queue `q` of island `i` in `e` than in `d`. -/
def Die.FeltTail (d e : Die) (i q : Nat) (h : Word) : Prop :=
  (e.feltQ i q).count = (d.feltQ i q).count + 1 ∧ (e.feltQ i q).head = (d.feltQ i q).head ∧
  sget e.feltMem 0 ((i * 256 + q) * 64 + ((d.feltQ i q).head + (d.feltQ i q).count) % 64) = h ∧
  (∀ k, k ≠ (i * 256 + q) * 64 + ((d.feltQ i q).head + (d.feltQ i q).count) % 64 → sget e.feltMem 0 k = sget d.feltMem 0 k)

variable {d e : Die} {i q : Nat}

theorem Die.feltQ_updFelt (f : FeltQ → FeltQ) : (d.updFelt i q f).feltQ i q = f (d.feltQ i q) := sget_sset_same ..

/-- A handle that is put goes to the tail of its queue. -/
theorem Die.feltTail_feltPut (h : Word) : Die.FeltTail d (d.feltPut i q h) i q h := by
  obtain ⟨c, hc⟩ : ∃ c, c = { d with feltMem := sset d.feltMem 0 ((i * 256 + q) * 64 + ((d.feltQ i q).head + (d.feltQ i q).count) % 64) h } := ⟨_, rfl⟩
  have hput : d.feltPut i q h = c.updFelt i q (fun x => { x with count := x.count + 1 }) := by
    rw [hc]
    rfl
  have hq : c.feltQ i q = d.feltQ i q := by rw [hc]; rfl
  have hm : (d.feltPut i q h).feltMem = sset d.feltMem 0 ((i * 256 + q) * 64 + ((d.feltQ i q).head + (d.feltQ i q).count) % 64) h := by
    rw [hput, hc]
    rfl
  refine ⟨?_, ?_, ?_, fun k hk => ?_⟩
  · rw [hput, Die.feltQ_updFelt, hq]
  · rw [hput, Die.feltQ_updFelt, hq]
  · rw [hm, sget_sset_same]
  · rw [hm, sget_sset_other _ _ _ _ hk]

/-- The queue stood the same before. -/
theorem Die.FeltTail.of_same {h : Word} (hf : e.felt = d.felt) (hm : e.feltMem = d.feltMem) {f : Die} (ht : Die.FeltTail e f i q h) :
    Die.FeltTail d f i q h := by
  have hq : e.feltQ i q = d.feltQ i q := by rw [Die.feltQ, hf, Die.feltQ]
  unfold Die.FeltTail at ht ⊢
  rwa [hq, hm] at ht

/-- A push that the queue takes, with room and nothing waiting for it. -/
theorem Die.feltPush_room {h : Word} {job : Option Nat} (hr : d.feltRefuses i q job = false) (hc : (d.feltQ i q).count < 64)
    (hw : ∀ m ∈ (d.island i).pushBuf, m.queue ≠ q) : d.feltPush i q h job = d.feltPut i q h := by
  unfold Die.feltPush
  dsimp only
  rw [hr, if_neg Bool.false_ne_true, if_pos ⟨hc, by simpa using hw⟩]

/-- A push that finds its queue full waits in the push buffer while that has room. -/
theorem Die.feltPush_full {h : Word} {job : Option Nat} (hr : d.feltRefuses i q job = false) (hc : 64 ≤ (d.feltQ i q).count)
    (hb : (d.island i).pushBuf.length < 64) : d.feltPush i q h job =
      d.updIsl i (fun x => { x with pushBuf := x.pushBuf ++ [{ queue := q, handle := h, job := job }] }) := by
  unfold Die.feltPush
  dsimp only
  rw [hr, if_neg Bool.false_ne_true, if_neg (fun h => absurd h.1 (Nat.not_lt.2 hc)), if_pos hb]

theorem Die.feltRefuses_host (hen : bit (d.feltQ i q).cfg 31 = true) : d.feltRefuses i q none = false := by
  unfold Die.feltRefuses
  dsimp only
  rw [hen]
  rfl

theorem Die.feltRefuses_job {j : Nat} (hen : bit (d.feltQ i q).cfg 31 = true) (hj : fld (d.feltQ i q).cfg 28 24 = j) :
    d.feltRefuses i q (some j) = false := by
  unfold Die.feltRefuses
  dsimp only
  rw [hen, hj]
  simp

/-- The first message at a node, if it is one of those asked for. -/
theorem Die.takeArr_first {n : Nat} {p : SbMsg → Bool} {m : SbMsg} {l : List SbMsg} (h : sget d.sbArr [] n = m :: l) (hp : p m = true) :
    d.takeArr n p = some (m, { d with sbArr := sset d.sbArr [] n l }) := by
  unfold Die.takeArr
  dsimp only
  rw [h, List.findIdx?_cons, hp]
  rfl

/-! ## The commands -/

/-- A push that the host has made. -/
theorem exec_push_served {s : State} {ini : Ini} {i : TileNo} (h : s.admits ini (pgIsl i) 0x44 = true) (q : Fin 256) (v : Word) :
    ∃ e : Die, exec (.push ini i q v) s = .next ((s.reached ini (pgIsl i)).onD (fun _ => e.hostPush i q v)) ∧
      e.felt = s.d.felt ∧ e.feltMem = s.d.feltMem ∧ e.isl = s.d.isl ∧ e.mem = s.d.mem ∧ e.resp = .ok 0 := by
  have keeps {α : Type} (g : Die → α) (hg : ∀ (d : Die) m c x r, g { d with trS := m, carb := c, ctr := x, resp := r } = g d) :=
    s.reached_keeps ini (pgIsl i) g hg
  refine ⟨_, (exec_cplD_served (f := fun d => (d.updHdr (pgIsl i) (fun h => { h with
      indSpace := 8, indAddr := word (q * 128 + (if bit (d.feltQ i q).cfg 31 then 3 else 2)), lastErr := !bit (d.feltQ i q).cfg 31 })).hostPush
        i q v) rfl h).trans (State.next_onD_congr rfl), ?_, ?_, ?_, ?_, ?_⟩
  · exact keeps Die.felt (fun _ _ _ _ _ => rfl)
  · exact keeps Die.feltMem (fun _ _ _ _ _ => rfl)
  · exact keeps Die.isl (fun _ _ _ _ _ => rfl)
  · exact keeps Die.mem (fun _ _ _ _ _ => rfl)
  · exact s.reached_resp ini (pgIsl i)

/-- The first push that has reached an island arrives at its queue. -/
theorem exec_feltPush_first {s : State} {i : TileNo} {m : SbMsg} {l : List SbMsg} {q j : Nat} {h : Word} (hl : s.d.live i = true)
    (harr : sget s.d.sbArr [] (islNode i) = m :: l) (hm : m.body = .felt q h j) (hq : q < 256) :
    exec (.feltPush i) s = .next (s.onD (fun d => (Die.hear { d with sbArr := sset d.sbArr [] (islNode i) l } i m.s).feltPush i q h (some j))) := by
  have he : exec (.feltPush i) s = s.at_ i (fun d =>
      match d.takeArr (islNode i) (fun m => match m.body with | .felt _ _ _ => true | _ => false) with
      | none => d
      | some (m, d) => match m.body with
        | .felt q h j => (d.hear i m.s).feltPush i (q % 256) h (some j)
        | _ => d) := rfl
  refine (exec_at_live he hl).trans (State.next_onD_congr ?_)
  rw [Die.takeArr_first harr (by rw [hm])]
  dsimp only
  rw [hm]
  dsimp only
  rw [Nat.mod_eq_of_lt hq]

/-- The first waiting push enters its queue, which has room and takes it. -/
theorem exec_feltPushBuffer_first {s : State} {i : TileNo} {m : FeltPushMsg} {l : List FeltPushMsg} (hl : s.d.live i = true)
    (hb : (s.d.island i).pushBuf = m :: l) (hc : (s.d.feltQ i m.queue).count < 64) (hr : s.d.feltRefuses i m.queue m.job = false) :
    exec (.feltPushBuffer i) s = .next (s.onD (fun d => (d.updIsl i (fun x => { x with pushBuf := l })).feltPut i m.queue m.handle)) := by
  have he : exec (.feltPushBuffer i) s = s.at_ i (fun d =>
      match (d.island i).pushBuf.findIdx? (fun m => decide ((d.feltQ i m.queue).count < 64)) with
      | none => d
      | some k => match (d.island i).pushBuf[k]? with
        | none => d
        | some m => if (d.updIsl i (fun x => { x with pushBuf := dropAt x.pushBuf k })).feltRefuses i m.queue m.job
            then (d.updIsl i (fun x => { x with pushBuf := dropAt x.pushBuf k })).feltDrop i m.queue
            else (d.updIsl i (fun x => { x with pushBuf := dropAt x.pushBuf k })).feltPut i m.queue m.handle) := rfl
  refine (exec_at_live he hl).trans (State.next_onD_congr ?_)
  have hu : s.d.updIsl i (fun x => { x with pushBuf := dropAt x.pushBuf 0 }) = s.d.updIsl i (fun x => { x with pushBuf := l }) := by
    rw [Die.updIsl, Die.updIsl, hb]
    rfl
  have hr' : (s.d.updIsl i (fun x => { x with pushBuf := l })).feltRefuses i m.queue m.job = false := hr
  have hfind : (m :: l).findIdx? (fun m => decide ((s.d.feltQ i m.queue).count < 64)) = some 0 := by
    simp [List.findIdx?_cons, hc]
  rw [hb, hfind]
  dsimp only [List.getElem?_cons_zero]
  rw [hu, hr']
  exact if_neg Bool.false_ne_true

end Sys2Proof.Machine

namespace Sys2Proof
open Machine

/-- Settles O33: a push is put at the tail, or waits in the push buffer, by the case of `Die.feltPush`. -/
theorem feltQueues : Obligations.felt_queues := by
  unfold Obligations.felt_queues
  intro tail s i
  refine ⟨fun ini q v h => ⟨fun hen hc hw => ?pushed, fun hen => ?refused⟩,
    fun m l q h j hl harr hm hq hen hj => ⟨fun hc hw => ?arrived, fun hc hb => ?waits⟩, fun m l hl hb hc hr => ?entered⟩
  case pushed =>
    obtain ⟨e, he, hfelt, hfm, hisl, hmem, hresp⟩ := exec_push_served h q v
    have hq : e.feltQ i q = s.d.feltQ i q := by rw [Die.feltQ, hfelt, Die.feltQ]
    have hi : e.island i = s.d.island i := by rw [Die.island, hisl, Die.island]
    have hen' : bit (e.feltQ i q).cfg 31 = true := by rw [hq, hen]
    have hput : e.hostPush i q v = e.feltPut i q v := by
      rw [Die.hostPush, if_pos hen', Die.feltPush_room (Die.feltRefuses_host hen') (by rw [hq]; exact hc) (by rw [hi]; exact hw)]
    rw [hput] at he
    exact ⟨_, he, Die.feltTail_feltPut v |>.of_same hfelt hfm, hresp, hmem⟩
  case refused =>
    obtain ⟨e, he, hfelt, hfm, hisl, hmem, hresp⟩ := exec_push_served h q v
    have hq : e.feltQ i q = s.d.feltQ i q := by rw [Die.feltQ, hfelt, Die.feltQ]
    have href : e.hostPush i q v = e.respond .busError := if_neg (by rw [hq, hen]; exact Bool.false_ne_true)
    rw [href] at he
    exact ⟨_, he, rfl, hfelt, hfm⟩
  case arrived =>
    obtain ⟨e, he⟩ : ∃ e : Die, e = Die.hear { s.d with sbArr := sset s.d.sbArr [] (islNode i) l } i m.s := ⟨_, rfl⟩
    have hput : e.feltPush i q h (some j) = e.feltPut i q h := by
      rw [he]
      exact Die.feltPush_room (Die.feltRefuses_job hen hj) hc hw
    refine ⟨_, (exec_feltPush_first hl harr hm hq).trans (State.next_onD_congr (g := fun _ => e.feltPut i q h) ?_), ?_, ?_⟩
    · rw [← hput, he]
    · exact (Die.feltTail_feltPut h).of_same (by rw [he]; rfl) (by rw [he]; rfl)
    · have harr' : (e.feltPut i q h).sbArr = sset s.d.sbArr [] (islNode i) l := by rw [he]; rfl
      rw [State.onD_d, harr', sget_sset_same]
  case waits =>
    obtain ⟨e, he⟩ : ∃ e : Die, e = Die.hear { s.d with sbArr := sset s.d.sbArr [] (islNode i) l } i m.s := ⟨_, rfl⟩
    have hbuf : e.feltPush i q h (some j) =
        e.updIsl i (fun x => { x with pushBuf := x.pushBuf ++ [{ queue := q, handle := h, job := some j }] }) := by
      rw [he]
      exact Die.feltPush_full (Die.feltRefuses_job hen hj) hc hb
    refine ⟨_, (exec_feltPush_first hl harr hm hq).trans (State.next_onD_congr (g := fun _ =>
      e.updIsl i (fun x => { x with pushBuf := x.pushBuf ++ [{ queue := q, handle := h, job := some j }] })) ?_), ?_, ?_⟩
    · rw [← hbuf, he]
    · have hi : e.island i = s.d.island i := by rw [he]; rfl
      rw [State.onD_d, Die.island_updIsl, if_pos rfl, hi]
    · have hfm : e.feltMem = s.d.feltMem := by rw [he]; rfl
      exact hfm
  case entered =>
    refine ⟨_, exec_feltPushBuffer_first hl hb hc hr, ?_, ?_⟩
    · exact (Die.feltTail_feltPut m.handle).of_same rfl rfl
    · have hi : ((s.d.updIsl i (fun x => { x with pushBuf := l })).feltPut i m.queue m.handle).island i =
          (s.d.updIsl i (fun x => { x with pushBuf := l })).island i := rfl
      rw [State.onD_d, hi, Die.island_updIsl, if_pos rfl]

end Sys2Proof
end

section
/-!
PROOFS. The canonical form of memory under the commands that reach it (08 R242, 05 R158).
-/

namespace Sys2Proof.Machine

/-- An effect on the die after which memory is in canonical form when it was before. -/
def Die.KeepsForm (f : Die → Die) : Prop := ∀ d : Die, Memory.wf d.mem = true → Memory.wf (f d).mem = true

/-- A command that keeps the canonical form. -/
def Instr.KeepsForm (c : Instr) : Prop := ∀ s t : State, Memory.wf s.d.mem = true → exec c s = .next t → Memory.wf t.d.mem = true

/-! ## Commands by their shape -/

section
variable {c : Instr}

theorem Instr.KeepsForm.of_at {i : Nat} {f : Die → Die} (hc : ∀ s, exec c s = s.at_ i f) (hf : Die.KeepsForm f) : Instr.KeepsForm c := by
  intro s t h ht
  rw [hc, State.at_] at ht
  split at ht
  · cases ht
    exact hf _ h
  · cases ht
    exact h

theorem Instr.KeepsForm.of_window {ini off : Nat} {wr : Bool} {f : Die → Die} (hc : ∀ s, exec c s = s.window ini off wr f)
    (hf : Die.KeepsForm f) : Instr.KeepsForm c := by
  intro s t h ht
  have htr : (s.transfer ini).d.mem = s.d.mem := s.transfer_keeps Die.mem (fun _ _ _ => rfl) ini
  have hw : Memory.wf (s.windowed ini off wr f).d.mem = true := by
    unfold State.windowed
    dsimp only
    split
    · dsimp only
      split
      · rw [Die.hostRefused, Die.refuse, Die.respond_mem, Die.count_mem, htr]
        exact h
      · rw [Die.refuse, Die.respond_mem, htr]
        exact h
    · refine hf _ ?_
      rw [htr]
      exact h
  rw [hc, State.window] at ht
  split at ht
  · cases ht
    exact h
  · dsimp only at ht
    cases ht
    split
    · exact hw
    · exact hw

end

/-! ## The window and the scrubbers -/

section
variable {d : Die}

/-- Poison goes to the side band, the counters and the slice's record. -/
theorem Die.markPoison_mem (g : Nat) (p : Poison) (attempt : Nat) : (d.markPoison g p attempt).mem = d.mem := by
  unfold Die.markPoison
  split
  · split <;> rfl
  · rfl

theorem Die.hostReads_mem (g l : Nat) (err : Option Bool) : (d.hostReads g l err).1.mem = d.mem := by
  cases err with
  | none => rfl
  | some ue =>
    cases ue with
    | false => rfl
    | true => exact Die.markPoison_mem ..

theorem Die.noteDrop_mem (n stream : Nat) : (d.noteDrop n stream).mem = d.mem := by
  unfold Die.noteDrop
  rw [Die.trace_keeps Die.mem (fun _ _ _ _ _ _ => rfl), Die.islErr, Die.trace_keeps Die.mem (fun _ _ _ _ _ _ => rfl)]
  rfl

theorem Die.Counted.circuit (d : Die) (route : List (Nat × Nat)) (k : Nat) (l : List Nat) :
    Die.Counted d (l.foldl (fun d m => d.count (pgIsl (islOf m)) 0xA k) (d.countCircuit route)) := by
  refine Die.Counted.trans ?_ (.foldl (fun _ _ => .count ..) _ _)
  unfold Die.countCircuit
  dsimp only
  split
  · exact (Die.Counted.count ..).trans (.count ..)
  · exact .count ..

theorem Die.oneShotRun_mem (a n k : Nat) (v : Option Nat) : (d.oneShotRun a n k v).1.mem = d.mem := by
  have hc (l : List Nat) := (Die.Counted.circuit d (fillRoute a n) k l).keeps Die.mem (fun _ _ => rfl)
  unfold Die.oneShotRun
  dsimp only
  split
  · exact hc _
  · rw [Die.noteDrop_mem]
    exact hc _

theorem Die.windowShut_mem (n : Nat) : (d.windowShut n).mem = d.mem := by
  unfold Die.windowShut
  split <;> rfl

theorem Die.windowWait_mem (off : Nat) : (d.windowWait off).mem = d.mem := by
  unfold Die.windowWait
  split <;> rfl

theorem Die.windowRead_mem (off size : Nat) (err : Option Bool) (drop : Option Nat) : (d.windowRead off size err drop).mem = d.mem := by
  unfold Die.windowRead
  dsimp only
  split
  · exact Die.windowShut_mem ..
  split
  · exact Die.windowWait_mem ..
  split
  · exact Die.oneShotRun_mem ..
  split
  · exact (Die.hostReads_mem ..).trans (Die.oneShotRun_mem ..)
  · exact (Die.hostReads_mem ..).trans (Die.oneShotRun_mem ..)

theorem Die.keepsForm_windowWrite (off size v : Nat) (err : Option Bool) (drop : Option Nat) :
    Die.KeepsForm (fun d => d.windowWrite off size v err drop) := by
  intro d h
  have hread (a n k g l : Nat) : Memory.wf ((d.oneShotRun a n k drop).1.hostReads g l err).1.mem = true := by
    rw [Die.hostReads_mem, Die.oneShotRun_mem]
    exact h
  unfold Die.windowWrite
  dsimp only
  split
  · rw [Die.windowShut_mem]
    exact h
  split
  · exact h
  split
  · rw [Die.windowWait_mem]
    exact h
  split
  · rw [Die.refuse, Die.respond_mem, Die.oneShotRun_mem]
    exact h
  split
  · rw [Die.hostRefused, Die.refuse, Die.respond_mem, Die.count_mem]
    exact hread ..
  · rw [Die.respond_mem, Die.count_mem, (Die.dirtyFrame_keeps _).1]
    exact Die.wf_setBytes _ _ _ (hread ..)

/-! ## Reads of stack memory -/

theorem Die.meetErr_mem (host : Bool) (e : BurstErr) : (d.meetErr host e).1.mem = d.mem := by
  unfold Die.meetErr
  dsimp only
  split
  · rfl
  · exact Die.mem_noteCorrected ..
  · split
    · rfl
    · exact Die.mem_noteCorrected ..
    · rfl

theorem Die.readRange_mem (host : Bool) (a len : Nat) (es : List BurstErr) : (d.readRange host a len es).1.mem = d.mem := by
  unfold Die.readRange
  refine (foldl_keeps (fun acc : Die × List Nat => acc.1.mem) (fun _ _ => ?_) _ _).trans (Die.readBursts_mem _)
  exact Die.meetErr_mem ..

theorem Die.stackGet_mem (host : Bool) (a len : Nat) (es : List BurstErr) : (d.stackGet host a len es).1.mem = d.mem := by
  unfold Die.stackGet
  split
  · dsimp only
    refine (foldl_keeps (fun acc : Die × List Byte => acc.1.mem) (fun _ _ => ?_) _ _).trans (Die.readRange_mem ..)
    rfl
  · dsimp only
    unfold Die.freeBytes
    refine foldl_keeps (fun acc : Die × List Byte => acc.1.mem) (fun _ _ => ?_) _ (d, [])
    rfl

/-! ## Flash transfers -/

theorem Die.flashWrite_mem (a : Nat) (bs : List Byte) : (d.flashWrite a bs).mem = d.mem := rfl

theorem Die.keepsForm_flUnit (toFlash : Bool) (sa u : Nat) (es : List BurstErr) : Die.KeepsForm (fun d => d.flUnit toFlash sa u es) := by
  intro d h
  dsimp only
  unfold Die.flUnit
  split
  · rw [Die.flashWrite_mem, Die.stackGet_mem]
    exact h
  · exact Die.wf_stackPut _ _ _ h

theorem Die.keepsForm_flXferDone (es : List BurstErr) : Die.KeepsForm (fun d => d.flXferDone es) := by
  intro d h
  have walk (toFlash : Bool) (a u : Nat) (l : List Nat) (e : Die) (he : Memory.wf e.mem = true) :
      Memory.wf (l.foldl (fun d i => d.flUnit toFlash (a + i * 65536) (u + i) es) e).mem = true := by
    induction l generalizing e with
    | nil => exact he
    | cons i t ih => exact ih _ (Die.keepsForm_flUnit toFlash _ _ es e he)
  dsimp only
  unfold Die.flXferDone
  split
  · exact h
  · split
    · exact h
    · exact walk _ _ _ _ _ h

/-! ## Stack accesses -/

/-- An access is refused, or arrives at its burst. -/
theorem Die.stackAccess_cases (k ini off size : Nat) (wr : Option Nat) (n mis : Nat) :
    (∃ e : Die, d.stackAccess k ini off size wr n mis = e.respond .busError ∧ e.mem = d.mem) ∨
    ∃ r, d.stackAccess k ini off size wr n mis = d.arrive k r n mis := by
  have h : d.stackAccess k ini off size wr n mis =
      if d.stackClosed k = true ∨ (!portSize size) = true ∨ off % size ≠ 0 ∨ (decide (ini < 21) = false ∧ size ≠ 64) then d.refuse
      else match (if wr.isSome then d.pinOverlap (k * 2 ^ 36 + off) size else none) with
        | some c => (d.pinNoted k ini off size c (k * 2 ^ 36 + off)).refuse
        | none => d.arrive k { burst := off / 64, off, size, wr, reader := b2n (decide (ini < 21)), dbg := decide (ini = iniDebug) } n mis := rfl
  rw [h]
  split
  · exact .inl ⟨d, rfl, rfl⟩
  split
  · exact .inl ⟨_, rfl, Die.pinNoted_mem ..⟩
  · exact .inr ⟨_, rfl⟩

theorem Die.keepsForm_stackAccess (k ini off size : Nat) (wr : Option Nat) (n mis : Nat) :
    Die.KeepsForm (fun d => d.stackAccess k ini off size wr n mis) := by
  intro d h
  dsimp only
  rcases d.stackAccess_cases k ini off size wr n mis with ⟨e, he, hm⟩ | ⟨r, hr⟩
  · rw [he, Die.respond_mem, hm]
    exact h
  · rw [hr]
    exact Die.wf_arrive _ _ _ _ _ h

end

/-! ## The commands -/

theorem keepsForm_stackAccess (k : StackNo) (ini : Fin 22) (off : Fin 68719476736) (size : Nat) (wr : Option Nat) (n : Fin 37)
    (mis : Fin 3) : Instr.KeepsForm (.stackAccess k ini off size wr n mis) := by
  intro s t h ht
  have htr : (s.transfer ini).d.mem = s.d.mem := s.transfer_keeps Die.mem (fun _ _ _ => rfl) ini
  have he : exec (.stackAccess k ini off size wr n mis) s = execStackAccess k ini off size wr n mis s := rfl
  rw [he] at ht
  unfold execStackAccess at ht
  rw [← htr] at h
  split at ht
  · cases ht
    rw [htr] at h
    exact h
  · dsimp only at ht
    split at ht
    · cases ht
      exact h
    · cases ht
      refine Die.keepsForm_stackAccess _ _ _ _ _ _ _ _ ?_
      split <;> exact h

theorem keepsForm_readRetry (k : StackNo) (n : Fin 37) (mis : Fin 3) : Instr.KeepsForm (.readRetry k n mis) := by
  intro s t h ht
  have he : exec (.readRetry k n mis) s = execReadRetry k n mis s := rfl
  rw [he] at ht
  unfold execReadRetry at ht
  split at ht
  · cases ht
    exact h
  split at ht
  · cases ht
    exact h
  · next r l hr =>
    dsimp only at ht
    cases ht
    have hd : Memory.wf (if r.fresh then (s.d.updStk k (fun x => { x with retries := l })).access k { r with fresh := false } n mis
        else ((s.d.updStk k (fun x => { x with retries := l })).count (pgStk k) 5).readBurst k r n mis true).mem = true := by
      split
      · exact Die.wf_access _ _ _ _ _ h
      · exact Die.wf_readBurst _ _ _ _ _ _ h
    split
    · exact hd
    · exact hd

theorem keepsForm_correctiveWrite (k : StackNo) : Instr.KeepsForm (.correctiveWrite k) := by
  have hc : ∀ s, exec (.correctiveWrite k) s = s.at_ (64 + k.val) (fun d => match (d.stack k).corrs with
    | [] => d
    | c :: l => d.correctOldest k c l) := fun _ => rfl
  refine .of_at hc (fun d h => ?_)
  split
  · exact h
  · unfold Die.correctOldest
    split
    · exact h
    · exact Die.wf_writeBurst _ _ _ _ h

theorem keepsForm_stackScrub (k : StackNo) (n : Fin 37) (mis : Fin 3) : Instr.KeepsForm (.stackScrub k n mis) := by
  have hc : ∀ s, exec (.stackScrub k n mis) s = s.at_ (64 + k.val) (fun d =>
      if d.stackClosed k ∨ bit (d.reg (pgStk k) 0x104) 0 = false then d
      else (d.readBurst k { burst := (d.stack k).scrubPos, off := (d.stack k).scrubPos * 64, reader := 2 } n mis false).scrubMoved k
        (d.stack k).scrubPos) := fun _ => rfl
  refine .of_at hc (fun d h => ?_)
  split
  · exact h
  · rw [(Die.scrubMoved_spec _).2]
    exact Die.wf_readBurst _ _ _ _ _ _ h

theorem keepsForm_vatWindowRead (ini : Ini) (off : Fin 8589934592) (size : Nat) (err : Option Bool) (drop : Option CoreNo) :
    Instr.KeepsForm (.vatWindowRead ini off size err drop) := by
  refine .of_window (ini := ini) (off := off) (wr := false) (fun _ => rfl) (fun d h => ?_)
  rw [Die.windowRead_mem]
  exact h

theorem keepsForm_vatWindowWrite (ini : Ini) (off : Fin 8589934592) (size v : Nat) (err : Option Bool) (drop : Option CoreNo) :
    Instr.KeepsForm (.vatWindowWrite ini off size v err drop) :=
  .of_window (ini := ini) (off := off) (wr := true) (fun _ => rfl) (Die.keepsForm_windowWrite _ _ _ _ _)

theorem keepsForm_patrolScrub (n : CoreNo) (err : Option Bool) : Instr.KeepsForm (.patrolScrub n err) := by
  have hc : ∀ s, exec (.patrolScrub n err) s = s.at_ (islOf n) (fun d =>
      if !bit (d.reg (pgCore n) 0x800) 1 ∨ (d.slice n).busy ∨
          !d.bankSlot n (bankOf (frameOf (n.val * 512 + (d.slice n).pos / 33))) (fun o => decide (o = 0)) then d
      else (((d.hostReads (n.val * 512 + (d.slice n).pos / 33) ((d.slice n).pos % 33) err).1).count (pgCore n) 0x44).updSlice n
        (fun v => { v with pos := ((d.slice n).pos + 1) % (512 * 33) })) := fun _ => rfl
  refine .of_at hc (fun d h => ?_)
  split
  · exact h
  · rw [Die.updSlice_mem, Die.count_mem, Die.hostReads_mem]
    exact h

end Sys2Proof.Machine

namespace Sys2Proof
open Machine

/-- Settles O59: each of these commands is one of the operations over memory that keep its canonical form. -/
theorem memoryFormKept : Obligations.memory_form_kept := by
  unfold Obligations.memory_form_kept
  intro keeps
  refine ⟨fun k ini off size wr n mis => keepsForm_stackAccess k ini off size wr n mis, fun k n mis => keepsForm_readRetry k n mis,
    fun k => keepsForm_correctiveWrite k, fun k n mis => keepsForm_stackScrub k n mis,
    fun ini off size err drop => keepsForm_vatWindowRead ini off size err drop,
    fun ini off size v err drop => keepsForm_vatWindowWrite ini off size v err drop, fun n err => keepsForm_patrolScrub n err,
    fun es => Instr.KeepsForm.of_at (i := 89) (fun _ => rfl) (Die.keepsForm_flXferDone es), fun ga s t h ht => ?_⟩
  obtain ⟨u, hu, -, hm, -⟩ := powerOnScrubs s ga
  rw [hu] at ht
  cases ht
  rw [hm]
  rfl

end Sys2Proof
end

section
/-!
PROOFS. The queue commands (04 R126-R130).
-/

namespace Sys2Proof.Machine

/-! ## Queues of a core -/

section
variable {d : Die} {n q : Nat}

theorem Die.queue_eq (hq : q < 4) : d.queue n q = sget d.queues {} (n * 4 + q) := if_pos hq

theorem Die.setQueue_eq (hq : q < 4) (x : Queue) : d.setQueue n q x = { d with queues := sset d.queues {} (n * 4 + q) x } := if_pos hq

theorem Die.queue_setQueue (hq : q < 4) (x : Queue) : (d.setQueue n q x).queue n q = x := by
  rw [Die.setQueue_eq hq, Die.queue_eq hq]
  exact sget_sset_same ..

theorem Die.onCore_enabled (h : d.enabled n = true) (f : Die → Die) : d.onCore n f = f d := if_pos h

end

/-- A queue command of an enabled core. -/
theorem exec_queueCmd_served {s : State} {c : Instr} {ini : Ini} {n : CoreNo} {q : QueueNo} {f : Die → Die}
    (hc : exec c s = s.cplD ini (pgCore n) (qcmdOff q) (fun d => d.onCore n f)) (h : s.admits ini (pgCore n) (qcmdOff q) = true)
    (hen : s.d.enabled n = true) : exec c s = .next ((s.reached ini (pgCore n)).onD f) :=
  (exec_cplD_served hc h).trans (State.next_onD_congr (if_pos (by rw [State.reached_enabled, hen])))

/-! ## START -/

section
variable {d : Die} {n q : Nat}

/-- The mode of a queue cannot be run: reserved, or a count of no passes. -/
abbrev Die.BadMode (d : Die) (n q : Nat) : Prop := d.qmode n q = 3 ∨ (d.qmode n q = 1 ∧ d.qreg n q 0x14 = 0)

/-- The half that START runs. -/
def Queue.startHalf (x : Queue) : Bool := if x.flip then !x.half else x.half

/-- The queue that START leaves. -/
def Queue.started (x : Queue) (held : Bool) : Queue :=
  { x with st := .running, pass := 0, entered := 0, window := [], half := x.startHalf, flip := false, armed := false,
           lastPass := false, held := held, skip := none, heldBrk := none,
           gen0 := if x.startHalf then x.gen0 else (x.gen0 + 1) % 256, gen1 := if x.startHalf then (x.gen1 + 1) % 256 else x.gen1 }

/-- What START finds wrong. -/
def Die.startCause (d : Die) (n q : Nat) (h : Bool) : Option Nat :=
  minCause (cause (decide (d.qmode n q = 3) || (decide (d.qmode n q = 1) && decide (d.qreg n q 0x14 = 0))) bdField ++
    cause (!d.ringOk n q h) bdRing)

theorem Die.startCause_none (hm : ¬ d.BadMode n q) {h : Bool} (hr : d.ringOk n q h = true) : d.startCause n q h = none := by
  have hb : (decide (d.qmode n q = 3) || (decide (d.qmode n q = 1) && decide (d.qreg n q 0x14 = 0))) = false := by
    simpa [Die.BadMode] using hm
  rw [Die.startCause, hb, hr]
  rfl

theorem Die.startCause_some {h : Bool} (hb : d.BadMode n q ∨ d.ringOk n q h = false) :
    d.startCause n q h = some (if d.BadMode n q then bdField else bdRing) := by
  by_cases hm : d.BadMode n q
  · have hb : (decide (d.qmode n q = 3) || (decide (d.qmode n q = 1) && decide (d.qreg n q 0x14 = 0))) = true := by
      simpa [Die.BadMode] using hm
    rw [Die.startCause, hb, if_pos hm]
    cases d.ringOk n q h <;> rfl
  · have hb' : (decide (d.qmode n q = 3) || (decide (d.qmode n q = 1) && decide (d.qreg n q 0x14 = 0))) = false := by
      simpa [Die.BadMode] using hm
    rw [Die.startCause, hb', hb.resolve_left hm, if_neg hm]
    rfl

theorem Die.qStart_idle (hi : (d.queue n q).st = .idle) : d.qStart n q = match d.startCause n q (d.queue n q).startHalf with
    | some k => d.haltQueue n q { status := stAborted, detail := k, idx := 0, half := (d.queue n q).startHalf, tag := 0 }
    | none => ((d.boundary n q 0).newGen n q (d.queue n q).startHalf).updQueue n q (fun x =>
        { x with st := .running, window := [], skip := none, heldBrk := none }) := by
  unfold Die.qStart
  dsimp only
  exact if_neg (fun h => h hi)

/-- A good START: the queue runs, and besides its own record only its patches and cache lines change. -/
theorem Die.qStart_runs (hq : q < 4) (hi : (d.queue n q).st = .idle) (hm : ¬ d.BadMode n q)
    (hr : d.ringOk n q (d.queue n q).startHalf = true) :
    (d.qStart n q).queue n q = (d.queue n q).started (d.pw.holds (westCore n)) ∧
    ∃ x p c, d.qStart n q = { d with queues := x, pact := p, dcache := c } ∧ ∀ k, k ≠ n * 4 + q → sget x {} k = sget d.queues {} k := by
  obtain ⟨p, hp⟩ : ∃ p, d.boundary n q 0 = Die.setQueue { d with pact := p } n q { d.queue n q with
      pass := 0, armed := false, half := (d.queue n q).startHalf, flip := false, entered := 0, lastPass := false,
      held := d.pw.holds (westCore n) } := by
    unfold Die.boundary
    dsimp only
    split
    · exact ⟨_, rfl⟩
    · exact ⟨d.pact, rfl⟩
  obtain ⟨x, hx⟩ : ∃ x, x = { d.queue n q with
      pass := 0, armed := false, half := (d.queue n q).startHalf, flip := false, entered := 0, lastPass := false,
      held := d.pw.holds (westCore n) } := ⟨_, rfl⟩
  rw [← hx] at hp
  have hstart : d.qStart n q = ((d.boundary n q 0).newGen n q (d.queue n q).startHalf).updQueue n q (fun x =>
      { x with st := .running, window := [], skip := none, heldBrk := none }) := by
    rw [Die.qStart_idle hi, Die.startCause_none hm hr]
  obtain ⟨e, he⟩ : ∃ e, e = Die.setQueue { d with pact := p } n q x := ⟨_, rfl⟩
  have heq : e.queue n q = x := by rw [he, Die.queue_setQueue hq]
  obtain ⟨g, hg⟩ : ∃ g : Queue, g = if (d.queue n q).startHalf then { x with gen1 := (x.gen1 + 1) % 256 } else { x with gen0 := (x.gen0 + 1) % 256 } := ⟨_, rfl⟩
  have hgen : e.newGen n q (d.queue n q).startHalf = (e.setQueue n q g).dropLines n q (d.queue n q).startHalf := by
    rw [Die.newGen, Die.updQueue, heq, hg]
  have hgq : (e.newGen n q (d.queue n q).startHalf).queue n q = g := by
    rw [hgen]
    exact Die.queue_setQueue hq g
  have hfin : d.qStart n q = ((e.setQueue n q g).dropLines n q (d.queue n q).startHalf).setQueue n q
      { g with st := .running, window := [], skip := none, heldBrk := none } := by
    rw [hstart, hp, ← he, Die.updQueue, hgq, hgen]
  refine ⟨?_, ?_⟩
  · rw [hfin, Die.queue_setQueue hq, hg, hx]
    unfold Queue.started
    cases (d.queue n q).startHalf <;> rfl
  · rw [hfin, Die.setQueue_eq hq, Die.setQueue_eq hq, he, Die.setQueue_eq hq]
    refine ⟨_, p, _, rfl, fun k hk => ?_⟩
    exact (sget_sset_other _ _ _ _ hk).trans ((sget_sset_other _ _ _ _ hk).trans (sget_sset_other _ _ _ _ hk))

/-- A START that finds its mode or its ring wrong halts the queue. -/
theorem Die.qStart_halts (hi : (d.queue n q).st = .idle) (hb : d.BadMode n q ∨ d.ringOk n q (d.queue n q).startHalf = false) :
    d.qStart n q = d.haltQueue n q
      { status := stAborted, detail := if d.BadMode n q then bdField else bdRing, idx := 0, half := (d.queue n q).startHalf, tag := 0 } := by
  rw [Die.qStart_idle hi, Die.startCause_some hb]

/-! ## RESUME -/

/-- The descriptor that a RESUME lets through. -/
def Queue.resumeSkip (x : Queue) : Option (Bool × Nat) := match x.heldBrk with
  | some h => some h
  | none => x.skip

theorem Die.qResume_cases (hst : (d.queue n q).st = .stopped ∨ (d.queue n q).st = .brk) : d.qResume n q =
    if ((d.queue n q).lastPass = true ∧ (d.queue n q).window = []) ∧ (d.queue n q).infl = [] then
      d.setQueue n q { d.queue n q with st := .idle, skip := (d.queue n q).resumeSkip, heldBrk := none,
                                        irq := (d.queue n q).irq || bit (d.qreg n q 0x48) 1 }
    else d.setQueue n q { d.queue n q with
      st := if (d.queue n q).lastPass = true ∧ (d.queue n q).window = [] then .draining else .running,
      skip := (d.queue n q).resumeSkip, heldBrk := none } := by
  unfold Die.qResume
  dsimp only
  exact if_pos hst

end

end Sys2Proof.Machine

namespace Sys2Proof
open Machine

/-- Settles O34: each command through its case of the queue's state. -/
theorem queueCommands : Obligations.queue_commands := by
  unfold Obligations.queue_commands
  intro s ini n q h hen x r hh sets ignored onIdle badMode
  have hq : q.val < 4 := q.isLt
  have keeps {α : Type} (g : Die → α) (hg : ∀ (d : Die) m c x r, g { d with trS := m, carb := c, ctr := x, resp := r } = g d) :
      g r.d = g s.d := s.reached_keeps ini (pgCore n) g hg
  have hx : r.d.queue n q = x := keeps (Die.queue · n q) (fun _ _ _ _ _ => rfl)
  have hreg (o : Nat) : r.d.qreg n q o = s.d.qreg n q o := keeps (Die.qreg · n q o) (fun _ _ _ _ _ => rfl)
  have hring (b : Bool) : r.d.ringOk n q b = s.d.ringOk n q b := keeps (Die.ringOk · n q b) (fun _ _ _ _ _ => rfl)
  have hmode : r.d.qmode n q = s.d.qmode n q := keeps (Die.qmode · n q) (fun _ _ _ _ _ => rfl)
  have hbad : r.d.BadMode n q ↔ badMode := by rw [Die.BadMode, hmode, hreg]
  have served {c : Instr} {f g : Die → Die} (hc : exec c s = s.cplD ini (pgCore n) (qcmdOff q) (fun d => d.onCore n f))
      (hf : f r.d = g r.d) : exec c s = .next (r.onD g) := (exec_queueCmd_served hc h hen).trans (State.next_onD_congr hf)
  have hst (p : QState) : (r.d.queue n q).st = p ↔ x.st = p := by rw [hx]
  refine ⟨⟨fun hi hm hr => ?runs, fun hi hb => ?halts, fun hi => ?startIgnored⟩, ⟨fun hi => ?stop, fun hi => ?stopIgnored⟩, ?rest⟩
  case runs =>
    obtain ⟨h1, y, p, c, h2, h3⟩ := Die.qStart_runs hq ((hst _).2 hi) (mt hbad.1 hm) (by rw [hx, hring]; exact hr)
    have hpw : r.d.pw = s.d.pw := s.reached_pw ini (pgCore n)
    refine ⟨_, served (g := fun _ => { r.d with queues := y, pact := p, dcache := c }) rfl h2, ?_, fun k hk => ?_,
      s.reached_mem ini (pgCore n), s.reached_regs ini (pgCore n), rfl, rfl⟩
    · rw [h2, hx, hpw] at h1
      exact h1
    · have hne : k ≠ n.val * 4 + q.val := by omega
      exact (h3 k hne).trans (by rw [keeps Die.queues (fun _ _ _ _ _ => rfl)])
  case halts =>
    refine served rfl ((Die.qStart_halts ((hst _).2 hi) ?_).trans ?_)
    · rw [hx, hring]
      exact hb.imp_left hbad.2
    · rw [if_congr hbad rfl rfl, hx]
      rfl
  case startIgnored => exact served rfl (if_pos (mt (hst _).1 hi))
  case stop => exact served rfl ((if_pos ((hst _).2 hi)).trans (by rw [hx]))
  case stopIgnored => exact served rfl (if_neg (mt (hst _).1 hi))
  case rest =>
    intro k
    refine ⟨⟨fun hi => ⟨fun hw => ?again, fun hl hw hf => ?drain, fun hl hw hf => ?idle⟩, fun h1 h2 => ?resumeIgnored⟩,
      ⟨fun h1 h2 => ?abort, fun hi => ?abortIgnored⟩, ⟨fun hi hf => ?reset, fun hi => ?resetIgnored⟩,
      ⟨fun hen hf hr => ?flip, fun hno => ?flipIgnored⟩, ?arm, ?ack⟩
    case again =>
      have hno : ¬ (x.lastPass = true ∧ x.window = []) := by
        rintro ⟨h1, h2⟩
        rcases hw with h | h
        · rw [h] at h1
          exact Bool.false_ne_true h1
        · exact h h2
      refine served rfl ((Die.qResume_cases (hi.imp (hst _).2 (hst _).2)).trans ?_)
      rw [hx, if_neg (fun h => hno h.1), if_neg hno]
      rfl
    case drain =>
      refine served rfl ((Die.qResume_cases (hi.imp (hst _).2 (hst _).2)).trans ?_)
      rw [hx, if_neg (fun h => hf h.2), if_pos ⟨hl, hw⟩]
      rfl
    case idle =>
      refine served rfl ((Die.qResume_cases (hi.imp (hst _).2 (hst _).2)).trans ?_)
      rw [hx, if_pos ⟨⟨hl, hw⟩, hf⟩, hreg]
      rfl
    case resumeIgnored => exact served rfl (if_neg (not_or.2 ⟨mt (hst _).1 h1, mt (hst _).1 h2⟩))
    case abort =>
      refine served rfl ((if_neg (not_or.2 ⟨mt (hst _).1 h1, mt (hst _).1 h2⟩)).trans ?_)
      rw [Die.abortQueue, hx]
    case abortIgnored => exact served rfl (if_pos (hi.imp (hst _).2 (hst _).2))
    case reset =>
      refine served rfl ((if_pos ⟨hi.imp (hst _).2 (Or.imp (hst _).2 (hst _).2), by rw [hx]; exact hf⟩).trans ?_)
      rw [hx]
    case resetIgnored =>
      refine served rfl (if_neg ?_)
      rw [hx]
      rintro ⟨h1, h2⟩
      rcases hi with h | h | h | h
      · simp [h] at h1
      · simp [h] at h1
      · simp [h] at h1
      · exact h h2
    case flip =>
      have hcond : bit (r.d.qreg n q 0x10) 2 = true ∧ (r.d.queue n q).flip = false ∧ r.d.ringOk n q (!(r.d.queue n q).half) = true := by
        rw [hx, hreg, hring]
        exact ⟨hen, hf, hr⟩
      exact served rfl ((if_pos hcond).trans (by rw [hx]))
    case flipIgnored =>
      refine served rfl (if_neg ?_)
      rw [hx, hreg, hring]
      rintro ⟨h1, h2, h3⟩
      rcases hno with h | h | h
      · rw [h] at h1
        exact Bool.false_ne_true h1
      · rw [h] at h2
        exact Bool.false_ne_true h2.symm
      · rw [h] at h3
        exact Bool.false_ne_true h3
    case arm => exact served rfl (by rw [Die.qArm, Die.updQueue, hx])
    case ack => exact served rfl (by rw [Die.qAck, Die.updQueue, hx])

end Sys2Proof
end

section
/-!
PROOFS. Fetch, window entry, completion and signals of the descriptor queues (04 R107, R116-R119).
-/

namespace Sys2Proof.Machine

/-! ## Counters of other selectors -/

/-- Counting under one selector leaves the counters of another. -/
theorem Die.ctrOf_count_other {d : Die} {p q c e : Nat} (hc : c < 65536) (he : e < 65536) (h : c ≠ e) (k : Nat) :
    (d.count p c k).ctrOf q e = d.ctrOf q e := by
  rw [Die.ctrOf_count, if_neg (ckey_ne he hc (.inr h.symm))]

section
variable {d : Die} {p c : Nat}

/-- Reads of bursts count reads and refreshes alone. -/
theorem Die.ctrOf_readBursts (hc : c < 65536) (h1 : c ≠ 1) (hA : c ≠ 0xA) (bs : List Nat) :
    (d.readBursts bs).ctrOf p c = d.ctrOf p c := by
  have hopen (d : Die) (s b : Nat) : (d.openBank s b).ctrOf p c = d.ctrOf p c := by
    unfold Die.openBank
    split
    · rfl
    · rw [Die.ctrOf_count_other (by omega) hc hA.symm]
      rfl
  have hcount := foldl_keeps (fun d => Die.ctrOf d p c) (f := fun (d : Die) s =>
    if (bs.filter (fun b => decide (b / 2 ^ 36 = s))).length = 0 then d
    else d.count (pgStk s) 1 (bs.filter (fun b => decide (b / 2 ^ 36 = s))).length) (fun d s => by
      split
      · rfl
      · exact Die.ctrOf_count_other (by omega) hc h1.symm _) (List.range 8) d
  unfold Die.readBursts
  dsimp only
  split
  · exact hcount
  · exact (foldl_keeps (fun d => Die.ctrOf d p c) (fun d b => hopen d _ _) bs _).trans hcount

/-- A circuit that carries one access counts circuits and the flits they carry alone. -/
theorem Die.oneShotRun_counts (a n k : Nat) (hc : c < 65536) (hA : c ≠ 0xA) (hD : c ≠ 0xD) :
    ∃ e, d.oneShotRun a n k none = (e, false) ∧ Die.Counted d e ∧ e.ctrOf p c = d.ctrOf p c := by
  unfold Die.oneShotRun
  refine ⟨_, rfl, .circuit d (fillRoute a n) k _, ?_⟩
  refine (foldl_keeps (fun d => Die.ctrOf d p c) (fun d m => Die.ctrOf_count_other (by omega) hc hA.symm _) _ _).trans ?_
  unfold Die.countCircuit
  dsimp only
  split
  · rw [Die.ctrOf_count_other (by omega) hc hD.symm, Die.ctrOf_count_other (by omega) hc hA.symm]
  · exact Die.ctrOf_count_other (by omega) hc hA.symm _

end

/-! ## Commands of a core -/

/-- A command of an enabled core on an island that runs. -/
theorem exec_core_live {s : State} {c : Instr} {i n : Nat} {f : Die → Die} (hc : exec c s = s.at_ i (fun d => d.onCore n f))
    (hl : s.d.live i = true) (hen : s.d.enabled n = true) : exec c s = .next (s.onD f) :=
  (exec_at_live hc hl).trans (State.next_onD_congr (Die.onCore_enabled hen f))

/-! ## The line fetched (04 R118) -/

section
variable {d : Die} {n q : Nat}

/-- The line that holds the next descriptor, as stack memory holds it. -/
def Die.nextLine (d : Die) (n q a : Nat) : CLine :=
  { half := (d.queue n q).half, gen := if (d.queue n q).half then (d.queue n q).gen1 else (d.queue n q).gen0,
    first := (d.queue n q).entered / 4 * 4, words := d.mwords a 64 }

/-- A line is put into the cache. -/
def Die.putLine (d : Die) (k : Nat) (l : CLine) : Die := { d with dcache := sset d.dcache {} k l }

/-- A line without errors comes into the cache. -/
theorem Die.fetchLine_clean {a : Nat} (ha : d.ringBase n q (d.queue n q).half + 64 * ((d.queue n q).entered / 4 * 4) = a)
    (hq : q < 4) (hf : (d.stack (a / 2 ^ 36)).failed = false) :
    ∃ e : Die, d.fetchLine n q [] none =
        (e.putLine ((n * 4 + q) * 64 + (d.queue n q).entered / 4 % 64) (d.nextLine n q a)).count (pgCore n) (0x28 + q) ∧
      e.ctrOf (pgCore n) (0x28 + q) = d.ctrOf (pgCore n) (0x28 + q) ∧ e.mem = d.mem ∧ e.regs = d.regs ∧ e.queues = d.queues := by
  obtain ⟨b, hb⟩ : ∃ b, b = d.readBursts (burstsOf a 256) := ⟨_, rfl⟩
  have hs : Die.Served d b := hb ▸ .readBursts d _
  have hm : b.mem = d.mem := hb ▸ Die.readBursts_mem _
  have hctr : b.ctrOf (pgCore n) (0x28 + q) = d.ctrOf (pgCore n) (0x28 + q) := hb ▸ Die.ctrOf_readBursts (by omega) (by omega) (by omega) _
  obtain ⟨e, he, hc, hk⟩ := b.oneShotRun_counts (p := pgCore n) (c := 0x28 + q) (a / 2 ^ 36) n 4 (by omega) (by omega) (by omega)
  refine ⟨e, ?_, hk.trans hctr, (hc.keeps Die.mem (fun _ _ => rfl)).trans hm,
    (hc.keeps Die.regs (fun _ _ => rfl)).trans (hs.keeps Die.regs (fun _ _ _ _ _ _ => rfl)),
    (hc.keeps Die.queues (fun _ _ => rfl)).trans (hs.keeps Die.queues (fun _ _ _ _ _ _ => rfl))⟩
  have hr : d.readRange false a 256 [] = (b, []) := by
    rw [hb]
    rfl
  unfold Die.fetchLine
  dsimp only
  rw [ha, hf, if_neg Bool.false_ne_true, hr]
  dsimp only
  have hopen : ([] : List Nat).isEmpty = true ∨ false = true := .inl rfl
  simp only [if_pos hopen, he]
  rfl

/-- DESCRIPTOR_FETCH of a line that is missing, from a stack that serves it and a circuit that can open. -/
theorem exec_descriptorFetch_due {s : State} {n : CoreNo} {q : QueueNo} (hl : s.d.live (islOf n) = true) (hen : s.d.enabled n = true)
    (hd : s.d.fetchDue n q = true) (ho : s.d.stackClosed (s.d.ringBase n q (s.d.queue n q).half / 2 ^ 36) = false)
    (hc : s.d.orderClear (s.d.ringBase n q (s.d.queue n q).half + 64 * ((s.d.queue n q).entered / 4 * 4)) 256 = true)
    (h1 : s.d.oneShot (s.d.ringBase n q (s.d.queue n q).half / 2 ^ 36) n none (fun _ => true) = true) :
    exec (.descriptorFetch n q [] none) s = .next (s.onD (fun d => d.fetchLine n q [] none)) := by
  have he : exec (.descriptorFetch n q [] none) s = s.at_ (islOf n) (fun d => d.onCore n (fun d =>
      if !d.fetchDue n q ∨ (d.stackClosed (d.ringBase n q (d.queue n q).half / 2 ^ 36) ∧
            !(d.stack (d.ringBase n q (d.queue n q).half / 2 ^ 36)).failed) ∨
          !d.orderClear (d.ringBase n q (d.queue n q).half + 64 * ((d.queue n q).entered / 4 * 4)) 256 then d
      else if !d.oneShot (d.ringBase n q (d.queue n q).half / 2 ^ 36) n none (fun _ => true) then (if d.mayOpen then d.count pgDk 0xB else d)
      else d.fetchLine n q [] none)) := rfl
  refine (exec_core_live he hl hen).trans (State.next_onD_congr ?_)
  have hserved : ¬ ((!s.d.fetchDue n q) = true ∨ (s.d.stackClosed (s.d.ringBase n q (s.d.queue n q).half / 2 ^ 36) = true ∧
      (!(s.d.stack (s.d.ringBase n q (s.d.queue n q).half / 2 ^ 36)).failed) = true) ∨
      (!s.d.orderClear (s.d.ringBase n q (s.d.queue n q).half + 64 * ((s.d.queue n q).entered / 4 * 4)) 256) = true) := by
    rw [hd, ho, hc]
    rintro (h | ⟨h, -⟩ | h) <;> cases h
  rw [if_neg hserved, if_neg (by rw [h1]; exact Bool.false_ne_true)]

/-! ## Window entry (04 R116) -/

theorem Die.queue_setQueue_other (hq : q < 4) (x : Queue) {p : Nat} (h : p ≠ q) : (d.setQueue n q x).queue n p = d.queue n p := by
  rw [Die.setQueue_eq hq]
  unfold Die.queue
  split
  · exact sget_sset_other _ _ _ _ (by omega)
  · rfl

/-- A descriptor without a fault goes to the tail of the window. -/
theorem Die.enterOne_good {x : Desc} (hq : q < 4) (h : d.entryCause n q x = none) :
    d.enterOne n q x = (d.setQueue n q { d.queue n q with entered := (d.queue n q).entered + 1 }).setQueue n q
      { d.queue n q with entered := (d.queue n q).entered + 1, window := (d.queue n q).window ++
        [{ d := x, idx := (d.queue n q).entered, half := (d.queue n q).half, pass := (d.queue n q).pass.toNat }] } := by
  have hc : (d.setQueue n q { d.queue n q with entered := (d.queue n q).entered + 1 }).entryCause n q x = none := by
    obtain ⟨m, hm⟩ : ∃ m, d.setQueue n q { d.queue n q with entered := (d.queue n q).entered + 1 } = { d with queues := m } :=
      ⟨_, Die.setQueue_eq hq _⟩
    have hbase : ({ d with queues := m } : Die).qbase n q = d.qbase n q := rfl
    have hev : ({ d with queues := m } : Die).qevents n q = d.qevents n q := rfl
    have hsig : ({ d with queues := m } : Die).sigInside n = d.sigInside n := rfl
    rw [hm, ← h, Die.entryCause, Die.entryCause, hbase, hev, hsig]
  unfold Die.enterOne
  dsimp only
  rw [hc]
  dsimp only
  rw [Die.updQueue, Die.queue_setQueue hq]

/-- The last descriptor of a line enters alone. -/
theorem Die.enterMany_last {l : CLine} {k : Nat} (hst : (d.queue n q).st = .running) (hh : (d.queue n q).held = false)
    (hw : (d.queue n q).window.length < 16) (hi : (d.queue n q).entered < d.ringLen n q (d.queue n q).half)
    (hm : (d.queue n q).entered % 4 = 3) (hc : d.cachedLine n q (d.queue n q).entered = some l) :
    d.enterMany n q (k + 1) =
      let e := d.enterOne n q ((List.range 16).map (fun w => l.words.getD (48 + w) 0))
      if (e.queue n q).window.length = 16 then e.countFree (pgCore n) (0x2C + q) else e := by
  rw [Die.enterMany]
  dsimp only
  rw [if_pos ⟨hst, hh, hw, hi⟩, hc]
  dsimp only
  rw [hm, if_pos rfl]

end

/-! ## Completion (04 R119) -/

section
variable {d : Die} {n q i : Nat} {e : Infl}

/-- With no collective the port engines have nothing to do. -/
theorem Die.peAll_idle (h : ∀ p, p < 16 → (d.port p).coll = none ∧ (d.port p).waiting = []) : d.peAll = d := by
  have hstep (p : Nat) (hp : p < 16) : d.peStep p = d := by
    obtain ⟨hc, hw⟩ := h p hp
    have hpass : d.pePass p = d := by
      have hs : d.peStart p = d := by
        unfold Die.peStart
        rw [hc, hw]
      unfold Die.pePass
      dsimp only
      rw [hs, hc]
    unfold Die.peStep
    rw [hpass, hpass, hpass, hpass, ite_self]
  have go (l : List Nat) (hl : ∀ p ∈ l, p < 16) : l.foldl Die.peStep d = d := by
    induction l with
    | nil => rfl
    | cons p t ih => rw [List.foldl_cons, hstep p (hl p List.mem_cons_self), ih (fun x hx => hl x (List.mem_cons_of_mem _ hx))]
  exact go _ (fun p hp => List.mem_range.1 hp)

/-- A descriptor that has run completes if nothing of it is outstanding. -/
theorem Die.completeAt_ran (hi : (d.queue n q).infl[i]? = some e) (hr : e.ran = true) : d.completeAt n q i =
    if e.left = 0 ∧ e.waits = false ∧ !d.arrayPending n q e then d.finish n q e e.status.1 e.status.2 else d := by
  unfold Die.completeAt
  rw [hi]
  simp only [hr, true_or, true_and]

/-- DESCRIPTOR_COMPLETE of a descriptor that has run and is no request of a pool. -/
theorem exec_descriptorComplete_ran {s : State} {n : CoreNo} {q : Fin 5} {e : Infl} (hl : s.d.live (islOf n) = true)
    (hen : s.d.enabled n = true) (hi : (s.d.queue n q).infl[i]? = some e) (hr : e.ran = true) (hp : s.d.poolOfReq e = none)
    (errs : List (Nat × Nat × Bool)) :
    exec (.descriptorComplete n q i errs) s = .next (s.onD (fun d => d.peAll.completeAt n q i)) := by
  have hw : s.d.runWaiting n q e errs = s.d := by
    unfold Die.runWaiting
    rw [hr]
    rfl
  have hd : s.d.poolDrain n q e = s.d := by
    unfold Die.poolDrain
    rw [hp]
  refine (exec_core_live (f := fun d => match (d.queue n q).infl[i]? with
    | none => d
    | some e => (((d.runWaiting n q e errs).poolDrain n q e).peAll).completeAt n q i) rfl hl hen).trans (State.next_onD_congr ?_)
  rw [hi]
  dsimp only
  rw [hw, hd]

/-! ## Signals (04 R107) -/

/-- What EVENT_SIGNAL does with the first signal at an island. -/
def eventStep (i : Nat) (d : Die) : Die :=
  match d.takeArr (islNode i) (fun m => match m.body with | .signal _ _ => true | _ => false) with
  | none => d
  | some (m, d) => match m.body with
    | .signal ev inc => (d.hear i m.s).addEvent i ev inc
    | _ => d

/-- A signal moves its own counter. -/
theorem Die.addEvent_spec (i ev inc : Nat) :
    (∀ k, sget (d.addEvent i ev inc).evt 0 k = if k = i * 4096 + ev % 4096 then sget d.evt 0 k + word inc else sget d.evt 0 k) ∧
    (d.addEvent i ev inc).sbArr = d.sbArr ∧ (d.addEvent i ev inc).mem = d.mem ∧ (d.addEvent i ev inc).regs = d.regs ∧
    (d.addEvent i ev inc).queues = d.queues := by
  unfold Die.addEvent
  dsimp only
  refine ⟨fun k => ?_, ?_, ?_, ?_, ?_⟩
  · rw [Die.trace_keeps Die.evt (fun _ _ _ _ _ _ => rfl), sget_sset]
    split
    next h => rw [h]
    next => rfl
  · rw [Die.trace_keeps Die.sbArr (fun _ _ _ _ _ _ => rfl)]
  · rw [Die.trace_keeps Die.mem (fun _ _ _ _ _ _ => rfl)]
  · rw [Die.trace_keeps Die.regs (fun _ _ _ _ _ _ => rfl)]
  · rw [Die.trace_keeps Die.queues (fun _ _ _ _ _ _ => rfl)]

end

end Sys2Proof.Machine

namespace Sys2Proof
open Machine

/-- Settles O35: the fetch of a line, the entry of its last descriptor, issue at the sequencer engine, completion and signals. -/
theorem queueFetchAndEntry : Obligations.queue_fetch_and_entry := by
  unfold Obligations.queue_fetch_and_entry
  refine ⟨fun s n q hl hen => ⟨?fetch, ?entry⟩, ?now, ?complete, ?signal⟩
  case fetch =>
    intro hd ho hf hc h1
    obtain ⟨e, he, hctr, hm, hr, hq⟩ := Die.fetchLine_clean rfl q.isLt hf
    refine ⟨_, (exec_descriptorFetch_due hl hen hd ho hc h1).trans (State.next_onD_congr (g := fun _ => (e.putLine _ _).count _ _) he),
      ?_, ?_, hm, hr, hq, rfl⟩
    · exact sget_sset_same ..
    · exact (Die.ctrOf_count ..).trans ((if_pos rfl).trans (by rw [← hctr]; rfl))
  case entry =>
    intro ent l hst hh hw hi hm hc hg
    obtain ⟨f, hf⟩ : ∃ f, f = s.d.enterOne n q (ent l).d := ⟨_, rfl⟩
    have hgood := Die.enterOne_good q.isLt hg
    rw [← hf] at hgood
    have hmany : s.d.enterMany n q 4 = if (f.queue n q).window.length = 16 then f.countFree (pgCore n) (0x2C + q) else f := by
      rw [Die.enterMany_last hst hh hw hi hm hc, hf]
    have hkeep {α : Type} (g : Die → α) (h : ∀ (d : Die) c r, g { d with ctr := c, free := r } = g d) :
        g (if (f.queue n q).window.length = 16 then f.countFree (pgCore n) (0x2C + q) else f) = g f := by
      split
      · exact h f _ _
      · rfl
    refine ⟨s.onD (fun _ => if (f.queue n q).window.length = 16 then f.countFree (pgCore n) (0x2C + q) else f), ?_, ?_, ?_, ?_, rfl, fun p hp => ?_⟩
    · exact (exec_core_live (f := fun d => d.enterMany n q 4) rfl hl hen).trans (State.next_onD_congr hmany)
    · refine (hkeep (Die.queue · n q) (fun _ _ _ => rfl)).trans ?_
      rw [hgood, Die.queue_setQueue q.isLt]
    · refine (hkeep Die.mem (fun _ _ _ => rfl)).trans ?_
      rw [hgood, Die.setQueue_eq q.isLt, Die.setQueue_eq q.isLt]
    · refine (hkeep Die.regs (fun _ _ _ => rfl)).trans ?_
      rw [hgood, Die.setQueue_eq q.isLt, Die.setQueue_eq q.isLt]
    · refine (hkeep (Die.queue · n p) (fun _ _ _ => rfl)).trans ?_
      rw [hgood, Die.queue_setQueue_other q.isLt _ hp, Die.queue_setQueue_other q.isLt _ hp]
  case now =>
    intro s n opc q i e hopc hl hen hw ho ht
    have hnow : s.d.issueNow n opc = ((s.d.toFlight n q i e e.d [] []).1.finish n q (s.d.toFlight n q i e e.d [] []).2 stOk 0).passEnd n q := by
      unfold Die.issueNow
      rw [hw]
      dsimp only
      rw [if_neg (fun h => h ho), if_neg (by simp [ht])]
    have hexec : exec (if opc = opcNop then .nop n else .signal n) s = s.at_ (islOf n) (fun d => d.onCore n (fun d => d.issueNow n opc)) := by
      obtain rfl | rfl := hopc
      · rw [if_pos rfl]
        rfl
      · rw [if_neg (by decide)]
        rfl
    exact (exec_core_live hexec hl hen).trans (State.next_onD_congr hnow)
  case complete =>
    intro s n q i e errs hl hen hi hr hp
    have hx := exec_descriptorComplete_ran hl hen hi hr hp errs
    refine ⟨hx, fun hnone => ⟨fun hleft hwait harr => hx.trans (State.next_onD_congr ?_), fun hout => hx.trans ?_⟩⟩
    · rw [Die.peAll_idle hnone, Die.completeAt_ran hi hr, if_pos (by simp [hleft, hwait, harr])]
    · refine State.next_onD_congr (g := id) ?_
      rw [Die.peAll_idle hnone, Die.completeAt_ran hi hr, if_neg (fun ⟨hz, hw, _⟩ => by
        obtain h | h := hout
        · omega
        · rw [h] at hw
          cases hw)]
      rfl
  case signal =>
    intro s i m l ev inc hl hm hb
    obtain ⟨f, hf⟩ : ∃ f : Die, f = ({ s.d with sbArr := sset s.d.sbArr [] (islNode i) l } : Die).hear i m.s := ⟨_, rfl⟩
    obtain ⟨hevt, harr, hmem, hreg, hque⟩ := f.addEvent_spec i ev inc
    have hout : eventStep i s.d = f.addEvent i ev inc := by
      unfold eventStep
      rw [Die.takeArr_first hm (by rw [hb])]
      dsimp only
      rw [hb, hf]
    refine ⟨s.onD (fun _ => f.addEvent i ev inc), ?_, fun k => ?_, ?_, ?_, ?_, ?_, rfl⟩
    · exact (exec_at_live (f := eventStep i) rfl hl).trans (State.next_onD_congr hout)
    · refine (hevt k).trans ?_
      rw [hf]
      rfl
    · refine (congrArg (fun x => sget x [] (islNode i)) harr).trans ?_
      rw [hf]
      exact sget_sset_same ..
    · rw [show s.d.mem = f.mem by rw [hf]; rfl]
      exact hmem
    · rw [show s.d.regs = f.regs by rw [hf]; rfl]
      exact hreg
    · rw [show s.d.queues = f.queues by rw [hf]; rfl]
      exact hque

end Sys2Proof
end

section
/-!
PROOFS. Issue: the descriptor an engine takes next leaves the window and runs (04 R116, R117).
-/

namespace Sys2Proof.Machine

/-! ## What lets an engine reach a sheet -/

/-- Everything but the objects that decides which sheets an operand names and who may reach them. -/
def Die.reach (d : Die) : Store Word × Store (Option Page) × List (Nat × Nat) × Store Word × Store (List Word) :=
  (d.comms, d.pages, d.dk.former, d.regs, d.heldPlan)

/-- State and frame of an object. -/
def PObj.place (o : PObj) : PState × Nat := (o.st, o.frame)

/-- In `e` every sheet is where it is in `d`, within the same reach. -/
structure Die.SameReach (d e : Die) : Prop where
  reach : e.reach = d.reach
  place : ∀ k, (e.obj k).map PObj.place = (d.obj k).map PObj.place

namespace Die.SameReach

variable {d e : Die}

theorem refl (d : Die) : Die.SameReach d d := ⟨rfl, fun _ => rfl⟩

theorem trans {f : Die} (h : Die.SameReach d e) (h' : Die.SameReach e f) : Die.SameReach d f :=
  ⟨h'.reach.trans h.reach, fun k => (h'.place k).trans (h.place k)⟩

/-- With the same objects. -/
theorem of_objs (hr : e.reach = d.reach) (ho : e.objs = d.objs) : Die.SameReach d e :=
  ⟨hr, fun k => by rw [Die.obj, ho, ← Die.obj]⟩

theorem isResident (h : Die.SameReach d e) (k : Nat) : e.isResident k = d.isResident k := by
  have hp := h.place k
  unfold Die.isResident
  revert hp
  cases e.obj k <;> cases d.obj k <;> intro hp
  · rfl
  · cases hp
  · cases hp
  next o p =>
    have hst : o.st = p.st := congrArg Prod.fst (Option.some.inj hp)
    simp only [hst]

theorem sheetOf (h : Die.SameReach d e) (j v : Nat) : e.sheetOf j v = d.sheetOf j v := by
  have hpages : e.pages = d.pages := congrArg (fun r => r.2.1) h.reach
  have hformer : e.dk.former = d.dk.former := congrArg (fun r => r.2.2.1) h.reach
  have hkey : e.liveKey j (v / 16) = d.liveKey j (v / 16) := by
    unfold Die.liveKey Die.objKey Die.page
    rw [hpages, hformer]
  unfold Die.sheetOf
  rw [hkey]
  cases d.liveKey j (v / 16) with
  | none => rfl
  | some k =>
    have hp := h.place k
    dsimp only
    revert hp
    cases e.obj k <;> cases d.obj k <;> intro hp
    · rfl
    · cases hp
    · cases hp
    next o p =>
      have hst : o.st = p.st := congrArg Prod.fst (Option.some.inj hp)
      have hfr : o.frame = p.frame := congrArg Prod.snd (Option.some.inj hp)
      simp only [hst, hfr]

theorem opSheets (h : Die.SameReach d e) (x : Desc) (ops : List Word) (i : Nat) : e.opSheets x ops i = d.opSheets x ops i := by
  have hcomms : e.comms = d.comms := congrArg (fun r => r.1) h.reach
  unfold Die.opSheets Die.extent Die.collSheets Die.commG Die.commW
  rw [hcomms]

theorem bankSlot (h : Die.SameReach d e) (n b : Nat) (p : Nat → Bool) : e.bankSlot n b p = d.bankSlot n b p := by
  have hregs : e.regs = d.regs := congrArg (fun r => r.2.2.2.1) h.reach
  have hheld : e.heldPlan = d.heldPlan := congrArg (fun r => r.2.2.2.2) h.reach
  have hw (s : Nat) : e.planWord n s = d.planWord n s := by
    unfold Die.planWord Die.reg
    rw [hregs, hheld]
  unfold Die.bankSlot
  simp only [hw]

/-- The banks serve a record alike, whatever else than its operation, job and operands it holds. -/
theorem banksServe (h : Die.SameReach d e) {x y : Infl} (hd : y.d = x.d) (hj : y.job = x.job) (ho : y.ops = x.ops) :
    e.banksServe y = d.banksServe x := by
  have hgive (i c : Nat) : e.banksGive y i c = d.banksGive x i c := by
    unfold Die.banksGive
    rw [h.opSheets, hd, hj, ho]
    congr 1
    funext v
    rw [h.sheetOf]
    cases d.sheetOf x.job v with
    | none => rfl
    | some g => exact h.bankSlot ..
  unfold Die.banksServe
  simp only [hgive, hd]

end Die.SameReach

/-! ## Into flight -/

section
variable {d : Die} {n q i : Nat} {e : WinEnt} {ops : List Word} {felts : List FeltUse} {span : List Nat}

/-- Reading the objects after one of them is set. -/
theorem Die.obj_setObj (d : Die) (k : Nat) (p : Option PObj) (j : Nat) : (d.setObj k p).obj j = if j = k then p else d.obj j :=
  sget_sset ..

theorem Die.sameReach_addRef (d : Die) (k : Nat) : Die.SameReach d (d.addRef k) := by
  refine ⟨?_, fun j => ?_⟩
  · unfold Die.addRef Die.updObj
    dsimp only
    split <;> rfl
  · have hobj : (d.addRef k).obj j = (d.updObj k (fun o => { o with refs := o.refs + 1, last := d.dk.clock })).obj j := rfl
    rw [hobj]
    unfold Die.updObj
    split
    · rfl
    next o ho =>
      rw [Die.obj_setObj]
      split
      next hj =>
        rw [hj, ho]
        rfl
      next => rfl

/-- A span all of whose pages are RESIDENT takes references alone. -/
theorem Die.sameReach_takeSpan (h : span.all d.isResident = true) (j : Nat) : Die.SameReach d (d.takeSpan j span) := by
  have go (l : List Nat) (f : Die) (hf : Die.SameReach d f) (hl : ∀ k ∈ l, d.isResident k = true) :
      Die.SameReach d (l.foldl (fun d k => if d.isResident k then d.addRef k else (d.demandPage j k span).reserve k) f) := by
    induction l generalizing f with
    | nil => exact hf
    | cons k t ih =>
      rw [List.foldl_cons, if_pos ((hf.isResident k).trans (hl k List.mem_cons_self))]
      exact ih _ (hf.trans (Die.sameReach_addRef f k)) (fun x hx => hl x (List.mem_cons_of_mem _ hx))
  exact go span d (.refl d) (fun k hk => List.all_eq_true.1 h k hk)

theorem Die.sameReach_consume : Die.SameReach d (d.consume n q e) := by
  have h {α : Type} (g : Die → α) (hg : ∀ (d : Die) x, g { d with evt := x } = g d) : g (d.consume n q e) = g d := by
    refine foldl_keeps g (fun d i => ?_) _ _
    dsimp only
    split
    · exact hg ..
    · rfl
  exact .of_objs (h Die.reach (fun _ _ => rfl)) (h Die.objs (fun _ _ => rfl))

theorem Die.sameReach_popFelts : Die.SameReach d (d.popFelts felts) :=
  have h {α : Type} (g : Die → α) (hg : ∀ (d : Die) x, g { d with felt := x } = g d) : g (d.popFelts felts) = g d :=
    foldl_keeps g (fun d _ => hg d _) _ _
  .of_objs (h Die.reach (fun _ _ => rfl)) (h Die.objs (fun _ _ => rfl))

theorem Die.sameReach_setQueue (x : Queue) : Die.SameReach d (d.setQueue n q x) := by
  unfold Die.setQueue
  split
  · exact .of_objs rfl rfl
  · exact .of_objs rfl rfl

theorem Die.sameReach_updCore (f : Core → Core) : Die.SameReach d (d.updCore n f) := .of_objs rfl rfl

theorem Die.sameReach_trace (i k : Nat) (p : Word) : Die.SameReach d (d.trace i k p) :=
  .of_objs (Die.trace_keeps Die.reach (fun _ _ _ _ _ _ => rfl) i k p) (Die.trace_keeps Die.objs (fun _ _ _ _ _ _ => rfl) i k p)

/-- A descriptor whose span is RESIDENT goes into flight within the same reach. -/
theorem Die.sameReach_toFlight (h : span.all d.isResident = true) : Die.SameReach d (d.toFlight n q i e ops felts span).1 := by
  have h1 : Die.SameReach d ((d.consume n q e).popFelts felts) := Die.sameReach_consume.trans Die.sameReach_popFelts
  have hspan : span.all ((d.consume n q e).popFelts felts).isResident = true := by
    rw [← h]
    exact congrArg (List.all span) (funext h1.isResident)
  unfold Die.toFlight
  dsimp only
  exact ((h1.trans (Die.sameReach_takeSpan hspan _)).trans (Die.sameReach_setQueue _)).trans
    ((Die.sameReach_updCore _).trans (Die.sameReach_trace _ _ _))

/-- Every page of a span that was RESIDENT is usable to the descriptor in flight. -/
theorem Die.spanUsable_toFlight (h : span.all d.isResident = true) :
    (d.toFlight n q i e ops felts span).1.spanUsable (d.toFlight n q i e ops felts span).2 = true := by
  have hr := Die.sameReach_toFlight (n := n) (q := q) (i := i) (e := e) (ops := ops) (felts := felts) h
  have hspan : (d.toFlight n q i e ops felts span).2.span = span := rfl
  unfold Die.spanUsable
  rw [hspan, List.all_eq_true]
  intro k hk
  have hk' := (hr.isResident k).trans (List.all_eq_true.1 h k hk)
  revert hk'
  unfold Die.isResident Die.usable
  cases (d.toFlight n q i e ops felts span).1.obj k with
  | none => exact fun h => h
  | some o =>
    intro ho
    dsimp only at ho ⊢
    rw [ho, Bool.true_or]

/-! ## Issue -/

/-- The descriptor that an engine takes issues, and runs if it can. -/
theorem Die.issue_takes {extra : Die → Nat → Desc → Option (Nat × Nat)} (h : d.takes n q i e ops felts span extra = true)
    (run : Nat → Die → Infl → Die × Infl) : d.issue n (dOpc e.d) extra run =
      ((d.toFlight n q i e ops felts span).1.tryRun n q (d.toFlight n q i e ops felts span).2
        (d.engineHeld n (engineOf (dOpc e.d)) none || d.updateSkipped (d.qjob n q) e.d || d.partSkipped (d.qjob n q) e.d) (run q)).passEnd n q := by
  simp only [Die.takes, Bool.and_eq_true, decide_eq_true_eq, Bool.not_eq_true'] at h
  obtain ⟨⟨hw, hr⟩, ht⟩ := h
  unfold Die.issue
  dsimp only
  rw [hw]
  dsimp only
  rw [if_neg (fun h => h rfl), ht, if_neg Bool.false_ne_true, hr]

/-- What the engine leaves of a descriptor that has run. -/
def Die.ranBy (n q : Nat) (g : Die × Infl) : Die := (g.1.putInfl n q { g.2 with ran := true }).passEnd n q

/-- An operation that is none of the fabric runs with nothing ahead of it, its span RESIDENT and its banks serving it. -/
theorem Die.issue_runs {extra : Die → Nat → Desc → Option (Nat × Nat)} (h : d.takes n q i e ops felts span extra = true)
    (hn : d.runsNow n q e ops span = true) (hf : fabricOp e.d = false) (hu : d.updateSkipped (d.qjob n q) e.d = false)
    (hs : d.partSkipped (d.qjob n q) e.d = false) (run : Nat → Die → Infl → Die × Infl) : d.issue n (dOpc e.d) extra run =
      Die.ranBy n q (run q ((d.toFlight n q i e ops felts span).1.markRead (d.toFlight n q i e ops felts span).2)
        (d.toFlight n q i e ops felts span).2) := by
  simp only [Die.runsNow, Bool.and_eq_true, Bool.not_eq_true'] at hn
  obtain ⟨⟨hh, hspan⟩, hb⟩ := hn
  have hd : (d.toFlight n q i e ops felts span).2.d = e.d := rfl
  have hserve : (d.toFlight n q i e ops felts span).1.banksServe (d.toFlight n q i e ops felts span).2 = true :=
    ((Die.sameReach_toFlight hspan).banksServe rfl rfl rfl).trans hb
  have hcond : (fabricOp e.d = true ∨ ((!false) = true ∧
      (d.toFlight n q i e ops felts span).1.spanUsable (d.toFlight n q i e ops felts span).2 = true ∧
      (d.toFlight n q i e ops felts span).1.banksServe (d.toFlight n q i e ops felts span).2 = true)) :=
    .inr ⟨rfl, Die.spanUsable_toFlight hspan, hserve⟩
  rw [Die.issue_takes h, hh, hu, hs, Bool.or_false, Bool.or_false, Die.tryRun, hd, if_pos hcond, hf]
  rfl

/-- A fabric operation joins its engine whatever it waits for. -/
theorem Die.issue_fabric {extra : Die → Nat → Desc → Option (Nat × Nat)} (h : d.takes n q i e ops felts span extra = true)
    (hf : fabricOp e.d = true) (run : Nat → Die → Infl → Die × Infl) : d.issue n (dOpc e.d) extra run =
      Die.ranBy n q (run q (d.toFlight n q i e ops felts span).1 (d.toFlight n q i e ops felts span).2) := by
  have hd : (d.toFlight n q i e ops felts span).2.d = e.d := rfl
  rw [Die.issue_takes h, Die.tryRun, hd, if_pos (.inl hf), hf]
  rfl

end

/-! ## The operations -/

section
variable {s : State} {n q i : Nat} {e : WinEnt} {ops : List Word} {felts : List FeltUse} {span : List Nat}

/-- An operation that runs at issue, other than UPDATE, SKIM_PART and those of the fabric. -/
def plainOp (opc : Nat) : Bool := !(opc = opcUpdate || opc = opcSkim || opc = opcColl || opc = opcGather)

theorem fabricOp_of_plain {x : Desc} (h : plainOp (dOpc x) = true) : fabricOp x = false := by
  simp only [plainOp, Bool.not_eq_true', Bool.or_eq_false_iff, decide_eq_false_iff_not] at h
  obtain ⟨⟨⟨-, -⟩, hc⟩, hg⟩ := h
  unfold fabricOp
  rw [decide_eq_false hc, decide_eq_false hg, Bool.false_or]

theorem Die.updateSkipped_other {d : Die} {j : Nat} {x : Desc} (h : dOpc x ≠ opcUpdate) : d.updateSkipped j x = false := by
  unfold Die.updateSkipped
  rw [decide_eq_false h, Bool.false_and, Bool.false_and]

theorem Die.partSkipped_other {d : Die} {j : Nat} {x : Desc} (h : dOpc x ≠ opcSkim) : d.partSkipped j x = false := by
  unfold Die.partSkipped
  dsimp only
  rw [decide_eq_false h, Bool.false_and, Bool.false_and, Bool.false_and, Bool.false_and]

/-- What an engine does with the operation it takes. -/
theorem Die.issueOp_runs {d : Die} (errs : List (Nat × Nat × Bool)) (hen : d.enabled n = true)
    (h : d.takes n q i e ops felts span noExtra = true) (hn : d.runsNow n q e ops span = true) (hp : plainOp (dOpc e.d) = true) :
    d.issueOp n (dOpc e.d) errs = Die.ranBy n q ((((d.toFlight n q i e ops felts span).1.markRead (d.toFlight n q i e ops felts span).2).meetErrs
      (d.toFlight n q i e ops felts span).2 errs).runOp n q (d.toFlight n q i e ops felts span).2) := by
  have hp' := hp
  simp only [plainOp, Bool.not_eq_true', Bool.or_eq_false_iff, decide_eq_false_iff_not] at hp'
  obtain ⟨⟨⟨hu, hs⟩, -⟩, -⟩ := hp'
  exact (Die.onCore_enabled hen _).trans
    (Die.issue_runs h hn (fabricOp_of_plain hp) (Die.updateSkipped_other hu) (Die.partSkipped_other hs) _)

/-- A command that issues one operation of an engine. -/
theorem exec_issueOp_runs {c : Instr} {opc : Nat} {errs : List (Nat × Nat × Bool)} (hc : exec c s = s.at_ (islOf n) (fun d => d.issueOp n opc errs))
    (hl : s.d.live (islOf n) = true) (hen : s.d.enabled n = true) (hp : plainOp opc = true) (ho : dOpc e.d = opc)
    (h : s.d.takes n q i e ops felts span noExtra = true) (hn : s.d.runsNow n q e ops span = true) :
    exec c s = .next (s.onD (fun _ => Die.ranBy n q ((((s.d.toFlight n q i e ops felts span).1.markRead
      (s.d.toFlight n q i e ops felts span).2).meetErrs (s.d.toFlight n q i e ops felts span).2 errs).runOp n q
      (s.d.toFlight n q i e ops felts span).2))) := by
  subst ho
  exact (exec_at_live hc hl).trans (State.next_onD_congr (Die.issueOp_runs errs hen h hn hp))

/-- No error met changes nothing. -/
theorem Die.meetErrs_nil {d : Die} (x : Infl) : d.meetErrs x [] = d := by
  unfold Die.meetErrs
  split <;> rfl

theorem Die.runOp_barrier {d : Die} {x : Infl} (h : dOpc x.d = opcBarrier) : d.runOp n q x =
    (d.send n dkNode (.arrival x.job (dOpx x.d 5 0) { core := n, queue := q, id := x.id }), { x with left := 1 }) := by
  unfold Die.runOp
  rw [h]
  rfl

theorem Die.runOp_skim {d : Die} {x : Infl} (h : dOpc x.d = opcSkim) : d.runOp n q x = d.runSkimPart n q x := by
  unfold Die.runOp
  rw [h]
  rfl

theorem Die.runOp_update {d : Die} {x : Infl} (h : dOpc x.d = opcUpdate) : d.runOp n q x = d.runUpdate n x := by
  unfold Die.runOp
  rw [h]
  rfl

theorem Die.runOp_fabric {d : Die} {x : Infl} (h : dOpc x.d = opcGather ∨ dOpc x.d = opcColl) : d.runOp n q x = d.runColl n q x := by
  unfold Die.runOp
  obtain h | h := h
  · rw [h]
    rfl
  · rw [h]
    rfl

/-- GATHER and COLL join their port engine, and the port engines move on. -/
theorem exec_issueColl_runs {c : Instr} {opc : Nat} (hc : exec c s = s.at_ (islOf n) (fun d => d.issueColl n opc))
    (hl : s.d.live (islOf n) = true) (hen : s.d.enabled n = true) (hp : opc = opcGather ∨ opc = opcColl) (ho : dOpc e.d = opc)
    (h : s.d.takes n q i e ops felts span Die.collFault = true) :
    exec c s = .next (s.onD (fun _ => (Die.ranBy n q ((s.d.toFlight n q i e ops felts span).1.runColl n q
      (s.d.toFlight n q i e ops felts span).2)).peAll)) := by
  subst ho
  have hf : fabricOp e.d = true := by
    unfold fabricOp
    obtain h | h := hp <;> rw [h] <;> rfl
  have hrun : (s.d.toFlight n q i e ops felts span).1.runOp n q (s.d.toFlight n q i e ops felts span).2 =
      (s.d.toFlight n q i e ops felts span).1.runColl n q (s.d.toFlight n q i e ops felts span).2 := Die.runOp_fabric hp
  refine (exec_at_live hc hl).trans (State.next_onD_congr ((Die.onCore_enabled hen _).trans (congrArg Die.peAll ?_)))
  rw [Die.issue_fabric h hf, hrun]

end

end Sys2Proof.Machine

namespace Sys2Proof
open Machine

/-- Settles O36: every clause is `Die.issue_takes` with what the operation's engine does. -/
theorem enginesRunTheWinner : Obligations.engines_run_the_winner := by
  unfold Obligations.engines_run_the_winner
  refine ⟨fun s n q i e ops felts span errs hl hen => ?engines, fun s n q i e ops felts span hl hen => ?others⟩
  case engines =>
    have runs {c : Instr} (opc : Nat) (hp : plainOp opc = true) (hc : exec c s = s.at_ (islOf n) (fun d => d.issueOp n opc errs))
        (ho : dOpc e.d = opc) (ht : s.d.takes n q i e ops felts span noExtra = true) (hn : s.d.runsNow n q e ops span = true) :=
      exec_issueOp_runs hc hl hen hp ho ht hn
    refine ⟨runs opcOpa rfl rfl, runs opcOpaT rfl rfl, runs opcLoadacc rfl rfl, runs opcDrain rfl rfl, runs opcMatvec rfl rfl,
      runs opcVec rfl rfl, runs opcTable rfl rfl, runs opcCopy rfl rfl, runs opcConvert rfl rfl, runs opcRng rfl rfl, runs opcReduce rfl rfl,
      fun ho ht hn hs => ?skim, fun ho ht hn hu => ?update⟩
    case skim =>
      refine (exec_at_live (f := fun d => (d.issueOp n opcSkim errs).finishEarly n (d.freshId n)) rfl hl).trans
        (State.next_onD_congr (congrArg (fun d => Die.finishEarly d n (s.d.freshId n)) ?_))
      rw [← ho]
      refine (Die.onCore_enabled hen _).trans ((Die.issue_runs ht hn (by unfold fabricOp; rw [ho]; rfl)
        (Die.updateSkipped_other (by rw [ho]; decide)) hs _).trans (congrArg (Die.ranBy n q) (Die.runOp_skim ho)))
    case update =>
      refine (exec_at_live (f := fun d => (d.issueOp n opcUpdate errs).finishSkipped n (d.freshId n)) rfl hl).trans
        (State.next_onD_congr (congrArg (fun d => Die.finishSkipped d n (s.d.freshId n)) ?_))
      rw [← ho]
      refine (Die.onCore_enabled hen _).trans ((Die.issue_runs ht hn (by unfold fabricOp; rw [ho]; rfl) hu
        (Die.partSkipped_other (by rw [ho]; decide)) _).trans (congrArg (Die.ranBy n q) (Die.runOp_update ho)))
  case others =>
    refine ⟨fun ho ht hn => ?barrier, exec_issueColl_runs rfl hl hen (.inl rfl), exec_issueColl_runs rfl hl hen (.inr rfl)⟩
    refine (exec_issueOp_runs (opc := opcBarrier) (errs := []) rfl hl hen rfl ho ht hn).trans
      (State.next_onD_congr (congrArg (Die.ranBy n q) ?_))
    rw [Die.meetErrs_nil]
    exact Die.runOp_barrier ho

end Sys2Proof
end

section
/-!
PROOFS. The array, the function tables, the matrix-vector path and the batch pools (03 R67-R78, R90).
-/

namespace Sys2Proof.Machine

/-! ## Parts that the array leaves -/

section
variable {α : Type} {d : Die} {n : Nat}

/-- Part of the die that neither cores, accumulators, counters nor free values are in. -/
def Die.ArrayFrame (g : Die → α) : Prop :=
  ∀ (d : Die) a p c r f, g { d with acc := a, accPoison := p, cores := c, ctr := r, free := f } = g d

theorem Die.writeBack_keeps {g : Die → α} (hg : Die.ArrayFrame g) (t : Tile) : g (d.writeBack n t) = g d := by
  unfold Die.writeBack Die.latchNf
  split
  · exact hg d _ _ d.cores d.ctr d.free
  · exact hg d _ _ _ _ d.free

theorem Die.arrayTime_keeps {g : Die → α} (hg : Die.ArrayFrame g) : g (d.arrayTime n) = g d :=
  hg d d.acc d.accPoison d.cores _ _

theorem Die.updCore_keeps {g : Die → α} (hg : Die.ArrayFrame g) (f : Core → Core) : g (d.updCore n f) = g d :=
  hg d d.acc d.accPoison _ d.ctr d.free

theorem Die.swapTiles_keeps {g : Die → α} (hg : Die.ArrayFrame g) : g (d.swapTiles n) = g d := by
  unfold Die.swapTiles
  dsimp only
  split
  · rfl
  · rw [Die.updCore_keeps hg]
    split
    · rfl
    · exact Die.writeBack_keeps hg _

theorem Die.batchTile_keeps {g : Die → α} (hg : Die.ArrayFrame g) (rs : List PoolReq) (t : Nat) : g (d.batchTile n rs t) = g d := by
  unfold Die.batchTile
  rw [Die.arrayTime_keeps hg, Die.updCore_keeps hg, Die.swapTiles_keeps hg]

/-- A write-back latches non-finite elements alone in the core. -/
theorem Die.writeBack_core {γ : Type} (g : Core → γ) (hg : ∀ c s, g (Core.latch c s) = g c) (t : Tile) : g ((d.writeBack n t).core n) = g (d.core n) := by
  unfold Die.writeBack Die.latchNf
  split
  · rfl
  · have hcount (d : Die) (p c k : Nat) : (d.count p c k).core n = d.core n := rfl
    rw [hcount, Die.core_updCore, if_pos rfl, hg]
    rfl

theorem Die.writeBack_acc (t : Tile) : (d.writeBack n t).acc = (d.setSlot n t.slot 0 t.acc).acc := by
  unfold Die.writeBack Die.latchNf
  split <;> rfl

/-- Pool and batch of a core. -/
def Core.requests (c : Core) : List PoolReq × List PoolReq := (c.pool, c.batch)

theorem Core.requests_latch (c : Core) (s : NfSrc) : (c.latch s).requests = c.requests := by
  cases s <;> rfl

theorem Die.batchTile_requests (rs : List PoolReq) (t : Nat) : ((d.batchTile n rs t).core n).requests = (d.core n).requests := by
  have hswap : ((d.swapTiles n).core n).requests = (d.core n).requests := by
    unfold Die.swapTiles
    dsimp only
    split
    · rfl
    next t ht =>
      have hcore (e : Die) : ((e.updCore n (fun c => { c with active := some t, next := none })).core n).requests = (e.core n).requests := by
        rw [Die.core_updCore, if_pos rfl]
        rfl
      rw [hcore]
      split
      · rfl
      · exact Die.writeBack_core Core.requests Core.requests_latch _
  rw [← hswap]
  unfold Die.batchTile
  generalize d.swapTiles n = e
  have htime (f : Die) : (f.arrayTime n).core n = f.core n := rfl
  rw [htime, Die.core_updCore, if_pos rfl]
  rfl

end

/-! ## Swap and flush -/

section
variable {d : Die} {n : Nat}

theorem Die.swapTiles_idle {t : Tile} (hn : (d.core n).next = some t) (ha : (d.core n).active = none) :
    d.swapTiles n = d.updCore n (fun c => { c with active := some t, next := none }) := by
  unfold Die.swapTiles
  dsimp only
  rw [hn, ha]

theorem Die.swapTiles_busy {t a : Tile} (hn : (d.core n).next = some t) (ha : (d.core n).active = some a) :
    d.swapTiles n = (d.writeBack n a).updCore n (fun c => { c with active := some t, next := none }) := by
  unfold Die.swapTiles
  dsimp only
  rw [hn, ha]

/-! ## The function tables -/

/-- The staged image takes the place of the target table. -/
theorem Die.ftabSwap_due {t : Nat} (hs : (d.core n).swap = some t) (h : ∀ y ∈ d.inflight n, dFnEn y.2.d = true → dFn y.2.d ≠ t) :
    d.ftabSwap n = Die.updCore { d with ftab := ssetList d.ftab 0 (n * 32768 + t * 1024) (sgetList d.stage 0 (n * 1024) 776) } n
      (fun c => { c with swap := none, lastSwapped := t }) := by
  have hfree : (d.inflight n).any (fun y => dFnEn y.2.d && decide (dFn y.2.d = t)) = false := by
    rw [List.any_eq_false]
    intro y hy
    rw [Bool.and_eq_true, decide_eq_true_eq]
    exact fun ⟨he, ht⟩ => h y hy he ht
  unfold Die.ftabSwap
  rw [hs]
  dsimp only
  rw [hfree]
  rfl

theorem getD_sgetList (m : Store Word) (k c i : Nat) (h : i < c) : (sgetList m 0 k c).getD i 0 = sget m 0 (k + i) := by
  unfold sgetList
  rw [List.getD_eq_getElem?_getD, List.getElem?_map, List.getElem?_range h]
  rfl

theorem Die.ftabLoad_good (hen : d.enabled n = true) (hs : (d.core n).swap = none) (hb : d.stageBad n = false) :
    d.ftabLoad n 1 = d.updCore n (fun c => { c with swap := some (fld (d.reg (pgCore n) 0x110) 4 0) }) := by
  unfold Die.ftabLoad
  rw [hs, hb]
  exact (if_pos ⟨rfl, rfl, rfl⟩).trans (Die.onCore_enabled hen _)

/-! ## The matrix-vector path -/

theorem Die.mvPass_of_running {q : Nat} {e : Infl} (h : d.mvRunning n = some (q, e)) :
    d.mvPass n =
      let p := dOpx e.d 4 0 - e.left
      let g := (if p = 0 then d.loadVec n e else d).runPass n e p
      let mv : Option (DescRef × Nat) := if e.left - 1 = 0 then none else some ({ core := n, queue := q, id := e.id }, p + 1)
      (g.1.updCore n (fun c => { c with mv })).putInfl n q { g.2 with left := e.left - 1 } := by
  unfold Die.mvPass
  rw [h]

/-! ## Batch pools -/

/-- The pool core takes a request that matches those it has collected, with room for more. -/
theorem Die.collectReq_fits {c : Nat} {r : DescRef} {e : Infl} {l : List PoolReq} (hi : d.inflOf r = some e) (hr : e.ran = true)
    (hleft : 0 < e.left) (hp : d.poolOfReq e = some c) (hl : (d.core c).pool = l)
    (hfit : l = [] ∨ ∃ x y t, l = x :: t ∧ d.inflOf x.ref = some y ∧ sameBatch y e = true)
    (hnew : (l ++ (d.core c).batch).all (fun x => decide (x.ref ≠ r)) = true) (hlen : l.length < 31) :
    d.collectReq c r = (d.deliverVec c r e l.length (if dOpx e.d 5 5 = 1 then (d.core r.core).vfmt else dFmtA e.d)).updCore c
      (fun x => { x with pool := x.pool ++
        [{ ref := r, sheet := l.length, fmt := if dOpx e.d 5 5 = 1 then (d.core r.core).vfmt else dFmtA e.d }] }) := by
  have hmatch : (match (generalizing := false) l with
      | [] => true
      | x :: _ => match d.inflOf x.ref with
        | none => false
        | some y => sameBatch y e) = true := by
    obtain rfl | ⟨x, y, t, rfl, hx, hy⟩ := hfit
    · rfl
    · dsimp only
      rw [hx]
      exact hy
  subst hl
  unfold Die.collectReq
  rw [hi]
  dsimp only
  rw [if_pos ⟨hr, hleft, hp, hmatch, hnew, by omega⟩, if_neg (by omega)]

/-- The counters and tiles of a batch that launches. -/
def Die.launched (d : Die) (c : Nat) (rs : List PoolReq) (macs : Nat) (early : Bool) : Die :=
  let d := ((d.updCore c (fun x => { x with pool := [], batch := x.batch ++ rs })).count (pgCore c) 0xB).count (pgCore c) 2 macs
  let d := (List.range ((rs.headD {}).rows.length)).foldl (fun d t => d.batchTile c rs t) d
  if early ∧ rs.length < 32 then d.count (pgCore c) 0xC else d

theorem Die.launched_keeps {α : Type} {g : Die → α} (hg : Die.ArrayFrame g) (rs : List PoolReq) (macs : Nat) (early : Bool) :
    g (d.launched n rs macs early) = g d := by
  have hcount (d : Die) (p c k : Nat) : g (d.count p c k) = g d := hg d d.acc d.accPoison d.cores _ d.free
  have hfold (e : Die) : g ((List.range ((rs.headD {}).rows.length)).foldl (fun d t => d.batchTile n rs t) e) = g e :=
    foldl_keeps g (fun _ _ => Die.batchTile_keeps hg _ _) _ _
  unfold Die.launched
  dsimp only
  split
  · rw [hcount, hfold, hcount, hcount, Die.updCore_keeps hg]
  · rw [hfold, hcount, hcount, Die.updCore_keeps hg]

theorem Die.launched_requests (rs : List PoolReq) (macs : Nat) (early : Bool) :
    ((d.launched n rs macs early).core n).requests = ([], (d.core n).batch ++ rs) := by
  have hfold (e : Die) : (((List.range ((rs.headD {}).rows.length)).foldl (fun d t => d.batchTile n rs t) e).core n).requests = (e.core n).requests :=
    foldl_keeps (fun d => (Die.core d n).requests) (fun _ _ => Die.batchTile_requests _ _) _ _
  have hcount (d : Die) (p c k : Nat) : (d.count p c k).core n = d.core n := rfl
  unfold Die.launched
  dsimp only
  split
  · rw [hcount, hfold, hcount, hcount, Die.core_updCore, if_pos rfl]
    rfl
  · rw [hfold, hcount, hcount, Die.core_updCore, if_pos rfl]
    rfl

/-- The requests collected launch once no array operation waits to enter. -/
theorem Die.launchBatch_free {r : PoolReq} {l : List PoolReq} {e : Infl} (hp : (d.core n).pool = r :: l) (hi : d.inflOf r.ref = some e)
    (hf : d.arrayFree n = true) (early : Bool) : ∃ macs, d.launchBatch n early = d.launched n
      (((r :: l).filter (fun x => (d.inflOf x.ref).isSome)).map (d.poolRun n (dSlot e.d))) macs early := by
  unfold Die.launchBatch Die.launched
  rw [hp]
  dsimp only
  rw [hf, hi]
  exact ⟨_, rfl⟩

theorem Die.launchBatch_waits (h : (d.core n).pool = [] ∨ d.arrayFree n = false) (early : Bool) : d.launchBatch n early = d := by
  unfold Die.launchBatch
  split
  · rfl
  next r t hp =>
    obtain h | h := h
    · rw [h] at hp
      cases hp
    · rw [h]
      rfl

end

end Sys2Proof.Machine

namespace Sys2Proof
open Machine

/-- Settles O37: the tokens, the tables, the passes and the pools, each by its own equation. -/
theorem arrayAndTables : Obligations.array_and_tables := by
  unfold Obligations.array_and_tables
  refine ⟨fun s n hl => ⟨fun t ht => ⟨fun ha => ?idle, fun a ha => ?busy⟩, fun t hf ha hw => ?flush, fun ht => ?tbuf,
    fun ini had hen hs hb => ?request, fun t hs hfree => ?swap⟩, fun s n errs hl => ⟨fun hm => ?none, fun q e hm => ⟨?pass, ?clean⟩⟩,
    fun s c n q i e l hl hi => ?collect, fun s c hl => ⟨fun h => ?waits, fun r l e hp hi hf => ?launch⟩⟩
  case idle => exact (exec_at_live (f := fun d => d.swapTiles n) rfl hl).trans (State.next_onD_congr (Die.swapTiles_idle ht ha))
  case busy =>
    refine ⟨s.onD (fun d => (d.writeBack n a).updCore n (fun c => { c with active := some t, next := none })),
      (exec_at_live (f := fun d => d.swapTiles n) rfl hl).trans (State.next_onD_congr (Die.swapTiles_busy ht ha)), ?_, ?_, ?_, ?_, ?_, ?_⟩
    · exact congrArg Core.active ((Die.core_updCore _ _ _ _).trans (if_pos rfl))
    · exact congrArg Core.next ((Die.core_updCore _ _ _ _).trans (if_pos rfl))
    · exact Die.writeBack_acc a
    · exact Die.writeBack_keeps (g := Die.mem) (fun _ _ _ _ _ _ => rfl) a
    · exact Die.writeBack_keeps (g := Die.regs) (fun _ _ _ _ _ _ => rfl) a
    · exact Die.writeBack_keeps (g := Die.queues) (fun _ _ _ _ _ _ => rfl) a
  case flush =>
    refine (exec_at_live (f := fun d => match (d.core n).active with
      | some t =>
        if d.arrayFree n ∧ d.slotWanted n t.slot then
          (((d.writeBack n t).updCore n (fun c => { c with active := none, lastSlot := none })).count (pgCore n) 5).arrayTime n
        else d
      | none => d) rfl hl).trans (State.next_onD_congr ?_)
    rw [ha]
    exact if_pos ⟨hf, hw⟩
  case tbuf =>
    refine (exec_at_live (f := fun d => if 0 < (d.core n).tbuf then (d.updCore n (fun c => { c with tbuf := c.tbuf - 1 })).count (pgCore n) 0xA else d)
      rfl hl).trans (State.next_onD_congr ?_)
    exact if_pos ht
  case request =>
    have hcore : (s.reached ini (pgCore n)).d.core n = s.d.core n := s.reached_keeps ini (pgCore n) (Die.core · n) (fun _ _ _ _ _ => rfl)
    have hstage : (s.reached ini (pgCore n)).d.stageBad n = s.d.stageBad n :=
      s.reached_keeps ini (pgCore n) (Die.stageBad · n) (fun _ _ _ _ _ => rfl)
    refine (exec_cplD_served (f := fun d => d.ftabLoad n 1) rfl had).trans (State.next_onD_congr ?_)
    rw [Die.ftabLoad_good (by rw [State.reached_enabled, hen]) (by rw [hcore, hs]) (by rw [hstage, hb]), State.reached_reg]
  case swap =>
    obtain ⟨e, he⟩ : ∃ e : Die, e = { s.d with ftab := ssetList s.d.ftab 0 (n.val * 32768 + t * 1024) (sgetList s.d.stage 0 (n.val * 1024) 776) } :=
      ⟨_, rfl⟩
    have hd := Die.ftabSwap_due hs hfree
    rw [← he] at hd
    have hcore := (Die.core_updCore (d := e) n n (fun c => { c with swap := none, lastSwapped := t })).trans (if_pos rfl)
    refine ⟨s.onD (fun _ => e.updCore n (fun c => { c with swap := none, lastSwapped := t })),
      (exec_at_live (f := fun d => d.ftabSwap n) rfl hl).trans (State.next_onD_congr hd), congrArg Core.swap hcore,
      congrArg Core.lastSwapped hcore, fun k => ?_, ?_, ?_, ?_⟩
    · have hf : e.ftab = ssetList s.d.ftab 0 (n.val * 32768 + t * 1024) (sgetList s.d.stage 0 (n.val * 1024) 776) := by rw [he]
      have hlen : (sgetList s.d.stage 0 (n.val * 1024) 776).length = 776 := by rw [sgetList, List.length_map, List.length_range]
      refine (congrArg (fun m => sget m 0 k) hf).trans ((sget_ssetList _ _ _ _ _).trans ?_)
      rw [hlen]
      split
      next h => exact getD_sgetList _ _ _ _ (by omega)
      next => rfl
    · show e.stage = _
      rw [he]
    · show e.mem = _
      rw [he]
    · show e.regs = _
      rw [he]
  case none =>
    refine (exec_at_live (f := fun d => match d.mvRunning n with
      | none => d
      | some (_, e) => (d.meetErrs e errs).mvPass n) rfl hl).trans (State.next_onD_congr (g := id) ?_)
    rw [hm]
    rfl
  case pass =>
    refine (exec_at_live (f := fun d => match d.mvRunning n with
      | none => d
      | some (_, e) => (d.meetErrs e errs).mvPass n) rfl hl).trans (State.next_onD_congr ?_)
    rw [hm]
  case clean =>
    refine (exec_at_live (f := fun d => match d.mvRunning n with
      | none => d
      | some (_, e) => (d.meetErrs e []).mvPass n) rfl hl).trans (State.next_onD_congr ?_)
    rw [hm]
    dsimp only
    rw [Die.meetErrs_nil, Die.mvPass_of_running hm]
  case collect =>
    intro ref fmt hr hran hleft hp hpool hfit hnew hlen
    refine (exec_at_live (f := fun d => match (d.queue n q).infl[i]? with
      | none => d
      | some e => (d.meetErrs e []).collectReq c { core := n, queue := q, id := e.id }) rfl hl).trans (State.next_onD_congr ?_)
    rw [hi]
    dsimp only
    rw [Die.meetErrs_nil, Die.collectReq_fits hr hran hleft hp hpool hfit hnew hlen]
  case waits =>
    exact (exec_at_live (f := fun d => d.launchBatch c true) rfl hl).trans
      (State.next_onD_congr (g := id) (Die.launchBatch_waits h true))
  case launch =>
    obtain ⟨macs, hm⟩ := Die.launchBatch_free hp hi hf true
    have hreq := s.d.launched_requests (n := c) (((r :: l).filter (fun x => (s.d.inflOf x.ref).isSome)).map (s.d.poolRun c (dSlot e.d))) macs true
    have hkeep {α : Type} (g : Die → α) (hg : Die.ArrayFrame g) := s.d.launched_keeps (n := c) hg
      (((r :: l).filter (fun x => (s.d.inflOf x.ref).isSome)).map (s.d.poolRun c (dSlot e.d))) macs true
    exact ⟨_, (exec_at_live (f := fun d => d.launchBatch c true) rfl hl).trans (State.next_onD_congr (g := fun d => d.launched c _ macs true) hm),
      congrArg Prod.fst hreq, congrArg Prod.snd hreq, hkeep Die.mem (fun _ _ _ _ _ _ => rfl), hkeep Die.regs (fun _ _ _ _ _ _ => rfl),
      hkeep Die.queues (fun _ _ _ _ _ _ => rfl), rfl, rfl⟩

end Sys2Proof
end

section
/-!
PROOFS. What the page state machine writes: objects, page entries, requests, streams and counters (06 R179-R188).
-/

namespace Sys2Proof.Machine

/-- The die with other page objects and entries, requests, streams, frame generations and counters. -/
def Die.withPages (d : Die) (ob : Store (Option PObj)) (pg : Store (Option Page)) (rq : List Req) (ck : Nat) (fm : List (Nat × Nat))
    (st : Store Strm) (fg : Store Nat) (ct : Store DWord) : Die :=
  { d with objs := ob, pages := pg, strms := st, fgen := fg, ctr := ct, dk := { d.dk with reqs := rq, clock := ck, former := fm } }

/-- `e` is `d` but for page objects and entries, requests, streams, frame generations and counters. -/
def Die.Paged (d e : Die) : Prop := ∃ ob pg rq ck fm st fg ct, e = d.withPages ob pg rq ck fm st fg ct

namespace Die.Paged

variable {d e : Die}

theorem refl (d : Die) : Die.Paged d d := ⟨d.objs, d.pages, d.dk.reqs, d.dk.clock, d.dk.former, d.strms, d.fgen, d.ctr, rfl⟩

theorem trans {f : Die} (h : Die.Paged d e) (h' : Die.Paged e f) : Die.Paged d f := by
  obtain ⟨ob, pg, rq, ck, fm, st, fg, ct, rfl⟩ := h
  obtain ⟨ob', pg', rq', ck', fm', st', fg', ct', rfl⟩ := h'
  exact ⟨ob', pg', rq', ck', fm', st', fg', ct', rfl⟩

/-- A part of the die that the page state machine does not write. -/
def Frame {α : Type} (g : Die → α) : Prop :=
  ∀ (d : Die) ob pg rq ck fm st fg ct, g (d.withPages ob pg rq ck fm st fg ct) = g d

theorem keeps (h : Die.Paged d e) {α : Type} {g : Die → α} (hg : Frame g) : g e = g d := by
  obtain ⟨ob, pg, rq, ck, fm, st, fg, ct, rfl⟩ := h
  exact hg ..

/-- A walk of paging steps. -/
theorem foldl {β : Type} {f : Die → β → Die} (h : ∀ d b, Die.Paged d (f d b)) (l : List β) (d : Die) : Die.Paged d (l.foldl f d) := by
  induction l generalizing d with
  | nil => exact refl d
  | cons b t ih => exact (h d b).trans (ih _)

theorem ite {p : Prop} [Decidable p] {f : Die} (he : Die.Paged d e) (hf : Die.Paged d f) : Die.Paged d (if p then e else f) := by
  split
  · exact he
  · exact hf

theorem count (d : Die) (p c k : Nat) : Die.Paged d (d.count p c k) :=
  ⟨d.objs, d.pages, d.dk.reqs, d.dk.clock, d.dk.former, d.strms, d.fgen, _, rfl⟩

theorem setObj (d : Die) (k : Nat) (o : Option PObj) : Die.Paged d (d.setObj k o) :=
  ⟨_, d.pages, d.dk.reqs, d.dk.clock, d.dk.former, d.strms, d.fgen, d.ctr, rfl⟩

theorem updObj (d : Die) (k : Nat) (f : PObj → PObj) : Die.Paged d (d.updObj k f) := by
  unfold Die.updObj
  split
  · exact refl d
  · exact setObj ..

theorem setPage (d : Die) (j v : Nat) (p : Option Page) : Die.Paged d (d.setPage j v p) :=
  ⟨d.objs, _, d.dk.reqs, d.dk.clock, d.dk.former, d.strms, d.fgen, d.ctr, rfl⟩

theorem updStrm (d : Die) (x : Nat) (f : Strm → Strm) : Die.Paged d (d.updStrm x f) :=
  ⟨d.objs, d.pages, d.dk.reqs, d.dk.clock, d.dk.former, _, d.fgen, d.ctr, rfl⟩

/-- The Deckle's requests, clock and held pages. -/
theorem updDk (d : Die) (rq : List Req) (ck : Nat) (fm : List (Nat × Nat)) :
    Die.Paged d (d.updDk (fun x => { x with reqs := rq, clock := ck, former := fm })) :=
  ⟨d.objs, d.pages, rq, ck, fm, d.strms, d.fgen, d.ctr, rfl⟩

theorem withdraw (d : Die) (k : Nat) (p : ReqKind → Bool) : Die.Paged d (d.withdraw k p) := updDk d _ d.dk.clock d.dk.former

theorem request (d : Die) (kind : ReqKind) (k : Nat) (o : PObj) (j : Nat) : Die.Paged d (d.request kind k o j) := by
  unfold Die.request
  dsimp only
  split
  · exact updDk d _ d.dk.clock d.dk.former
  · exact (updStrm d ..).trans (updDk _ _ d.dk.clock d.dk.former)

theorem drainWb (d : Die) (k : Nat) : Die.Paged d (d.drainWb k) := by
  unfold Die.drainWb
  split
  · exact refl d
  · exact ite ((updObj ..).trans (request ..)) (refl d)

theorem startDrain (d : Die) (k : Nat) : Die.Paged d (d.startDrain k) := (updObj ..).trans (drainWb ..)

theorem enterFilling (d : Die) (k : Nat) (o : PObj) (f j : Nat) (pf : Bool) : Die.Paged d (d.enterFilling k o f j pf) := by
  have h (p : PObj) : Die.Paged d (Die.updDk { d.setObj k (some p) with fgen := sset d.fgen 0 f ((sget d.fgen 0 f + 1) % 65536) }
      (fun x => { x with clock := d.dk.clock + 1 })) :=
    ⟨_, d.pages, d.dk.reqs, _, d.dk.former, d.strms, _, d.ctr, rfl⟩
  unfold Die.enterFilling
  dsimp only
  split
  · exact (h _).trans (count ..)
  · exact (h _).trans (request ..)

theorem waitFrame (d : Die) (k : Nat) (o : PObj) (j : Nat) (pf : Bool) : Die.Paged d (d.waitFrame k o j pf) := by
  unfold Die.waitFrame
  dsimp only
  split
  · exact (setObj ..).trans (count ..)
  · exact (setObj ..).trans (startDrain ..)

theorem overuse (d : Die) (k : Nat) : Die.Paged d (d.overuse k) := by
  unfold Die.overuse
  dsimp only
  split
  · exact refl d
  · exact ⟨d.objs, _, d.dk.reqs, d.dk.clock, d.dk.former, d.strms, d.fgen, _, rfl⟩

theorem promote (d : Die) (j k : Nat) (pf : Bool) : Die.Paged d (d.promote j k pf) := by
  unfold Die.promote
  split
  · exact refl d
  next o _ =>
    dsimp only
    have hc : Die.Paged d (if !pf ∧ d.freshDemand j k o then d.count pgDk 4 else d) := ite (count ..) (refl d)
    generalize (if (!pf) = true ∧ d.freshDemand j k o = true then d.count pgDk 4 else d) = c at hc ⊢
    split
    · split
      · exact hc.trans (setObj ..)
      · split
        · exact (hc.trans (overuse ..)).trans (enterFilling ..)
        · exact (hc.trans (overuse ..)).trans (waitFrame ..)
    · split
      · exact hc.trans (setObj ..)
      · exact (hc.trans (setObj ..)).trans (updDk _ _ _ _)
    · exact hc.trans (setObj ..)
    · split
      · exact hc
      · split
        · exact hc.trans (setObj ..)
        · have ho := (hc.trans (overuse _ k)).trans (count _ pgDk 6 1)
          split
          · exact ho.trans (setObj ..)
          · exact (ho.trans (setObj ..)).trans (withdraw ..)

theorem quotaEvict {j : Nat} {span : List Nat} (h : d.quotaEvict j span = some e) : Die.Paged d e := by
  unfold Die.quotaEvict at h
  split at h
  · cases h
    exact (startDrain ..).trans (count ..)
  · cases h

theorem cancelEvict (d : Die) (j v : Nat) : Die.Paged d (d.cancelEvict j v) := by
  unfold Die.cancelEvict
  dsimp only
  split
  · exact count ..
  · split
    · exact count ..
    · exact ((count d pgDk 7 1).trans (setObj ..)).trans (count ..)

theorem fillingVictims (d : Die) (j : Nat) (tried : List Nat) (n : Nat) : Die.Paged d (d.fillingVictims j tried n) := by
  induction n generalizing d tried with
  | zero => exact refl d
  | succ n ih =>
    rw [Die.fillingVictims]
    split
    · exact refl d
    · dsimp only
      split
      · exact (cancelEvict ..).trans (ih ..)
      · exact cancelEvict ..

theorem overEvict (d : Die) (j : Nat) (span : List Nat) : Die.Paged d (d.overEvict j span) := by
  unfold Die.overEvict
  split
  · split
    next h => exact quotaEvict h
    next => exact fillingVictims ..
  · exact refl d

theorem demandPage (d : Die) (j k : Nat) (span : List Nat) : Die.Paged d (d.demandPage j k span) := by
  unfold Die.demandPage
  exact (ite (overEvict ..) (refl d)).trans (promote ..)

theorem dropRef (d : Die) (due : List Nat) (k : Nat) : Die.Paged d (d.dropRef due k) := by
  unfold Die.dropRef
  dsimp only
  refine Die.Paged.trans ?_ (drainWb ..)
  split
  · exact updObj ..
  · exact ite ((updObj ..).trans (updDk _ _ _ _)) (updObj ..)

theorem dropDirty (d : Die) (k : Nat) : Die.Paged d (d.dropDirty k) := (updObj ..).trans (withdraw ..)

theorem useStream (d : Die) (j k : Nat) : Die.Paged d (d.useStream j k) := by
  unfold Die.useStream
  split
  · exact refl d
  next p _ =>
    have h : Die.Paged d { d with pages := sset d.pages none p.1 (some { p.2 with uses := p.2.uses - 1 }) } :=
      ⟨d.objs, _, d.dk.reqs, d.dk.clock, d.dk.former, d.strms, d.fgen, d.ctr, rfl⟩
    exact ite (h.trans (dropDirty ..)) h

end Die.Paged

end Sys2Proof.Machine
end

section
/-!
PROOFS. Placement and removal of regions (06 R171, R172).
-/

namespace Sys2Proof.Machine

/-! ## What writing the registers of a core leaves -/

/-- `e` is `d` but for registers, their shadows and the plans held. -/
def Die.Planned (d e : Die) : Prop := ∃ rg sh hp, e = { d with regs := rg, shad := sh, heldPlan := hp }

namespace Die.Planned

variable {d e : Die}

theorem refl (d : Die) : Die.Planned d d := ⟨d.regs, d.shad, d.heldPlan, rfl⟩

theorem trans {f : Die} (h : Die.Planned d e) (h' : Die.Planned e f) : Die.Planned d f := by
  obtain ⟨rg, sh, hp, rfl⟩ := h
  obtain ⟨rg', sh', hp', rfl⟩ := h'
  exact ⟨rg', sh', hp', rfl⟩

theorem keeps (h : Die.Planned d e) {α : Type} (g : Die → α)
    (hg : ∀ (d : Die) rg sh hp, g { d with regs := rg, shad := sh, heldPlan := hp } = g d) : g e = g d := by
  obtain ⟨rg, sh, hp, rfl⟩ := h
  exact hg ..

theorem foldl {β : Type} {f : Die → β → Die} (h : ∀ d b, Die.Planned d (f d b)) (l : List β) (d : Die) : Die.Planned d (l.foldl f d) := by
  induction l generalizing d with
  | nil => exact refl d
  | cons b t ih => exact (h d b).trans (ih _)

theorem setShadow (d : Die) (p o : Nat) (v : Word) : Die.Planned d (d.setShadow p o v) := ⟨d.regs, _, d.heldPlan, rfl⟩

theorem setBoth (d : Die) (p o : Nat) (v : Word) : Die.Planned d (d.setBoth p o v) := ⟨_, _, d.heldPlan, rfl⟩

theorem commitPage (d : Die) (p : Nat) : Die.Planned d (d.commitPage p) := ⟨_, d.shad, d.heldPlan, rfl⟩

theorem setPlan (d : Die) (n : Nat) (ws : List Word) : Die.Planned d (d.setPlan n ws) := by
  have hhold : Die.Planned d (d.holdPlan n) := by
    unfold Die.holdPlan
    split
    · exact ⟨d.regs, d.shad, _, rfl⟩
    · exact refl d
  exact hhold.trans (foldl (fun d s => setBoth ..) _ _)

theorem setQueueRegs (d : Die) (n q : Nat) (ws : List Word) (b e j : Nat) : Die.Planned d (d.setQueueRegs n q ws b e j) := by
  have hput (d : Die) (k : Nat) (v : Word) : Die.Planned d (match queueRegs k with
      | none => d
      | some r => d.setShadow (pgCore n) (0x400 + 0x80 * q + k) (v &&& r.cs)) := by
    split
    · exact refl d
    · exact setShadow ..
  unfold Die.setQueueRegs
  dsimp only
  exact ((foldl (fun d i => hput d (4 * i) (ws.getD i 0)) _ d).trans (hput _ 0x18 (packW [(16, e), (0, b)]))).trans (hput _ 0x1C (word j))

theorem setupCore (d : Die) (m : Image) (b j : Nat) (bank : List Word) (x : Nat × Nat) : Die.Planned d (d.setupCore m b j bank x) :=
  (((foldl (fun _ _ => setQueueRegs ..) _ d).trans (setShadow ..)).trans (setPlan ..)).trans (commitPage ..)

end Die.Planned

/-- Step 3 of a placement: the cores of the region get their registers and plans. -/
def Die.setupRegion (d : Die) (m : Image) (g : Region) (base job : Nat) : Die :=
  g.used.zipIdx.foldl (fun e u => e.setupCore m base job (d.mwords m.bank 16) u)
    (((rectCores g.x g.y g.w g.h).filter (fun n => !g.used.contains n)).foldl (fun e n => e.setPlan n (d.mwords m.bank 16)) d)

theorem Die.Planned.setupRegion (d : Die) (m : Image) (g : Region) (base job : Nat) : Die.Planned d (d.setupRegion m g base job) :=
  (Die.Planned.foldl (fun _ _ => .setPlan ..) _ d).trans (.foldl (fun _ _ => .setupCore ..) _ _)

/-! ## Steps 0 to 3 of a placement -/

section
variable {d : Die}

/-- Sections without errors are read. -/
theorem Die.readSections_clean (l : List (Nat × Nat)) :
    d.readSections l [] = (l.foldl (fun d s => d.readBursts (burstsOf s.1 s.2)) d, false) := by
  have go (l : List (Nat × Nat)) (d : Die) :
      l.foldl (fun (acc : Die × Bool) s => ((acc.1.readRange false s.1 s.2 []).1, acc.2 || !(acc.1.readRange false s.1 s.2 []).2.isEmpty)) (d, false) =
        (l.foldl (fun d s => d.readBursts (burstsOf s.1 s.2)) d, false) := by
    induction l generalizing d with
    | nil => rfl
    | cons s t ih =>
      rw [List.foldl_cons, List.foldl_cons]
      exact ih _
  exact go l d

theorem Die.place_disabled (h : (d.job d.dkJob).enabled = false) : d.place [] = d.dkEnd 7 0 := by
  unfold Die.place
  exact if_pos h

theorem Die.place_placed (h : (d.job d.dkJob).enabled = true) (hr : (d.region d.dkRegion).isSome = true) : d.place [] = d.dkEnd 4 0 := by
  unfold Die.place
  dsimp only
  rw [h, if_neg (by decide), if_pos hr]

theorem Die.place_misaligned (h : (d.job d.dkJob).enabled = true) (hr : d.region d.dkRegion = none) (ha : d.dkAddr % 64 ≠ 0) :
    d.place [] = d.dkEnd 3 0 := by
  unfold Die.place
  dsimp only
  rw [h, if_neg (by decide), hr, if_neg (by decide), if_pos (.inl ha)]

/-- A good image with an admissible origin waits for the slots of its plan. -/
theorem Die.place_good {x y base : Nat} (h : (d.job d.dkJob).enabled = true) (hr : d.region d.dkRegion = none) (ha : d.dkAddr % 64 = 0)
    (h1 : d.sectionsOk [(d.dkAddr, 64)] = true) (h2 : d.headerOk d.dkAddr = true)
    (h3 : d.sectionsOk (d.sections d.dkAddr (d.readImage d.dkAddr)) = true) (h4 : d.planOk (d.readImage d.dkAddr) = true)
    (h5 : d.feltOk (d.readImage d.dkAddr) = true) (h6 : d.search (d.readImage d.dkAddr) d.dkRegion = .ok (x, y, base)) :
    ∃ e f : Die, d.place [] = f.updDk (fun k => { k with cmd := .placing d.dkRegion (d.mkRegion (d.readImage d.dkAddr) d.dkJob x y base) d.dkAddr }) ∧
      Die.Served d e ∧ e.mem = d.mem ∧ Die.Planned e f := by
  obtain ⟨a, ha'⟩ : ∃ a, a = d.dkAddr := ⟨_, rfl⟩
  obtain ⟨m, hm⟩ : ∃ m, m = d.readImage a := ⟨_, rfl⟩
  rw [← ha'] at ha h1 h2 h3 h4 h5 h6 ⊢
  rw [← hm] at h3 h4 h5 h6 ⊢
  obtain ⟨e, he⟩ : ∃ e, e = (d.sections a m).foldl (fun d s => d.readBursts (burstsOf s.1 s.2)) d := ⟨_, rfl⟩
  have hs : Die.Served d e := by
    rw [he]
    exact Die.Served.foldl (fun d s => .readBursts d _) _ d
  have hmem : e.mem = d.mem := by
    rw [he]
    exact foldl_keeps Die.mem (fun d s => Die.readBursts_mem _) _ _
  have hread : d.readSections (d.sections a m) [] = (e, false) := by rw [he, Die.readSections_clean]
  have hsec : e.sectionsOk (d.sections a m) = true := by
    rw [← h3]
    unfold Die.sectionsOk
    simp only [hs.rangeOpen]
  have hplan : e.planOk m = true := (hs.keeps_mem hmem (Die.planOk · m) (fun _ _ _ _ _ => rfl)).trans h4
  have hfelt : e.feltOk m = true := (hs.keeps_mem hmem (Die.feltOk · m) (fun _ _ _ _ _ => rfl)).trans h5
  have hsearch : e.search m d.dkRegion = .ok (x, y, base) := (hs.keeps_mem hmem (Die.search · m d.dkRegion) (fun _ _ _ _ _ => rfl)).trans h6
  have hreg : e.mkRegion m d.dkJob x y base = d.mkRegion m d.dkJob x y base :=
    hs.keeps_mem hmem (Die.mkRegion · m d.dkJob x y base) (fun _ _ _ _ _ => rfl)
  have himage : ¬ (a % 64 ≠ 0 ∨ (!d.sectionsOk [(a, 64)]) = true ∨ (!d.headerOk a) = true) := by
    rw [h1, h2]
    rintro (h | h | h)
    · exact h ha
    · cases h
    · cases h
  have hgood : ¬ (false = true ∨ (!e.sectionsOk (d.sections a m)) = true ∨ (!e.planOk m) = true ∨ (!e.feltOk m) = true) := by
    rw [hsec, hplan, hfelt]
    rintro (h | h | h | h) <;> cases h
  refine ⟨e, e.setupRegion m (d.mkRegion m d.dkJob x y base) base d.dkJob, ?_, hs, hmem, .setupRegion ..⟩
  unfold Die.place
  dsimp only
  rw [h, if_neg (by decide), hr, if_neg (by decide), ← ha', if_neg himage, ← hm, hread]
  dsimp only
  rw [if_neg hgood, hsearch]
  dsimp only
  rw [hreg]
  rfl

/-! ## Steps 4 and 5 of a placement -/

/-- A part of the die that neither paging, loading a plan nor starting a queue writes. -/
def Die.PlacedFrame {α : Type} (g : Die → α) : Prop :=
  Die.Paged.Frame g ∧
  (∀ (d : Die) ne rt fq ev, g { d with nent := ne, rtile := rt, felt := fq, evt := ev } = g d) ∧
  ∀ (d : Die) qs dc co, g { d with queues := qs, dcache := dc, cores := co } = g d

theorem Die.loadPlan_keeps {α : Type} {g : Die → α} (hg : Die.PlacedFrame g) (m : Image) (r : Nat) (x : Region) :
    g (d.loadPlan m r x) = g d := by
  obtain ⟨-, hg, -⟩ := hg
  unfold Die.loadPlan
  dsimp only
  refine (hg _ (Die.nent _) (Die.rtile _) (Die.felt _) _).trans ?_
  refine (foldl_keeps g (fun e f => hg e e.nent e.rtile _ e.evt) _ _).trans ?_
  refine (foldl_keeps g (fun e t => hg e e.nent _ e.felt e.evt) _ _).trans ?_
  exact hg d _ d.rtile d.felt d.evt

theorem Die.Paged.bindHomes (d : Die) (r : Nat) : Die.Paged d (d.bindHomes r) :=
  (Die.Paged.foldl (fun _ _ => .updObj ..) _ d).trans (.foldl (fun _ _ => .demandPage ..) _ _)

theorem Die.qStart_keeps {α : Type} {g : Die → α} (hg : Die.PlacedFrame g) (ht : ∀ (d : Die) c f n r t,
    g { d with ctr := c, free := f, trS := n, trRec := r, trc := t } = g d) (hp : ∀ (d : Die) pa, g { d with pact := pa } = g d) (n q : Nat) :
    g (d.qStart n q) = g d := by
  obtain ⟨-, -, hg⟩ := hg
  have hset (d : Die) (x : Queue) : g (d.setQueue n q x) = g d := by
    unfold Die.setQueue
    split
    · exact hg d _ d.dcache d.cores
    · exact hg d d.queues d.dcache _
  have hcount (d : Die) (p c k : Nat) : g (d.count p c k) = g d := ht d _ d.free d.trS d.trRec d.trc
  have hbound (d : Die) (v : Word) : g (d.boundary n q v) = g d := by
    unfold Die.boundary
    dsimp only
    rw [hset]
    split
    · exact hp d _
    · rfl
  unfold Die.qStart
  dsimp only
  split
  · exact hcount ..
  · split
    · exact (Die.trace_keeps g ht _ _ _).trans (hset ..)
    · exact (hset ..).trans ((hg _ (Die.queues _) _ (Die.cores _)).trans ((hset ..).trans (hbound ..)))

/-- Once no circuit holds a slot of its plan the region is placed. -/
theorem Die.placeEnd_free {k : Nat} {x : Region} {a : Nat} (hc : d.dk.cmd = .placing k x a) (hh : d.planHeld x = false) :
    ∃ e : Die, d.placeEnd = e.dkEnd 0 0 ∧ e.mem = d.mem ∧ e.regions = sset d.regions none k (some x) := by
  obtain ⟨f, hf⟩ : ∃ f : Die, f = { d.loadPlan (d.readImage a) k x with regions := sset (d.loadPlan (d.readImage a) k x).regions none k (some x) } :=
    ⟨_, rfl⟩
  have hmem : Die.PlacedFrame Die.mem := ⟨fun _ _ _ _ _ _ _ _ _ => rfl, fun _ _ _ _ _ => rfl, fun _ _ _ _ => rfl⟩
  have hregs : Die.PlacedFrame Die.regions := ⟨fun _ _ _ _ _ _ _ _ _ => rfl, fun _ _ _ _ _ => rfl, fun _ _ _ _ => rfl⟩
  have hfm : f.mem = d.mem := by
    rw [hf]
    exact Die.loadPlan_keeps hmem ..
  have hfr : f.regions = sset d.regions none k (some x) := by
    rw [hf, ← Die.loadPlan_keeps hregs (d := d) (d.readImage a) k x]
  have hstart {α : Type} {g : Die → α} (hg : Die.PlacedFrame g) (ht : ∀ (d : Die) c f n r t,
      g { d with ctr := c, free := f, trS := n, trRec := r, trc := t } = g d) (hp : ∀ (d : Die) pa, g { d with pact := pa } = g d) :
      g (if (d.readImage a).auto = true then x.used.foldl (fun d n => [0, 1, 2, 3].foldl (fun d q =>
        if d.ringLen n q false ≠ 0 then d.onCore n (fun d => d.qStart n q) else d) d) (f.bindHomes k) else f.bindHomes k) = g f := by
    have hone (d : Die) (n q : Nat) : g (if d.ringLen n q false ≠ 0 then d.onCore n (fun d => d.qStart n q) else d) = g d := by
      unfold Die.onCore
      split
      · split
        · exact Die.qStart_keeps hg ht hp n q
        · rfl
      · rfl
    have hbind := (Die.Paged.bindHomes f k).keeps hg.1
    split
    · exact (foldl_keeps g (fun e n => foldl_keeps g (fun e q => hone e n q) _ _) _ _).trans hbind
    · exact hbind
  refine ⟨_, ?_, (hstart hmem (fun _ _ _ _ _ _ => rfl) (fun _ _ => rfl)).trans hfm, (hstart hregs (fun _ _ _ _ _ _ => rfl) (fun _ _ => rfl)).trans hfr⟩
  unfold Die.placeEnd
  rw [hc]
  dsimp only
  rw [hh, if_neg Bool.false_ne_true, ← hf]

theorem Die.placeEnd_held {k : Nat} {x : Region} {a : Nat} (hc : d.dk.cmd = .placing k x a) (hh : d.planHeld x = true) : d.placeEnd = d := by
  unfold Die.placeEnd
  rw [hc]
  exact if_pos hh

/-! ## Removal -/

theorem Die.removeStep_idle (h : d.dk.cmd = .none) : d.removeStep = d := by
  unfold Die.removeStep
  rw [h]

theorem Die.remove_absent (h : d.region d.dkRegion = none) : d.remove.removeStep = d.dkEnd 5 0 := by
  have hr : d.remove = d.dkEnd 5 0 := by
    unfold Die.remove
    dsimp only
    rw [h]
  rw [hr]
  exact Die.removeStep_idle rfl

theorem Die.remove_busy {x : Region} (h : d.region d.dkRegion = some x) (hq : d.regionQuiet x = false) : d.remove.removeStep = d.dkEnd 6 0 := by
  have hr : d.remove = d.dkEnd 6 0 := by
    unfold Die.remove
    dsimp only
    rw [h]
    dsimp only
    rw [hq]
    rfl
  rw [hr]
  exact Die.removeStep_idle rfl

theorem Die.unload_keeps {α : Type} (g : Die → α) (hg : ∀ (d : Die) ne rt fq, g { d with nent := ne, rtile := rt, felt := fq } = g d)
    (r : Nat) (x : Region) : g (d.unload r x) = g d := by
  unfold Die.unload
  exact (foldl_keeps g (fun e f => hg e e.nent e.rtile _) _ _).trans (hg d _ _ d.felt)

/-- A region that REMOVE has begun to take out. -/
def Region.leaving (x : Region) : Region := { x with events := 0, bars := [], felts := [], streams := [], removing := true }

/-- A region is written to the table. -/
def Die.setRegion (d : Die) (k : Nat) (x : Option Region) : Die := { d with regions := sset d.regions none k x }

theorem Die.region_setRegion (d : Die) (k : Nat) (x : Option Region) (j : Nat) :
    (d.setRegion k x).region j = if j = k then x else d.region j := sget_sset ..

theorem Die.dropRegion_planned (d : Die) (k : Nat) (x : Region) : ∃ f, d.dropRegion k x = f.setRegion k none ∧ Die.Planned d f :=
  ⟨_, rfl, .foldl (fun _ _ => .setPlan ..) _ d⟩

/-- A quiet region with no page homed in it is gone at once. -/
theorem Die.remove_quiet {x : Region} (h : d.region d.dkRegion = some x) (hq : d.regionQuiet x = true) (hh : d.homedIn d.dkRegion = []) :
    ∃ e : Die, d.remove.removeStep = e.dkEnd 0 0 ∧ e.dk = { d.dk with cmd := .removing d.dkRegion } ∧ e.mem = d.mem ∧
      ∀ k, e.region k = if k = d.dkRegion then none else d.region k := by
  obtain ⟨u, hu⟩ : ∃ u, u = d.unload d.dkRegion x := ⟨_, rfl⟩
  have hkeep {α : Type} (g : Die → α) (hg : ∀ (d : Die) ne rt fq, g { d with nent := ne, rtile := rt, felt := fq } = g d) : g u = g d :=
    hu ▸ Die.unload_keeps g hg _ _
  obtain ⟨v, hv⟩ : ∃ v, v = (u.setRegion d.dkRegion (some x.leaving)).updDk (fun k => { k with cmd := .removing d.dkRegion }) := ⟨_, rfl⟩
  have hpages : (u.setRegion d.dkRegion (some x.leaving)).homedIn d.dkRegion = [] :=
    (hkeep (Die.homedIn · d.dkRegion) (fun _ _ _ _ => rfl)).trans hh
  have hremove : d.remove = v := by
    unfold Die.remove
    dsimp only
    rw [h]
    dsimp only
    rw [hq, ← hu, hv]
    exact congrArg (fun l => Die.updDk (l.foldl Die.evacuate (u.setRegion d.dkRegion (some x.leaving)))
      (fun k => { k with cmd := .removing d.dkRegion })) hpages
  have hcmd : v.dk.cmd = .removing d.dkRegion := by
    rw [hv]
    rfl
  have hvh : v.homedIn d.dkRegion = [] := by
    rw [hv]
    exact hpages
  have hvr : v.region d.dkRegion = some x.leaving := by
    rw [hv]
    exact (u.region_setRegion d.dkRegion (some x.leaving) d.dkRegion).trans (if_pos rfl)
  obtain ⟨f, hdrop, hplan⟩ := v.dropRegion_planned d.dkRegion x.leaving
  have hfr (k : Nat) : f.region k = if k = d.dkRegion then some x.leaving else d.region k := by
    rw [hplan.keeps (Die.region · k) (fun _ _ _ _ => rfl), hv]
    exact (u.region_setRegion d.dkRegion (some x.leaving) k).trans (by rw [hkeep (Die.region · k) (fun _ _ _ _ => rfl)])
  refine ⟨f.setRegion d.dkRegion none, ?_, ?_, ?_, fun k => ?_⟩
  · rw [hremove]
    unfold Die.removeStep
    rw [hcmd]
    dsimp only
    rw [hvh, hvr, List.all_nil, if_pos rfl]
    exact congrArg (fun d => Die.dkEnd d 0 0) hdrop
  · refine (hplan.keeps Die.dk (fun _ _ _ _ => rfl)).trans ?_
    rw [hv, ← hkeep Die.dk (fun _ _ _ _ => rfl)]
    rfl
  · refine (hplan.keeps Die.mem (fun _ _ _ _ => rfl)).trans ?_
    rw [hv]
    exact hkeep Die.mem (fun _ _ _ _ => rfl)
  · rw [Die.region_setRegion, hfr]
    split <;> rfl

end

end Sys2Proof.Machine

namespace Sys2Proof
open Machine

/-- Settles O38: the checks of PLACE in their order, the load of the plan, and REMOVE. -/
theorem placement : Obligations.placement := by
  unfold Obligations.placement
  intro s ini hl had
  have keeps {α : Type} (g : Die → α) (h : ∀ (d : Die) m c x r, g { d with trS := m, carb := c, ctr := x, resp := r } = g d) :=
    s.reached_keeps ini pgDk g h
  have served {c : Instr} {v : Word} (hc : exec c s = s.cplD ini pgDk 0x10C (fun d => d.dkCmd v [])) : exec c s =
    .next ((s.reached ini pgDk).onD (fun d => d.dkCmd v [])) := exec_cplD_served hc had
  have hbounce : (s.reached ini pgDk).onD Die.refuse = s.bounced ini pgDk := rfl
  obtain ⟨u, hu⟩ : ∃ u, u = s.reached ini pgDk := ⟨_, rfl⟩
  rw [← hu] at keeps served hbounce ⊢
  have hdk : u.d.dk = s.d.dk := keeps Die.dk (fun _ _ _ _ _ => rfl)
  have hregion : u.d.dkRegion = s.d.dkRegion := keeps Die.dkRegion (fun _ _ _ _ _ => rfl)
  have hfound : u.d.region u.d.dkRegion = s.d.region s.d.dkRegion := keeps (fun d => d.region d.dkRegion) (fun _ _ _ _ _ => rfl)
  have hjob : (u.d.job u.d.dkJob).enabled = (s.d.job s.d.dkJob).enabled := keeps (fun d => (d.job d.dkJob).enabled) (fun _ _ _ _ _ => rfl)
  have haddr : u.d.dkAddr = s.d.dkAddr := keeps Die.dkAddr (fun _ _ _ _ _ => rfl)
  have himage : u.d.readImage u.d.dkAddr = s.d.readImage s.d.dkAddr := keeps (fun d => d.readImage d.dkAddr) (fun _ _ _ _ _ => rfl)
  have hmem : u.d.mem = s.d.mem := keeps Die.mem (fun _ _ _ _ _ => rfl)
  refine ⟨fun hbusy c hc => ?refused, fun hidle => ?idle, fun k g b hl' hcmd => ⟨fun hh => ?held, fun hh => ?load⟩⟩
  case refused =>
    have hrefuse (v : Word) : u.d.dkCmd v [] = u.d.refuse := by
      unfold Die.dkCmd
      rw [if_pos (by rw [hdk]; exact hbusy)]
    rw [← hbounce]
    simp only [List.mem_cons, List.not_mem_nil, or_false] at hc
    obtain rfl | rfl | rfl | rfl := hc
    · exact (served rfl).trans (State.next_onD_congr (hrefuse 1))
    · exact (served rfl).trans (State.next_onD_congr (hrefuse 2))
    · exact (served rfl).trans (State.next_onD_congr (hrefuse 3))
    · exact (served rfl).trans (State.next_onD_congr (hrefuse 4))
  case idle =>
    have hnot : ¬ u.d.dk.cmd ≠ .none := by
      rw [hdk]
      exact fun h => h hidle
    have hplace : u.d.dkCmd 1 [] = u.d.place [] := if_neg hnot
    have hremove : u.d.dkCmd 2 [] = u.d.remove.removeStep := if_neg hnot
    have hack : u.d.dkCmd 4 [] = u.d.updDk (fun x => { x with donePend := false }) := if_neg hnot
    have place {e : Die} (h : u.d.place [] = e) : exec (.place ini []) s = .next (u.onD (fun _ => e)) :=
      (served (v := 1) rfl).trans (State.next_onD_congr (hplace.trans h))
    have remove {e : Die} (h : u.d.remove.removeStep = e) : exec (.remove ini) s = .next (u.onD (fun _ => e)) :=
      (served (v := 2) rfl).trans (State.next_onD_congr (hremove.trans h))
    refine ⟨fun he => place (Die.place_disabled (hjob.trans he)), fun he hr => place (Die.place_placed (hjob.trans he) (by rw [hfound, hr])),
      fun he hr => ⟨fun ha => place (Die.place_misaligned (hjob.trans he) (hfound.trans hr) (by rw [haddr]; exact ha)),
        fun x y base ha h1 h2 h3 h4 h5 h6 => ?good⟩,
      fun hr => remove (Die.remove_absent (hfound.trans hr)), fun g hr => ⟨fun hq => ?busy, fun hq hh => ?quiet⟩,
      (served (v := 4) rfl).trans (State.next_onD_congr hack)⟩
    case good =>
      obtain ⟨e, f, hp, hs, hm, hf⟩ := Die.place_good (d := u.d) (hjob.trans he) (hfound.trans hr) (by rw [haddr]; exact ha)
        ((keeps (fun d => d.sectionsOk [(d.dkAddr, 64)]) (fun _ _ _ _ _ => rfl)).trans h1)
        ((keeps (fun d => d.headerOk d.dkAddr) (fun _ _ _ _ _ => rfl)).trans h2)
        ((keeps (fun d => d.sectionsOk (d.sections d.dkAddr (d.readImage d.dkAddr))) (fun _ _ _ _ _ => rfl)).trans h3)
        ((keeps (fun d => d.planOk (d.readImage d.dkAddr)) (fun _ _ _ _ _ => rfl)).trans h4)
        ((keeps (fun d => d.feltOk (d.readImage d.dkAddr)) (fun _ _ _ _ _ => rfl)).trans h5)
        ((keeps (fun d => d.search (d.readImage d.dkAddr) d.dkRegion) (fun _ _ _ _ _ => rfl)).trans h6)
      have hmk : u.d.mkRegion (u.d.readImage u.d.dkAddr) u.d.dkJob x y base = s.d.mkRegion (s.d.readImage s.d.dkAddr) s.d.dkJob x y base :=
        keeps (fun d => d.mkRegion (d.readImage d.dkAddr) d.dkJob x y base) (fun _ _ _ _ _ => rfl)
      rw [hregion, hmk, haddr] at hp
      have hkeep {α : Type} (g : Die → α) (h1 : ∀ (d : Die) rg sh hp, g { d with regs := rg, shad := sh, heldPlan := hp } = g d)
          (h2 : ∀ (d : Die) x k c r, g { d with changed := x, stk := k, ctr := c, resp := r } = g d)
          (h3 : ∀ (d : Die) m c x r, g { d with trS := m, carb := c, ctr := x, resp := r } = g d) : g f = g s.d :=
        (hf.keeps g h1).trans ((hs.keeps_mem hm g h2).trans (keeps g h3))
      have hfdk : f.dk = s.d.dk := hkeep Die.dk (fun _ _ _ _ => rfl) (fun _ _ _ _ _ => rfl) (fun _ _ _ _ _ => rfl)
      refine ⟨_, place hp, ?_, hkeep Die.regions (fun _ _ _ _ => rfl) (fun _ _ _ _ _ => rfl) (fun _ _ _ _ _ => rfl),
        hkeep Die.mem (fun _ _ _ _ => rfl) (fun _ _ _ _ _ => rfl) (fun _ _ _ _ _ => rfl),
        hkeep Die.evt (fun _ _ _ _ => rfl) (fun _ _ _ _ _ => rfl) (fun _ _ _ _ _ => rfl),
        hkeep Die.nent (fun _ _ _ _ => rfl) (fun _ _ _ _ _ => rfl) (fun _ _ _ _ _ => rfl), rfl⟩
      rw [← hfdk]
      rfl
    case busy =>
      exact remove (Die.remove_busy (hfound.trans hr) ((keeps (Die.regionQuiet · g) (fun _ _ _ _ _ => rfl)).trans hq))
    case quiet =>
      obtain ⟨e, he, hedk, hem, her⟩ := Die.remove_quiet (hfound.trans hr) ((keeps (Die.regionQuiet · g) (fun _ _ _ _ _ => rfl)).trans hq)
        ((keeps (fun d => d.homedIn d.dkRegion) (fun _ _ _ _ _ => rfl)).trans hh)
      refine ⟨_, remove he, ?_, fun k => ?_, hem.trans hmem, rfl⟩
      · rw [← hdk]
        show ({ e.dk with cmd := .none, donePend := true, result := 0, index := 0 } : Deckle) = _
        rw [hedk]
      · rw [← hregion]
        exact (her k).trans (by rw [keeps (Die.region · k) (fun _ _ _ _ _ => rfl)])
  case held => exact (exec_at_live (f := Die.placeEnd) rfl hl').trans (State.next_onD_congr (g := id) (Die.placeEnd_held hcmd hh))
  case load =>
    obtain ⟨e, he, hm, hr⟩ := Die.placeEnd_free hcmd hh
    refine ⟨s.onD (fun _ => e.dkEnd 0 0), (exec_at_live (f := Die.placeEnd) rfl hl').trans (State.next_onD_congr he), rfl, rfl, rfl,
      fun i => ?_, hm, rfl⟩
    refine (congrArg (fun x => sget x none i) hr).trans ((sget_sset ..).trans ?_)
    rfl

end Sys2Proof
end

section
/-!
PROOFS. Page records (06 R176, R182, R183, R186).
-/

namespace Sys2Proof.Machine

/-! ## The list -/

section
variable {d : Die}

theorem Die.pagesStart_disabled (es : List BurstErr) (h : (d.job d.dkJob).enabled = false) : d.pagesStart es = d.dkEnd 7 0 := by
  unfold Die.pagesStart
  exact if_pos h

theorem Die.pagesStart_empty (es : List BurstErr) (h : (d.job d.dkJob).enabled = true) (hn : d.dkCount = 0) : d.pagesStart es = d.dkEnd 8 0 := by
  unfold Die.pagesStart
  dsimp only
  rw [h, if_neg (by decide), if_pos (.inl hn)]

/-- A list in readable stack memory has no bad record. -/
theorem Die.firstBad_readable {a n : Nat} (h : a + 16 * n ≤ stackEnd) (ho : ∀ k, k < 8 → d.stackClosed k = false) :
    (d.firstBad a n []).2 = n ∧ Die.Served d (d.firstBad a n []).1 ∧ (d.firstBad a n []).1.mem = d.mem := by
  obtain ⟨e, he, hs, hm⟩ : ∃ e : Die, (if d.rangeOpen a (16 * n) then d.readRange false a (16 * n) [] else (d, [])) = (e, []) ∧
      Die.Served d e ∧ e.mem = d.mem := by
    split
    · exact ⟨_, rfl, .readBursts d _, Die.readBursts_mem _⟩
    · exact ⟨d, rfl, .refl d, rfl⟩
  have hfind : (List.range n).find? (fun i => decide (stackEnd < a + 16 * i + 16) || d.stackClosed ((a + 16 * i) / 2 ^ 36) ||
      ([] : List Nat).any (fun u => decide (u < a + 16 * i + 16) && decide (a + 16 * i < u + 64))) = none := by
    rw [List.find?_eq_none]
    intro i hi
    have hin : i < n := List.mem_range.1 hi
    have hend : a + 16 * i + 16 ≤ stackEnd := by omega
    have hstack : (a + 16 * i) / 2 ^ 36 < 8 := by
      unfold stackEnd at hend
      omega
    rw [decide_eq_false (Nat.not_lt.2 hend), ho _ hstack]
    exact Bool.false_ne_true
  unfold Die.firstBad
  dsimp only
  rw [he, hfind]
  exact ⟨rfl, hs, hm⟩

/-- A list whose first record has an operation waits for it. -/
theorem Die.pagesStart_waits (h : (d.job d.dkJob).enabled = true) (h0 : 0 < d.dkCount) (hn : d.dkCount ≤ 65536)
    (ha : d.dkAddr + 16 * d.dkCount ≤ stackEnd) (ho : ∀ k, k < 8 → d.stackClosed k = false)
    (h1 : 1 ≤ recOp (d.recAt d.dkAddr 0)) (h5 : recOp (d.recAt d.dkAddr 0) ≤ 5) : d.pagesStart [] =
      (d.firstBad d.dkAddr d.dkCount []).1.updDk (fun x => { x with cmd := .pages d.dkJob d.dkAddr d.dkCount 0 d.dkCount }) := by
  obtain ⟨hbad, hs, hm⟩ := Die.firstBad_readable ha ho
  obtain ⟨e, he⟩ : ∃ e, e = (d.firstBad d.dkAddr d.dkCount []).1 := ⟨_, rfl⟩
  obtain ⟨f, hf⟩ : ∃ f, f = e.updDk (fun x => { x with cmd := .pages d.dkJob d.dkAddr d.dkCount 0 d.dkCount }) := ⟨_, rfl⟩
  rw [← he] at hs hm ⊢
  have hcmd : f.dk.cmd = .pages d.dkJob d.dkAddr d.dkCount 0 d.dkCount := by
    rw [hf]
    rfl
  have hjob : (f.job d.dkJob).enabled = true := by
    rw [hf, ← h]
    exact hs.keeps (fun e => (e.job d.dkJob).enabled) (fun _ _ _ _ _ _ => rfl)
  have hrec : f.recAt d.dkAddr 0 = d.recAt d.dkAddr 0 := by
    rw [hf]
    exact hs.keeps_mem hm (Die.recAt · d.dkAddr 0) (fun _ _ _ _ _ => rfl)
  have hnext : f.pagesNext = f := by
    unfold Die.pagesNext
    rw [hcmd]
    dsimp only
    rw [if_neg (by omega), hjob, if_neg (by decide), if_neg (by omega), hrec, if_neg (by omega)]
  unfold Die.pagesStart
  dsimp only
  rw [h, if_neg (by decide), if_neg (by omega), ← he, hbad, ← hf, hnext]

/-! ## One record -/

section
variable {j a n i bad op : Nat} {f : Die → Nat → List Word → Except Nat Die}

theorem Die.record_disabled (hc : d.dk.cmd = .pages j a n i bad) (h : (d.job j).enabled = false) : d.record op f = d.dkEnd 7 i := by
  unfold Die.record
  rw [hc]
  exact if_pos h

theorem Die.record_other (hc : d.dk.cmd = .pages j a n i bad) (h : (d.job j).enabled = true) (ho : recOp (d.recAt a i) ≠ op) :
    d.record op f = d := by
  unfold Die.record
  rw [hc]
  dsimp only
  rw [h, if_neg (by decide), if_pos ho]

theorem Die.record_fails {e : Nat} (hc : d.dk.cmd = .pages j a n i bad) (h : (d.job j).enabled = true) (ho : recOp (d.recAt a i) = op)
    (hf : f d j (d.recAt a i) = .error e) : d.record op f = d.dkEnd e i := by
  unfold Die.record
  rw [hc]
  dsimp only
  rw [h, if_neg (by decide), if_neg (fun hn => hn ho), hf]

theorem Die.record_good {e : Die} (hc : d.dk.cmd = .pages j a n i bad) (h : (d.job j).enabled = true) (ho : recOp (d.recAt a i) = op)
    (hf : f d j (d.recAt a i) = .ok e) : d.record op f = (e.updDk (fun x => { x with cmd := .pages j a n (i + 1) bad })).pagesNext := by
  unfold Die.record
  rw [hc]
  dsimp only
  rw [h, if_neg (by decide), if_neg (fun hn => hn ho), hf]

/-- What follows a record is written to the Deckle's own state. -/
theorem Die.pagesNext_keeps {α : Type} (g : Die → α) (hg : ∀ (d : Die) dk, g { d with dk := dk } = g d) : g d.pagesNext = g d := by
  unfold Die.pagesNext Die.dkEnd
  split
  · split
    · exact hg d _
    · split
      · exact hg d _
      · split
        · exact hg d _
        · split
          · exact hg d _
          · rfl
  · rfl

theorem Die.moved_keeps {α : Type} (g : Die → α) (hg : ∀ (d : Die) dk, g { d with dk := dk } = g d) (f : Deckle → Deckle) :
    g (d.updDk f).pagesNext = g d := (Die.pagesNext_keeps g hg).trans (hg d _)

end

/-! ## The records by their operation -/

section
variable {j : Nat} {r : List Word}

theorem Die.pinPromote_other {p : Page} {key : Nat} (h : p.hint ≠ 1) : d.pinPromote j key p = d := by
  unfold Die.pinPromote
  exact if_neg (fun hp => h hp.1)

/-- The page that a record names. -/
def recPageOf (r : List Word) : Page := { hint := recHint r, home := recHome r, uses := recUses r }

/-- The object that a DECLARE makes on page `k` of its stack. -/
def Die.declared (d : Die) (j k : Nat) (r : List Word) : PObj :=
  { stack := d.stackFor j (recPage r), spage := k, stream := fld (recHome r) 7 0, owner := j, charged := j,
    slice := (d.homeSlice (recPageOf r)).getD 0, pref := fld (recHome r) 13 9 }

theorem Die.recDeclare_good {k : Nat} (h0 : recReserved r = false) (hb : recHintBad r = false) (h1 : recHint r ≠ 1) (hp : d.page j (recPage r) = none)
    (hv : recPage r < 0x7FFC00) (hs : d.streamBad j (recHome r) = false) (hh : d.homeBad (recHome r) = false)
    (hk : d.takeSpage j (d.stackFor j (recPage r)) = .ok k) : d.recDeclare j r =
      .ok ((d.setPage j (recPage r) (some (recPageOf r))).setObj (j * 2 ^ 23 + recPage r) (some (d.declared j k r))) := by
  have hgood : ¬ (recReserved r = true ∨ recHintBad r = true ∨ (d.page j (recPage r)).isSome = true ∨ 0x7FFC00 ≤ recPage r ∨
      d.streamBad j (recHome r) = true ∨ d.homeBad (recHome r) = true) := by
    rw [h0, hb, hp, hs, hh]
    rintro (h | h | h | h | h | h)
    · cases h
    · cases h
    · cases h
    · omega
    · cases h
    · cases h
  unfold Die.recDeclare
  dsimp only
  rw [if_neg hgood, if_neg h1]
  dsimp only
  rw [hk]
  dsimp only
  rw [Die.pinPromote_other h1]
  rfl

/-- What a SHARE asks of its record before it looks at the object. -/
theorem Die.shareGood (h0 : recReserved r = false) (hb : recHintBad r = false) (hp : d.page j (recPage r) = none) (hv : recPage r < 0x7FFC00)
    (hs : d.streamBad j (recHome r) = false) : ¬ (recReserved r = true ∨ recHintBad r = true ∨ (d.page j (recPage r)).isSome = true ∨
      0x7FFC00 ≤ recPage r ∨ d.streamBad j (recHome r) = true) := by
  rw [h0, hb, hp, hs]
  rintro (h | h | h | h | h)
  · cases h
  · cases h
  · cases h
  · omega
  · cases h

/-- The object that a SHARE makes on page `k` of its stack. -/
def Die.sharedObj (d : Die) (j k : Nat) (r : List Word) : PObj :=
  { stack := d.stackFor j (recPage r), spage := k, stream := fld (recHome r) 7 0, owner := j, charged := j, maps := 1,
    slice := coreAt (fld (recHome r) 25 20) (fld (recHome r) 19 14), pref := fld (recHome r) 13 9 }

theorem Die.recShare_first {k : Nat} (h0 : recReserved r = false) (hb : recHintBad r = false) (h1 : recHint r ≠ 1) (hp : d.page j (recPage r) = none)
    (hv : recPage r < 0x7FFC00) (hs : d.streamBad j (recHome r) = false) (ho : d.obj (2 ^ 28 + recShared r) = none)
    (hh : d.homeBad (recHome r) = false) (h8 : bit (recHome r) 8 = true) (hk : d.takeSpage j (d.stackFor j (recPage r)) = .ok k) :
    d.recShare j r = .ok ((d.setPage j (recPage r) (some { recPageOf r with shared := some (recShared r) })).setObj (2 ^ 28 + recShared r)
      (some (d.sharedObj j k r))) := by
  have hhome : ¬ (d.homeBad (recHome r) = true ∨ bit (recHome r) 8 = false) := by
    rw [hh, h8]
    rintro (h | h) <;> cases h
  unfold Die.recShare
  dsimp only
  rw [if_neg (Die.shareGood h0 hb hp hv hs), ho]
  dsimp only
  rw [if_neg hhome, if_neg h1]
  dsimp only
  rw [hk]
  dsimp only
  rw [Die.pinPromote_other h1]
  rfl

/-- The page of a later mapping: its home is the object's. -/
def laterPage (o : PObj) (r : List Word) : Page :=
  { recPageOf r with
    shared := some (recShared r),
    home := packW [(20, cx o.slice), (14, cy o.slice), (9, o.pref), (8, 1), (0, fld (recHome r) 7 0)] }

theorem laterPage_home (o : PObj) (r : List Word) : fld (laterPage o r).home 7 0 = fld (recHome r) 7 0 ∧ bit (laterPage o r).home 8 = true := by
  obtain ⟨f, hf⟩ : ∃ f, f = fld (recHome r) 7 0 := ⟨_, rfl⟩
  have hlt : f < 256 := by
    rw [hf]
    exact Nat.mod_lt _ (by decide)
  have hn : (laterPage o r).home.toNat = (cx o.slice * 2 ^ 20 + (cy o.slice * 2 ^ 14 + (o.pref * 2 ^ 9 + (2 ^ 8 + f)))) % 2 ^ 32 := by
    unfold laterPage packW pack word
    rw [BitVec.toNat_ofNat, ← hf]
    simp only [pack, Nat.shiftLeft_eq]
    omega
  rw [← hf]
  constructor
  · unfold fld
    rw [hn, Nat.shiftRight_zero]
    omega
  · unfold bit
    rw [hn, Nat.testBit_eq_decide_div_mod_eq, decide_eq_true_eq]
    omega

theorem Die.recShare_later {o : PObj} (h0 : recReserved r = false) (hb : recHintBad r = false) (h1 : recHint r ≠ 1)
    (hp : d.page j (recPage r) = none) (hv : recPage r < 0x7FFC00) (hs : d.streamBad j (recHome r) = false)
    (ho : d.obj (2 ^ 28 + recShared r) = some o) : d.recShare j r =
      .ok ((d.setPage j (recPage r) (some (laterPage o r))).setObj (2 ^ 28 + recShared r) (some { o with maps := o.maps + 1 })) := by
  unfold Die.recShare
  dsimp only
  rw [if_neg (Die.shareGood h0 hb hp hv hs), ho]
  dsimp only
  rw [if_neg h1]
  dsimp only
  rw [Die.pinPromote_other h1]
  rfl

theorem Die.recHintSet_good {p : Page} {k : Nat} (h0 : recReserved r = false) (hb : recHintBad r = false) (h1 : recHint r ≠ 1)
    (hp : d.page j (recPage r) = some p) (hk : d.objKey j (recPage r) = some k) :
    d.recHintSet j r = .ok (d.setPage j (recPage r) (some { p with hint := recHint r, uses := recUses r })) := by
  unfold Die.recHintSet
  dsimp only
  rw [hp, hk]
  dsimp only
  rw [h0, hb, if_neg (by decide), if_neg (fun h => h1 h.1)]
  dsimp only
  rw [Die.pinPromote_other h1]

theorem Die.recRelease_absent {p : Page} {o : PObj} (h0 : recReserved r = false) (hp : d.page j (recPage r) = some p) (hsh : p.shared = none)
    (ho : d.obj (j * 2 ^ 23 + recPage r) = some o) (hst : o.st = .absent) (hu : o.unheld = true) :
    d.recRelease j r = .ok ((d.setPage j (recPage r) none).setObj (j * 2 ^ 23 + recPage r) none) := by
  have hkey : d.objKey j (recPage r) = some (j * 2 ^ 23 + recPage r) := by
    unfold Die.objKey
    rw [hp]
    dsimp only
    rw [hsh]
  have hkeep : d.keepFormer j (recPage r) (j * 2 ^ 23 + recPage r) = d := by
    unfold Die.keepFormer
    rw [ho]
    exact if_pos hu
  have hobj : (d.setPage j (recPage r) none).releaseObj (j * 2 ^ 23 + recPage r) =
      (d.setPage j (recPage r) none).setObj (j * 2 ^ 23 + recPage r) none := by
    have ho' : (d.setPage j (recPage r) none).obj (j * 2 ^ 23 + recPage r) = some o := ho
    unfold Die.releaseObj
    rw [ho']
    dsimp only
    rw [hst, hu]
    rfl
  have hpage : d.releasePage j (recPage r) = (d.setPage j (recPage r) none).setObj (j * 2 ^ 23 + recPage r) none := by
    unfold Die.releasePage
    rw [hp, hkey]
    dsimp only
    rw [hkeep, hsh]
    exact hobj
  unfold Die.recRelease
  rw [h0, hp, if_neg (by rintro (h | h) <;> cases h), hpage]

theorem Die.recWriteback_clean {k : Nat} {o : PObj} (h0 : recReserved r = false) (hk : d.objKey j (recPage r) = some k)
    (ho : d.obj k = some o) (hc : o.dirty = false ∨ o.st ≠ .resident) : d.recWriteback j r = .ok d := by
  unfold Die.recWriteback
  rw [h0, if_neg (by decide), hk]
  dsimp only
  rw [ho]
  dsimp only
  rw [if_neg]
  rintro ⟨hst, hd, -⟩
  obtain hc | hc := hc
  · rw [hc] at hd
    cases hd
  · exact hc hst

theorem Die.recWriteback_dirty {k : Nat} {o : PObj} (h0 : recReserved r = false) (hk : d.objKey j (recPage r) = some k)
    (ho : d.obj k = some o) (hst : o.st = .resident) (hd : o.dirty = true) (hq : d.requested k = false) :
    d.recWriteback j r = .ok ((d.updObj k (fun o => { o with rewritten := false })).request .writeback k o j) := by
  unfold Die.recWriteback
  rw [h0, if_neg (by decide), hk]
  dsimp only
  rw [ho]
  dsimp only
  rw [if_pos ⟨hst, hd, hq⟩]

end

/-- A page and an object are written, and the list moves on. -/
def Die.recMoved (d : Die) (j v k : Nat) (p : Page) (o : PObj) (f : Deckle → Deckle) : Die :=
  (((d.setPage j v (some p)).setObj k (some o)).updDk f).pagesNext

theorem Die.recMoved_spec (j v k : Nat) (p : Page) (o : PObj) (f : Deckle → Deckle) :
    (d.recMoved j v k p o f).page j v = some p ∧
    (∀ x, x ≠ j * 2 ^ 23 + v → sget (d.recMoved j v k p o f).pages none x = sget d.pages none x) ∧
    (d.recMoved j v k p o f).obj k = some o ∧ (d.recMoved j v k p o f).mem = d.mem ∧ (d.recMoved j v k p o f).regs = d.regs := by
  have keeps {α : Type} (g : Die → α) (hg : ∀ (d : Die) dk, g { d with dk := dk } = g d) :
      g (d.recMoved j v k p o f) = g ((d.setPage j v (some p)).setObj k (some o)) := Die.moved_keeps g hg f
  have hp : ((d.setPage j v (some p)).setObj k (some o)).page j v = some p := sget_sset_same d.pages none (some p) (j * 2 ^ 23 + v)
  have ho : ((d.setPage j v (some p)).setObj k (some o)).obj k = some o := sget_sset_same d.objs none (some o) k
  refine ⟨(keeps (Die.page · j v) (fun _ _ => rfl)).trans hp, fun x hx => ?_, (keeps (Die.obj · k) (fun _ _ => rfl)).trans ho,
    keeps Die.mem (fun _ _ => rfl), keeps Die.regs (fun _ _ => rfl)⟩
  have hpages := (sget_sset d.pages none (some p) (j * 2 ^ 23 + v) x).trans (if_neg hx)
  exact (keeps (fun d => sget d.pages none x) (fun _ _ => rfl)).trans hpages

end

end Sys2Proof.Machine

namespace Sys2Proof
open Machine

/-- Settles O39: the list is taken, and each record does what its operation says. -/
theorem pageCommands : Obligations.page_commands := by
  unfold Obligations.page_commands
  intro s
  refine ⟨fun ini had hidle => ?list, fun j a n i bad hl hc => ?records⟩
  case list =>
    have keeps {α : Type} (g : Die → α) (h : ∀ (d : Die) m c x r, g { d with trS := m, carb := c, ctr := x, resp := r } = g d) :=
      s.reached_keeps ini pgDk g h
    have served : exec (.pages ini []) s = .next ((s.reached ini pgDk).onD (fun d => d.dkCmd 3 [])) := exec_cplD_served rfl had
    obtain ⟨u, hu⟩ : ∃ u, u = s.reached ini pgDk := ⟨_, rfl⟩
    rw [← hu] at keeps served ⊢
    have hnot : ¬ u.d.dk.cmd ≠ .none := by
      rw [keeps Die.dk (fun _ _ _ _ _ => rfl)]
      exact fun h => h hidle
    have hstart : u.d.dkCmd 3 [] = u.d.pagesStart [] := if_neg hnot
    have starts {e : Die} (h : u.d.pagesStart [] = e) : exec (.pages ini []) s = .next (u.onD (fun _ => e)) :=
      served.trans (State.next_onD_congr (hstart.trans h))
    have hjob : u.d.dkJob = s.d.dkJob := keeps Die.dkJob (fun _ _ _ _ _ => rfl)
    have hen : (u.d.job u.d.dkJob).enabled = (s.d.job s.d.dkJob).enabled := keeps (fun d => (d.job d.dkJob).enabled) (fun _ _ _ _ _ => rfl)
    have hcount : u.d.dkCount = s.d.dkCount := keeps Die.dkCount (fun _ _ _ _ _ => rfl)
    have haddr : u.d.dkAddr = s.d.dkAddr := keeps Die.dkAddr (fun _ _ _ _ _ => rfl)
    have hrec : u.d.recAt u.d.dkAddr 0 = s.d.recAt s.d.dkAddr 0 := keeps (fun d => d.recAt d.dkAddr 0) (fun _ _ _ _ _ => rfl)
    refine ⟨fun he => starts (Die.pagesStart_disabled [] (hen.trans he)),
      fun he hn => starts (Die.pagesStart_empty [] (hen.trans he) (hcount.trans hn)), fun he h0 hn ha ho h1 h5 => ?_⟩
    have hopen (k : Nat) (hk : k < 8) : u.d.stackClosed k = false := (keeps (Die.stackClosed · k) (fun _ _ _ _ _ => rfl)).trans (ho k hk)
    have hend : u.d.dkAddr + 16 * u.d.dkCount ≤ stackEnd := by rw [haddr, hcount]; exact ha
    have hw := Die.pagesStart_waits (hen.trans he) (by rw [hcount]; exact h0) (by rw [hcount]; exact hn) hend hopen
      (by rw [hrec]; exact h1) (by rw [hrec]; exact h5)
    obtain ⟨-, hs, hm⟩ := Die.firstBad_readable hend hopen
    rw [haddr, hcount] at hw hs hm
    rw [hjob] at hw
    exact ⟨served.trans (State.next_onD_congr (g := fun d => (d.firstBad s.d.dkAddr s.d.dkCount []).1.updDk (fun x =>
        { x with cmd := .pages s.d.dkJob s.d.dkAddr s.d.dkCount 0 s.d.dkCount })) (hstart.trans hw)), hm.trans (keeps Die.mem (fun _ _ _ _ _ => rfl)),
      (hs.keeps Die.objs (fun _ _ _ _ _ _ => rfl)).trans (keeps Die.objs (fun _ _ _ _ _ => rfl))⟩
  case records =>
    intro r v key more runs
    have hruns (c : Instr) (op : Nat) (f : Die → Nat → List Word → Except Nat Die) (hx : exec c s = s.at_ 89 (fun d => d.record op f))
        (hen : (s.d.job j).enabled = true) : runs c op f :=
      ⟨fun ho => (exec_at_live hx hl).trans (State.next_onD_congr (g := id) (Die.record_other hc hen ho)),
        fun ho => ⟨fun e he => (exec_at_live hx hl).trans (State.next_onD_congr (Die.record_fails hc hen ho he)),
          fun d' hd => (exec_at_live hx hl).trans (State.next_onD_congr (Die.record_good hc hen ho hd))⟩⟩
    refine ⟨fun hdis c hcs => ?disabled, fun hen => ⟨hruns .declare 1 _ rfl hen, hruns .setHint 2 _ rfl hen, hruns .release 3 _ rfl hen,
      hruns .share 4 _ rfl hen, hruns .writeback 5 _ rfl hen⟩, fun hen h0 => ⟨?declare, ?first, ?later, ?hint, ?release, ?clean, ?dirty⟩⟩
    case disabled =>
      simp only [List.mem_cons, List.not_mem_nil, or_false] at hcs
      obtain rfl | rfl | rfl | rfl | rfl := hcs
      · exact (exec_at_live (f := fun d => d.record 1 Die.recDeclare) rfl hl).trans (State.next_onD_congr (Die.record_disabled hc hdis))
      · exact (exec_at_live (f := fun d => d.record 2 Die.recHintSet) rfl hl).trans (State.next_onD_congr (Die.record_disabled hc hdis))
      · exact (exec_at_live (f := fun d => d.record 3 Die.recRelease) rfl hl).trans (State.next_onD_congr (Die.record_disabled hc hdis))
      · exact (exec_at_live (f := fun d => d.record 4 Die.recShare) rfl hl).trans (State.next_onD_congr (Die.record_disabled hc hdis))
      · exact (exec_at_live (f := fun d => d.record 5 Die.recWriteback) rfl hl).trans (State.next_onD_congr (Die.record_disabled hc hdis))
    case declare =>
      intro k ho hb h1 hp hv hs hh hk
      obtain ⟨hpage, hpages, hobj, hmem, hreg⟩ := s.d.recMoved_spec j v key (recPageOf r) (s.d.declared j k r)
        (fun x => { x with cmd := .pages j a n (i + 1) bad })
      exact ⟨s.onD (fun d => d.recMoved j v key (recPageOf r) (s.d.declared j k r) (fun x => { x with cmd := .pages j a n (i + 1) bad })),
        ((hruns .declare 1 _ rfl hen).2 ho).2 _ (Die.recDeclare_good h0 hb h1 hp hv hs hh hk), hpage, hpages,
        ⟨s.d.declared j k r, hobj, rfl, rfl, rfl, rfl, rfl⟩, hmem, hreg, rfl⟩
    case first =>
      intro k ho hb h1 hp hv hs hobj' hh h8 hk
      obtain ⟨hpage, hpages, hobj, hmem, hreg⟩ := s.d.recMoved_spec j v (2 ^ 28 + recShared r)
        { recPageOf r with shared := some (recShared r) } (s.d.sharedObj j k r) (fun x => { x with cmd := .pages j a n (i + 1) bad })
      exact ⟨s.onD (fun d => d.recMoved j v (2 ^ 28 + recShared r) { recPageOf r with shared := some (recShared r) } (s.d.sharedObj j k r)
          (fun x => { x with cmd := .pages j a n (i + 1) bad })),
        ((hruns .share 4 _ rfl hen).2 ho).2 _ (Die.recShare_first h0 hb h1 hp hv hs hobj' hh h8 hk), hpage,
        ⟨s.d.sharedObj j k r, hobj, rfl, rfl, rfl, rfl, rfl, rfl, rfl⟩, hmem, hreg, rfl⟩
    case later =>
      intro o ho hb h1 hp hv hs hobj'
      obtain ⟨hpage, hpages, hobj, hmem, hreg⟩ := s.d.recMoved_spec j v (2 ^ 28 + recShared r) (laterPage o r) { o with maps := o.maps + 1 }
        (fun x => { x with cmd := .pages j a n (i + 1) bad })
      obtain ⟨h7, h8⟩ := laterPage_home o r
      exact ⟨s.onD (fun d => d.recMoved j v (2 ^ 28 + recShared r) (laterPage o r) { o with maps := o.maps + 1 }
          (fun x => { x with cmd := .pages j a n (i + 1) bad })),
        ((hruns .share 4 _ rfl hen).2 ho).2 _ (Die.recShare_later h0 hb h1 hp hv hs hobj'), hobj,
        ⟨laterPage o r, hpage, rfl, rfl, rfl, h7, h8⟩, hmem, hreg, rfl⟩
    case hint =>
      exact fun p k ho hb h1 hp hk => ((hruns .setHint 2 _ rfl hen).2 ho).2 _ (Die.recHintSet_good h0 hb h1 hp hk)
    case release =>
      exact fun p o ho hp hsh hobj hst hu => ((hruns .release 3 _ rfl hen).2 ho).2 _ (Die.recRelease_absent h0 hp hsh hobj hst hu)
    case clean =>
      exact fun k o ho hk hobj hcl => ((hruns .writeback 5 _ rfl hen).2 ho).2 _ (Die.recWriteback_clean h0 hk hobj hcl)
    case dirty =>
      exact fun k o ho hk hobj hst hd hq => ((hruns .writeback 5 _ rfl hen).2 ho).2 _ (Die.recWriteback_dirty h0 hk hobj hst hd hq)

end Sys2Proof
end

section
/-!
PROOFS. Frames, fills, drains and write-backs of pages (06 R179, R181, R186).
-/

namespace Sys2Proof.Machine

variable {d : Die} {k : Nat} {o : PObj}

/-! ## Objects -/

theorem Die.obj_updObj (f : PObj → PObj) : (d.updObj k f).obj k = (d.obj k).map f := by
  unfold Die.updObj
  split
  next h =>
    rw [h]
    rfl
  next o h =>
    rw [Die.obj_setObj, if_pos rfl, h]
    rfl

theorem Die.drainWb_other (ho : d.obj k = some o) (h : o.st ≠ .draining) : d.drainWb k = d := by
  unfold Die.drainWb
  rw [ho]
  exact if_neg (fun hd => h hd.1)

theorem Die.request_objs (kind : ReqKind) (o : PObj) (j : Nat) : (d.request kind k o j).objs = d.objs := by
  unfold Die.request
  dsimp only
  split <;> rfl

theorem PObj.seat_frame (o : PObj) (t : Nat) :
    (o.seat t).st = o.st ∧ (o.seat t).frame = o.frame ∧ (o.seat t).waiting = o.waiting ∧ (o.seat t).zero = o.zero := by
  unfold PObj.seat
  split <;> exact ⟨rfl, rfl, rfl, rfl⟩

/-! ## A fill begins -/

/-- The object that enters FILLING. -/
def Die.fillingObj (d : Die) (k : Nat) (o : PObj) (f j : Nat) : PObj :=
  PObj.seat { o with st := .filling, frame := f, charged := j, stream := d.streamOf j k o, reqs := 2 ^ j,
                     waiting := false, zero := !o.stackValid, dirty := false } d.dk.clock

theorem Die.fillingObj_spec (f j : Nat) : (d.fillingObj k o f j).st = .filling ∧ (d.fillingObj k o f j).frame = f ∧
    (d.fillingObj k o f j).waiting = false ∧ (d.fillingObj k o f j).zero = !o.stackValid := PObj.seat_frame _ _

theorem Die.obj_enterFilling (f j : Nat) (pf : Bool) : (d.enterFilling k o f j pf).obj k = some (d.fillingObj k o f j) := by
  have h (e : Die) (he : e.objs = sset d.objs none k (some (d.fillingObj k o f j))) : e.obj k = some (d.fillingObj k o f j) := by
    rw [Die.obj, he, sget_sset_same]
  refine h _ ?_
  unfold Die.enterFilling
  dsimp only
  split
  · rfl
  · exact Die.request_objs ..

theorem Die.takeHome_free {f : Nat} (ho : d.obj k = some o) (hst : o.st = .absent) (hw : o.waiting = true) (hf : d.homeFrame o = some f) :
    d.takeHome k = d.enterFilling k o f o.charged o.pf := by
  unfold Die.takeHome
  rw [ho]
  dsimp only
  rw [hst, hw, if_neg (by rintro (h | h) <;> exact absurd h (by decide)), hf]

/-! ## A fill lands -/

/-- A page that has landed with a home is RESIDENT. -/
theorem Die.nowResident_stays (ho : d.obj k = some o) (hm : (d.mappings k).any (fun p => (d.homeSlice p.2).isSome) = true) :
    (d.nowResident k).obj k = some (PObj.seat { o with st := .resident, unread := 0xFFFF, zero := false } d.dk.clock) ∧
    (d.nowResident k).dk.reqs = d.dk.reqs := by
  have hne : (d.mappings k).isEmpty = false := by
    cases hl : d.mappings k with
    | nil =>
      rw [hl] at hm
      cases hm
    | cons x t => rfl
  obtain ⟨u, hu⟩ : ∃ u, u = d.updObj k (fun o => { o with st := .resident, unread := 0xFFFF, zero := false }) := ⟨_, rfl⟩
  have hobj : (u.pageIn k).obj k = some (PObj.seat { o with st := .resident, unread := 0xFFFF, zero := false } u.dk.clock) := by
    have h : (u.pageIn k).obj k = (u.updObj k (fun o => o.seat u.dk.clock)).obj k := rfl
    rw [h, Die.obj_updObj, hu, Die.obj_updObj, ho]
    rfl
  have hclock : u.dk = d.dk := by
    rw [hu]
    unfold Die.updObj
    split <;> rfl
  have hreqs : (u.pageIn k).dk.reqs = d.dk.reqs := by
    have h : (u.pageIn k).dk.reqs = (u.updObj k (fun o => o.seat u.dk.clock)).dk.reqs := rfl
    rw [h, ← hclock]
    unfold Die.updObj
    split <;> rfl
  have hst : (PObj.seat { o with st := .resident, unread := 0xFFFF, zero := false } u.dk.clock).st ≠ .draining := by
    rw [(PObj.seat_frame _ _).1]
    exact fun h => by cases h
  have hland : d.nowResident k = u.pageIn k := by
    unfold Die.nowResident
    dsimp only
    rw [hne, hm]
    exact (congrArg (fun e => Die.drainWb (Die.pageIn e k) k) hu.symm).trans (Die.drainWb_other hobj hst)
  rw [hland, ← hclock]
  exact ⟨hobj, hreqs.trans (by rw [hclock])⟩

theorem Die.updObj_ctr (f : PObj → PObj) : (d.updObj k f).ctr = d.ctr := by
  unfold Die.updObj
  split <;> rfl

/-- A write-back that starts moves no counter. -/
theorem Die.drainWb_ctr : (d.drainWb k).ctr = d.ctr := by
  have hreq (d : Die) (kind : ReqKind) (o : PObj) (j : Nat) : (d.request kind k o j).ctr = d.ctr := by
    unfold Die.request
    dsimp only
    split <;> rfl
  unfold Die.drainWb
  split
  · rfl
  · split
    · rw [hreq, Die.updObj_ctr]
    · rfl

theorem Die.pageIn_ctr : (d.pageIn k).ctr = d.ctr := by
  have h : (d.pageIn k).ctr = (d.updObj k (fun o => o.seat d.dk.clock)).ctr := rfl
  rw [h, Die.updObj_ctr]

theorem Die.nowResident_ctr : (d.nowResident k).ctr = d.ctr := by
  unfold Die.nowResident
  dsimp only
  rw [Die.drainWb_ctr, Die.pageIn_ctr, Die.updObj_ctr]

/-- What a landing page leaves: all but pages and the records of descriptors that waited for it. -/
theorem Die.nowResident_keeps {α : Type} (g : Die → α) (hp : Die.Paged.Frame g)
    (hi : ∀ (d : Die) qs cs, g { d with queues := qs, cores := cs } = g d) : g (d.nowResident k) = g d := by
  have hin (e : Die) : g (e.pageIn k) = g e :=
    (hi _ _ _).trans (((Die.Paged.updObj e k _).trans (Die.Paged.updDk _ _ _ _)).keeps hp)
  exact ((Die.Paged.drainWb ..).keeps hp).trans ((hin _).trans ((Die.Paged.updObj d k _).keeps hp))

/-! ## Circuits that close -/

/-- What closing circuits leaves: all but circuits, entries, flits and credits. -/
theorem Die.closeCircuits_keeps {α : Type} (g : Die → α)
    (hg : ∀ (d : Die) ne ci hp sb li sw, g { d with nent := ne, circs := ci, heldPlan := hp, seamBack := sb, links := li, seamWait := sw } = g d)
    (p : Circ → Bool) : g (d.closeCircuits p) = g d := by
  have hfreed (e : Die) (n q c : Nat) : g (e.seamFreed n q c) = g e := by
    unfold Die.seamFreed
    split
    · rfl
    · exact hg e e.nent e.circs e.heldPlan _ e.links e.seamWait
  have hpurge (e : Die) (l : List Nat) : g (e.purge l) = g e := by
    unfold Die.purge
    dsimp only
    exact (hg _ (Die.nent _) (Die.circs _) (Die.heldPlan _) (Die.seamBack _) _ _).trans (foldl_keeps g (fun e x => hfreed e _ _ _) _ _)
  unfold Die.closeCircuits
  dsimp only
  split
  · exact hg d _ _ _ d.seamBack d.links d.seamWait
  · exact (hpurge _ _).trans (hg d _ _ _ d.seamBack d.links d.seamWait)

/-- Requests of a die without the granted one of an object. -/
def Die.ended (d : Die) (k : Nat) : Die :=
  d.updDk (fun x => { x with reqs := x.reqs.filter (fun r => !(decide (r.obj = k) && r.granted)) })

theorem Die.endTransfer_keeps {α : Type} (g : Die → α)
    (hg : ∀ (d : Die) ne ci hp sb li sw, g { d with nent := ne, circs := ci, heldPlan := hp, seamBack := sb, links := li, seamWait := sw } = g d) :
    g (d.endTransfer k) = g (d.ended k) := Die.closeCircuits_keeps g hg _

/-! ## A zero fill -/

theorem Die.zeroSides_keeps {α : Type} (g : Die → α) (hg : ∀ (d : Die) x, g { d with side := x } = g d) (f : Nat) :
    g (d.zeroSides k f) = g d := by
  unfold Die.zeroSides
  dsimp only
  refine (foldl_keeps g (fun e s => ?_) _ _).trans (hg d _)
  exact (hg _ _).trans ((hg _ _).trans (hg e _))

/-- The frame of a page is zeroed. -/
def Die.zeroed (d : Die) (k f : Nat) : Die := (d.zeroBytes (vatBase + f * 65536) 65536).zeroSides k f

theorem Die.zeroed_keeps {α : Type} (g : Die → α) (hg : ∀ (d : Die) m x, g { d with mem := m, side := x } = g d) (f : Nat) :
    g (d.zeroed k f) = g d :=
  (Die.zeroSides_keeps g (fun d x => hg d d.mem x) f).trans (hg d _ d.side)

theorem Die.zeroed_byte (f x : Nat) : (d.zeroed k f).byte x =
    if vatBase + f * 65536 ≤ x ∧ x < vatBase + (f + 1) * 65536 then 0 else d.byte x := by
  have hend : vatBase + f * 65536 + 65536 = vatBase + (f + 1) * 65536 := by omega
  have h := d.byte_zeroBytes (vatBase + f * 65536) 65536 x
  rw [hend] at h
  exact (Die.zeroSides_keeps (Die.byte · x) (fun _ _ => rfl) f).trans h

theorem Die.zeroFillDone_due (ho : d.obj k = some o) (hst : o.st = .filling) (hz : o.zero = true) (hs : d.zeroSlot o.frame = true)
    (hl : d.live (islOf (o.frame / 32)) = true) : d.zeroFillDone k = (((d.zeroed k o.frame).nowResident k).removeStep).fabSettle := by
  have hgood : ¬ (o.st ≠ .filling ∨ o.zero = false ∨ (!d.zeroSlot o.frame) = true ∨ (!d.live (islOf (o.frame / 32))) = true) := by
    rw [hz, hs, hl]
    rintro (h | h | h | h)
    · exact h hst
    · cases h
    · cases h
    · cases h
  unfold Die.zeroFillDone
  rw [ho]
  dsimp only
  rw [if_neg hgood]
  rfl

/-! ## The end of a fill -/

theorem Die.fillDone_due {r : Req} (ho : d.obj k = some o) (hst : o.st = .filling) (hz : o.zero = false)
    (hc : d.carried k (fun x => decide (x ≠ .writeback)) = some r) :
    d.fillDone k = ((((d.count pgDk 1).endTransfer k).nowResident k).removeStep).fabSettle := by
  unfold Die.fillDone
  rw [ho, hc]
  dsimp only
  rw [hz, if_neg]
  rintro (h | h)
  · exact h hst
  · cases h

/-! ## Drains -/

theorem Die.drainDone_clean (ho : d.obj k = some o) (hst : o.st = .draining) (hu : o.unheld = true) (hd : o.dirty = false)
    (hr : o.released = false) (hf : ∀ kind, d.inFlight k kind = false) : d.drainDone k =
      (d.setObj k (some { o with st := .absent, dirty := false, keepAfter := false, unread := 0, zero := false })).removeStep := by
  have hgood : ¬ (o.st ≠ .draining ∨ (!o.unheld) = true ∨ (o.dirty = true ∧ o.released = false) ∨ d.inFlight k .writeback = true ∨
      d.inFlight k .demand = true ∨ d.inFlight k .prefetch = true) := by
    rw [hu, hd, hf, hf, hf]
    rintro (h | h | ⟨h, -⟩ | h | h | h)
    · exact h hst
    all_goals cases h
  unfold Die.drainDone
  rw [ho]
  dsimp only
  rw [if_neg hgood, hr]
  rfl

/-! ## The end of a write-back -/

/-- The object after its write-back, before a write-back it needs again. -/
def PObj.written (o : PObj) : PObj :=
  { o with stackValid := o.stackValid || o.dirty, dirty := o.dirty && o.rewritten,
           st := if o.keepAfter then .resident else o.st, keepAfter := false }

/-- A page written during its write-back drains again once nothing else asks for it. -/
def PObj.again (o : PObj) (asked : Bool) : Bool :=
  decide (o.st = .draining) && !o.keepAfter && decide (o.refs = 0) && o.dirty && !asked

theorem Die.writebackDone_due {r : Req} (ho : d.obj k = some o) (hc : d.carried k (fun x => decide (x = .writeback)) = some r)
    (hs : d.stackClosed r.stack = false) (hr : o.released = false) : d.writebackDone k =
      ((if o.keepAfter then (((d.count pgDk 3).endTransfer k).updObj k PObj.written).pageIn k
        else ((d.count pgDk 3).endTransfer k).updObj k PObj.written).drainWb k) := by
  unfold Die.writebackDone
  rw [ho, hc]
  dsimp only
  rw [hs, if_neg Bool.false_ne_true, hr, if_neg Bool.false_ne_true]
  rfl

/-- Without its granted request, a page is requested as long as another asks for it. -/
theorem Die.requested_ended : (d.ended k).requested k = d.dk.reqs.any (fun r => decide (r.obj = k) && !r.granted) := by
  have h : (d.ended k).requested k = (d.dk.reqs.filter (fun r => !(decide (r.obj = k) && r.granted))).any (fun r => decide (r.obj = k)) := rfl
  rw [h, List.any_filter]
  congr 1
  funext r
  cases decide (r.obj = k) <;> cases r.granted <;> rfl

/-- The object of a page whose write-back has ended. -/
theorem Die.obj_written_keep (ho : d.obj k = some o) (hk : o.keepAfter = true) :
    (((d.updObj k PObj.written).pageIn k).drainWb k).obj k = some (o.written.seat d.dk.clock) := by
  obtain ⟨u, hu⟩ : ∃ u, u = d.updObj k PObj.written := ⟨_, rfl⟩
  have hclock : u.dk = d.dk := by
    rw [hu]
    unfold Die.updObj
    split <;> rfl
  have hobj : (u.pageIn k).obj k = some (o.written.seat u.dk.clock) := by
    have h : (u.pageIn k).obj k = (u.updObj k (fun o => o.seat u.dk.clock)).obj k := rfl
    rw [h, Die.obj_updObj, hu, Die.obj_updObj, ho]
    rfl
  have hst : (o.written.seat u.dk.clock).st ≠ .draining := by
    rw [(PObj.seat_frame _ _).1]
    show (if o.keepAfter = true then PState.resident else o.st) ≠ _
    rw [hk]
    exact fun h => by cases h
  rw [← hu, Die.drainWb_other hobj hst, hobj, hclock]

theorem Die.obj_written_drop (ho : d.obj k = some o) (hk : o.keepAfter = false) (hr : o.released = false) :
    ((d.updObj k PObj.written).drainWb k).obj k = some { o.written with rewritten := o.rewritten && !o.again (d.requested k) } := by
  obtain ⟨u, hu⟩ : ∃ u, u = d.updObj k PObj.written := ⟨_, rfl⟩
  have hobj : u.obj k = some o.written := by
    rw [hu, Die.obj_updObj, ho]
    rfl
  have hreq : u.requested k = d.requested k := by
    rw [hu]
    unfold Die.updObj
    split <;> rfl
  have hst : o.written.st = o.st := by
    show (if o.keepAfter = true then PState.resident else o.st) = o.st
    rw [hk]
    rfl
  rw [← hu]
  unfold Die.drainWb
  rw [hobj]
  dsimp only
  by_cases hcond : o.written.st = .draining ∧ o.written.refs = 0 ∧ o.written.dirty = true ∧ o.written.released = false ∧ u.requested k = false
  · obtain ⟨h1, h2, h3, h4, h5⟩ := hcond
    have hd : o.dirty = true ∧ o.rewritten = true := Bool.and_eq_true_iff.1 h3
    have hagain : o.again (d.requested k) = true := by
      unfold PObj.again
      rw [← hst, h1, hk, show o.refs = 0 from h2, hd.1, ← hreq, h5]
      rfl
    rw [if_pos ⟨h1, h2, h3, h4, h5⟩, Die.obj, Die.request_objs, ← Die.obj, Die.obj_updObj, hobj, hagain, Bool.not_true, Bool.and_false]
    rfl
  · rw [if_neg hcond, hobj]
    have hkeep : (o.rewritten && !o.again (d.requested k)) = o.rewritten := by
      cases hrw : o.rewritten with
      | false => rfl
      | true =>
        rw [Bool.true_and, Bool.not_eq_true']
        rw [← Bool.not_eq_true]
        intro hagain
        simp only [PObj.again, Bool.and_eq_true, decide_eq_true_eq, Bool.not_eq_true'] at hagain
        obtain ⟨⟨⟨⟨h1, -⟩, h2⟩, h3⟩, h4⟩ := hagain
        refine hcond ⟨hst.trans h1, h2, ?_, hr, hreq.trans h4⟩
        show (o.dirty && o.rewritten) = true
        rw [h3, hrw]
        rfl
    rw [hkeep]
    rfl

end Sys2Proof.Machine

namespace Sys2Proof
open Machine

/-- Settles O40: each transfer of a page's life, by the equation of its event. -/
theorem residency : Obligations.residency := by
  unfold Obligations.residency
  intro s k o hl ho
  refine ⟨fun hst hw f hf => ?home, fun hst hz hs hlive => ?zero, fun r hst hz hc => ?fill, fun hst hu hd hr hf => ?drain,
    fun r hc hs hr => ?write⟩
  case home =>
    refine ⟨(exec_at_live (f := fun d => d.takeHome k) rfl hl).trans (State.next_onD_congr (Die.takeHome_free ho hst hw hf)), ?_⟩
    exact ⟨s.d.fillingObj k o f o.charged, Die.obj_enterFilling f o.charged o.pf, Die.fillingObj_spec f o.charged⟩
  case zero =>
    refine ⟨(s.d.zeroed k o.frame).nowResident k, (exec_at_live (f := fun d => d.zeroFillDone k) rfl hl).trans
      (State.next_onD_congr (Die.zeroFillDone_due ho hst hz hs hlive)), fun x => ?_, fun hm => ?_⟩
    · rw [← Die.zeroed_byte (d := s.d) (k := k) o.frame x]
      exact Die.nowResident_keeps (Die.byte · x) (fun _ _ _ _ _ _ _ _ _ => rfl) (fun _ _ _ => rfl)
    · have hobj : (s.d.zeroed k o.frame).obj k = some o := (Die.zeroed_keeps (Die.obj · k) (fun _ _ _ => rfl) o.frame).trans ho
      have hmap := (Die.zeroed_keeps (d := s.d) (k := k) (fun d => (d.mappings k).any (fun p => (d.homeSlice p.2).isSome)) (fun _ _ _ => rfl) o.frame).trans hm
      have hclock : (s.d.zeroed k o.frame).dk.clock = s.d.dk.clock := Die.zeroed_keeps (fun d => d.dk.clock) (fun _ _ _ => rfl) o.frame
      rw [← hclock]
      exact (Die.nowResident_stays hobj hmap).1
  case fill =>
    obtain ⟨u, hu⟩ : ∃ u, u = (s.d.count pgDk 1).endTransfer k := ⟨_, rfl⟩
    have hkeep {α : Type} (g : Die → α) (hg : ∀ (d : Die) ne ci hp sb li sw,
        g { d with nent := ne, circs := ci, heldPlan := hp, seamBack := sb, links := li, seamWait := sw } = g d) :
        g u = g ((s.d.count pgDk 1).ended k) := hu ▸ Die.endTransfer_keeps g hg
    have hdue := Die.fillDone_due ho hst hz hc
    rw [← hu] at hdue
    refine ⟨u.nowResident k, (exec_at_live (f := fun d => d.fillDone k) rfl hl).trans (State.next_onD_congr hdue), ?_, ?_, fun hm => ?_⟩
    · exact (Die.nowResident_keeps Die.mem (fun _ _ _ _ _ _ _ _ _ => rfl) (fun _ _ _ => rfl)).trans (hkeep Die.mem (fun _ _ _ _ _ _ _ => rfl))
    · rw [Die.ctrOf, Die.nowResident_ctr, hkeep Die.ctr (fun _ _ _ _ _ _ _ => rfl)]
      exact (Die.ctrOf_count ..).trans (if_pos rfl)
    · have hobj : u.obj k = some o := (hkeep (Die.obj · k) (fun _ _ _ _ _ _ _ => rfl)).trans ho
      have hmap := (hkeep (fun d => (d.mappings k).any (fun p => (d.homeSlice p.2).isSome)) (fun _ _ _ _ _ _ _ => rfl)).trans hm
      have hclock : u.dk.clock = s.d.dk.clock := hkeep (fun d => d.dk.clock) (fun _ _ _ _ _ _ _ => rfl)
      obtain ⟨h1, h2⟩ := Die.nowResident_stays hobj hmap
      rw [← hclock]
      exact ⟨h1, h2.trans (hkeep (fun d => d.dk.reqs) (fun _ _ _ _ _ _ _ => rfl))⟩
  case drain =>
    exact (exec_at_live (f := fun d => d.drainDone k) rfl hl).trans (State.next_onD_congr (Die.drainDone_clean ho hst hu hd hr hf))
  case write =>
    intro o'
    obtain ⟨u, hu⟩ : ∃ u, u = (s.d.count pgDk 3).endTransfer k := ⟨_, rfl⟩
    have hkeep {α : Type} (g : Die → α) (hg : ∀ (d : Die) ne ci hp sb li sw,
        g { d with nent := ne, circs := ci, heldPlan := hp, seamBack := sb, links := li, seamWait := sw } = g d) :
        g u = g ((s.d.count pgDk 3).ended k) := hu ▸ Die.endTransfer_keeps g hg
    have hdue := Die.writebackDone_due ho hc hs hr
    rw [← hu] at hdue
    have hobj : u.obj k = some o := (hkeep (Die.obj · k) (fun _ _ _ _ _ _ _ => rfl)).trans ho
    have hclock : u.dk.clock = s.d.dk.clock := hkeep (fun d => d.dk.clock) (fun _ _ _ _ _ _ _ => rfl)
    have hreq : u.requested k = s.d.dk.reqs.any (fun r => decide (r.obj = k) && !r.granted) :=
      (hkeep (Die.requested · k) (fun _ _ _ _ _ _ _ => rfl)).trans Die.requested_ended
    have hctr : u.ctrOf pgDk 3 = bump (s.d.ctrOf pgDk 3) 1 :=
      (hkeep (Die.ctrOf · pgDk 3) (fun _ _ _ _ _ _ _ => rfl)).trans ((Die.ctrOf_count ..).trans (if_pos rfl))
    obtain ⟨f, hf, hfo, hfc, hfm, hfr⟩ : ∃ f : Die, s.d.writebackDone k = f ∧ f.obj k = some (if o.keepAfter then o'.seat s.d.dk.clock else o') ∧
        f.ctr = u.ctr ∧ f.mem = s.d.mem ∧ f.regs = s.d.regs := by
      have hpaged {α : Type} (g : Die → α) (hp : Die.Paged.Frame g) (hi : ∀ (d : Die) qs cs, g { d with queues := qs, cores := cs } = g d)
          (hg : ∀ (d : Die) ne ci hp sb li sw,
            g { d with nent := ne, circs := ci, heldPlan := hp, seamBack := sb, links := li, seamWait := sw } = g d) :
          g (((u.updObj k PObj.written).pageIn k).drainWb k) = g s.d ∧ g ((u.updObj k PObj.written).drainWb k) = g s.d := by
        have hus : g u = g s.d := (hkeep g hg).trans (((Die.Paged.count s.d _ _ _).trans (Die.Paged.updDk _ _ _ _)).keeps hp)
        have hup : g (u.updObj k PObj.written) = g s.d := ((Die.Paged.updObj u k _).keeps hp).trans hus
        refine ⟨((Die.Paged.drainWb ..).keeps hp).trans ?_, ((Die.Paged.drainWb ..).keeps hp).trans hup⟩
        exact (hi _ _ _).trans (((Die.Paged.updObj _ k _).trans (Die.Paged.updDk _ _ _ _)).keeps hp |>.trans hup)
      have hm := hpaged Die.mem (fun _ _ _ _ _ _ _ _ _ => rfl) (fun _ _ _ => rfl) (fun _ _ _ _ _ _ _ => rfl)
      have hg := hpaged Die.regs (fun _ _ _ _ _ _ _ _ _ => rfl) (fun _ _ _ => rfl) (fun _ _ _ _ _ _ _ => rfl)
      cases hk : o.keepAfter with
      | true =>
        rw [hk, if_pos rfl] at hdue
        refine ⟨_, hdue, ?_, ?_, hm.1, hg.1⟩
        · rw [Die.obj_written_keep hobj hk, hclock, if_pos rfl]
          have ho' : o' = o.written := by
            show { o.written with rewritten := o.rewritten && !(decide (o.st = .draining) && !o.keepAfter && decide (o.refs = 0) && o.dirty &&
              !(s.d.dk.reqs.any (fun q => decide (q.obj = k) && !q.granted))) } = o.written
            rw [hk, Bool.not_true, Bool.and_false, Bool.false_and, Bool.false_and, Bool.false_and, Bool.not_false, Bool.and_true]
            rfl
          rw [ho']
        · rw [Die.drainWb_ctr, Die.pageIn_ctr, Die.updObj_ctr]
      | false =>
        rw [hk, if_neg Bool.false_ne_true] at hdue
        refine ⟨_, hdue, ?_, ?_, hm.2, hg.2⟩
        · rw [Die.obj_written_drop hobj hk hr, hreq, if_neg Bool.false_ne_true]
          rfl
        · rw [Die.drainWb_ctr, Die.updObj_ctr]
    refine ⟨s.onD (fun _ => f), (exec_at_live (f := fun d => d.writebackDone k) rfl hl).trans (State.next_onD_congr hf), hfo, ?_, hfm, hfr, rfl⟩
    rw [← hctr]
    exact congrArg (fun c => sget c 0 (ckey pgDk 3)) hfc

end Sys2Proof
end

section
/-!
PROOFS. The bandwidth of a stack: grants, rates and idle write-backs (06 R183, R193, R194).
-/

namespace Sys2Proof.Machine

/-! ## Stores -/

section
variable {β : Type}

/-- A key that a store does not list reads as the default. -/
theorem sget_unlisted {m : Store β} {d : β} {k : Nat} (h : ∀ c ∈ m, c.1 ≠ k) : sget m d k = d := by
  induction m with
  | nil => rfl
  | cons c t ih =>
    rw [sget, if_neg (h c List.mem_cons_self)]
    exact ih (fun x hx => h x (List.mem_cons_of_mem _ hx))

/-- A store in canonical form lists no key twice. -/
theorem nodup_keys [DecidableEq β] {m : Store β} {d : β} (h : storeWf d m = true) : (m.map (fun c => c.1)).Nodup := by
  induction m with
  | nil => exact List.nodup_nil
  | cons c t ih =>
    obtain ⟨-, hlt, ht⟩ := storeWf_cons.1 h
    rw [List.map_cons, List.nodup_cons]
    refine ⟨fun hmem => ?_, ih ht⟩
    obtain ⟨x, hx, he⟩ := List.mem_map.1 hmem
    have := hlt x hx
    omega

end

/-! ## Traces leave the counters of the later pages -/

section
variable {d : Die} {p c : Nat}

/-- A walk over the members of a list keeps what each step over a member keeps. -/
theorem foldl_keeps_mem {α β γ : Type} (g : α → γ) {f : α → β → α} {l : List β} (h : ∀ a, ∀ b ∈ l, g (f a b) = g a) (a : α) :
    g (l.foldl f a) = g a := by
  induction l generalizing a with
  | nil => rfl
  | cons b t ih =>
    rw [List.foldl_cons, ih (fun a x hx => h a x (List.mem_cons_of_mem _ hx)), h a b List.mem_cons_self]

/-- A trace record moves counters of the debug page alone. -/
theorem Die.ctrOf_trace {i kind : Nat} (w : Word) (hi : i < 128) (hp : 8 ≤ p) : (d.trace i kind w).ctrOf p c = d.ctrOf p c := by
  have hctr : (d.trace i kind w).ctr = (d.traceCount i kind).ctr := by
    unfold Die.trace
    dsimp only
    split
    · split <;> rfl
    · rfl
  have hcount : (d.traceCount i kind).ctrOf p c = d.ctrOf p c := by
    unfold Die.traceCount
    refine foldl_keeps_mem (fun d => Die.ctrOf d p c) (fun e k hk => ?_) _
    dsimp only
    split
    · have hk' : k < 4 := by
        simp only [List.mem_cons, List.not_mem_nil, or_false] at hk
        omega
      rw [Die.ctrOf_count, if_neg]
      unfold ckey pgDbg
      omega
    · rfl
  rw [Die.ctrOf, hctr]
  exact hcount

/-! ## Streams -/

/-- A walk that changes each stream of a list once. -/
theorem Die.strm_walk (F : Nat → Strm → Strm) {l : List Nat} (hl : l.Nodup) (y : Nat) :
    (l.foldl (fun e x => Die.updStrm e x (F x)) d).strm y = if y ∈ l then F y (d.strm y) else d.strm y := by
  induction l generalizing d with
  | nil => rfl
  | cons x t ih =>
    obtain ⟨hx, ht⟩ := List.nodup_cons.1 hl
    rw [List.foldl_cons, ih ht, Die.strm_updStrm]
    by_cases hyx : y = x
    · subst hyx
      rw [if_neg hx, if_pos rfl, if_pos List.mem_cons_self]
    · rw [if_neg hyx]
      by_cases hyt : y ∈ t
      · rw [if_pos hyt, if_pos (List.mem_cons_of_mem _ hyt)]
      · rw [if_neg hyt, if_neg (fun h => by
          obtain h | h := List.mem_cons.1 h
          · exact hyx h
          · exact hyt h)]

theorem Die.strms_walk_keeps {α : Type} (g : Die → α) (hg : ∀ (d : Die) x, g { d with strms := x } = g d) (F : Nat → Strm → Strm) (l : List Nat) :
    g (l.foldl (fun e x => Die.updStrm e x (F x)) d) = g d := foldl_keeps g (fun e _ => hg e _) l d

/-! ## Grants -/

theorem Die.grant_none {n : Nat} (h : d.pendStreams n = []) : d.grant n = d := by
  have hg : d.grantee n [] = none := rfl
  unfold Die.grant
  dsimp only
  rw [h, hg]

/-- What a stream that pends owes after a grant to `g`. -/
def Die.owed (d : Die) (n g x : Nat) : Nat :=
  if x = g then d.deficit x n + d.shareOf (d.pendStreams n) x - 65536 else d.deficit x n + d.shareOf (d.pendStreams n) x

/-- The die after a grant, but for its counter and trace record. -/
def Die.settled (d : Die) (n g i : Nat) : Die :=
  ((d.pendStreams n).foldl (fun e x => Die.updStrm e x (fun r => { r with deficit := setAt r.deficit n (d.owed n g x) })) d).updDk
    (fun x => { x with reqs := x.reqs.modify i (fun r => { r with granted := true }) })

theorem Die.grant_some {n g i : Nat} (hg : d.grantee n (d.pendStreams n) = some g) (hi : d.oldestReq g n = some i) :
    d.grant n = ((d.settled n g i).count pgDk (0x200 + g)).trace 89 5 (packW [(16, n), (0, g)]) := by
  unfold Die.grant
  dsimp only
  rw [hg]
  dsimp only
  rw [hi]
  rfl

theorem Die.settled_keeps {α : Type} (g : Die → α) (h1 : ∀ (d : Die) x, g { d with strms := x } = g d)
    (h2 : ∀ (d : Die) x, g { d with dk := x } = g d) (n a i : Nat) : g (d.settled n a i) = g d :=
  (h2 _ _).trans (Die.strms_walk_keeps g h1 (fun x r => { r with deficit := setAt r.deficit n (d.owed n a x) }) _)

/-- The request granted is marked, and no other part of the Deckle's state changes. -/
theorem Die.settled_dk (n g i : Nat) : (d.settled n g i).dk = { d.dk with reqs := d.dk.reqs.modify i (fun r => { r with granted := true }) } := by
  have h : (d.settled n g i).dk = (fun x : Deckle => { x with reqs := x.reqs.modify i (fun r => { r with granted := true }) })
      ((d.pendStreams n).foldl (fun e x => Die.updStrm e x (fun r => { r with deficit := setAt r.deficit n (d.owed n g x) })) d).dk := rfl
  rw [h, Die.strms_walk_keeps Die.dk (fun _ _ => rfl) (fun x r => { r with deficit := setAt r.deficit n (d.owed n g x) })]

theorem Die.settled_strm (n g i y : Nat) : (d.settled n g i).strm y =
    if y ∈ d.pendStreams n then { d.strm y with deficit := setAt (d.strm y).deficit n (d.owed n g y) } else d.strm y :=
  Die.strm_walk (fun x r => { r with deficit := setAt r.deficit n (d.owed n g x) }) (List.nodup_dedup _) y

end

end Sys2Proof.Machine

namespace Sys2Proof
open Machine

/-- Settles O41: a grant walks the streams that pend, once each. -/
theorem stackBandwidth : Obligations.stack_bandwidth := by
  unfold Obligations.stack_bandwidth
  intro s hl
  refine ⟨fun n hw hf ho => ?grant, fun hwf => ?rate, fun k o ho hst hd hr hh hq => ?spill⟩
  case grant =>
    have hgo : ¬ (s.d.workHeld = true ∨ 32 ≤ s.d.flying n ∨ (s.d.stackClosed n = true ∧ (!(s.d.stack n).failed) = true)) := by
      rw [hw, ho]
      rintro (h | h | ⟨h, -⟩)
      · cases h
      · omega
      · cases h
    have serves {e : Die} (h : s.d.grant n = e) : exec (.stackGrant n) s = .next (s.onD (fun _ => e)) :=
      (exec_at_live (f := fun d => if d.workHeld ∨ 32 ≤ d.flying n ∨ (d.stackClosed n ∧ !(d.stack n).failed) then d else d.grant n) rfl hl).trans
        (State.next_onD_congr ((if_neg hgo).trans h))
    refine ⟨fun hp => serves (Die.grant_none hp), fun g i hg hi => ?_⟩
    have keeps {α : Type} (f : Die → α) (h1 : ∀ (d : Die) c r n t x, f { d with ctr := c, free := r, trS := n, trRec := t, trc := x } = f d) :
        f (((s.d.settled n g i).count pgDk (0x200 + g)).trace 89 5 (packW [(16, n), (0, g)])) = f (s.d.settled n g i) :=
      (Die.trace_keeps f h1 _ _ _).trans (h1 (s.d.settled n g i) _ (Die.free _) (Die.trS _) (Die.trRec _) (Die.trc _))
    refine ⟨_, serves (Die.grant_some hg hi), ?_, fun x hx => ?_, fun x hx => ?_, ?_, ?_, ?_, ?_, ?_, rfl⟩
    · exact (keeps Die.dk (fun _ _ _ _ _ _ => rfl)).trans (Die.settled_dk ..)
    · exact (congrArg Strm.deficit (keeps (Die.strm · x) (fun _ _ _ _ _ _ => rfl))).trans
        (congrArg Strm.deficit ((Die.settled_strm ..).trans (if_pos hx)))
    · exact (keeps (Die.strm · x) (fun _ _ _ _ _ _ => rfl)).trans ((Die.settled_strm ..).trans (if_neg hx))
    · refine (Die.ctrOf_trace _ (by decide) (by decide)).trans ((Die.ctrOf_count ..).trans ((if_pos rfl).trans ?_))
      rw [Die.settled_keeps (Die.ctrOf · pgDk (0x200 + g)) (fun _ _ => rfl) (fun _ _ => rfl)]
    · exact (keeps Die.mem (fun _ _ _ _ _ _ => rfl)).trans (Die.settled_keeps Die.mem (fun _ _ => rfl) (fun _ _ => rfl) ..)
    · exact (keeps Die.regs (fun _ _ _ _ _ _ => rfl)).trans (Die.settled_keeps Die.regs (fun _ _ => rfl) (fun _ _ => rfl) ..)
    · exact (keeps Die.objs (fun _ _ _ _ _ _ => rfl)).trans (Die.settled_keeps Die.objs (fun _ _ => rfl) (fun _ _ => rfl) ..)
    · exact (keeps Die.queues (fun _ _ _ _ _ _ => rfl)).trans (Die.settled_keeps Die.queues (fun _ _ => rfl) (fun _ _ => rfl) ..)
  case rate =>
    have hkeep {α : Type} (g : Die → α) (hg : ∀ (d : Die) x, g { d with strms := x } = g d) : g s.d.rateWindow = g s.d :=
      Die.strms_walk_keeps g hg (fun _ r => { r with rate16 := (3 * r.rate16 + 16 * r.reads) / 4, reads := 0 }) _
    refine ⟨s.onD Die.rateWindow, exec_at_live rfl hl, fun x => ?_, hkeep Die.dk (fun _ _ => rfl), hkeep Die.mem (fun _ _ => rfl),
      hkeep Die.regs (fun _ _ => rfl), rfl⟩
    refine (Die.strm_walk (d := s.d) (fun _ r => { r with rate16 := (3 * r.rate16 + 16 * r.reads) / 4, reads := 0 }) (nodup_keys hwf) x).trans ?_
    split
    · rfl
    next h =>
      have hx : s.d.strm x = {} := sget_unlisted (fun c hc he => h (he ▸ List.mem_map_of_mem hc))
      rw [hx]
      rfl
  case spill =>
    refine (exec_at_live (f := fun d => match d.obj k with
      | none => d
      | some o =>
        if o.st = .resident ∧ o.dirty ∧ o.refs = 0 ∧ d.objHint k = 4 ∧ d.requested k = false then
          (d.updObj k (fun o => { o with rewritten := false })).request .writeback k o o.charged
        else d) rfl hl).trans (State.next_onD_congr ?_)
    rw [ho]
    dsimp only
    rw [if_pos ⟨hst, hd, hr, hh, hq⟩]

end Sys2Proof
end

section
/-!
PROOFS. The prefetch walk (06 R189-R192).
-/

namespace Sys2Proof.Machine

variable {d e : Die} {j : Nat}

/-! ## Reading the schedule -/

theorem Die.StkOnly.foldl {β γ : Type} {f : Die × γ → β → Die × γ} (h : ∀ a b, Die.StkOnly a.1 (f a b).1) (l : List β) (a : Die × γ) :
    Die.StkOnly a.1 (l.foldl f a).1 := by
  induction l generalizing a with
  | nil => exact .refl _
  | cons b t ih => exact (h a b).trans (ih _)

theorem Die.StkOnly.meetErr (d : Die) (host : Bool) (x : BurstErr) : Die.StkOnly d (d.meetErr host x).1 := by
  unfold Die.meetErr
  dsimp only
  split
  · exact .refl d
  · exact .noteCorrected ..
  · split
    · exact .count ..
    · exact (Die.StkOnly.count ..).trans (.noteCorrected ..)
    · exact (Die.StkOnly.count ..).trans (.noteUe ..)

theorem Die.StkOnly.readRange (d : Die) (host : Bool) (a len : Nat) (es : List BurstErr) : Die.StkOnly d (d.readRange host a len es).1 := by
  unfold Die.readRange
  exact (Die.StkOnly.of_served (.readBursts d _)).trans (Die.StkOnly.foldl
    (f := fun (acc : Die × List Nat) e => ((acc.1.meetErr host e).1, if (acc.1.meetErr host e).2 then acc.2 ++ [e.1 / 64 * 64] else acc.2))
    (fun a e => .meetErr a.1 host e) _ _)

/-- Part of the die that reads of stack memory leave: all but the controllers' records, counters, the answer and free values. -/
theorem Die.StkOnly.keeps_mem (h : Die.StkOnly d e) (hm : e.mem = d.mem) {α : Type} (g : Die → α)
    (hg : ∀ (d : Die) x k c r f, g { d with changed := x, stk := k, ctr := c, resp := r, free := f } = g d) : g e = g d := by
  obtain ⟨m, x, k, c, r, f, rfl⟩ := h
  obtain rfl : m = d.mem := hm
  exact hg ..

/-- Base address of the schedule of a job. -/
def Die.pfBase (d : Die) (j : Nat) : Nat := fld (d.reg (pgJob j) 0x110) 15 0 * 2 ^ 32 + fld (d.reg (pgJob j) 0x10C) 31 3 * 8

theorem Die.pfRead_first (es : List BurstErr) (h : (d.job j).pfPos = 0) : d.pfRead j es =
    if d.rangeOpen (d.pfBase j) (8 * d.pfRecords j (d.pfCount j) 0) then
      ((d.readRange false (d.pfBase j) (8 * d.pfRecords j (d.pfCount j) 0) es).1,
        (d.readRange false (d.pfBase j) (8 * d.pfRecords j (d.pfCount j) 0) es).2.isEmpty)
    else (d, false) := by
  unfold Die.pfRead
  dsimp only
  rw [if_neg (fun hn => hn h)]
  unfold Die.pfBase
  split
  next ho => rw [if_neg (by simpa using ho)]
  next ho => rw [if_pos (by simpa using ho)]

theorem Die.pfRead_later (es : List BurstErr) (h : (d.job j).pfPos ≠ 0) : d.pfRead j es = (d, true) := by
  unfold Die.pfRead
  exact if_pos h

theorem Die.pfRead_stk (es : List BurstErr) : Die.StkOnly d (d.pfRead j es).1 ∧ (d.pfRead j es).1.mem = d.mem := by
  by_cases h : (d.job j).pfPos = 0
  · rw [Die.pfRead_first es h]
    split
    · exact ⟨.readRange .., Die.readRange_mem ..⟩
    · exact ⟨.refl d, rfl⟩
  · rw [Die.pfRead_later es h]
    exact ⟨.refl d, rfl⟩

/-! ## The window, from the schedule alone -/

theorem Die.pfRuns_congr (h : ∀ i, e.pfRec j i = d.pfRec j i) (n i : Nat) : e.pfRuns j i n = d.pfRuns j i n := by
  induction n generalizing i with
  | zero => rfl
  | succ n ih => simp only [Die.pfRuns, h, ih]

theorem Die.pfLayers_congr (h : ∀ i, e.pfRec j i = d.pfRec j i) (n i : Nat) : e.pfLayers j n i = d.pfLayers j n i := by
  induction n generalizing i with
  | zero => simp only [Die.pfLayers, h]
  | succ n ih => simp only [Die.pfLayers, h, ih, Die.pfRuns_congr h]

/-- Two dies with one schedule, one walk and the same page entries have the same window. -/
theorem Die.pfWindow_congr (h : ∀ i, e.pfRec j i = d.pfRec j i) (hr : e.regs = d.regs) (hj : e.jobs = d.jobs) :
    e.pfWindow j = d.pfWindow j := by
  have hc : e.pfCount j = d.pfCount j := by
    unfold Die.pfCount Die.reg
    rw [hr]
  unfold Die.pfWindow Die.reg Die.job
  rw [hc, Die.pfLayers_congr h, hr, hj]

theorem Die.inWindow_congr (h : ∀ i, e.pfRec j i = d.pfRec j i) (hr : e.regs = d.regs) (hj : e.jobs = d.jobs) (hp : e.pages = d.pages) (k : Nat) :
    e.inWindow j k = d.inWindow j k := by
  unfold Die.inWindow Die.objKey Die.page Die.reg
  rw [Die.pfWindow_congr h hr hj, hr, hp]

theorem Die.pfVictim_congr (h : ∀ i, e.pfRec j i = d.pfRec j i) (hr : e.regs = d.regs) (hj : e.jobs = d.jobs) (hp : e.pages = d.pages)
    (ho : e.objs = d.objs) : e.pfVictim j = d.pfVictim j := by
  have hw := Die.inWindow_congr h hr hj hp
  have hh (k : Nat) : e.objHint k = d.objHint k := by
    unfold Die.objHint Die.mappings
    rw [hp]
  unfold Die.pfVictim Die.victim Die.victimKey Die.evictable
  simp only [hw, hh, ho]

/-! ## The walk -/

/-- The walk may look at its next page. -/
def Die.pfGoes (d : Die) (j : Nat) : Prop := bit (d.reg (pgJob j) 0x114) 31 = true ∧ (d.job j).pfBlocked = false ∧ (d.job j).pfBad = false

theorem Die.pfWalk_unread {es : List BurstErr} (h : d.pfGoes j) (hr : (d.pfRead j es).2 = false) :
    d.pfWalk j es = (d.pfRead j es).1.updJob j (fun x => { x with pfBad := true }) := by
  obtain ⟨h1, h2, h3⟩ := h
  unfold Die.pfWalk
  dsimp only
  rw [h1, h2, h3, hr, if_neg (by rintro (h | h | h) <;> cases h)]
  rfl

/-- A schedule that has been read names a page with an object and a home. -/
structure Die.PfAt (d : Die) (j k : Nat) (o : PObj) : Prop where
  window : ∃ l ls lp v p, d.pfWindow j = some l ∧ d.pfLayers j (d.pfCount j) 0 = some (ls, lp) ∧ l[(d.job j).pfPos]? = some v ∧
    d.page j v = some p ∧ d.objKey j v = some k ∧ (d.homeSlice p).isSome = true
  obj : d.obj k = some o

theorem Die.pfWalk_at {es : List BurstErr} {k : Nat} {o : PObj} (h : d.pfGoes j) (hr : (d.pfRead j es).2 = true) (ha : d.PfAt j k o) :
    d.pfWalk j es = if o.st = .resident ∨ o.st = .filling ∨ o.waiting = true then (d.pfRead j es).1.pfStep j else (d.pfRead j es).1.pfAsk j k := by
  obtain ⟨h1, h2, h3⟩ := h
  obtain ⟨⟨l, ls, lp, v, p, hw, hl, hv, hp, hk, hh⟩, ho⟩ := ha
  obtain ⟨hs, hm⟩ := d.pfRead_stk (j := j) es
  obtain ⟨e, he⟩ : ∃ e, e = (d.pfRead j es).1 := ⟨_, rfl⟩
  rw [← he] at hs hm ⊢
  have hrec (i : Nat) : e.pfRec j i = d.pfRec j i := hs.keeps_mem hm (Die.pfRec · j i) (fun _ _ _ _ _ _ => rfl)
  have hregs : e.regs = d.regs := hs.keeps_mem hm Die.regs (fun _ _ _ _ _ _ => rfl)
  have hjobs : e.jobs = d.jobs := hs.keeps_mem hm Die.jobs (fun _ _ _ _ _ _ => rfl)
  have hcount : e.pfCount j = d.pfCount j := hs.keeps_mem hm (Die.pfCount · j) (fun _ _ _ _ _ _ => rfl)
  have hpage : e.page j v = some p := (hs.keeps_mem hm (Die.page · j v) (fun _ _ _ _ _ _ => rfl)).trans hp
  have hkey : e.objKey j v = some k := (hs.keeps_mem hm (Die.objKey · j v) (fun _ _ _ _ _ _ => rfl)).trans hk
  have hhome : (e.homeSlice p).isNone = false := by
    rw [hs.keeps_mem hm (Die.homeSlice · p) (fun _ _ _ _ _ _ => rfl)]
    cases hx : d.homeSlice p with
    | none =>
      rw [hx] at hh
      cases hh
    | some x => rfl
  have hobj : e.obj k = some o := (hs.keeps_mem hm (Die.obj · k) (fun _ _ _ _ _ _ => rfl)).trans ho
  unfold Die.pfWalk
  dsimp only
  rw [h1, h2, h3, hr, ← he, Die.pfWindow_congr hrec hregs hjobs, hcount, Die.pfLayers_congr hrec, hw, hl,
    if_neg (by rintro (h | h | h) <;> cases h), if_neg (by decide)]
  dsimp only
  rw [hv]
  dsimp only
  rw [hpage, hkey]
  dsimp only
  rw [hhome, if_neg Bool.false_ne_true, hobj]

/-- What the walk finds about quotas and victims, whether its schedule has just been read or not. -/
theorem Die.pfAsk_eq {k : Nat} (hs : Die.StkOnly d e) (hm : e.mem = d.mem) (ho : d.pfOut j < 1024) (hq : d.overQuota j = false) : e.pfAsk j k =
    if d.pfRoom j then (((e.promote j k true).count (pgJob j) 1).updJob j (fun x => { x with pfEv := none })).pfStep j
    else if d.pfDraining j then e
    else match d.pfVictim j with
      | some v => ((e.startDrain v).count (pgJob j) 4).updJob j (fun x => { x with pfEv := some v })
      | none => (e.updJob j (fun x => { x with pfBlocked := true })).count (pgJob j) 2 := by
  have hvictim : e.pfVictim j = d.pfVictim j := Die.pfVictim_congr
    (fun i => hs.keeps_mem hm (Die.pfRec · j i) (fun _ _ _ _ _ _ => rfl)) (hs.keeps_mem hm Die.regs (fun _ _ _ _ _ _ => rfl))
    (hs.keeps_mem hm Die.jobs (fun _ _ _ _ _ _ => rfl)) (hs.keeps_mem hm Die.pages (fun _ _ _ _ _ _ => rfl))
    (hs.keeps_mem hm Die.objs (fun _ _ _ _ _ _ => rfl))
  unfold Die.pfAsk
  rw [hs.keeps_mem hm (Die.pfOut · j) (fun _ _ _ _ _ _ => rfl), hs.keeps_mem hm (Die.overQuota · j) (fun _ _ _ _ _ _ => rfl),
    hs.keeps_mem hm (Die.pfRoom · j) (fun _ _ _ _ _ _ => rfl), hs.keeps_mem hm (Die.pfDraining · j) (fun _ _ _ _ _ _ => rfl), hvictim,
    if_neg (by
      rw [hq]
      rintro (h | h)
      · omega
      · cases h)] <;> rfl

/-! ## Restarts -/

theorem Die.pfWithdraw_keeps {α : Type} (g : Die → α) (hg : ∀ (d : Die) ob rq, g { d with objs := ob, dk := { d.dk with reqs := rq } } = g d)
    (p : Nat → Bool) : g (d.pfWithdraw j p) = g d := by
  have hobj (d : Die) (k : Nat) (f : PObj → PObj) : g (d.updObj k f) = g d := by
    unfold Die.updObj
    split
    · rfl
    · exact hg d _ d.dk.reqs
  unfold Die.pfWithdraw
  dsimp only
  refine (foldl_keeps g (fun e k => hobj e k _) _ _).trans (foldl_keeps g (fun e k => ?_) _ _)
  exact (hobj _ _ _).trans (hg e e.objs _)

/-- A restart stands at the first page of the window. -/
theorem Die.pfRestart_job (i : Nat) : (d.pfRestart j).job i =
    if i = j then { d.job j with pfPos := 0, pfBlocked := false, pfDone := false } else d.job i :=
  (Die.pfWithdraw_keeps (Die.job · i) (fun _ _ _ => rfl) _).trans (Die.job_updJob ..)

theorem Die.pfRestart_keeps {α : Type} (g : Die → α) (hg : ∀ (d : Die) ob rq, g { d with objs := ob, dk := { d.dk with reqs := rq } } = g d)
    (hj : ∀ (d : Die) x, g { d with jobs := x } = g d) : g (d.pfRestart j) = g d :=
  (Die.pfWithdraw_keeps g hg _).trans (hj d _)

/-- Layers of a schedule that loops, else 0. -/
def Die.pfLoop (d : Die) (j : Nat) : Nat :=
  match d.pfLayers j (d.pfCount j) 0 with
  | some (ls, true) => ls.length
  | _ => 0

theorem Die.pfAdvance_eq : d.pfAdvance j = (d.updJob j (fun x => { x with
    pfCur := if d.pfLoop j = 0 then (x.pfCur + 1) % 65536 else (x.pfCur + 1) % d.pfLoop j })).pfRestart j := rfl

end Sys2Proof.Machine

namespace Sys2Proof
open Machine

/-- Settles O42: the walk reads its schedule, which changes nothing it decides by, and looks at one page. -/
theorem prefetchWalk : Obligations.prefetch_walk := by
  unfold Obligations.prefetch_walk
  intro s j x c
  refine ⟨fun es hl h1 h2 h3 => ?walk, fun hl hb hq hr => ?resume, fun ini had => ?commands⟩
  case walk =>
    intro e base
    have hgo : s.d.pfGoes j := ⟨h1, h2, h3⟩
    have walks {f : Die} (h : s.d.pfWalk j es = f) : exec (.prefetchRequest j es) s = .next (s.onD (fun _ => f)) :=
      (exec_at_live (f := fun d => d.pfWalk j es) rfl hl).trans (State.next_onD_congr h)
    obtain ⟨hs, hm⟩ := s.d.pfRead_stk (j := j) es
    refine ⟨fun h0 ho => ?_, fun hr => walks (Die.pfWalk_unread hgo hr), fun h0 => Die.pfRead_later es h0, hm,
      fun l ls lp v p k o hr hw hls hv hp hk hh hobj => ?_⟩
    · have hread : s.d.pfRead j es = (s.d, false) := (Die.pfRead_first es h0).trans (if_neg (by
        intro h
        exact absurd (h.symm.trans ho) (by decide)))
      have hwalk := Die.pfWalk_unread hgo (es := es) (by rw [hread])
      rw [hread] at hwalk
      exact (exec_at_live (f := fun d => d.pfWalk j es) rfl hl).trans (State.next_onD_congr hwalk)
    · have hat := Die.pfWalk_at hgo hr ⟨⟨l, ls, lp, v, p, hw, hls, hv, hp, hk, hh⟩, hobj⟩
      refine ⟨fun hst => walks (hat.trans (if_pos hst)), fun hst hwt ho hq => ?_⟩
      have hask := hat.trans (if_neg (by
        rw [hst, hwt]
        rintro (h | h | h) <;> cases h))
      rw [Die.pfAsk_eq hs hm ho hq] at hask
      refine ⟨fun hroom => ?_, fun hroom hdr => ?_, fun w hroom hdr hv => ?_, fun hroom hdr hv => ?_⟩
      · rw [hroom, if_pos rfl] at hask
        exact walks hask
      · rw [hroom, hdr, if_neg Bool.false_ne_true, if_pos rfl] at hask
        exact walks hask
      · rw [hroom, hdr, if_neg Bool.false_ne_true, if_neg Bool.false_ne_true, hv] at hask
        exact walks hask
      · rw [hroom, hdr, if_neg Bool.false_ne_true, if_neg Bool.false_ne_true, hv] at hask
        exact walks hask
  case resume =>
    refine (exec_at_live (f := fun d => d.pfResume j) rfl hl).trans (State.next_onD_congr (if_pos ⟨hb, ?_, .inl hr⟩))
    rw [hq]
    rfl
  case commands =>
    intro loop
    have keeps {α : Type} (g : Die → α) (h : ∀ (d : Die) m c x r, g { d with trS := m, carb := c, ctr := x, resp := r } = g d) :=
      s.reached_keeps ini (pgJob j) g h
    have hadv := exec_cplD_served (s := s) (c := .pfAdvance ini j) (f := fun d => d.pfAdvance j) rfl had
    have hres := exec_cplD_served (s := s) (c := .pfReset ini j) (f := fun d => d.pfReset j) rfl had
    obtain ⟨u, hu⟩ : ∃ u, u = s.reached ini (pgJob j) := ⟨_, rfl⟩
    rw [← hu] at keeps hadv hres
    have hloop : u.d.pfLoop j = loop := by
      have hl : u.d.pfLayers j (u.d.pfCount j) 0 = s.d.pfLayers j (s.d.pfCount j) 0 := by
        rw [keeps (Die.pfCount · j) (fun _ _ _ _ _ => rfl)]
        exact Die.pfLayers_congr (fun i => keeps (Die.pfRec · j i) (fun _ _ _ _ _ => rfl)) _ _
      unfold Die.pfLoop
      rw [hl] <;> rfl
    have hjob (i : Nat) : u.d.job i = s.d.job i := keeps (Die.job · i) (fun _ _ _ _ _ => rfl)
    have restart (f : Job → Job) (g : Die → Die) (hg : ∀ d, g d = (d.updJob j f).pfRestart j) :
        ((u.onD g).d.job j = { f x with pfPos := 0, pfBlocked := false, pfDone := false }) ∧
        (∀ i, i ≠ j.val → (u.onD g).d.job i = s.d.job i) ∧ (u.onD g).d.mem = s.d.mem ∧ (u.onD g).d.regs = s.d.regs ∧
        (u.onD g).d.pages = s.d.pages := by
      have hd : (u.onD g).d = (u.d.updJob j f).pfRestart j := hg u.d
      have hk {α : Type} (g : Die → α) (h1 : ∀ (d : Die) ob rq, g { d with objs := ob, dk := { d.dk with reqs := rq } } = g d)
          (h2 : ∀ (d : Die) x, g { d with jobs := x } = g d) (h3 : ∀ (d : Die) m c x r, g { d with trS := m, carb := c, ctr := x, resp := r } = g d) :
          g ((u.d.updJob j f).pfRestart j) = g s.d := (Die.pfRestart_keeps g h1 h2).trans ((h2 u.d _).trans (keeps g h3))
      rw [hd]
      refine ⟨?_, fun i hi => ?_, hk Die.mem (fun _ _ _ => rfl) (fun _ _ => rfl) (fun _ _ _ _ _ => rfl),
        hk Die.regs (fun _ _ _ => rfl) (fun _ _ => rfl) (fun _ _ _ _ _ => rfl), hk Die.pages (fun _ _ _ => rfl) (fun _ _ => rfl) (fun _ _ _ _ _ => rfl)⟩
      · rw [Die.pfRestart_job, if_pos rfl, Die.job_updJob, if_pos rfl, hjob]
      · rw [Die.pfRestart_job, if_neg hi, Die.job_updJob, if_neg hi, hjob]
    refine ⟨⟨_, hadv, ?_⟩, ⟨_, hres, restart (fun x => { x with pfCur := 0, pfBad := false }) _ (fun _ => rfl)⟩⟩
    have ha := restart (fun x => { x with pfCur := if loop = 0 then (x.pfCur + 1) % 65536 else (x.pfCur + 1) % loop })
      (fun d => (d.updJob j (fun x => { x with pfCur := if loop = 0 then (x.pfCur + 1) % 65536 else (x.pfCur + 1) % loop })).pfRestart j) (fun _ => rfl)
    have he : u.onD (fun d => d.pfAdvance j) =
        u.onD (fun d => (d.updJob j (fun x => { x with pfCur := if loop = 0 then (x.pfCur + 1) % 65536 else (x.pfCur + 1) % loop })).pfRestart j) := by
      have h := Die.pfAdvance_eq (d := u.d) (j := j)
      rw [hloop] at h
      exact congrArg (fun e => State.mk e u.a u.pending) h
    rw [he]
    exact ha

end Sys2Proof
end

section
/-!
PROOFS. Jobs and barriers (06 R166, R197-R201, 08 R250).
-/

namespace Sys2Proof.Machine

variable {d : Die} {j : Nat}

/-! ## What the end of a descriptor leaves -/

/-- A part of the die that the completion of a descriptor does not write: pages, queues, messages and traces are none of it. -/
structure Die.DoneFrame {α : Type} (g : Die → α) : Prop where
  paged : Die.Paged.Frame g
  queues : ∀ (d : Die) qs cs i, g { d with queues := qs, cores := cs, inj := i } = g d
  sent : ∀ (d : Die) sb, g { d with sbq := sb } = g d
  traced : ∀ (d : Die) c f n r t, g { d with ctr := c, free := f, trS := n, trRec := r, trc := t } = g d

/-- The counters of a completion that was poisoned or met a non-finite value. -/
def Die.doneCount (d : Die) (n q st : Nat) : Die :=
  if st = stPoisoned then d.count (pgCore n) (0x20 + d.ctxQ n q) else if st = stNonfinite then d.count (pgCore n) (0x24 + d.ctxQ n q) else d

/-- What a completion does to the state of its queue, which was `x` and whose flight is empty or not. -/
def Die.doneEnd (d : Die) (n q : Nat) (e : Infl) (st detail : Nat) (x : Queue) (c : Nat) (last : Prop) [Decidable last] : Die :=
  if 4 ≤ q then
    { (if dIrq e.d then d.updQueue n c (fun y => { y with irq := true }) else d) with
        inj := { busy := false, donePend := true, detail, status := st, core := n } }
  else if !stGood st then d.haltQueue n q { status := st, detail, idx := e.idx, half := e.half, tag := dTag e.d }
  else if x.st = .running ∧ bit (d.qreg n q 0x3C) 30 ∧ x.done + 1 = d.qreg n q 0x38 then d.updQueue n q (fun y => { y with st := .brk })
  else if x.st = .draining ∧ last then d.updQueue n q (fun y => { y with st := .idle, irq := y.irq || bit (d.qreg n q 0x48) 1 })
  else d

/-- The queue after one of its descriptors left flight. -/
def Queue.finished (x : Queue) (e : Infl) : Queue :=
  { x with infl := x.infl.filter (fun y => decide (y.id ≠ e.id)), done := x.done + 1, irq := x.irq || dIrq e.d }

/-- The record of a completion in the queue and the trace. -/
def Die.doneTraced (d : Die) (n q : Nat) (e : Infl) (st : Nat) : Die :=
  (d.setQueue n q ((d.queue n q).finished e)).trace (islOf n) 2 (word (d.traceAt n q + dTag e.d * 65536 + st * 256))

theorem Die.queueDone_eq (n q : Nat) (e : Infl) (st detail : Nat) : d.queueDone n q e st detail =
    ((d.doneTraced n q e st).doneCount n q st).doneEnd n q e st detail (d.queue n q) ((d.doneTraced n q e st).ctxQ n q)
      (((d.queue n q).finished e).infl = []) := rfl

namespace Die.DoneFrame

variable {α : Type} {g : Die → α} (hg : Die.DoneFrame g)
include hg

theorem count (d : Die) (p c k : Nat) : g (d.count p c k) = g d := (Die.Paged.count d p c k).keeps hg.paged

theorem setQueue (d : Die) (n q : Nat) (x : Queue) : g (d.setQueue n q x) = g d := by
  unfold Die.setQueue
  split
  · exact hg.queues d _ d.cores d.inj
  · exact hg.queues d d.queues _ d.inj

theorem updQueue (d : Die) (n q : Nat) (f : Queue → Queue) : g (d.updQueue n q f) = g d := hg.setQueue ..

theorem send (d : Die) (a b : Nat) (m : SbBody) : g (d.send a b m) = g d := by
  obtain ⟨x, -, -, -, he⟩ := d.send_eq a b m
  rw [he, hg.sent]

theorem haltQueue (d : Die) (n q : Nat) (f : QFault) : g (d.haltQueue n q f) = g d :=
  (Die.trace_keeps g hg.traced _ _ _).trans (hg.updQueue ..)

theorem fireSignals (d : Die) (n : Nat) (e : Infl) : g (d.fireSignals n e) = g d := by
  refine foldl_keeps g (fun d i => ?_) _ _
  dsimp only
  split
  · split
    · rfl
    · exact hg.send ..
  · rfl

theorem returnFelts (d : Die) (n : Nat) (e : Infl) (good : Bool) : g (d.returnFelts n e good) = g d := by
  refine foldl_keeps g (fun d u => ?_) _ _
  dsimp only
  split
  · split
    · exact hg.send ..
    · rfl
  · exact hg.send ..

theorem doneCount (d : Die) (n q st : Nat) : g (d.doneCount n q st) = g d := by
  unfold Die.doneCount
  split
  · exact hg.count ..
  · split
    · exact hg.count ..
    · rfl

theorem doneEnd (d : Die) (n q : Nat) (e : Infl) (st detail : Nat) (x : Queue) (c : Nat) (last : Prop) [Decidable last] :
    g (d.doneEnd n q e st detail x c last) = g d := by
  unfold Die.doneEnd
  split
  · refine (hg.queues _ _ _ _).trans ?_
    split
    · exact hg.updQueue ..
    · rfl
  · split
    · exact hg.haltQueue ..
    · split
      · exact hg.updQueue ..
      · split
        · exact hg.updQueue ..
        · rfl

theorem queueDone (d : Die) (n q : Nat) (e : Infl) (st detail : Nat) : g (d.queueDone n q e st detail) = g d := by
  rw [Die.queueDone_eq, hg.doneEnd, hg.doneCount, Die.doneTraced, Die.trace_keeps g hg.traced, hg.setQueue]

theorem finish (d : Die) (n q : Nat) (e : Infl) {st : Nat} (hst : st ≠ stSlot) (detail : Nat) : g (d.finish n q e st detail) = g d := by
  have hsig : g (if stGood st then d.fireSignals n e else d) = g d := by
    split
    · exact hg.fireSignals ..
    · rfl
  unfold Die.finish
  dsimp only
  rw [if_neg hst]
  refine (hg.queueDone ..).trans (Eq.trans ?_ hsig)
  refine Eq.trans ?_ (hg.returnFelts _ n e (stGood st))
  refine Eq.trans ?_ ((Die.Paged.foldl (fun d k => .dropRef d e.due k) e.span _).keeps hg.paged)
  refine Eq.trans ?_ ((Die.Paged.foldl (fun d k => .useStream d e.job k) e.reads _).keeps hg.paged)
  split
  · exact hg.count ..
  · rfl

end Die.DoneFrame

/-! ## Aborting a job -/

section
variable {α : Type} {g : Die → α} (hg : Die.DoneFrame g)
include hg

theorem Die.abortRegion_keeps (x : Region) : g (d.abortRegion x) = g d := by
  refine foldl_keeps g (fun d n => ?_) _ _
  dsimp only [Die.onCore]
  split
  · exact foldl_keeps g (fun d q => hg.haltQueue ..) _ _
  · rfl

theorem Die.abortBarriers_keeps : g (d.abortBarriers j) = g d :=
  foldl_keeps g (fun _ _ => foldl_keeps g (fun _ _ => hg.finish _ _ _ _ (by decide) _) _ _) _ _

/-- An abort marks its job, and leaves what completions, barriers and queues of handles are none of. -/
theorem Die.jobAbort_keeps (hb : ∀ (d : Die) x, g { d with bars := x } = g d) (hf : ∀ (d : Die) x, g { d with felt := x } = g d)
    (hw : ∀ (d : Die) ob rq, g { d with objs := ob, dk := { d.dk with reqs := rq } } = g d) :
    g (d.jobAbort j) = g (d.updJob j (fun x => { x with aborting := true })) := by
  unfold Die.jobAbort
  dsimp only
  refine (foldl_keeps g (fun d k => hf d _) _ _).trans ((Die.pfWithdraw_keeps g hw _).trans ?_)
  refine (foldl_keeps g (fun d b => hb d _) _ _).trans ((Die.abortBarriers_keeps hg).trans ?_)
  exact foldl_keeps g (fun d r => Die.abortRegion_keeps hg _) _ _

end

/-! ## Retiring a job -/

/-- The die before an object's release takes a key that no record names, and after: descriptors and circuits follow it. -/
theorem Die.rekey_keeps {α : Type} {g : Die → α} (hp : Die.Paged.Frame g) (hi : ∀ (d : Die) qs cs, g { d with queues := qs, cores := cs } = g d)
    (hc : ∀ (d : Die) x, g { d with circs := x } = g d) (k : Nat) (o : PObj) : g (d.rekey k o) = g d := by
  have hobj := (Die.Paged.setObj d k none).trans (.setObj _ (2 ^ 29 + d.dk.clock) (some o))
  unfold Die.rekey
  dsimp only
  refine (hc _ _).trans (((Die.Paged.updDk ..).keeps hp).trans ((hi _ _ _).trans (hobj.keeps hp)))

theorem Die.releaseObj_keeps {α : Type} {g : Die → α} (hp : Die.Paged.Frame g) (hi : ∀ (d : Die) qs cs, g { d with queues := qs, cores := cs } = g d)
    (hc : ∀ (d : Die) x, g { d with circs := x } = g d) (k : Nat) : g (d.releaseObj k) = g d := by
  have hkey (d : Die) (o : PObj) : g (d.rekey k o) = g d := Die.rekey_keeps hp hi hc k o
  have hdraw (d : Die) : g (d.withdraw k (fun _ => true)) = g d := (Die.Paged.withdraw ..).keeps hp
  unfold Die.releaseObj
  split
  · rfl
  · split
    · split
      · exact (Die.Paged.setObj ..).keeps hp
      · exact hkey ..
    · split
      · exact ((Die.Paged.setObj ..).keeps hp).trans (hdraw d)
      · exact hkey ..
    · exact (hkey ..).trans (hdraw d)
    · exact (hkey ..).trans (hdraw d)

/-- A page that is declared has an object's key. -/
theorem Die.objKey_declared {v : Nat} {p : Page} (h : d.page j v = some p) : ∃ k, d.objKey j v = some k := by
  unfold Die.objKey
  rw [h]
  cases hs : p.shared with
  | none => exact ⟨j * 2 ^ 23 + v, by dsimp only; rw [hs]⟩
  | some i => exact ⟨2 ^ 28 + i, by dsimp only; rw [hs]⟩

theorem Die.keepFormer_paged (v k : Nat) : Die.Paged d (d.keepFormer j v k) := by
  unfold Die.keepFormer
  split
  · exact .refl d
  · split
    · exact .refl d
    · exact .updDk d d.dk.reqs d.dk.clock _

theorem Die.keepFormer_pages (v k : Nat) : (d.keepFormer j v k).pages = d.pages := by
  unfold Die.keepFormer
  split
  · rfl
  · split <;> rfl

/-- What undeclaring a page leaves: the entry of that page goes, and whatever the page state machine, descriptors and
circuits are none of stays. -/
theorem Die.releasePage_keeps {α : Type} {g : Die → α} (hp : Die.Paged.Frame g) (hi : ∀ (d : Die) qs cs, g { d with queues := qs, cores := cs } = g d)
    (hc : ∀ (d : Die) x, g { d with circs := x } = g d) (v : Nat) : g (d.releasePage j v) = g d := by
  have hpage (k : Nat) := ((Die.keepFormer_paged (d := d) (j := j) v k).trans (Die.Paged.setPage _ j v none)).keeps hp
  have hobj (k : Nat) := Die.releaseObj_keeps hp hi hc (d := (d.keepFormer j v k).setPage j v none) k
  unfold Die.releasePage
  split
  next p k _ _ =>
    dsimp only
    split
    · split
      · exact ((Die.Paged.setObj ..).keeps hp).trans (hpage k)
      · exact (hobj k).trans (hpage k)
    · exact (hobj k).trans (hpage k)
  · rfl

theorem Die.rekey_pages (k : Nat) (o : PObj) : (d.rekey k o).pages = d.pages := by
  unfold Die.rekey
  dsimp only [Die.mapInfl, Die.setObj, Die.updDk]

theorem Die.releaseObj_pages (k : Nat) : (d.releaseObj k).pages = d.pages := by
  unfold Die.releaseObj
  split
  · rfl
  · split
    · split
      · rfl
      · exact Die.rekey_pages ..
    · split
      · rfl
      · exact Die.rekey_pages ..
    · exact Die.rekey_pages ..
    · exact Die.rekey_pages ..

/-- Undeclaring a page takes its entry away and no other. -/
theorem Die.releasePage_entry (v k : Nat) :
    sget (d.releasePage j v).pages none k = if k = j * 2 ^ 23 + v then none else sget d.pages none k := by
  have hset (i : Nat) : sget ((d.keepFormer j v i).setPage j v none).pages none k = if k = j * 2 ^ 23 + v then none else sget d.pages none k := by
    show sget (sset (d.keepFormer j v i).pages none (j * 2 ^ 23 + v) none) none k = _
    rw [Die.keepFormer_pages, sget_sset]
  cases hv : d.page j v with
  | none =>
    have hrel : d.releasePage j v = d := by
      unfold Die.releasePage
      rw [hv]
    rw [hrel]
    split
    next h => rw [h]; exact hv
    next => rfl
  | some p =>
    obtain ⟨i, hi⟩ := Die.objKey_declared hv
    unfold Die.releasePage
    rw [hv, hi]
    dsimp only
    split
    · split
      · exact hset i
      · rw [Die.releaseObj_pages, hset i]
    · rw [Die.releaseObj_pages, hset i]

/-- Undeclaring a list of pages takes their entries away and no other. -/
theorem Die.releasePages_entry (l : List Nat) (k : Nat) : sget (l.foldl (fun d v => d.releasePage j v) d).pages none k =
    if ∃ v ∈ l, k = j * 2 ^ 23 + v then none else sget d.pages none k := by
  induction l generalizing d with
  | nil => simp
  | cons v t ih =>
    rw [List.foldl_cons, ih, Die.releasePage_entry]
    simp only [List.exists_mem_cons_iff]
    split
    next h => rw [if_pos (.inr h)]
    next h =>
      split
      next hv => rw [if_pos (.inl hv)]
      next hv => rw [if_neg (by rintro (h' | h') <;> contradiction)]

/-- A value a store holds and that is not the default stands in its list. -/
theorem mem_of_sget {β : Type} {m : Store β} {d x : β} {k : Nat} (h : sget m d k = x) (hx : x ≠ d) : (k, x) ∈ m := by
  induction m with
  | nil => exact absurd h.symm hx
  | cons c t ih =>
    obtain ⟨i, y⟩ := c
    rw [sget] at h
    split at h
    next hk => rw [← hk, ← h]; exact List.mem_cons_self
    next => exact List.mem_cons_of_mem _ (ih h)

/-- Declared pages of a job. -/
def Die.declaredOf (d : Die) (j : Nat) : List Nat := (d.pages.filter (fun c => decide (c.1 / 2 ^ 23 = j) && c.2.isSome)).map (fun c => c.1 % 2 ^ 23)

theorem Die.mem_declaredOf {v : Nat} (hv : v < 2 ^ 23) {p : Page} (h : d.page j v = some p) : v ∈ d.declaredOf j := by
  refine List.mem_map.2 ⟨(j * 2 ^ 23 + v, some p), List.mem_filter.2 ⟨mem_of_sget h (by simp), ?_⟩, ?_⟩
  · rw [Bool.and_eq_true, decide_eq_true_eq]
    exact ⟨by omega, rfl⟩
  · show (j * 2 ^ 23 + v) % 2 ^ 23 = v
    omega

theorem Die.declaredOf_lt {v : Nat} (h : v ∈ d.declaredOf j) : v < 2 ^ 23 := by
  obtain ⟨c, -, rfl⟩ := List.mem_map.1 h
  exact Nat.mod_lt _ (by decide)

theorem Die.jobOff_keeps {α : Type} {g : Die → α} (hp : Die.Paged.Frame g) (ht : ∀ (d : Die) x, g { d with poolT := x } = g d) :
    g (d.jobOff j) = g d :=
  (ht _ _).trans ((Die.Paged.foldl (fun d _ => .updStrm d ..) _ d).keeps hp)

theorem Die.jobOff_pages : (d.jobOff j).pages = d.pages :=
  foldl_keeps Die.pages (f := fun (d : Die) x => d.updStrm x (fun r => { r with en := false })) (fun _ _ => rfl) _ d

theorem Die.jobRetire_quiet (hp : d.jobPlaced j = false) (ha : (d.job j).aborting = false) : d.jobRetire j =
    ((((d.declaredOf j).foldl (fun d v => d.releasePage j v) d).jobOff j).updJob j (fun x => { x with enabled := false })) := by
  unfold Die.jobRetire
  rw [hp, ha, if_neg (by rintro (h | h) <;> cases h)]
  rfl

theorem Die.jobRetire_busy (h : d.jobPlaced j = true ∨ (d.job j).aborting = true) : d.jobRetire j = d.count (pgJob j) 7 := if_pos h

/-- A retired job is disabled with no declared page; the pages of other jobs stay. -/
theorem Die.jobRetire_spec (hp : d.jobPlaced j = false) (ha : (d.job j).aborting = false) : ∃ f, d.jobRetire j = f ∧
    f.job j = { d.job j with enabled := false } ∧
    (∀ k, sget f.pages none k = if k / 2 ^ 23 = j then none else sget d.pages none k) ∧ f.mem = d.mem := by
  obtain ⟨u, hu⟩ : ∃ u, u = (d.declaredOf j).foldl (fun d v => d.releasePage j v) d := ⟨_, rfl⟩
  have keeps {α : Type} (g : Die → α) (hp : Die.Paged.Frame g) (hi : ∀ (d : Die) qs cs, g { d with queues := qs, cores := cs } = g d)
      (hc : ∀ (d : Die) x, g { d with circs := x } = g d) (ht : ∀ (d : Die) x, g { d with poolT := x } = g d) : g (u.jobOff j) = g d := by
    rw [Die.jobOff_keeps hp ht, hu]
    exact foldl_keeps g (fun d v => Die.releasePage_keeps hp hi hc v) _ _
  refine ⟨(u.jobOff j).updJob j (fun x => { x with enabled := false }), by rw [Die.jobRetire_quiet hp ha, hu], ?_, fun k => ?_, ?_⟩
  · rw [Die.job_updJob, if_pos rfl, keeps (Die.job · j) (fun _ _ _ _ _ _ _ _ _ => rfl) (fun _ _ _ => rfl) (fun _ _ => rfl) (fun _ _ => rfl)]
  · show sget (u.jobOff j).pages none k = _
    rw [Die.jobOff_pages, hu, Die.releasePages_entry]
    split
    next h =>
      obtain ⟨v, hv, rfl⟩ := h
      have hlt := Die.declaredOf_lt hv
      rw [if_pos (by omega)]
    next h =>
      split
      next hk =>
        cases hx : sget d.pages none k with
        | none => rfl
        | some p =>
          have hkj : k = j * 2 ^ 23 + k % 2 ^ 23 := by omega
          exact absurd ⟨k % 2 ^ 23, Die.mem_declaredOf (Nat.mod_lt _ (by decide)) (p := p) (by rw [Die.page, ← hkj, hx]), hkj⟩ h
      next => rfl
  · exact keeps Die.mem (fun _ _ _ _ _ _ _ _ _ => rfl) (fun _ _ _ => rfl) (fun _ _ => rfl) (fun _ _ => rfl)

/-! ## Barriers -/

theorem Die.barArrive_room {b : Nat} {r : Option DescRef} (h : (d.bar j b).now.length < d.barExpect j b ∨ (d.barExpect j b = 0 ∧ (d.bar j b).now = [])) :
    d.barArrive j b r = d.updBar j b (fun _ => { d.bar j b with now := (d.bar j b).now ++ [r] }) := by
  unfold Die.barArrive Die.updBar
  dsimp only
  rw [if_pos]
  rw [Bool.or_eq_true, Bool.and_eq_true, decide_eq_true_eq, decide_eq_true_eq, List.isEmpty_iff]
  exact h

theorem Die.barArrive_full {b : Nat} {r : Option DescRef} (h0 : 0 < d.barExpect j b) (h : d.barExpect j b ≤ (d.bar j b).now.length) :
    d.barArrive j b r = d.updBar j b (fun _ => { d.bar j b with held := (d.bar j b).held ++ [r] }) := by
  unfold Die.barArrive Die.updBar
  dsimp only
  rw [if_neg]
  rw [Bool.or_eq_true, Bool.and_eq_true, decide_eq_true_eq, decide_eq_true_eq]
  omega

theorem Die.barComplete_keeps {α : Type} {g : Die → α} (hg : Die.DoneFrame g) (a : Option DescRef) : g (d.barComplete a) = g d := by
  unfold Die.barComplete
  split
  · rfl
  · split
    · rfl
    · exact (hg.send ..).trans (hg.updQueue ..)

/-- What a barrier of a job does to the Skim leaves all but the Skim, the securing page, counters and messages. -/
theorem Die.skimRelease_keeps {α : Type} {g : Die → α} (hg : Die.DoneFrame g)
    (hs : ∀ (d : Die) x y z, g { d with skim := x, skimGen := y, sg := z } = g d) (b : Nat) : g (d.skimRelease j b) = g d := by
  have hskim (d : Die) (f : SkimJob → SkimJob) : g (d.updSkim j f) = g d := hs d _ d.skimGen d.sg
  have hdue (d : Die) : g (d.secureDue j) = g d := by
    unfold Die.secureDue
    dsimp only
    split
    · exact hs d d.skim d.skimGen _
    · rfl
  have hcommit : g (d.skimCommit j) = g d := by
    unfold Die.skimCommit
    dsimp only
    split
    · exact (hskim ..).trans (hg.count ..)
    · split
      · exact hskim ..
      · exact (hdue _).trans (hskim ..)
  have hbatch : g (d.microBatch j) = g d := by
    unfold Die.microBatch
    dsimp only
    refine (foldl_keeps g (fun d i => ?_) _ _).trans ((hg.count ..).trans (hskim ..))
    split
    · exact hs d d.skim _ d.sg
    · rfl
  unfold Die.skimRelease
  dsimp only
  split
  · rfl
  · split
    · split
      · exact (foldl_keeps g (fun d i => hg.send ..) _ _).trans (hskim ..)
      · exact hg.count ..
    · split
      · split
        · exact hcommit
        · exact hg.count ..
      · split
        · split
          · exact hbatch
          · exact hg.count ..
        · rfl

/-- A barrier after its release. -/
def Barrier.released (x : Barrier) (n : Nat) : Barrier :=
  { x with gen := x.gen + 1, now := x.held.take (max 1 n), held := x.held.drop (max 1 n) }

/-- What a release of barrier `b` does after the barrier itself has moved on. -/
def Die.afterRelease (d : Die) (j b : Nat) (l : List (Option DescRef)) : Die :=
  let d := l.foldl Die.barComplete ((d.count (pgJob j) 6).trace 89 4 (packW [(8, j), (0, b)]))
  (if fld (d.reg (pgJob j) 0x114) 21 16 = b then d.pfAdvance j else d).skimRelease j b

theorem Die.afterRelease_keeps {α : Type} {g : Die → α} (hg : Die.DoneFrame g)
    (hs : ∀ (d : Die) x y z, g { d with skim := x, skimGen := y, sg := z } = g d) (hj : ∀ (d : Die) x, g { d with jobs := x } = g d)
    (hw : ∀ (d : Die) ob rq, g { d with objs := ob, dk := { d.dk with reqs := rq } } = g d) (b : Nat) (l : List (Option DescRef)) :
    g (d.afterRelease j b l) = g d := by
  have hfold : g (l.foldl Die.barComplete ((d.count (pgJob j) 6).trace 89 4 (packW [(8, j), (0, b)]))) = g d :=
    (foldl_keeps g (fun d a => Die.barComplete_keeps hg a) _ _).trans ((Die.trace_keeps g hg.traced _ _ _).trans (hg.count ..))
  unfold Die.afterRelease
  refine (Die.skimRelease_keeps hg hs b).trans ?_
  split
  · rw [Die.pfAdvance_eq]
    exact (Die.pfRestart_keeps g hw hj).trans ((hj _ _).trans hfold)
  · exact hfold

theorem Die.barRelease_waits {b : Nat} (h : (d.bar j b).now = [] ∨ (d.bar j b).now.length < d.barExpect j b) : d.barRelease j b = d := by
  refine if_pos ?_
  obtain h | h := h
  · exact .inl (by rw [h]; rfl)
  · exact .inr (.inl h)

theorem Die.barRelease_due {b : Nat} (h0 : (d.bar j b).now ≠ []) (hn : d.barExpect j b ≤ (d.bar j b).now.length)
    (hw : (d.bar j b).waitWb = false ∨ d.wbBusy j = false) :
    d.barRelease j b = (d.updBar j b (fun x => x.released (d.barExpect j b))).afterRelease j b (d.bar j b).now := by
  refine if_neg ?_
  rintro (h | h | ⟨h, h'⟩)
  · exact h0 (List.isEmpty_iff.1 h)
  · omega
  · obtain hw | hw := hw
    · rw [hw] at h
      cases h
    · rw [hw] at h'
      cases h'

end Sys2Proof.Machine

namespace Sys2Proof
open Machine

/-- Settles O43: a retired job loses the entries of its declared pages, and what completions write is no job and no barrier. -/
theorem jobsAndBarriers : Obligations.jobs_and_barriers := by
  unfold Obligations.jobs_and_barriers
  intro s
  refine ⟨fun ini j had => ?jobs, fun j hl => ⟨fun h => ?busy, fun h => ?clear⟩, fun ini j b had => ?arrive, fun j b hl => ⟨fun h => ?waits, fun h0 hn hw => ?due⟩,
    fun hl => ⟨fun h => ?ready, fun n hn ht hf => ?unready⟩⟩
  case jobs =>
    have hen := exec_cplD_served (s := s) (c := .enable ini j) (f := fun d => d.jobEnable j) rfl had
    have hre := exec_cplD_served (s := s) (c := .retire ini j) (f := fun d => d.jobRetire j) rfl had
    have hab := exec_cplD_served (s := s) (c := .jobAbort ini j) (f := fun d => d.jobAbort j) rfl had
    have keeps {α : Type} (g : Die → α) (h : ∀ (d : Die) m c x r, g { d with trS := m, carb := c, ctr := x, resp := r } = g d) :=
      s.reached_keeps ini (pgJob j) g h
    obtain ⟨u, hu⟩ : ∃ u, u = s.reached ini (pgJob j) := ⟨_, rfl⟩
    rw [← hu] at keeps hen hre hab ⊢
    have hjob (i : Nat) : u.d.job i = s.d.job i := keeps (Die.job · i) (fun _ _ _ _ _ => rfl)
    have hplaced : u.d.jobPlaced j = s.d.jobPlaced j := keeps (Die.jobPlaced · j) (fun _ _ _ _ _ => rfl)
    have hpages : u.d.pages = s.d.pages := keeps Die.pages (fun _ _ _ _ _ => rfl)
    have hmem : u.d.mem = s.d.mem := keeps Die.mem (fun _ _ _ _ _ => rfl)
    refine ⟨fun h => ?enable, fun h => ?enabled, fun h => ?ignored, fun hp ha => ?retire, ?abort⟩
    case enable => exact hen.trans (State.next_onD_congr (if_neg (by rw [hjob, h]; decide)))
    case enabled => exact hen.trans (State.next_onD_congr (if_pos (by rw [hjob, h])))
    case ignored => exact hre.trans (State.next_onD_congr (Die.jobRetire_busy (by rwa [hplaced, hjob])))
    case retire =>
      obtain ⟨f, hf, hfj, hfp, hfm⟩ := Die.jobRetire_spec (d := u.d) (j := j) (by rw [hplaced, hp]) (by rw [hjob, ha])
      refine ⟨u.onD (fun _ => f), hre.trans (State.next_onD_congr (g := fun _ => f) hf), ?_, fun v hv => ?_, fun k hk => ?_, hfm.trans hmem, rfl⟩
      · exact hfj.trans (by rw [hjob])
      · exact (hfp _).trans (if_pos (by omega))
      · exact (hfp k).trans ((if_neg hk).trans (by rw [hpages]))
    case abort =>
      obtain ⟨f, hf⟩ : ∃ f, f = u.d.jobAbort j := ⟨_, rfl⟩
      have hfj (i : Nat) : f.job i = if i = j.val then { s.d.job j with aborting := true } else s.d.job i := by
        rw [hf, Die.jobAbort_keeps (g := (Die.job · i)) ⟨fun _ _ _ _ _ _ _ _ _ => rfl, fun _ _ _ _ => rfl, fun _ _ => rfl, fun _ _ _ _ _ _ => rfl⟩
          (fun _ _ => rfl) (fun _ _ => rfl) (fun _ _ _ => rfl), Die.job_updJob, hjob, hjob]
      refine ⟨u.onD (fun _ => f), hab.trans (State.next_onD_congr (g := fun _ => f) hf.symm), ?_, fun i hi => ?_, ?_, rfl⟩
      · exact (hfj j).trans (if_pos rfl)
      · exact (hfj i).trans (if_neg hi)
      · show f.mem = _
        rw [hf, Die.jobAbort_keeps (g := Die.mem) ⟨fun _ _ _ _ _ _ _ _ _ => rfl, fun _ _ _ _ => rfl, fun _ _ => rfl, fun _ _ _ _ _ _ => rfl⟩
          (fun _ _ => rfl) (fun _ _ => rfl) (fun _ _ _ => rfl)]
        exact hmem
  case busy =>
    exact (exec_at_live (f := fun d => if d.jobInFlight j then d else d.updJob j (fun x => { x with aborting := false })) rfl hl).trans
      (State.next_onD_congr (g := id) (if_pos h))
  case clear =>
    exact (exec_at_live (f := fun d => if d.jobInFlight j then d else d.updJob j (fun x => { x with aborting := false })) rfl hl).trans
      (State.next_onD_congr (if_neg (by rw [h]; decide)))
  case arrive =>
    intro x adds
    have harr := exec_cplD_served (s := s) (c := .barArrive ini j b) (f := fun d => d.barArrive j b none) rfl had
    have hbar : (s.reached ini (pgJob j)).d.bar j b = x := s.reached_keeps ini (pgJob j) (Die.bar · j b) (fun _ _ _ _ _ => rfl)
    have hexp : (s.reached ini (pgJob j)).d.barExpect j b = s.d.barExpect j b :=
      s.reached_keeps ini (pgJob j) (Die.barExpect · j b) (fun _ _ _ _ _ => rfl)
    refine ⟨fun h => harr.trans (State.next_onD_congr ?_), fun h0 h => harr.trans (State.next_onD_congr ?_)⟩
    · rw [Die.barArrive_room (.inl (by rw [hbar, hexp]; exact h)), hbar]
    · rw [Die.barArrive_full (by rw [hexp]; exact h0) (by rw [hbar, hexp]; exact h), hbar]
  case waits => exact (exec_at_live (f := fun d => d.barRelease j b) rfl hl).trans (State.next_onD_congr (g := id) (Die.barRelease_waits h))
  case due =>
    obtain ⟨n, hn'⟩ : ∃ n, n = s.d.barExpect j b := ⟨_, rfl⟩
    have hrel := Die.barRelease_due h0 hn hw
    rw [← hn'] at hrel ⊢
    obtain ⟨u, hu⟩ : ∃ u, u = s.d.updBar j b (fun x => x.released n) := ⟨_, rfl⟩
    rw [← hu] at hrel
    obtain ⟨f, hf⟩ : ∃ f, f = u.afterRelease j b (s.d.bar j b).now := ⟨_, rfl⟩
    rw [← hf] at hrel
    have keeps {α : Type} (g : Die → α) (hg : Die.DoneFrame g) (hs : ∀ (d : Die) x y z, g { d with skim := x, skimGen := y, sg := z } = g d)
        (hj : ∀ (d : Die) x, g { d with jobs := x } = g d)
        (hw : ∀ (d : Die) ob rq, g { d with objs := ob, dk := { d.dk with reqs := rq } } = g d) : g f = g u := by
      rw [hf]
      exact Die.afterRelease_keeps hg hs hj hw _ _
    have hbars : f.bars = sset s.d.bars {} (j.val * 64 + b.val) ((s.d.bar j b).released n) := by
      rw [keeps Die.bars ⟨fun _ _ _ _ _ _ _ _ _ => rfl, fun _ _ _ _ => rfl, fun _ _ => rfl, fun _ _ _ _ _ _ => rfl⟩
        (fun _ _ _ _ => rfl) (fun _ _ => rfl) (fun _ _ _ => rfl), hu]
      rfl
    refine ⟨s.onD (fun _ => f), (exec_at_live (f := fun d => d.barRelease j b) rfl hl).trans (State.next_onD_congr (g := fun _ => f) hrel), ?_,
      fun k hk => ?_, ?_, ?_, rfl⟩
    · show sget f.bars {} (j.val * 64 + b.val) = _
      rw [hbars, sget_sset, if_pos rfl]
      rfl
    · show sget f.bars {} k = _
      rw [hbars, sget_sset, if_neg hk]
    · show f.mem = _
      rw [keeps Die.mem ⟨fun _ _ _ _ _ _ _ _ _ => rfl, fun _ _ _ _ => rfl, fun _ _ => rfl, fun _ _ _ _ _ _ => rfl⟩
        (fun _ _ _ _ => rfl) (fun _ _ => rfl) (fun _ _ _ => rfl), hu]
      rfl
    · show f.regs = _
      rw [keeps Die.regs ⟨fun _ _ _ _ _ _ _ _ _ => rfl, fun _ _ _ _ => rfl, fun _ _ => rfl, fun _ _ _ _ _ _ => rfl⟩
        (fun _ _ _ _ => rfl) (fun _ _ => rfl) (fun _ _ _ => rfl), hu]
      rfl
  case ready =>
    refine (exec_at_live (f := fun d => if (List.range 8).all (fun n => (d.stack n).trained || (d.stack n).failed) then
      d.updDk (fun x => { x with ready := true }) else d) rfl hl).trans (State.next_onD_congr (if_pos ?_))
    rw [List.all_eq_true]
    intro n hn
    rw [Bool.or_eq_true]
    exact h n (List.mem_range.1 hn)
  case unready =>
    refine (exec_at_live (f := fun d => if (List.range 8).all (fun n => (d.stack n).trained || (d.stack n).failed) then
      d.updDk (fun x => { x with ready := true }) else d) rfl hl).trans (State.next_onD_congr (g := id) (if_neg ?_))
    rw [List.all_eq_true]
    intro h
    have hbad := h n (List.mem_range.2 hn)
    rw [ht, hf] at hbad
    cases hbad

end Sys2Proof
end

section
/-!
PROOFS. Flits of the Lath: a hop, what lands in a slice, the edge links, and the seam's credits (07 R211-R234).
-/

namespace Sys2Proof.Machine

variable {d : Die} {n port i o m : Nat} {f : Flit}

/-! ## Links -/

/-- An output of a node leads to a node whose other coordinate is its own. -/
theorem outNode_spec (h : outNode n o = some m) (hn : n < 4096) :
    m ≠ n ∧ m < 4096 ∧ ((o = 0 ∧ m = n + 1 ∧ n % 64 < 63) ∨ (o = 1 ∧ m + 1 = n ∧ 0 < n % 64) ∨ (o = 2 ∧ m + 64 = n) ∨ (o = 3 ∧ m = n + 64)) := by
  unfold outNode at h
  split at h
  · rw [cx] at h
    split at h
    · cases h
      omega
    · cases h
  · rw [cx] at h
    split at h
    · cases h
      omega
    · cases h
  · rw [cy] at h
    split at h
    · cases h
      omega
    · cases h
  · rw [cy] at h
    split at h
    · cases h
      omega
    · cases h
  · cases h

/-- A link within an island does not cross the seam. -/
theorem seamLane_inner (h : outNode n o = some m) (hn : n < 4096) (hi : islOf m = islOf n) : seamLane n o = none := by
  obtain ⟨-, -, hm⟩ := outNode_spec h hn
  unfold islOf cx cy at hi
  unfold seamLane cx cy
  rw [if_neg (by omega), if_neg (by omega)]

theorem arrPort_lt (o : Nat) : arrPort o < 8 := by
  unfold arrPort
  split <;> decide

theorem crossing_injected (h : 5 ≤ port) : crossing n port = false := by
  unfold crossing
  split
  · rfl
  · rw [Bool.and_eq_false_iff]
    exact .inl (decide_eq_false (by omega))

theorem Die.atPort_setPort (l : List Flit) (hp : port < 8) {q : Nat} (hq : q < 8) :
    (d.setPort n port l).atPort m q = if m = n ∧ q = port then l else d.atPort m q := by
  unfold Die.setPort Die.atPort
  dsimp only
  rw [sget_sset]
  split
  next h => rw [if_pos (by omega)]
  next h => rw [if_neg (by omega)]

/-! ## A flit leaves its port -/

/-- A flit has left its place at a port, and its credit is on its way back if it came over the seam. -/
def Die.takenAt (d : Die) (n port i : Nat) : Die := (d.setPort n port (dropAt (d.atPort n port) i)).seamFreed n port 1

theorem Die.seamFreed_keeps {α : Type} (g : Die → α) (hg : ∀ (d : Die) x, g { d with seamBack := x } = g d) (k : Nat) :
    g (d.seamFreed n port k) = g d := by
  unfold Die.seamFreed
  split
  · rfl
  · exact hg ..

theorem Die.takenAt_keeps {α : Type} (g : Die → α) (hg : ∀ (d : Die) l x, g { d with links := l, seamBack := x } = g d) :
    g (d.takenAt n port i) = g d :=
  (Die.seamFreed_keeps g (fun d x => hg d d.links x) 1).trans (hg d _ d.seamBack)

/-- A flit that passes is counted at its island if it is of a circuit. -/
def Die.passed (d : Die) (n : Nat) (f : Flit) : Die := if 512 ≤ f.stream then d.count (pgIsl (islOf n)) 0xA else d

theorem Die.passed_keeps {α : Type} (g : Die → α) (hg : ∀ (d : Die) c, g { d with ctr := c } = g d) : g (d.passed n f) = g d := by
  unfold Die.passed
  split
  · exact hg ..
  · rfl

theorem Die.leave_none {es : Flit → List (Nat × Nat)} (h : (d.atPort n port)[i]? = none) (bad : Bool) : d.leave n port i es bad = d := by
  unfold Die.leave
  rw [h]

section
variable {es : Flit → List (Nat × Nat)} {bad : Bool} (h : (d.atPort n port)[i]? = some f)
include h

/-- A checked flit leaves by each entry that takes it. -/
theorem Die.leave_good (h0 : es f ≠ []) (ho : d.ownerOf n (es f) = f.stream) (hp : (f.par && !bad) = true) :
    d.leave n port i es bad = (es f).foldl (Die.hopOut n f.stream { f with par := f.par && !bad }) ((d.takenAt n port i).passed n f) := by
  have hown : (d.takenAt n port i).ownerOf n (es f) = f.stream := by
    rw [Die.takenAt_keeps (Die.ownerOf · n (es f)) (fun _ _ _ => rfl), ho]
  have htaken : (d.setPort n port (dropAt (d.atPort n port) i)).seamFreed n port 1 = d.takenAt n port i := rfl
  have hempty : (es f).isEmpty = false := by
    rw [Bool.eq_false_iff]
    exact fun hx => h0 (List.isEmpty_iff.1 hx)
  unfold Die.leave
  rw [h]
  dsimp only
  rw [htaken]
  unfold Die.route
  dsimp only
  rw [hown, hp, hempty, if_neg (by simp)]
  rfl

/-- A flit that no entry of its stream takes, or whose tag is damaged, is dropped. -/
theorem Die.leave_bad (hb : es f = [] ∨ d.ownerOf n (es f) ≠ f.stream ∨ (f.par && !bad) = false) :
    d.leave n port i es bad = (d.takenAt n port i).slotDrop n (d.ownerOf n (es f)) { f with par := f.par && !bad } := by
  have hown : (d.takenAt n port i).ownerOf n (es f) = d.ownerOf n (es f) := Die.takenAt_keeps (Die.ownerOf · n (es f)) (fun _ _ _ => rfl)
  have htaken : (d.setPort n port (dropAt (d.atPort n port) i)).seamFreed n port 1 = d.takenAt n port i := rfl
  unfold Die.leave
  rw [h]
  dsimp only
  rw [htaken]
  unfold Die.route
  dsimp only
  rw [hown]
  refine if_pos ?_
  obtain hb | hb | hb := hb
  · rw [hb]
    rfl
  · rw [decide_eq_true hb]
    simp
  · rw [hb]
    simp

end

/-! ## One hop -/

theorem Die.hopOut_link (ho : o < 4) (w q : Nat) : d.hopOut n w f (o, q) = d.sendFlit n o q f := by
  obtain rfl | rfl | rfl | rfl : o = 0 ∨ o = 1 ∨ o = 2 ∨ o = 3 := by omega
  all_goals rfl

theorem Die.hopOut_core (w q : Nat) : d.hopOut n w f (4, q) =
    if (d.intoCore n q f).2 then (d.intoCore n q f).1 else d.slotDrop n w f := rfl

/-- A flit to a neighbour in the island is appended at the neighbour. -/
theorem Die.sendFlit_inner (h : outNode n o = some m) (hn : n < 4096) (hi : islOf m = islOf n) (q : Nat) :
    d.sendFlit n o q f = d.pushFlit m (arrPort o) { f with slot := q } := by
  unfold Die.sendFlit
  dsimp only
  rw [h]
  dsimp only
  rw [if_neg (fun hx => hx.1 hi), seamLane_inner h hn hi]

theorem Die.sendFlit_edge (h : outNode n o = none) (q : Nat) : d.sendFlit n o q f = d.edgeOut { f with slot := q } := by
  unfold Die.sendFlit
  dsimp only
  rw [h]

/-! ## Circuits -/

theorem Die.circ_id {id : Nat} {c : Circ} (h : d.circ id = some c) : c.id = id := of_decide_eq_true (List.find?_some h :)

theorem Die.circ_updCirc {id : Nat} {g : Circ → Circ} (hg : ∀ c, (g c).id = c.id) : (d.updCirc id g).circ id = (d.circ id).map g := by
  unfold Die.circ Die.updCirc
  dsimp only
  rw [List.find?_map]
  have hp : ((fun c : Circ => decide (c.id = id)) ∘ fun c => if c.id = id then g c else c) = fun c => decide (c.id = id) := by
    funext c
    by_cases h : c.id = id
    · simp [h, hg]
    · simp [h]
  rw [hp]
  cases hc : d.circs.find? (fun c => decide (c.id = id)) with
  | none => rfl
  | some c =>
    have hid : c.id = id := of_decide_eq_true (List.find?_some hc :)
    exact congrArg some (if_pos hid)

/-- A flit of a circuit that has more to come has landed. -/
theorem Die.flitDone_more {id : Nat} {c : Circ} (h : d.circ id = some c) (hl : 2 ≤ c.left) :
    d.flitDone id = d.updCirc id (fun c => { c with left := c.left - 1 }) := by
  have hc : (d.updCirc id (fun c => { c with left := c.left - 1 })).circ id = some { c with left := c.left - 1 } :=
    (Die.circ_updCirc (g := fun c => { c with left := c.left - 1 }) (fun _ => rfl)).trans (by rw [h]; rfl)
  unfold Die.flitDone
  dsimp only
  rw [hc]
  dsimp only
  rw [if_neg (by omega)]

/-! ## A flit lands in its slice -/

theorem Die.intoCore_sheet (hk : f.kind = 0) (q : Nat) :
    d.intoCore n q f = (if d.lathBank n q (f.addr / 16384 % 32) then d.landSlice n f else d.bankDrop n f, true) := by
  unfold Die.intoCore
  rw [hk]
  rfl

theorem Die.landSlice_circuit {c : Circ} (h : d.circ f.stream = some c) (hu : f.addr / 8 % 128 < 64) (hl : 2 ≤ c.left) :
    d.landSlice n f = (d.setBytes (sheetAddr (n * 512 + f.addr / 1024 % 512) + 64 * (f.addr / 8 % 128)) f.bytes).updCirc f.stream
      (fun c => { c with left := c.left - 1 }) := by
  have hset (a : Nat) (l : List Byte) : (d.setBytes a l).circ f.stream = some c := h
  unfold Die.landSlice
  dsimp only
  rw [h]
  dsimp only
  unfold Die.landUnit
  rw [if_pos hu, Die.circ_id h, Die.flitDone_more (hset _ _) hl]

theorem length_flitBytes (h : f.data.length = 16) : f.bytes.length = 64 := by
  unfold Flit.bytes
  rw [List.length_flatMap]
  have hsum (l : List Word) : (l.map (fun w => (leBytes 4 w.toNat).length)).sum = 4 * l.length := by
    induction l with
    | nil => rfl
    | cons w t ih =>
      rw [List.map_cons, List.sum_cons, length_leBytes, ih, List.length_cons]
      omega
  rw [hsum, h]

theorem Die.slotFault_keeps {α : Type} (g : Die → α) (hg : ∀ (d : Die) qs cs, g { d with queues := qs, cores := cs } = g d) (r : DescRef) :
    g (d.slotFault r) = g d := by
  unfold Die.slotFault Die.updQueue Die.setQueue
  split
  · exact hg d _ d.cores
  · exact hg d d.queues _

/-- The circuit after the notice of a flit that was dropped on its way. -/
theorem Die.circLost_own {id v : Nat} {c : Circ} (h : d.circ id = some c) (hl : 2 ≤ c.left) :
    (d.circLost id v true).circ id = some { c with lost := some v, left := c.left - 1 } ∧
    ∀ {α : Type} (g : Die → α), (∀ (d : Die) qs cs, g { d with queues := qs, cores := cs } = g d) → (∀ (d : Die) x, g { d with circs := x } = g d) →
      g (d.circLost id v true) = g d := by
  obtain ⟨u, hu⟩ : ∃ u : Die, u = d.updCirc id (fun c => { c with lost := some v }) := ⟨_, rfl⟩
  have hcu : u.circ id = some { c with lost := some v } := by
    rw [hu]
    exact (Die.circ_updCirc (g := fun c => { c with lost := some v }) (fun _ => rfl)).trans (by rw [h]; rfl)
  obtain ⟨w, hw⟩ : ∃ w : Die, w = (match (generalizing := false) c.copy with
    | some r => u.slotFault r.ref
    | none => u) := ⟨_, rfl⟩
  have hkeep {α : Type} (g : Die → α) (hg : ∀ (d : Die) qs cs, g { d with queues := qs, cores := cs } = g d) : g w = g u := by
    rw [hw]
    split
    · exact Die.slotFault_keeps g hg _
    · rfl
  have hcw : w.circ id = some { c with lost := some v } := (hkeep (Die.circ · id) (fun _ _ _ => rfl)).trans hcu
  have hlost : d.circLost id v true = w.flitDone id := by
    unfold Die.circLost
    rw [h]
    dsimp only
    rw [← hu, if_pos rfl, hw] <;> rfl
  rw [hlost, Die.flitDone_more hcw hl]
  refine ⟨?_, fun g hq hc => ?_⟩
  · exact (Die.circ_updCirc (g := fun c => { c with left := c.left - 1 }) (fun _ => rfl)).trans (by rw [hcw]; rfl)
  · rw [Die.updCirc, hc, hkeep g hq, hu, Die.updCirc, hc]

theorem Die.bankDrop_circuit (h : 512 ≤ f.stream) : d.bankDrop n f = (d.count (pgCore n) 0x42).circLost f.stream n true := if_pos h

/-! ## A write-back's flit at an edge link -/

/-- A write of one whole burst changes no other byte, whether it is made, refused, or waits. -/
theorem Die.putPiece_burst {a x : Nat} {bs : List Byte} (ha : a % 64 = 0) (hl : bs.length = 64) (hx : x < a ∨ a + 64 ≤ x) :
    (d.putPiece a bs).1.byte x = d.byte x := by
  cases ho : d.rangeOpen a bs.length with
  | false =>
    unfold Die.putPiece
    rw [ho]
    rfl
  | true =>
    cases hp : d.pinOverlap a bs.length with
    | some c =>
      unfold Die.putPiece
      rw [ho, hp]
      rfl
    | none =>
      cases hb : d.burstBusy (a / 2 ^ 36) (a % 2 ^ 36 / 64) with
      | false =>
        obtain ⟨-, -, h⟩ := Die.putPiece_spec ho hp hb (by omega)
        rw [h, if_neg (by omega)]
      | true =>
        unfold Die.putPiece Die.arrive
        rw [ho, hp]
        dsimp only
        rw [hb, if_neg (by decide), if_pos rfl]
        rfl

theorem Die.stackPut_burst {a x : Nat} {bs : List Byte} (ha : a % 64 = 0) (hl : bs.length = 64) (hx : x < a ∨ a + 64 ≤ x) :
    (d.stackPut a bs).1.byte x = d.byte x := by
  have hb : burstsOf a bs.length = [a] := by
    unfold burstsOf
    rw [hl, if_neg (by decide), show (a + 64 - 1) / 64 - a / 64 + 1 = 1 by omega]
    show [(a / 64 + 0) * 64] = [a]
    rw [show (a / 64 + 0) * 64 = a by omega]
  unfold Die.stackPut
  rw [hb]
  dsimp only [List.foldl_cons, List.foldl_nil]
  rw [Nat.max_self, Nat.sub_self, List.drop_zero, Nat.add_sub_cancel_left, List.take_of_length_le (by omega)]
  exact Die.putPiece_burst ha hl hx

theorem Die.edgeOut_page {c : Circ} {k : Nat} {x : PObj} (h : d.circ f.stream = some c) (hk : c.obj = some k) (hl : 2 ≤ c.left)
    (ho : d.obj k = some x) (hd : f.data.length = 16) (y : Nat)
    (hy : y < d.pageAddr x.stack x.spage + 4352 * c.sheet + f.addr / 8 % 128 * 64 ∨
      d.pageAddr x.stack x.spage + 4352 * c.sheet + f.addr / 8 % 128 * 64 + 64 ≤ y) : (d.edgeOut f).byte y = d.byte y := by
  obtain ⟨a, ha⟩ : ∃ a, a = d.pageAddr x.stack x.spage + 4352 * c.sheet + f.addr / 8 % 128 * 64 := ⟨_, rfl⟩
  have hmod : a % 64 = 0 := by
    rw [ha]
    unfold Die.pageAddr Die.poolBase
    omega
  obtain ⟨u, hu⟩ : ∃ u : Die, u = if x.released then d else (d.stackPut a f.bytes).1 := ⟨_, rfl⟩
  have hcu : u.circ c.id = some c := by
    rw [Die.circ_id h, hu]
    split
    · exact h
    · exact ((Die.StkOnly.stackPut d a f.bytes).keeps (Die.circ · f.stream) (fun _ _ _ _ _ _ _ => rfl)).trans h
  have hedge : d.edgeOut f = u.updCirc c.id (fun c => { c with left := c.left - 1 }) := by
    unfold Die.edgeOut
    rw [h]
    dsimp only
    rw [hk]
    dsimp only
    rw [ho]
    dsimp only
    rw [← ha, ← hu, Die.flitDone_more hcu hl]
  rw [hedge]
  show u.byte y = d.byte y
  rw [hu]
  split
  · rfl
  · exact Die.stackPut_burst hmod (length_flitBytes hd) (by rw [ha]; exact hy)

/-! ## The seam -/

/-- A credit of a lane has come back. -/
def Die.creditBack (d : Die) (k : Nat) : Die :=
  { d with seamBack := sset d.seamBack 0 k (sget d.seamBack 0 k - 1), seamUsed := sset d.seamUsed 0 k (sget d.seamUsed 0 k - 1) }

theorem Die.seamDrain_stays {l : Nat} (h : sget d.seamWait [] l = [] ∨ d.seamPasses l = false) : d.seamDrain n o l 1 = d := by
  unfold Die.seamDrain
  split
  · rfl
  next g t hg =>
    obtain h | h := h
    · rw [h] at hg
      cases hg
    · rw [h, if_neg Bool.false_ne_true]

theorem Die.seamDrain_passes {l : Nat} {t : List Flit} (h : sget d.seamWait [] l = f :: t) (hp : d.seamPasses l = true) :
    d.seamDrain n o l 1 = Die.seamPass { d with seamWait := sset d.seamWait [] l t } n o l f := by
  unfold Die.seamDrain
  rw [h]
  dsimp only
  rw [hp, if_pos rfl]
  rfl

/-- The command of a lane's credit. -/
def Die.seamCredit (d : Die) (l : Nat) : Die :=
  if sget d.seamBack 0 l = 0 ∨ d.pw.seamShut ∨ !d.live (islOf (seamFrom l).1) then d
  else (d.creditBack l).seamDrain (seamFrom l).1 (seamFrom l).2 l 1

theorem exec_seamCredit (s : State) (row : Fin 64) (west : Bool) :
    exec (.seamCredit row west) s = .next (s.onD (fun d => d.seamCredit (row.val * 2 + b2n west))) := rfl

theorem seamFrom_lane (row : Nat) (west : Bool) :
    seamFrom (row * 2 + b2n west) = (coreAt (if west then 32 else 31) row, b2n west) := by
  unfold seamFrom
  cases west
  · show (coreAt (if (row * 2 + 0) % 2 = 1 then 32 else 31) ((row * 2 + 0) / 2), (row * 2 + 0) % 2) = _
    rw [if_neg (by omega), show (row * 2 + 0) / 2 = row by omega, show (row * 2 + 0) % 2 = 0 by omega]
    rfl
  · show (coreAt (if (row * 2 + 1) % 2 = 1 then 32 else 31) ((row * 2 + 1) / 2), (row * 2 + 1) % 2) = _
    rw [if_pos (by omega), show (row * 2 + 1) / 2 = row by omega, show (row * 2 + 1) % 2 = 1 by omega]
    rfl

/-! ## The commands -/

/-- LATH_FLIT at a node and port. -/
def Die.lathFlit (d : Die) (n port : Nat) (bad : Bool) (slot : Nat) : Die :=
  if crossing n port ∨ port = 0 ∨ 7 ≤ port then d
  else if 5 ≤ port then d.inject1 n port slot bad
  else d.hopFrom n port slot bad

theorem Die.lathFlit_link {bad : Bool} {slot : Nat} (hc : crossing n port = false) (h1 : 1 ≤ port) (h4 : port ≤ 4) :
    d.lathFlit n port bad slot = d.hopFrom n port slot bad := by
  unfold Die.lathFlit
  rw [hc, if_neg (by
    rintro (h | h)
    · cases h
    · omega), if_neg (by omega)]

theorem Die.lathFlit_injected {bad : Bool} {slot : Nat} (h5 : 5 ≤ port) (h6 : port ≤ 6) :
    d.lathFlit n port bad slot = d.inject1 n port slot bad := by
  unfold Die.lathFlit
  rw [crossing_injected h5, if_neg (by
    rintro (h | h)
    · cases h
    · omega), if_pos h5]

/-- One flit that waits alone at a link's port leaves by the one entry that takes it. -/
theorem Die.hopFrom_alone {slot q : Nat} (hp : f.par = true) (hs : f.slot = slot) (ha : d.atPort n port = [f])
    (ht : d.takers n port slot = [(o, q)]) (hw : entOwner (d.nodeEnt n o q) = f.stream) :
    d.hopFrom n port slot false = ((d.takenAt n port 0).passed n f).hopOut n f.stream f (o, q) := by
  have hfind : (d.atPort n port).findIdx? (fun g => decide (g.slot = slot)) = some 0 := by
    rw [ha, List.findIdx?_cons, decide_eq_true hs]
    rfl
  have hown : d.ownerOf n (d.takers n port slot) = f.stream := by
    rw [ht]
    exact hw
  have hf : ({ f with par := f.par && !false } : Flit) = f := by
    rw [hp]
    exact congrArg (fun b => { f with par := b }) hp.symm
  unfold Die.hopFrom
  rw [hfind]
  dsimp only
  rw [Die.leave_good (es := fun _ => d.takers n port slot) (f := f) (by rw [ha]; rfl) (by rw [ht]; exact List.cons_ne_nil _ _) hown (by rw [hp]; rfl),
    hf, ht]
  rfl

end Sys2Proof.Machine

namespace Sys2Proof
open Machine

/-- Settles O44: a flit leaves its place, and the one hop it makes is a push, a landing, or a write of one burst. -/
theorem lathFlits : Obligations.lath_flits := by
  unfold Obligations.lath_flits
  refine ⟨fun s n port slot bad hl => ?flit, fun s row west => ?seam, fun s n m l id v r own hl hm hb => ?violation⟩
  case flit =>
    intro gone goes
    have hex (b : Bool) := exec_at_live (s := s) (c := .lathFlit n port b slot) (f := fun d => d.lathFlit n port b slot) rfl hl
    have leaves {c : Instr} {i : Nat} {f : Flit} {es : Flit → List (Nat × Nat)} (hf : (s.d.atPort n port)[i]? = some f)
        (hc : exec c s = .next (s.onD (fun d => d.leave n port i es bad))) : goes c i f (es f) :=
      ⟨fun h0 ho hp => hc.trans (State.next_onD_congr (Die.leave_good hf h0 ho hp)),
        fun hb => hc.trans (State.next_onD_congr (Die.leave_bad hf hb))⟩
    refine ⟨fun hc => ?crossing, fun hc h1 h4 => ?link, fun h5 h6 => ?injected, fun f o q hc h1 h4 hbad hp hs ha ht hw => ?alone⟩
    case crossing =>
      have hcr := exec_at_live (s := s) (c := .crossingExit n port bad)
        (f := fun d => if crossing n port then d.leave n port 0 (fun f => d.takers n port f.slot) bad else d) rfl hl
      refine ⟨fun h => hcr.trans (State.next_onD_congr (g := id) ?_), fun f l h => ?_⟩
      · exact (if_pos hc).trans (Die.leave_none (by rw [h]; rfl) bad)
      · exact leaves (es := fun f => s.d.takers n port f.slot) (by rw [h]; rfl) (hcr.trans (State.next_onD_congr (if_pos hc)))
    case link =>
      have hlink : s.d.lathFlit n port bad slot = s.d.hopFrom n port slot bad := Die.lathFlit_link hc h1 h4
      refine ⟨fun h => (hex bad).trans (State.next_onD_congr (g := id) (hlink.trans ?_)), fun i f hi hf => ?_⟩
      · unfold Die.hopFrom
        rw [h]
        rfl
      · refine leaves (es := fun _ => s.d.takers n port slot) hf ((hex bad).trans (State.next_onD_congr (hlink.trans ?_)))
        unfold Die.hopFrom
        rw [hi]
    case injected =>
      have hin : s.d.lathFlit n port bad slot = s.d.inject1 n port slot bad := Die.lathFlit_injected h5 h6
      refine ⟨fun h => (hex bad).trans (State.next_onD_congr (g := id) (hin.trans ?_)), fun i f hi hf => ?_⟩
      · have hnone : (s.d.atPort n port).findIdx? (fun f => decide (s.d.injectors n port slot f.stream ≠ [])) = none := by
          rw [List.findIdx?_eq_none_iff]
          intro f hf
          exact decide_eq_false (fun hx => hx (h f hf))
        unfold Die.inject1
        rw [hnone]
        rfl
      · refine leaves (es := fun f => s.d.injectors n port slot f.stream) hf ((hex bad).trans (State.next_onD_congr (hin.trans ?_)))
        unfold Die.inject1
        rw [hi]
    case alone =>
      subst hbad
      obtain ⟨u, hu⟩ : ∃ u : Die, u = (s.d.takenAt n port 0).passed n f := ⟨_, rfl⟩
      have hhop : s.d.lathFlit n port false slot = u.hopOut n f.stream f (o, q) :=
        (Die.lathFlit_link hc h1 h4).trans ((Die.hopFrom_alone hp hs ha ht hw).trans (by rw [hu]))
      have runs {e : Die} (h : u.hopOut n f.stream f (o, q) = e) : exec (.lathFlit n port false slot) s = .next (s.onD (fun _ => e)) :=
        (hex false).trans (State.next_onD_congr (hhop.trans h))
      have keeps {α : Type} (g : Die → α) (hg : ∀ (d : Die) l x c, g { d with links := l, seamBack := x, ctr := c } = g d) : g u = g s.d := by
        rw [hu, Die.passed_keeps g (fun d c => hg d d.links d.seamBack c), Die.takenAt_keeps g (fun d l x => hg d l x d.ctr)]
      have hlinks : u.links = sset s.d.links [] (n.val * 8 + port.val) [] := by
        rw [hu, Die.passed_keeps Die.links (fun _ _ => rfl), Die.takenAt, Die.seamFreed_keeps Die.links (fun _ _ => rfl), ha]
        rfl
      have hport (m p : Nat) : u.atPort m p = if m * 8 + p = n.val * 8 + port.val then [] else s.d.atPort m p := by
        unfold Die.atPort
        rw [hlinks, sget_sset]
      refine ⟨fun m ho hm hi => ?neighbour, fun c ho hk hd hun hst hcirc hleft => ?core, fun c k x ho hm hd hcirc hobj hleft hx => ?edge⟩
      case neighbour =>
        obtain ⟨hne, hm4, -⟩ := outNode_spec hm n.isLt
        have harr := arrPort_lt o
        have hport8 := port.isLt
        obtain ⟨e, he⟩ : ∃ e : Die, e = u.setPort m (arrPort o) (u.atPort m (arrPort o) ++ [{ f with slot := q }]) := ⟨_, rfl⟩
        refine ⟨s.onD (fun _ => e), runs ((Die.hopOut_link ho ..).trans ((Die.sendFlit_inner hm n.isLt hi q).trans he.symm)), ?_, ?_, ?_, ?_, ?_, rfl⟩
        · show e.atPort n port = []
          rw [he, Die.atPort_setPort _ harr hport8, if_neg (fun h => hne h.1.symm), hport, if_pos rfl]
        · show e.atPort m (arrPort o) = _
          rw [he, Die.atPort_setPort _ harr harr, if_pos ⟨rfl, rfl⟩, hport, if_neg (by omega)]
        · show e.mem = _
          rw [he]
          exact keeps Die.mem (fun _ _ _ _ => rfl)
        · show e.regs = _
          rw [he]
          exact keeps Die.regs (fun _ _ _ _ => rfl)
        · show e.queues = _
          rw [he]
          exact keeps Die.queues (fun _ _ _ _ => rfl)
      case core =>
        intro g a
        subst ho
        have hcu : u.circ f.stream = some c := (keeps (Die.circ · f.stream) (fun _ _ _ _ => rfl)).trans hcirc
        have hbank : u.lathBank n q (f.addr / 16384 % 32) = s.d.lathBank n q (f.addr / 16384 % 32) :=
          keeps (Die.lathBank · n q (f.addr / 16384 % 32)) (fun _ _ _ _ => rfl)
        have hcore : u.hopOut n f.stream f (4, q) = if u.lathBank n q (f.addr / 16384 % 32) then u.landSlice n f else u.bankDrop n f := by
          rw [Die.hopOut_core, Die.intoCore_sheet hk]
          exact if_pos rfl
        refine ⟨fun hb => ?_, fun hb => ?_⟩
        · obtain ⟨e, he⟩ : ∃ e : Die, e = (u.setBytes a f.bytes).updCirc f.stream (fun c => { c with left := c.left - 1 }) := ⟨_, rfl⟩
          have hbyte (x : Nat) : e.byte x = if a ≤ x ∧ x < a + 64 then f.bytes.getD (x - a) 0 else s.d.byte x := by
            have hset : e.byte x = (u.setBytes a f.bytes).byte x := by rw [he]; rfl
            rw [hset, Die.byte_setBytes, length_flitBytes hd, keeps (Die.byte · x) (fun _ _ _ _ => rfl)]
          rw [hbank, hb, if_pos rfl, Die.landSlice_circuit hcu hun hleft] at hcore
          refine ⟨s.onD (fun _ => e), runs (hcore.trans he.symm), ?_, fun x hx => ?_, ?_, ?_, ?_, rfl⟩
          · have := Die.bytes_eq (d := e) (a := a) (bs := f.bytes) (fun i hi => by
              rw [length_flitBytes hd] at hi
              rw [hbyte, if_pos (by omega), Nat.add_sub_cancel_left])
            rwa [length_flitBytes hd] at this
          · exact (hbyte x).trans (if_neg (by omega))
          · show e.circs = _
            rw [he, ← keeps Die.circs (fun _ _ _ _ => rfl)]
            rfl
          · show e.side = _
            rw [he, ← keeps Die.side (fun _ _ _ _ => rfl)]
            rfl
          · show e.queues = _
            rw [he, ← keeps Die.queues (fun _ _ _ _ => rfl)]
            rfl
        · obtain ⟨e, he⟩ : ∃ e : Die, e = (u.count (pgCore n) 0x42).circLost f.stream n true := ⟨_, rfl⟩
          obtain ⟨hec, hekeep⟩ := Die.circLost_own (d := u.count (pgCore n) 0x42) (v := n) hcu hleft
          rw [← he] at hec
          have hek {α : Type} (g : Die → α) (h1 : ∀ (d : Die) qs cs, g { d with queues := qs, cores := cs } = g d)
              (h2 : ∀ (d : Die) x, g { d with circs := x } = g d) : g e = g (u.count (pgCore n) 0x42) := by
            rw [he]
            exact hekeep g h1 h2
          rw [hbank, hb, if_neg Bool.false_ne_true, Die.bankDrop_circuit hst] at hcore
          refine ⟨s.onD (fun _ => e), runs (hcore.trans he.symm), ?_, hec, ?_, ?_⟩
          · show e.ctrOf (pgCore n) 0x42 = _
            have hctr : u.ctrOf (pgCore n) 0x42 = s.d.ctrOf (pgCore n) 0x42 := by
              rw [hu, Die.passed, if_pos hst, Die.ctrOf_count_other (by decide) (by decide) (by decide)]
              exact Die.takenAt_keeps (Die.ctrOf · (pgCore n) 0x42) (fun _ _ _ => rfl)
            rw [hek (Die.ctrOf · (pgCore n) 0x42) (fun _ _ _ => rfl) (fun _ _ => rfl), Die.ctrOf_count, if_pos rfl, hctr]
          · show e.mem = _
            exact (hek Die.mem (fun _ _ _ => rfl) (fun _ _ => rfl)).trans (keeps Die.mem (fun _ _ _ _ => rfl))
          · show e.side = _
            exact (hek Die.side (fun _ _ _ => rfl) (fun _ _ => rfl)).trans (keeps Die.side (fun _ _ _ _ => rfl))
      case edge =>
        intro a
        obtain ⟨e, he⟩ : ∃ e : Die, e = u.edgeOut { f with slot := q } := ⟨_, rfl⟩
        refine ⟨s.onD (fun _ => e), runs ((Die.hopOut_link ho ..).trans ((Die.sendFlit_edge hm q).trans he.symm)), fun y hy => ?_, rfl⟩
        show e.byte y = _
        have hpage : u.pageAddr x.stack x.spage = s.d.pageAddr x.stack x.spage := keeps (Die.pageAddr · x.stack x.spage) (fun _ _ _ _ => rfl)
        have hcu : u.circ f.stream = some c := (keeps (Die.circ · f.stream) (fun _ _ _ _ => rfl)).trans hcirc
        have hou : u.obj k = some x := (keeps (Die.obj · k) (fun _ _ _ _ => rfl)).trans hx
        rw [he, Die.edgeOut_page (f := { f with slot := q }) hcu hobj hleft hou hd y (by rw [hpage]; exact hy)]
        exact keeps (Die.byte · y) (fun _ _ _ _ => rfl)
  case seam =>
    intro k src back
    have hfrom : seamFrom k = (src, b2n west) := seamFrom_lane row west
    refine ⟨fun h => (exec_seamCredit s row west).trans (State.next_onD_congr (g := id) (if_pos (.inl h))), fun h hs hl => ?_⟩
    have hcredit : s.d.seamCredit k = back.seamDrain src (b2n west) k 1 := by
      unfold Die.seamCredit
      rw [hfrom, hs, hl, if_neg (by
        rintro (h' | h' | h')
        · omega
        · cases h'
        · cases h')]
      rfl
    refine ⟨fun hw => ?_, fun f l hw hp => ?_⟩
    · exact (exec_seamCredit s row west).trans (State.next_onD_congr (hcredit.trans (Die.seamDrain_stays hw)))
    · exact (exec_seamCredit s row west).trans (State.next_onD_congr (hcredit.trans (Die.seamDrain_passes hw hp)))
  case violation =>
    refine (exec_at_live (f := fun d =>
      match d.takeArr n (fun m => match m.body with | .violation _ _ _ _ => true | _ => false) with
      | none => d
      | some (m, d) => match m.body with
        | .violation id r v own => (d.hear (islOf n) m.s).violated n id r v own
        | _ => d) rfl hl).trans (State.next_onD_congr ?_)
    rw [Die.takeArr_first hm (by rw [hb])]
    dsimp only
    rw [hb]

end Sys2Proof
end

section
/-!
PROOFS. Circuits: the slots a route maps onto, what opening one writes, and the sheet it holds (07 R221-R223).
-/

namespace Sys2Proof.Machine

variable {d e w : Die} {okL : Nat → Bool} {src : Nat × Nat} {route : List (Nat × Nat)}

/-! ## Mapped slots -/

theorem Die.nextSlot_lt {n o p skip s : Nat} {used : List Nat} (h : d.nextSlot n o p skip used okL = some s) : s < 16 := by
  obtain ⟨k, -, rfl⟩ := List.mem_map.1 (List.mem_of_find?_eq_some h)
  exact Nat.mod_lt _ (by decide)

theorem Die.mapSlots_lt {n o skip : Nat} {ps qs : List Nat} (h : d.mapSlots n o skip okL ps = some qs) : ∀ q ∈ qs, q < 16 := by
  have go (ps : List Nat) (acc : Option (List Nat)) (ha : ∀ l, acc = some l → ∀ q ∈ l, q < 16) (qs : List Nat)
      (h : ps.foldl (fun (acc : Option (List Nat)) p => match acc with
        | none => none
        | some l => match d.nextSlot n o p skip l okL with
          | none => none
          | some s => some (l ++ [s])) acc = some qs) : ∀ q ∈ qs, q < 16 := by
    induction ps generalizing acc with
    | nil => exact ha qs h
    | cons p t ih =>
      rw [List.foldl_cons] at h
      refine ih _ (fun l hl => ?_) h
      cases acc with
      | none => cases hl
      | some a =>
        dsimp only at hl
        cases hn : d.nextSlot n o p skip a okL with
        | none =>
          rw [hn] at hl
          cases hl
        | some s =>
          rw [hn] at hl
          obtain rfl : a ++ [s] = l := Option.some.inj hl
          intro q hq
          obtain hq | hq := List.mem_append.1 hq
          · exact ha a rfl q hq
          · rw [List.mem_singleton.1 hq]
            exact Die.nextSlot_lt hn
  exact go ps (some []) (fun l hl => by rw [← Option.some.inj hl]; exact fun q hq => absurd hq List.not_mem_nil) qs h

theorem arrPort_le (o : Nat) : arrPort o ≤ 5 := by
  unfold arrPort
  split <;> decide

/-- One output of a mapping: its arrival port is one of a node, and its slots are those of a period. -/
def SlotsFit (x : Nat × Nat × Nat × List Nat × List Nat) : Prop := x.2.2.1 ≤ 5 ∧ ∀ p ∈ x.2.2.2.1, p < 16

theorem Die.mapRoute_fits {port skip : Nat} {ps : List Nat} {m : List (Nat × Nat × Nat × List Nat × List Nat)}
    (hp : port ≤ 5) (hs : ∀ p ∈ ps, p < 16) (h : d.mapRoute okL route port skip ps = some m) : ∀ x ∈ m, SlotsFit x := by
  induction route generalizing port skip ps m with
  | nil =>
    rw [← Option.some.inj h]
    exact fun x hx => absurd hx List.not_mem_nil
  | cons y t ih =>
    obtain ⟨n, o⟩ := y
    rw [Die.mapRoute] at h
    cases hm : d.mapSlots n o skip okL ps with
    | none =>
      rw [hm] at h
      cases h
    | some qs =>
      rw [hm] at h
      dsimp only at h
      cases hr : d.mapRoute okL t (arrPort o) (crossSkip n o) qs with
      | none =>
        rw [hr] at h
        cases h
      | some r =>
        rw [hr] at h
        obtain rfl := Option.some.inj h
        intro x hx
        obtain rfl | hx := List.mem_cons.1 hx
        · exact ⟨hp, hs⟩
        · exact ih (arrPort_le o) (Die.mapSlots_lt hm) hr x hx

theorem Die.mapFrom_fits {k : Nat} {m : List (Nat × Nat × Nat × List Nat × List Nat)} (hp : src.2 ≤ 5)
    (h : d.mapFrom route src okL k = some m) : ∀ x ∈ m, SlotsFit x := by
  have htake (l : List Nat) (hl : ∀ p ∈ l, p < 16) : ∀ p ∈ l.take k, p < 16 := fun p hq => hl p (List.mem_of_mem_take hq)
  have hfree (g : Nat → Bool) : ∀ p ∈ (List.range 16).filter g, p < 16 := fun p hq => List.mem_range.1 (List.mem_filter.1 hq).1
  unfold Die.mapFrom at h
  split at h
  · split at h
    · cases h
    next n o t =>
      dsimp only at h
      split at h
      · cases h
      · split at h
        · cases h
        next r hr =>
          obtain rfl := Option.some.inj h
          intro x hx
          obtain rfl | hx := List.mem_cons.1 hx
          · exact ⟨Nat.le_refl _, htake _ (hfree _)⟩
          · exact Die.mapRoute_fits (arrPort_le o) (htake _ (hfree _)) hr x hx
  · dsimp only at h
    split at h
    · cases h
    · exact Die.mapRoute_fits hp (htake _ (hfree _)) h

theorem Die.mapBest_fits {k j : Nat} {m : List (Nat × Nat × Nat × List Nat × List Nat)} (hp : src.2 ≤ 5)
    (h : d.mapBest route src okL k = some (j, m)) : ∀ x ∈ m, SlotsFit x := by
  induction k with
  | zero => cases h
  | succ k ih =>
    rw [Die.mapBest] at h
    split at h
    next q hq =>
      cases h
      split at hq
      · exact Die.mapFrom_fits hp hq
      · cases hq
    next => exact ih h

theorem edgeEntry_port (a n : Nat) : (edgeEntry a n).2 ≤ 5 := by
  unfold edgeEntry
  dsimp only
  split
  · show 2 ≤ 5
    decide
  · split
    · show 3 ≤ 5
      decide
    · split
      · show 1 ≤ 5
        decide
      · show 4 ≤ 5
        decide

/-! ## Entries of a circuit -/

theorem entOwner_circuit {id port slot : Nat} (hid : id < 1024) (hp : port ≤ 5) (hs : slot < 16) :
    entOwner (packW [(9, id), (4, port), (0, slot)]) = id := by
  have hn : (packW [(9, id), (4, port), (0, slot)]).toNat = id * 512 + port * 16 + slot := by
    simp only [packW, pack, word, BitVec.toNat_ofNat, Nat.shiftLeft_eq]
    omega
  unfold entOwner fld
  rw [hn, Nat.shiftRight_eq_div_pow]
  omega

theorem circEnts_owner {id : Nat} {m : List (Nat × Nat × Nat × List Nat × List Nat)} (hid : id < 1024) (h : ∀ x ∈ m, SlotsFit x) :
    ∀ y ∈ circEnts id m, entOwner y.2 = id := by
  intro y hy
  obtain ⟨x, hx, hy⟩ := List.mem_flatMap.1 hy
  obtain ⟨pq, hpq, rfl⟩ := List.mem_map.1 hy
  obtain ⟨hp, hs⟩ := h x hx
  refine entOwner_circuit hid hp ?_
  split
  · decide
  · exact hs pq.1 (List.of_mem_zip hpq).1

/-- What entries written in turn leave: the others as they were. -/
theorem sget_foldl_other (l : List (Nat × Word)) (m : Store Word) {p : Nat} (h : p ∉ l.map (fun x => x.1)) :
    sget (l.foldl (fun mm x => sset mm 0 x.1 x.2) m) 0 p = sget m 0 p := by
  induction l generalizing m with
  | nil => rfl
  | cons x t ih =>
    rw [List.map_cons, List.mem_cons, not_or] at h
    rw [List.foldl_cons, ih _ h.2, sget_sset, if_neg h.1]

/-- Entries written in turn that all satisfy `q`. -/
theorem sget_foldl_all {q : Word → Prop} (l : List (Nat × Word)) (m : Store Word) (hl : ∀ x ∈ l, q x.2) {p : Nat}
    (h : p ∈ l.map (fun x => x.1) ∨ q (sget m 0 p)) : q (sget (l.foldl (fun mm x => sset mm 0 x.1 x.2) m) 0 p) := by
  induction l generalizing m with
  | nil => exact h.resolve_left List.not_mem_nil
  | cons x t ih =>
    rw [List.foldl_cons]
    refine ih _ (fun y hy => hl y (List.mem_cons_of_mem _ hy)) ?_
    rw [sget_sset]
    by_cases hp : p = x.1
    · rw [if_pos hp]
      exact .inr (hl x List.mem_cons_self)
    · rw [if_neg hp]
      refine h.imp_left (fun h => ?_)
      rw [List.map_cons, List.mem_cons] at h
      exact h.resolve_left hp

/-! ## Opening -/

/-- A circuit with the number and the slots it was given. -/
def Circ.numbered (c : Circ) (id k : Nat) (m : List (Nat × Nat × Nat × List Nat × List Nat)) (route : List (Nat × Nat)) (src : Nat × Nat) : Circ :=
  { c with id, ents := (circEnts id m).map (fun x => x.1), isls := ((route.map (fun x => x.1)).dedup.map islOf).dedup, k, src,
           slots := match m with
             | [] => []
             | x :: _ => x.2.2.2.1,
           unacked := (route.map (fun x => x.1)).dedup }

/-- The records that setting up circuits turns on are the same in two dies. -/
structure Die.SameBoard (d e : Die) : Prop where
  circs : e.circs = d.circs
  nent : e.nent = d.nent
  mem : e.mem = d.mem
  dk : e.dk = d.dk
  pages : e.pages = d.pages

namespace Die.SameBoard

theorem refl (d : Die) : Die.SameBoard d d := ⟨rfl, rfl, rfl, rfl, rfl⟩

theorem trans (h : Die.SameBoard d e) (h' : Die.SameBoard e w) : Die.SameBoard d w :=
  ⟨h'.circs.trans h.circs, h'.nent.trans h.nent, h'.mem.trans h.mem, h'.dk.trans h.dk, h'.pages.trans h.pages⟩

theorem of_stk (h : Die.StkOnly d e) (hm : e.mem = d.mem) : Die.SameBoard d e :=
  ⟨h.keeps Die.circs (fun _ _ _ _ _ _ _ => rfl), h.keeps Die.nent (fun _ _ _ _ _ _ _ => rfl), hm,
    h.keeps Die.dk (fun _ _ _ _ _ _ _ => rfl), h.keeps Die.pages (fun _ _ _ _ _ _ _ => rfl)⟩

end Die.SameBoard

/-- What a poison mark leaves: all but the side band, counters and the slice's record of its latest mark. -/
theorem Die.markPoison_keeps {α : Type} (g : Die → α) (hg : ∀ (d : Die) r x c, g { d with regs := r, side := x, ctr := c } = g d)
    (k : Nat) (p : Poison) (a : Nat) : g (d.markPoison k p a) = g d := by
  have hside (e : Die) (n : Nat) (v : Word) : g (e.setSide k n v) = g e := hg e e.regs _ e.ctr
  have hput : g (d.putPoison k p a) = g d := by
    unfold Die.putPoison
    rw [hside, hside, hside]
  have hlast (e : Die) (c : Nat) : g (e.lastPoisoned k c) = g e := hg e _ e.side e.ctr
  have hcount (e : Die) (n c : Nat) : g (e.count n c) = g e := hg e e.regs e.side _
  unfold Die.markPoison
  split
  · split
    · rfl
    · exact (hlast _ _).trans hput
  · exact (hlast _ _).trans ((hcount _ _ _).trans hput)

theorem Die.vatErrs_keeps {α : Type} (g : Die → α) (hg : ∀ (d : Die) r x c, g { d with regs := r, side := x, ctr := c } = g d)
    (a : Nat) (l : List Nat) (es : List VatErr) : g (d.vatErrs a l es) = g d := by
  refine foldl_keeps g (fun d e => ?_) _ _
  unfold Die.vatErr
  dsimp only
  split
  · exact (Die.markPoison_keeps g hg _ _ _).trans (hg d d.regs d.side _)
  · exact hg d d.regs d.side _

theorem Die.SameBoard.vatErrs (d : Die) (a : Nat) (l : List Nat) (es : List VatErr) : Die.SameBoard d (d.vatErrs a l es) :=
  ⟨Die.vatErrs_keeps Die.circs (fun _ _ _ _ => rfl) a l es, Die.vatErrs_keeps Die.nent (fun _ _ _ _ => rfl) a l es,
    Die.vatErrs_keeps Die.mem (fun _ _ _ _ => rfl) a l es, Die.vatErrs_keeps Die.dk (fun _ _ _ _ => rfl) a l es,
    Die.vatErrs_keeps Die.pages (fun _ _ _ _ => rfl) a l es⟩

theorem Die.SameBoard.putInfl (d : Die) (n q : Nat) (x : Infl) : Die.SameBoard d (d.putInfl n q x) := by
  unfold Die.putInfl Die.updQueue Die.setQueue
  split <;> exact ⟨rfl, rfl, rfl, rfl, rfl⟩

theorem Die.SameBoard.readFrame (d : Die) (g : Nat) : Die.SameBoard d (d.readFrame g) := by
  unfold Die.readFrame
  split
  · exact .refl d
  · unfold Die.readSheet
    split
    · exact .refl d
    · split
      · exact ⟨rfl, rfl, rfl, rfl, rfl⟩
      · exact .refl d

theorem Die.StkOnly.stackGet (d : Die) (host : Bool) (a len : Nat) (es : List BurstErr) : Die.StkOnly d (d.stackGet host a len es).1 := by
  have hfree (d : Die) : Die.StkOnly d d.freeBurst.1 := ⟨d.mem, d.changed, d.stk, d.ctr, d.resp, d.free + 8, rfl⟩
  unfold Die.stackGet
  split
  · dsimp only
    exact (Die.StkOnly.readRange d host a len es).trans (Die.StkOnly.foldl
      (f := fun (acc : Die × List Byte) u => (acc.1.freeBurst.1,
        if a ≤ u then acc.2.take (u - a) ++ acc.1.freeBurst.2.take (a + len - u) ++ acc.2.drop (u - a + 64)
        else (acc.1.freeBurst.2.drop (a - u)).take len ++ acc.2.drop (u + 64 - a))) (fun a _ => hfree a.1) _ _)
  · dsimp only
    unfold Die.freeBytes
    exact Die.StkOnly.foldl (f := fun (acc : Die × List Byte) _ => (acc.1.freeBurst.1, (acc.2 ++ acc.1.freeBurst.2).take len))
      (fun a _ => hfree a.1) _ (d, [])

/-- What a new circuit of the number writes, and what it leaves: `Opened` says what O45 asks of the die after it. -/
def Die.Opened (d e : Die) (c : Circ) (route : List (Nat × Nat)) (src : Nat × Nat) (j id : Nat) (x : Circ) : Prop :=
  e.circs = d.circs ++ [x] ∧ x.id = 512 + id ∧ x.k = j ∧ x.obj = c.obj ∧
  x.sheet = c.sheet ∧ x.wback = c.wback ∧ x.copy = c.copy ∧ x.port = c.port ∧ x.node = c.node ∧ x.src = src ∧
  x.unacked = (route.map (fun y => y.1)).dedup ∧ x.left = x.hold.length ∧ (∀ f ∈ x.hold, f.stream = 512 + id) ∧
  (∀ p, p ∉ x.ents → sget e.nent 0 p = sget d.nent 0 p) ∧ (∀ p ∈ x.ents, entOwner (sget e.nent 0 p) = 512 + id) ∧
  e.mem = d.mem ∧ e.dk = d.dk ∧ e.pages = d.pages

theorem Die.freeCircuit_spec {i : Nat} (h : d.freeCircuit = some i) : i < 512 ∧ ∀ c ∈ d.circs, c.id ≠ 512 + i := by
  unfold Die.freeCircuit at h
  have hmem := List.mem_of_find?_eq_some h
  have hall := List.find?_some h
  rw [List.mem_range] at hmem
  rw [List.all_eq_true] at hall
  exact ⟨hmem, fun c hc => of_decide_eq_true (hall c hc)⟩

theorem Die.openWith_none {c : Circ} {k : Nat} (h : d.routeOpen route c.node = false ∨ d.mapBest route src okL k = none ∨ d.freeCircuit = none) :
    d.openWith c route src okL k = none := by
  unfold Die.openWith
  obtain h | h | h := h
  · rw [h, if_neg Bool.false_ne_true]
  · rw [h, ite_self]
  · rw [h]
    split
    next h1 h2 => cases h2
    next => rfl

theorem Die.circs_mapped {i : Nat} {x : Circ} (hc : ∀ c ∈ d.circs, c.id ≠ i) (hx : x.id = i) (f : Circ → Circ) :
    (d.circs ++ [x]).map (fun c => if c.id = i then f c else c) = d.circs ++ [f x] := by
  have hold : d.circs.map (fun c => if c.id = i then f c else c) = d.circs :=
    (List.map_congr_left (g := id) (fun c h => if_neg (hc c h))).trans (List.map_id _)
  rw [List.map_append, hold, List.map_cons, List.map_nil, if_pos hx]

section
variable {c : Circ} {k j i : Nat} {m : List (Nat × Nat × Nat × List Nat × List Nat)} (ho : d.routeOpen route c.node = true)
  (hm : d.mapBest route src okL k = some (j, m)) (hi : d.freeCircuit = some i)
include ho hm hi

/-- The die right after a circuit has been set up. -/
theorem Die.openWith_opens : ∃ e, d.openWith c route src okL k = some (e, 512 + i) ∧
    e.circs = d.circs ++ [c.numbered (512 + i) j m route src] ∧
    e.nent = (circEnts (512 + i) m).foldl (fun mm x => sset mm 0 x.1 x.2) d.nent ∧ e.mem = d.mem ∧ e.dk = d.dk ∧ e.pages = d.pages ∧
    ∀ {α : Type} (g : Die → α), (∀ (d : Die) ne ci ct sb, g { d with nent := ne, circs := ci, ctr := ct, sbq := sb } = g d) → g e = g d := by
  obtain ⟨u, hu⟩ : ∃ u : Die, u = { d with
    nent := (circEnts (512 + i) m).foldl (fun mm x => sset mm 0 x.1 x.2) d.nent
    circs := d.circs ++ [c.numbered (512 + i) j m route src] } := ⟨_, rfl⟩
  have hkeep {α : Type} (g : Die → α) (h1 : ∀ (d : Die) x, g { d with ctr := x } = g d) (h2 : ∀ (d : Die) x, g { d with sbq := x } = g d) :
      g (((route.map (fun x => x.1)).dedup).foldl (fun d v => d.send dkNode v (.circuit (512 + i) false)) (u.countCircuit route)) = g u := by
    have hsend (d : Die) (v : Nat) : g (d.send dkNode v (.circuit (512 + i) false)) = g d := by
      obtain ⟨m, -, -, -, he⟩ := d.send_eq dkNode v (.circuit (512 + i) false)
      rw [he, h2]
    refine (foldl_keeps g hsend _ _).trans ?_
    unfold Die.countCircuit
    dsimp only
    split
    · exact (h1 _ _).trans (h1 _ _)
    · exact h1 _ _
  refine ⟨((route.map (fun x => x.1)).dedup).foldl (fun d v => d.send dkNode v (.circuit (512 + i) false)) (u.countCircuit route), ?_,
    ?_, ?_, ?_, ?_, ?_, ?_⟩
  · unfold Die.openWith
    rw [if_pos ho, hm, hi, hu]
    rfl
  · rw [hkeep Die.circs (fun _ _ => rfl) (fun _ _ => rfl), hu]
  · rw [hkeep Die.nent (fun _ _ => rfl) (fun _ _ => rfl), hu]
  · rw [hkeep Die.mem (fun _ _ => rfl) (fun _ _ => rfl), hu]
  · rw [hkeep Die.dk (fun _ _ => rfl) (fun _ _ => rfl), hu]
  · rw [hkeep Die.pages (fun _ _ => rfl) (fun _ _ => rfl), hu]
  · intro α g hg
    rw [hkeep g (fun d x => hg d d.nent d.circs x d.sbq) (fun d x => hg d d.nent d.circs d.ctr x), hu]
    exact hg d _ _ d.ctr d.sbq

end

/-- `f` is `e` with the circuit of a number loaded with the flits of a sheet. -/
def Die.Loaded (e f : Die) (id : Nat) : Prop := ∃ (w : Die) (l : List Flit) (u : Circ → Bool), Die.SameBoard e w ∧ (∀ y ∈ l, y.stream = id) ∧
  f = w.updCirc id (fun c => { c with hold := l, left := l.length, ue := u c })

theorem Die.Loaded.of_units {id : Nat} (h : Die.SameBoard e w) (g : Nat) (us : List (Nat × List Byte)) (ref : DescRef) (p : Option Poison) :
    Die.Loaded e (w.loadCirc id g us ref p) id := by
  refine ⟨w, us.map (fun u => { stream := id, kind := 0, addr := g % 512 * 1024 + u.1 * 8, data := flitWords u.2, ref, poison := p }), Circ.ue, h,
    fun y hy => ?_, rfl⟩
  obtain ⟨u, -, rfl⟩ := List.mem_map.1 hy
  rfl

theorem Die.updCirc_twice {id : Nat} (f g : Circ → Circ) (hf : ∀ c, (f c).id = c.id) :
    (d.updCirc id f).updCirc id g = d.updCirc id (fun c => g (f c)) := by
  have hc : (d.circs.map (fun c => if c.id = id then f c else c)).map (fun c => if c.id = id then g c else c) =
      d.circs.map (fun c => if c.id = id then g (f c) else c) := by
    rw [List.map_map]
    refine List.map_congr_left (fun c _ => ?_)
    dsimp only [Function.comp]
    by_cases h : c.id = id
    · simp only [if_pos h, if_pos ((hf c).trans h)]
    · simp only [if_neg h]
  exact congrArg (fun x => { d with circs := x }) hc

theorem Die.Loaded.flagged {f : Die} {id : Nat} (h : Die.Loaded e f id) (b : Bool) : Die.Loaded e (f.updCirc id (fun c => { c with ue := b })) id := by
  obtain ⟨w, l, u, hw, hl, rfl⟩ := h
  exact ⟨w, l, fun _ => b, hw, hl, Die.updCirc_twice (fun c => { c with hold := l, left := l.length, ue := u c }) _ (fun _ => rfl)⟩

/-- A circuit that is set up and loaded is open. -/
theorem Die.opened_of_loaded {c : Circ} {k j i : Nat} {m : List (Nat × Nat × Nat × List Nat × List Nat)} (hp : src.2 ≤ 5)
    (ho : d.routeOpen route c.node = true) (hm : d.mapBest route src okL k = some (j, m)) (hi : d.freeCircuit = some i) :
    ∃ e, d.openWith c route src okL k = some (e, 512 + i) ∧ ∀ f, Die.Loaded e f (512 + i) → ∃ x, Die.Opened d f c route src j i x := by
  obtain ⟨e, he, hec, hen, hem, hed, hep, -⟩ := Die.openWith_opens ho hm hi
  obtain ⟨hlt, hnew⟩ := Die.freeCircuit_spec hi
  refine ⟨e, he, fun f hf => ?_⟩
  obtain ⟨w, l, u, ⟨hwc, hwn, hwm, hwd, hwp⟩, hl, rfl⟩ := hf
  have hcircs : (w.updCirc (512 + i) (fun c => { c with hold := l, left := l.length, ue := u c })).circs =
      d.circs ++ [{ c.numbered (512 + i) j m route src with hold := l, left := l.length, ue := u (c.numbered (512 + i) j m route src) }] := by
    unfold Die.updCirc
    dsimp only
    rw [hwc, hec]
    exact Die.circs_mapped hnew rfl _
  have hnent : (w.updCirc (512 + i) (fun c => { c with hold := l, left := l.length, ue := u c })).nent =
      (circEnts (512 + i) m).foldl (fun mm x => sset mm 0 x.1 x.2) d.nent := hwn.trans hen
  refine ⟨_, hcircs, rfl, rfl, rfl, rfl, rfl, rfl, rfl, rfl, rfl, rfl, rfl, hl, fun p hp => ?_, fun p hp => ?_, hwm.trans hem, hwd.trans hed, hwp.trans hep⟩
  · rw [hnent]
    exact sget_foldl_other _ _ hp
  · rw [hnent]
    exact sget_foldl_all (q := fun v => entOwner v = 512 + i) _ _ (circEnts_owner (by omega) (Die.mapBest_fits (by assumption) hm)) (.inl hp)

/-! ## The three carriers -/

theorem Die.openFill_opens {k : Nat} {o : PObj} {r : Req} {es : List BurstErr} {id : Nat}
    (hc : d.orderClear (d.pageAddr o.stack o.spage + 4352 * r.sheets) (64 * d.sheetBursts (d.pageAddr o.stack o.spage + 4352 * r.sheets)) = true)
    (h : d.openWith { obj := some k, sheet := r.sheets, node := some (o.frame / 32) } (fillRoute r.stack (o.frame / 32)) (edgeEntry r.stack (o.frame / 32))
      (fun s => d.lathBank (o.frame / 32) s o.frame) 16 = some (e, id)) : Die.Loaded e (d.openFill k o r es) id := by
  obtain ⟨a, ha⟩ : ∃ a, a = d.pageAddr o.stack o.spage + 4352 * r.sheets := ⟨_, rfl⟩
  rw [← ha] at hc
  unfold Die.openFill
  dsimp only
  rw [← ha, hc, if_neg (by decide), h]
  dsimp only
  exact (Die.Loaded.of_units (.of_stk (.stackGet ..) (Die.stackGet_mem ..)) _ _ _ _).flagged _

theorem Die.openFill_waits {k : Nat} {o : PObj} {r : Req} {es : List BurstErr}
    (hc : d.orderClear (d.pageAddr o.stack o.spage + 4352 * r.sheets) (64 * d.sheetBursts (d.pageAddr o.stack o.spage + 4352 * r.sheets)) = true)
    (h : d.openWith { obj := some k, sheet := r.sheets, node := some (o.frame / 32) } (fillRoute r.stack (o.frame / 32)) (edgeEntry r.stack (o.frame / 32))
      (fun s => d.lathBank (o.frame / 32) s o.frame) 16 = none) : d.openFill k o r es = d.circuitWait k := by
  obtain ⟨a, ha⟩ : ∃ a, a = d.pageAddr o.stack o.spage + 4352 * r.sheets := ⟨_, rfl⟩
  rw [← ha] at hc
  unfold Die.openFill
  dsimp only
  rw [← ha, hc, if_neg (by decide), h]

theorem Die.openWback_opens {k : Nat} {o : PObj} {r : Req} {vs : List VatErr} {id : Nat}
    (h : d.openWith { obj := some k, sheet := r.sheets, wback := true } (wbRoute r.stack (o.frame / 32)) (o.frame / 32, 5)
      (fun _ => true) 16 = some (e, id)) : Die.Loaded e (d.openWback k o r vs) id := by
  unfold Die.openWback
  dsimp only
  rw [h]
  exact .of_units (.vatErrs ..) _ _ _ _

theorem Die.openWback_waits {k : Nat} {o : PObj} {r : Req} {vs : List VatErr}
    (h : d.openWith { obj := some k, sheet := r.sheets, wback := true } (wbRoute r.stack (o.frame / 32)) (o.frame / 32, 5)
      (fun _ => true) 16 = none) : d.openWback k o r vs = d.circuitWait k := by
  unfold Die.openWback
  dsimp only
  rw [h]

/-- The head of a list that satisfies a test is the first that does. -/
theorem find?_head {β : Type} {p : β → Bool} {l t : List β} {x : β} (h : l = x :: t) (hp : p x = true) : l.find? p = some x := by
  rw [h, List.find?_cons, hp]

section
variable {r : CopyReq} {l : List CopyReq} {x : Infl} {vs : List VatErr} (hq : d.copyq = r :: l)
  (hn : ∀ c ∈ d.circs, ∀ y, c.copy = some y → ¬ (y.ref = r.ref ∧ y.b = r.b)) (hx : d.inflOf r.ref = some x)
include hq hn hx

/-- The first sheet of a COPY that no circuit carries asks for its circuit. -/
theorem Die.openCopy_eq : d.openCopy r.ref.core r.ref.queue vs =
    match d.openWith { copy := some r, node := some (sliceOf r.b) } (copyRoute (sliceOf r.a) (sliceOf r.b)) (sliceOf r.a, 5)
      (fun s => d.lathBank (sliceOf r.b) s (frameOf r.b)) 16 with
    | none =>
      if r.blocked then d
      else Die.count { d with copyq := d.copyq.map (fun x => if x = r then { x with blocked := true } else x) } pgDk 0xB
    | some (d, id) => (d.copyErrs r x vs).1.loadCirc id r.b ((d.copyErrs r x vs).1.copyUnits r.a (fmtMx (dFmtA x.d))) r.ref (d.copyErrs r x vs).2 := by
  unfold Die.openCopy
  dsimp only
  rw [find?_head hq (by
    rw [decide_eq_true rfl, decide_eq_true rfl, Bool.true_and, Bool.true_and, List.all_eq_true]
    intro c hc
    split
    next y hy =>
      rw [Bool.not_eq_true', ← Bool.decide_and]
      exact decide_eq_false (hn c hc y hy)
    next => rfl)]
  dsimp only
  rw [hx] <;> rfl

theorem Die.openCopy_opens {id : Nat} (h : d.openWith { copy := some r, node := some (sliceOf r.b) } (copyRoute (sliceOf r.a) (sliceOf r.b)) (sliceOf r.a, 5)
      (fun s => d.lathBank (sliceOf r.b) s (frameOf r.b)) 16 = some (e, id)) : Die.Loaded e (d.openCopy r.ref.core r.ref.queue vs) id := by
  rw [Die.openCopy_eq hq hn hx, h]
  exact .of_units ((Die.SameBoard.vatErrs ..).trans (.putInfl ..)) _ _ _ _

theorem Die.openCopy_waits (h : d.openWith { copy := some r, node := some (sliceOf r.b) } (copyRoute (sliceOf r.a) (sliceOf r.b)) (sliceOf r.a, 5)
      (fun s => d.lathBank (sliceOf r.b) s (frameOf r.b)) 16 = none) : d.openCopy r.ref.core r.ref.queue vs = if r.blocked then d
    else Die.count { d with copyq := d.copyq.map (fun x => if x = r then { x with blocked := true } else x) } pgDk 0xB := by
  rw [Die.openCopy_eq hq hn hx, h]

end

/-- The circuit that a port engine asks for. -/
def PeMove.circ (p : Nat) (m : PeMove) : Circ := { port := some (p, m), node := if m.out then none else some (sliceOf m.g) }

/-- Its route. -/
def PeMove.path (p : Nat) (m : PeMove) : List (Nat × Nat) := if m.out then wbRoute (8 + p) (sliceOf m.g) else fillRoute (8 + p) (sliceOf m.g)

/-- Where it enters. -/
def PeMove.entry (p : Nat) (m : PeMove) : Nat × Nat := if m.out then (sliceOf m.g, 5) else edgeEntry (8 + p) (sliceOf m.g)

section
variable {p : Nat} {m : PeMove} {l : List PeMove} {vs : List VatErr} (hq : (d.port p).moves = m :: l) (hn : ∀ c ∈ d.circs, c.port ≠ some (p, m))
include hq hn

theorem Die.port_idle : (d.port p).moves.find? (fun m => d.circs.all (fun c => decide (c.port ≠ some (p, m)))) = some m :=
  find?_head hq (List.all_eq_true.2 (fun c hc => decide_eq_true (hn c hc)))

theorem Die.openPort_opens {id : Nat} (h : d.openWith (m.circ p) (m.path p) (m.entry p) (fun s => d.lathBank (sliceOf m.g) s (frameOf m.g)) 16 = some (e, id)) :
    Die.Loaded e (d.openPort p vs) id := by
  unfold PeMove.circ PeMove.path PeMove.entry at h
  unfold Die.openPort
  rw [Die.port_idle hq hn]
  dsimp only
  rw [h]
  dsimp only
  split
  · exact .of_units ((Die.SameBoard.vatErrs ..).trans (.readFrame ..)) _ _ _ _
  · exact .of_units (.refl _) _ _ _ _

theorem Die.openPort_waits (h : d.openWith (m.circ p) (m.path p) (m.entry p) (fun s => d.lathBank (sliceOf m.g) s (frameOf m.g)) 16 = none) :
    d.openPort p vs = if m.blocked then d
      else (d.count pgDk 0xB).updPort p (fun x => { x with moves := x.moves.map (fun y => if y = m then { y with blocked := true } else y) }) := by
  unfold PeMove.circ PeMove.path PeMove.entry at h
  unfold Die.openPort
  rw [Die.port_idle hq hn]
  dsimp only
  rw [h]

end

theorem PeMove.entry_port (p : Nat) (m : PeMove) : (m.entry p).2 ≤ 5 := by
  unfold PeMove.entry
  split
  · exact Nat.le_refl _
  · exact edgeEntry_port ..

/-- CIRCUIT_OPEN for a carrier. -/
def Die.circuitFor (d : Die) (who : Carrier) (es : List BurstErr) (vs : List VatErr) : Die :=
  if !d.mayOpen then d
  else match who with
    | .page k => d.openPage k es vs
    | .copy n q => d.openCopy n q vs
    | .port p => d.openPort p vs

theorem Die.openPage_wback {k : Nat} {r : Req} {o : PObj} {es : List BurstErr} {vs : List VatErr} (hr : d.uncarried k = some r) (ho : d.obj k = some o)
    (hk : r.kind = .writeback) (hc : d.stackClosed r.stack = false) : d.openPage k es vs = d.openWback k o r vs := by
  unfold Die.openPage
  rw [hr, ho]
  dsimp only
  rw [if_pos hk, hc, if_neg Bool.false_ne_true]

theorem Die.openPage_fill {k : Nat} {r : Req} {o : PObj} {es : List BurstErr} {vs : List VatErr} (hr : d.uncarried k = some r) (ho : d.obj k = some o)
    (hk : r.kind ≠ .writeback) : d.openPage k es vs = d.openFill k o r es := by
  unfold Die.openPage
  rw [hr, ho]
  exact if_neg hk

end Sys2Proof.Machine

namespace Sys2Proof
open Machine

/-- Settles O45: each carrier's circuit is set up by one function, and what is read for its sheet touches no circuit and no payload. -/
theorem transitCircuits : Obligations.transit_circuits := by
  unfold Obligations.transit_circuits
  intro s es vs hl
  have hex (who : Carrier) := exec_at_live (s := s) (c := .circuitOpen who es vs) (f := fun d => d.circuitFor who es vs) rfl hl
  refine ⟨fun who h => (hex who).trans (State.next_onD_congr (g := id) (if_pos ?_)), fun hw => ?_⟩
  · rw [Die.mayOpen, hl, h]
    rfl
  intro opens
  have hmay : s.d.mayOpen = true := by
    rw [Die.mayOpen, hl, hw]
    rfl
  have runs {who : Carrier} {f : Die} (h : (match who with
      | .page k => s.d.openPage k es vs
      | .copy n q => s.d.openCopy n q vs
      | .port p => s.d.openPort p vs) = f) : exec (.circuitOpen who es vs) s = .next (s.onD (fun _ => f)) := by
    refine (hex who).trans (State.next_onD_congr ?_)
    unfold Die.circuitFor
    rw [hmay, if_neg (by decide)]
    exact h
  have settle {who : Carrier} {c : Circ} {route : List (Nat × Nat)} {src : Nat × Nat} {okL : Nat → Bool} {waits : State} (hp : src.2 ≤ 5) (f : Die)
      (hf : exec (.circuitOpen who es vs) s = .next (s.onD (fun _ => f)))
      (ho : ∀ e id, s.d.openWith c route src okL 16 = some (e, id) → Die.Loaded e f id)
      (hn : s.d.openWith c route src okL 16 = none → s.onD (fun _ => f) = waits) : opens who c route src okL waits := by
    refine ⟨fun j m id h1 h2 h3 => ?_, fun h => hf.trans (congrArg _ (hn (Die.openWith_none h)))⟩
    obtain ⟨e, he, hopened⟩ := Die.opened_of_loaded (d := s.d) hp h1 h2 h3
    obtain ⟨x, hx1, hx2, hx3, hx4, hx5, hx6, hx7, hx8, hx9, hx10, hx11, hx12, hx13, hx14, hx15, hx16, hx17, hx18⟩ := hopened f (ho e _ he)
    exact ⟨s.onD (fun _ => f), x, hf, hx1, hx2, hx3, hx4, hx5, hx6, hx7, hx8, hx9, hx10, hx11, hx12, hx13, hx14, hx15, hx16, hx17, hx18, rfl⟩
  refine ⟨fun k r o hr ho => ⟨fun hk hc => ?wback, fun hk hc => ?fill⟩, fun n q r l e hq hn hqq hc he => ?copies, fun p m l hq hc => ?moves⟩
  case wback =>
    refine settle (Nat.le_refl 5) _ (runs (who := .page k) (Die.openPage_wback hr ho hk hc)) (fun e id h => Die.openWback_opens h) (fun h => ?_)
    rw [Die.openWback_waits h]
    rfl
  case fill =>
    refine settle (edgeEntry_port ..) _ (runs (who := .page k) (Die.openPage_fill hr ho hk)) (fun e id h => Die.openFill_opens hc h) (fun h => ?_)
    rw [Die.openFill_waits hc h]
    rfl
  case copies =>
    refine settle (Nat.le_refl 5) (s.d.openCopy r.ref.core r.ref.queue vs) (runs (who := .copy n q) (by rw [hn, hqq]))
      (fun e id h => Die.openCopy_opens hq hc he h) (fun h => ?_)
    rw [Die.openCopy_waits hq hc he h]
    split <;> rfl
  case moves =>
    refine settle (PeMove.entry_port p m) (s.d.openPort p vs) (runs (who := .port p) rfl) (fun e id h => Die.openPort_opens hq hc h) (fun h => ?_)
    rw [Die.openPort_waits hq hc h]
    split <;> rfl

end Sys2Proof
end

section
/-!
PROOFS. The sideband: one hop of a message, its arrival, and a re-execute notice (07 R225, 02 Table 2-5).
-/

namespace Sys2Proof.Machine

variable {d : Die} {n o t i : Nat} {m : SbMsg} {l : List SbMsg}

/-- The input an output serves: the first, in its rotation, whose oldest message is for that output. -/
def Die.sbFound (d : Die) (n o t : Nat) : Option Nat :=
  ((List.range 6).map (fun k => (t + o + k) % 6)).find? (fun i => match sget d.sbq [] (n * 6 + i) with
    | [] => false
    | m :: _ => decide (sbOut n m.dst = o))

/-- The die without the oldest message of an input. -/
def Die.popped (d : Die) (n i : Nat) (l : List SbMsg) : Die := { d with sbq := sset d.sbq [] (n * 6 + i) l }

/-- What an output does with the input it serves. -/
def Die.sbServed (d : Die) (n o : Nat) (x : Option Nat) : Die :=
  match x with
  | none => d
  | some i =>
    match sget d.sbq [] (n * 6 + i) with
    | [] => d
    | m :: l =>
      if o = 4 then (d.popped n i l).sbArrive n m
      else match outNode n o with
        | none => d
        | some v =>
          if islOf v ≠ islOf n ∧ ((d.ist (islOf v)).inReset ∨ (d.ist (islOf v)).isolated) then (d.popped n i l).count pgRst (0x100 + islOf v)
          else if (sget d.sbq [] (v * 6 + (arrPort o - 1))).length < 8 then
            { d.popped n i l with sbq := pushAt (d.popped n i l).sbq (v * 6 + (arrPort o - 1)) m }
          else d

theorem Die.sbServe_eq : d.sbServe n o t = d.sbServed n o (d.sbFound n o t) := rfl

theorem Die.sbServe_none (h : d.sbFound n o t = none) : d.sbServe n o t = d := by
  rw [Die.sbServe_eq, h]
  rfl

section
variable (hf : d.sbFound n o t = some i) (hm : sget d.sbq [] (n * 6 + i) = m :: l)
include hf hm

theorem Die.sbServe_arrives (h : o = 4) : d.sbServe n o t = (d.popped n i l).sbArrive n m := by
  rw [Die.sbServe_eq, hf, Die.sbServed]
  dsimp only
  rw [hm]
  exact if_pos h

theorem Die.sbServe_link {v : Nat} (ho : o < 4) (hv : outNode n o = some v) : d.sbServe n o t =
    if islOf v ≠ islOf n ∧ ((d.ist (islOf v)).inReset ∨ (d.ist (islOf v)).isolated) then (d.popped n i l).count pgRst (0x100 + islOf v)
    else if (sget d.sbq [] (v * 6 + (arrPort o - 1))).length < 8 then
      { d.popped n i l with sbq := pushAt (d.popped n i l).sbq (v * 6 + (arrPort o - 1)) m }
    else d := by
  rw [Die.sbServe_eq, hf, Die.sbServed]
  dsimp only
  rw [hm]
  dsimp only
  rw [if_neg (by omega), hv]

end

/-! ## Arrival -/

theorem Die.sbArrive_waits (hu : m.forUnit = false) (hc : ∀ id, m.body ≠ .circuit id false) (hr : ∀ r, m.body ≠ .release r) :
    d.sbArrive n m = { d with sbArr := pushAt d.sbArr n m } := by
  have hunit : ¬ (m.forUnit = true ∧ ((d.ist 89).inReset = true ∨ (d.ist 89).isolated = true)) := by
    rw [hu]
    exact fun h => Bool.false_ne_true h.1
  unfold Die.sbArrive
  rw [if_neg hunit]
  unfold SbMsg.forUnit at hu
  split
  next h => rw [h] at hu; cases hu
  next h => rw [h] at hu; cases hu
  next h => exact absurd h (hc _)
  next h => exact absurd h (hr _)
  next h => rw [h] at hu; cases hu
  next => rfl

theorem Die.sbArrive_setup {id : Nat} (h : m.body = .circuit id false) : d.sbArrive n m = (d.hear (islOf n) m.s).send n dkNode (.circuit id true) := by
  have hu : m.forUnit = false := by
    unfold SbMsg.forUnit
    rw [h]
  unfold Die.sbArrive
  rw [hu, if_neg (fun h => Bool.false_ne_true h.1), h]

theorem Die.sbArrive_dropped (hu : m.forUnit = true) (h : (d.ist 89).inReset = true ∨ (d.ist 89).isolated = true) :
    d.sbArrive n m = d.count pgRst (0x100 + 89) := if_pos ⟨hu, h⟩

/-- REEXEC at a core. -/
def Die.reexec (d : Die) (n : Nat) : Die :=
  match d.takeArr n (fun m => match m.body with | .reexec _ => true | _ => false) with
  | none => d
  | some (m, d) => match m.body with
    | .reexec r =>
      let d := d.hear (islOf n) m.s
      match (d.queue n r.queue).infl.find? (fun e => decide (e.id = r.id)) with
      | none => d
      | some e => d.sendReduce n r.queue e
    | _ => d

/-- The first notice at a core. -/
theorem Die.reexec_first {r : DescRef} (h : sget d.sbArr [] n = m :: l) (hb : m.body = .reexec r) : d.reexec n =
    match (d.queue n r.queue).infl.find? (fun e => decide (e.id = r.id)) with
    | none => Die.hear { d with sbArr := sset d.sbArr [] n l } (islOf n) m.s
    | some e => (Die.hear { d with sbArr := sset d.sbArr [] n l } (islOf n) m.s).sendReduce n r.queue e := by
  unfold Die.reexec
  rw [Die.takeArr_first h (by rw [hb])]
  dsimp only
  rw [hb]
  rfl

end Sys2Proof.Machine

namespace Sys2Proof
open Machine

/-- Settles O46: a hop by the output's three fates, an arrival by the message's body. -/
theorem sidebandMoves : Obligations.sideband_moves := by
  unfold Obligations.sideband_moves
  refine ⟨fun s n o c hl => ?hop, fun s n m l r hl hm hb => ?reexec⟩
  case hop =>
    have hex := exec_at_live (s := s) (c := .sidebandMessage n o c) (f := fun d => d.sbServe n o c) rfl hl
    refine ⟨fun hf => hex.trans (State.next_onD_congr (g := id) (Die.sbServe_none hf)), fun i m l hf hm => ⟨fun ho => ?arrives,
      fun v ho hv hi hr => ?shut, fun v ho hv hi => ⟨fun hlen => ?room, fun hlen => ?full⟩⟩⟩
    case arrives =>
      exact ⟨hex.trans (State.next_onD_congr (Die.sbServe_arrives hf hm ho)), Die.sbArrive_waits, fun id hb => Die.sbArrive_setup hb,
        fun hu h => Die.sbArrive_dropped hu h⟩
    case shut => exact hex.trans (State.next_onD_congr ((Die.sbServe_link hf hm ho hv).trans (if_pos ⟨hi, hr⟩)))
    all_goals
      have hopen : ¬ (islOf v ≠ islOf n ∧ ((s.d.ist (islOf v)).inReset = true ∨ (s.d.ist (islOf v)).isolated = true)) := by
        rintro ⟨hne, hr⟩
        obtain hi | ⟨h1, h2⟩ := hi
        · exact hne hi
        · rw [h1, h2] at hr
          obtain hr | hr := hr <;> cases hr
      have hlink := (Die.sbServe_link hf hm ho hv).trans (if_neg hopen)
    case room => exact hex.trans (State.next_onD_congr (hlink.trans (if_pos hlen)))
    case full => exact hex.trans (State.next_onD_congr (g := id) (hlink.trans (if_neg (by omega))))
  case reexec =>
    have hex := exec_at_live (s := s) (c := .reexec n) (f := fun d => d.reexec n) rfl hl
    have hfirst := Die.reexec_first hm hb
    refine ⟨fun h => hex.trans (State.next_onD_congr (hfirst.trans ?_)), fun e h => hex.trans (State.next_onD_congr (hfirst.trans ?_))⟩
    · rw [h]
    · rw [h]

end Sys2Proof
end

section
/-!
PROOFS. Island reducers: contributions, landings and fallbacks (02 R46-R55, 07 R226-R230).
-/

namespace Sys2Proof.Machine

variable {d : Die} {i n e : Nat} {f : Flit}

theorem Die.rtile_updRt (g : RTile → RTile) (k : Nat) :
    sget (d.updRt i e g).rtile {} k = if k = i * 256 + e then g (d.rt i e) else sget d.rtile {} k := sget_sset ..

theorem Die.rt_updRt (g : RTile → RTile) : (d.updRt i e g).rt i e = g (d.rt i e) := (Die.rtile_updRt g _).trans (if_pos rfl)

/-- A notice of a loss is one message or none. -/
theorem Die.tellLoss_keeps {α : Type} (g : Die → α) (hg : ∀ (d : Die) x, g { d with sbq := x } = g d) (id : Nat) (r : DescRef) (own : Bool) :
    g (d.tellLoss n id r own) = g d := by
  unfold Die.tellLoss
  split
  · rfl
  next v _ =>
    obtain ⟨m, -, -, -, he⟩ := d.send_eq n v (.violation id r n own)
    rw [he, hg]

theorem Die.islErr_keeps {α : Type} (g : Die → α) (ht : ∀ (d : Die) c f n r t, g { d with ctr := c, free := f, trS := n, trRec := r, trc := t } = g d)
    (hi : ∀ (d : Die) x, g { d with isl := x } = g d) (b : Nat) : g (d.islErr i b) = g d :=
  (Die.trace_keeps g ht _ _ _).trans (hi d _)

theorem Die.islErr_island (b k : Nat) : (d.islErr i b).island k = if k = i then { d.island i with err := (d.island i).err ||| 2 ^ b } else d.island k :=
  (Die.trace_keeps (Die.island · k) (fun _ _ _ _ _ _ => rfl) _ _ _).trans (Die.island_updIsl ..)

theorem Die.islErr_ctrOf {p c : Nat} (hi : i < 128) (hp : 8 ≤ p) (b : Nat) : (d.islErr i b).ctrOf p c = d.ctrOf p c :=
  Die.ctrOf_trace _ hi hp

/-! ## Contributions -/

/-- The tile entry a flit at a reducer names. -/
def Die.tileOf (d : Die) (n : Nat) (f : Flit) : Nat := (d.share n).1 + f.addr / 2048 % 256

section
variable (hr : f.addr / 2048 % 256 < (d.share n).2.1) (hv : (d.rt i (d.tileOf n f)).valid = true)
include hr hv

/-- A flit that arrives while its tile delivers. -/
theorem Die.reducerFlit_delivering (h : 0 < (d.rt i (d.tileOf n f)).delivering) : d.reducerFlit i n f 0 false =
    if f.addr % 2 = 1 then ((d.count (pgIsl i) 6).islErr i 3).deliveryLess f.ref.core f.ref.id
    else ((d.count (pgIsl i) 6).islErr i 3).tellLoss n f.stream f.ref true := by
  unfold Die.tileOf at hv h
  unfold Die.reducerFlit
  dsimp only
  rw [hv, if_neg (by
    rintro (h' | h')
    · omega
    · cases h'), if_pos h]

/-- A flit that is not its contribution's last is added to its tile. -/
theorem Die.reducerFlit_adds (h : (d.rt i (d.tileOf n f)).delivering = 0) (hl : f.last = false) : d.reducerFlit i n f 0 false =
    if f.addr % 2 = 1 then ((d.count (pgIsl i) 7 0).updRt i (d.tileOf n f) (fun t =>
      { t.addRaws f with poison := mergePoison [t.poison, f.poison, none] })).deliveryLess f.ref.core f.ref.id
    else (d.count (pgIsl i) 7 0).updRt i (d.tileOf n f) (fun t => { t.addVals f with poison := mergePoison [t.poison, f.poison, none] }) := by
  have hland (u : Die) : u.deliveryLanded f.ref.core f.ref.id n false = u.deliveryLess f.ref.core f.ref.id := by
    unfold Die.deliveryLanded
    dsimp only
    exact if_neg (fun h => Bool.false_ne_true h.1)
  unfold Die.tileOf at hv h
  unfold Die.reducerFlit Die.tileOf
  dsimp only
  rw [hv, if_neg (by
    rintro (h' | h')
    · omega
    · cases h'), if_neg (by omega), hl, if_neg Bool.false_ne_true, hland]
  by_cases hraw : f.addr % 2 = 1
  · simp only [if_pos hraw]
    rfl
  · simp only [if_neg hraw]
    rfl

end

/-- A tile of whose delivery one flit more has landed or been lost. -/
def RTile.less (t : RTile) : RTile := { t with delivering := t.delivering - 1, fallback := t.fallback && decide (1 < t.delivering) }

theorem Die.deliveryLess_eq : d.deliveryLess i e = d.updRt i e RTile.less := rfl

/-! ## Landings -/

/-- The oldest landing of a core is written. -/
def Die.landed (d : Die) (n : Nat) (x : Landing) (l : List Landing) : Die :=
  { d.updCore n (fun c => { c with landing := l }) with acc := ((List.range 16).filter (fun c => decide (16 * x.index + c < x.count))).foldl (fun m c =>
      sset m 0 (n * 32768 + x.slot * 1024 + (16 * x.index + c) / x.cols * 32 + (16 * x.index + c) % x.cols) (x.data.getD c 0)) d.acc }

/-- What the end of a landing writes beside: the slot's poison, the sender's tile, and an event. -/
def Die.landedEnd (d : Die) (n : Nat) (x : Landing) : Die :=
  (if decide (x.count ≤ 16 * x.index + 16) then d.slotWrote n x.slot (if x.cols = 32 then x.count / 32 else 0) x.pz else d).deliveryLanded x.island x.entry n
    (decide (x.count ≤ 16 * x.index + 16))

theorem Die.landedEnd_keeps {α : Type} (g : Die → α) (hp : ∀ (d : Die) x, g { d with accPoison := x } = g d) (hr : ∀ (d : Die) x, g { d with rtile := x } = g d)
    (hs : ∀ (d : Die) x, g { d with sbq := x } = g d) (x : Landing) : g (d.landedEnd n x) = g d := by
  have hwrote (k : Nat) : g (d.slotWrote n x.slot k x.pz) = g d := by
    unfold Die.slotWrote
    split
    · exact hp d _
    · exact hp d _
  have hless (e : Die) (j k : Nat) : g (e.deliveryLess j k) = g e := hr e _
  have hland (e : Die) (b : Bool) : g (e.deliveryLanded x.island x.entry n b) = g e := by
    unfold Die.deliveryLanded
    dsimp only
    split
    · obtain ⟨m, -, -, -, he⟩ := (e.deliveryLess x.island x.entry).send_eq (islNode x.island) (islNode (islOf n))
        (.signal ((match (generalizing := false) e.region (e.rt x.island x.entry).region with
          | some r => r.evBase
          | none => 0) + fld (e.rt x.island x.entry).w3 11 0) 1)
      exact (congrArg g he).trans ((hs _ _).trans (hless ..))
    · exact hless ..
  unfold Die.landedEnd
  rw [hland]
  split
  · exact hwrote _
  · rfl

/-- ACC_LANDING at a core. -/
def Die.accLanding (d : Die) (n : Nat) : Die :=
  match (d.core n).landing with
  | [] => d
  | x :: l => if d.slotBound n x.slot then d else (d.landed n x l).landedEnd n x

theorem exec_accLanding (s : State) (n : CoreNo) : exec (.accLanding n) s = s.at_ (islOf n) (fun d => d.accLanding n) := rfl

/-! ## Fallbacks -/

theorem Die.fallbackBusy_mono {p : RTile → Bool} (h : d.fallbackBusy i (fun _ => true) = false) : d.fallbackBusy i p = false := by
  unfold Die.fallbackBusy at h ⊢
  rw [List.any_eq_false] at h ⊢
  intro e he
  have := h e he
  rw [Bool.and_true] at this
  rw [Bool.not_eq_true] at this
  rw [this, Bool.false_and]
  exact Bool.false_ne_true

/-- A tile that goes to W320 starts from the raw contributions it has counted. -/
def Die.fallbackBegun (d : Die) (i e : Nat) (l : List Nat) : Die :=
  (d.updRt i e (fun t => { t with
    fallback := true, elts := t.rawElts, count := t.rawCount, poison := t.rawPz, rawCount := 0, rawElts := [], rawPz := none })).updIsl i
      (fun s => { s with fbq := l })

theorem Die.fallbackBegun_rt (l : List Nat) : (d.fallbackBegun i e l).rt i e = { d.rt i e with
    fallback := true, elts := (d.rt i e).rawElts, count := (d.rt i e).rawCount, poison := (d.rt i e).rawPz,
    rawCount := 0, rawElts := [], rawPz := none } :=
  Die.rt_updRt (d := d) (fun t => { t with
    fallback := true, elts := t.rawElts, count := t.rawCount, poison := t.rawPz, rawCount := 0, rawElts := [], rawPz := none })

theorem Die.fallbackBegun_queue (l : List Nat) : ((d.fallbackBegun i e l).island i).fbq = l := by
  unfold Die.fallbackBegun
  rw [Die.island_updIsl, if_pos rfl]

/-- A tile goes to W320, and its contributors are told; its round goes on when all of them send raw. -/
def Die.fallbackRuns (d : Die) (i e : Nat) (l : List Nat) : Die :=
  let tl := d.rt i e
  let d := d.fallbackBegun i e l
  let d := tl.refs.foldl (fun d r => d.send (islNode i) r.core (.reexec r)) d
  if tl.rawCount = fld tl.w1 31 20 then d.roundDone i e none else d

/-- FALLBACK_START at an island. -/
def Die.fallbackStart (d : Die) (i : Nat) : Die :=
  match (d.island i).fbq with
  | [] => d
  | e :: l =>
    if d.fallbackBusy i (fun u => decide (u.region = (d.rt i e).region)) then d
    else if d.reserveFits i e then d.fallbackRuns i e l
    else if d.fallbackBusy i (fun _ => true) then d
    else (((d.rt i e).refs.foldl Die.slotFault ((d.updIsl i (fun s => { s with fbq := l })).islErr i 0)).updRt i e
      (fun t => { t with refs := [], rawCount := 0, rawElts := [], rawPz := none }))

theorem exec_fallbackStart (s : State) (i : TileNo) : exec (.fallbackStart i) s = s.at_ i (fun d => d.fallbackStart i) := rfl

theorem Die.fallbackRuns_keeps {α : Type} (g : Die → α) (hs : ∀ (d : Die) x, g { d with sbq := x } = g d) {l : List Nat}
    (hc : (d.rt i e).rawCount ≠ fld (d.rt i e).w1 31 20) : g (d.fallbackRuns i e l) = g (d.fallbackBegun i e l) := by
  have hsend (d : Die) (r : DescRef) : g (d.send (islNode i) r.core (.reexec r)) = g d := by
    obtain ⟨m, -, -, -, he⟩ := d.send_eq (islNode i) r.core (.reexec r)
    rw [he, hs]
  unfold Die.fallbackRuns
  dsimp only
  rw [if_neg hc]
  exact foldl_keeps g hsend _ _

/-- REDUCER_CONTRIBUTION at port `r` of an island. -/
def Die.contribution (d : Die) (i r : Nat) : Die :=
  match d.atPort (rNode i r) 7 with
  | [] => d
  | f :: t => (d.setPort (rNode i r) 7 t).reducerFlit i (rNode i r) f 0 false

theorem exec_contribution (s : State) (i : TileNo) (r : Fin 4) :
    exec (.reducerContribution i r 0 false) s = s.at_ i (fun d => d.contribution i r) := rfl

end Sys2Proof.Machine

namespace Sys2Proof
open Machine

/-- Settles O47: a contribution by what it does to its tile, a landing by what it writes, a fallback by what stands in its way. -/
theorem islandReducers : Obligations.island_reducers := by
  unfold Obligations.island_reducers
  refine ⟨fun s i r f l hl => ?contribution, fun s n x l hl hx => ⟨fun hb => ?bound, fun hb => ?lands⟩, fun s i hl => ⟨fun hq => ?idle, fun e l hq => ?fallback⟩⟩
  case contribution =>
    intro n rel e x hp hrel hv
    obtain ⟨u, hu⟩ : ∃ u : Die, u = s.d.setPort n 7 l := ⟨_, rfl⟩
    have hushare : u.share n = s.d.share n := by rw [hu]; rfl
    have hurt : u.rtile = s.d.rtile := by rw [hu]; rfl
    have hue : u.tileOf n f = e := by
      unfold Die.tileOf
      rw [hushare]
    have hux : u.rt i (u.tileOf n f) = x := by
      rw [hue, Die.rt, hurt]
      rfl
    have huport : u.atPort n 7 = l := by
      rw [hu, Die.atPort_setPort _ (by decide) (by decide), if_pos ⟨rfl, rfl⟩]
    have hrel' : f.addr / 2048 % 256 < (u.share n).2.1 := by rw [hushare]; exact hrel
    have hv' : (u.rt i (u.tileOf n f)).valid = true := by rw [hux]; exact hv
    have runs {w : Die} (h : u.reducerFlit i n f 0 false = w) : exec (.reducerContribution i r 0 false) s = .next (s.onD (fun _ => w)) := by
      refine (exec_contribution s i r).trans ((State.at_live hl).trans (State.next_onD_congr ?_))
      unfold Die.contribution
      rw [hp]
      exact (congrArg (fun u : Die => u.reducerFlit i n f 0 false) hu.symm).trans h
    have hkeep {α : Type} (g : Die → α) (h : ∀ (d : Die) y, g { d with links := y } = g d) : g u = g s.d := by
      rw [hu]
      exact h s.d _
    refine ⟨fun hraw hdel hlast => ?values, fun hraw hdel hlast hne => ?raw, fun hraw hdel => ?delivering⟩
    case values =>
      obtain ⟨w, hw⟩ : ∃ w : Die, w = (u.count (pgIsl i) 7 0).updRt i e (fun t => { t.addVals f with poison := mergePoison [t.poison, f.poison, none] }) :=
        ⟨_, rfl⟩
      have hrun := (Die.reducerFlit_adds hrel' hv' (by rw [hux]; exact hdel) hlast).trans (if_neg (by omega))
      rw [hue, ← hw] at hrun
      have hrt (k : Nat) : sget w.rtile {} k = if k = i.val * 256 + e then { x.addVals f with poison := mergePoison [x.poison, f.poison, none] }
          else sget s.d.rtile {} k := by
        have hcount : (u.count (pgIsl i) 7 0).rt i e = x := by rw [← hux, hue]; rfl
        rw [hw, Die.rtile_updRt, hcount, ← hurt]
        rfl
      refine ⟨s.onD (fun _ => w), runs hrun, (hrt _).trans (if_pos rfl), fun k hk => (hrt k).trans (if_neg hk), ?_, ?_, ?_, ?_, rfl⟩
      · show w.atPort n 7 = l
        rw [hw, ← huport]
        rfl
      · show w.mem = _
        rw [hw, ← hkeep Die.mem (fun _ _ => rfl)]
        rfl
      · show w.regs = _
        rw [hw, ← hkeep Die.regs (fun _ _ => rfl)]
        rfl
      · show w.queues = _
        rw [hw, ← hkeep Die.queues (fun _ _ => rfl)]
        rfl
    case raw =>
      obtain ⟨v, hvd⟩ : ∃ v : Die, v = (u.count (pgIsl i) 7 0).updRt i e (fun t => { t.addRaws f with poison := mergePoison [t.poison, f.poison, none] }) :=
        ⟨_, rfl⟩
      obtain ⟨w, hw⟩ : ∃ w : Die, w = v.deliveryLess f.ref.core f.ref.id := ⟨_, rfl⟩
      have hrun := (Die.reducerFlit_adds hrel' hv' (by rw [hux]; exact hdel) hlast).trans (if_pos hraw)
      rw [hue, ← hvd, ← hw] at hrun
      have hrtv (k : Nat) : sget v.rtile {} k = if k = i.val * 256 + e then { x.addRaws f with poison := mergePoison [x.poison, f.poison, none] }
          else sget s.d.rtile {} k := by
        have hcount : (u.count (pgIsl i) 7 0).rt i e = x := by rw [← hux, hue]; rfl
        rw [hvd, Die.rtile_updRt, hcount, ← hurt]
        rfl
      have hrt (k : Nat) : sget w.rtile {} k = if k = f.ref.core * 256 + f.ref.id then
          (v.rt f.ref.core f.ref.id).less else sget v.rtile {} k := by
        rw [hw, Die.deliveryLess_eq, Die.rtile_updRt]
      have hsender : v.rt f.ref.core f.ref.id = s.d.rt f.ref.core f.ref.id := (hrtv _).trans (if_neg hne)
      refine ⟨s.onD (fun _ => w), runs hrun, ?_, ?_, ?_, ?_, ?_, rfl⟩
      · exact (hrt _).trans ((if_neg (fun h => hne h.symm)).trans ((hrtv _).trans (if_pos rfl)))
      · exact (hrt _).trans ((if_pos rfl).trans (congrArg RTile.less hsender))
      · show w.atPort n 7 = l
        rw [hw, hvd, ← huport]
        rfl
      · show w.mem = _
        rw [hw, hvd, ← hkeep Die.mem (fun _ _ => rfl)]
        rfl
      · show w.queues = _
        rw [hw, hvd, ← hkeep Die.queues (fun _ _ => rfl)]
        rfl
    case delivering =>
      obtain ⟨v, hvd⟩ : ∃ v : Die, v = (u.count (pgIsl i) 6).islErr i 3 := ⟨_, rfl⟩
      obtain ⟨w, hw⟩ : ∃ w : Die, w = v.tellLoss n f.stream f.ref true := ⟨_, rfl⟩
      have hrun := (Die.reducerFlit_delivering hrel' hv' (by rw [hux]; exact hdel)).trans (if_neg (by omega))
      rw [← hvd, ← hw] at hrun
      have keeps {α : Type} (g : Die → α) (hs : ∀ (d : Die) x, g { d with sbq := x } = g d) (hi : ∀ (d : Die) x, g { d with isl := x } = g d)
          (ht : ∀ (d : Die) c f n r t, g { d with ctr := c, free := f, trS := n, trRec := r, trc := t } = g d) : g w = g u := by
        rw [hw, Die.tellLoss_keeps g hs, hvd, Die.islErr_keeps g ht hi]
        exact ht u _ u.free u.trS u.trRec u.trc
      refine ⟨s.onD (fun _ => w), runs hrun, ?_, ?_, ?_, ?_, ?_, ?_⟩
      · show w.rtile = _
        rw [keeps Die.rtile (fun _ _ => rfl) (fun _ _ => rfl) (fun _ _ _ _ _ _ => rfl), hurt]
      · show w.atPort n 7 = l
        rw [keeps (Die.atPort · n 7) (fun _ _ => rfl) (fun _ _ => rfl) (fun _ _ _ _ _ _ => rfl), huport]
      · show w.ctrOf (pgIsl i) 6 = _
        have hi := i.isLt
        rw [hw, Die.tellLoss_keeps (Die.ctrOf · (pgIsl i) 6) (fun _ _ => rfl), hvd, Die.islErr_ctrOf (by omega) (by unfold pgIsl; omega),
          Die.ctrOf_count, if_pos rfl, hkeep (Die.ctrOf · (pgIsl i) 6) (fun _ _ => rfl)]
      · show (w.island i).err.testBit 3 = true
        rw [hw, Die.tellLoss_keeps (Die.island · i) (fun _ _ => rfl), hvd, Die.islErr_island, if_pos rfl, Nat.testBit_or]
        exact Bool.or_eq_true_iff.2 (.inr rfl)
      · show w.mem = _
        exact (keeps Die.mem (fun _ _ => rfl) (fun _ _ => rfl) (fun _ _ _ _ _ _ => rfl)).trans (hkeep Die.mem (fun _ _ => rfl))
      · show w.queues = _
        exact (keeps Die.queues (fun _ _ => rfl) (fun _ _ => rfl) (fun _ _ _ _ _ _ => rfl)).trans (hkeep Die.queues (fun _ _ => rfl))
  case bound =>
    refine (exec_accLanding s n).trans ((State.at_live hl).trans (State.next_onD_congr (g := id) ?_))
    unfold Die.accLanding
    rw [hx]
    exact if_pos hb
  case lands =>
    obtain ⟨v, hvd⟩ : ∃ v : Die, v = s.d.landed n x l := ⟨_, rfl⟩
    obtain ⟨w, hw⟩ : ∃ w : Die, w = v.landedEnd n x := ⟨_, rfl⟩
    have hland : s.d.accLanding n = w := by
      unfold Die.accLanding
      rw [hx]
      dsimp only
      rw [hb, if_neg Bool.false_ne_true, hw, hvd]
    have keeps {α : Type} (g : Die → α) (hp : ∀ (d : Die) x, g { d with accPoison := x } = g d) (hr : ∀ (d : Die) x, g { d with rtile := x } = g d)
        (hs : ∀ (d : Die) x, g { d with sbq := x } = g d) : g w = g (s.d.landed n x l) := by
      rw [hw, hvd, Die.landedEnd_keeps g hp hr hs]
    refine ⟨s.onD (fun _ => w), (exec_accLanding s n).trans ((State.at_live hl).trans (State.next_onD_congr (g := fun _ => w) hland)), ?_, ?_, ?_, ?_, ?_, rfl⟩
    · show (w.core n).landing = l
      rw [keeps (Die.core · n) (fun _ _ => rfl) (fun _ _ => rfl) (fun _ _ => rfl)]
      exact congrArg Core.landing ((Die.core_updCore (d := s.d) n n (fun c => { c with landing := l })).trans (if_pos rfl))
    · exact keeps Die.acc (fun _ _ => rfl) (fun _ _ => rfl) (fun _ _ => rfl)
    · exact keeps Die.mem (fun _ _ => rfl) (fun _ _ => rfl) (fun _ _ => rfl)
    · exact keeps Die.regs (fun _ _ => rfl) (fun _ _ => rfl) (fun _ _ => rfl)
    · exact keeps Die.queues (fun _ _ => rfl) (fun _ _ => rfl) (fun _ _ => rfl)
  case idle =>
    refine (exec_fallbackStart s i).trans ((State.at_live hl).trans (State.next_onD_congr (g := id) ?_))
    unfold Die.fallbackStart
    rw [hq]
    rfl
  case fallback =>
    intro x mine
    have hstart : s.d.fallbackStart i = if s.d.fallbackBusy i mine then s.d else if s.d.reserveFits i e then s.d.fallbackRuns i e l
        else if s.d.fallbackBusy i (fun _ => true) then s.d
        else ((x.refs.foldl Die.slotFault ((s.d.updIsl i (fun y => { y with fbq := l })).islErr i 0)).updRt i e
          (fun y => { y with refs := [], rawCount := 0, rawElts := [], rawPz := none })) := by
      unfold Die.fallbackStart
      rw [hq]
    have runs {w : Die} (h : s.d.fallbackStart i = w) : exec (.fallbackStart i) s = .next (s.onD (fun _ => w)) :=
      (exec_fallbackStart s i).trans ((State.at_live hl).trans (State.next_onD_congr h))
    refine ⟨fun hb => runs (hstart.trans (if_pos hb)), fun hb hr hc => ?starts, fun hb hr ha => ?waits, fun ha hr => ?fails⟩
    case starts =>
      rw [hb, hr, if_neg Bool.false_ne_true, if_pos rfl] at hstart
      obtain ⟨w, hw⟩ : ∃ w : Die, w = s.d.fallbackRuns i e l := ⟨_, rfl⟩
      rw [← hw] at hstart
      have keeps {α : Type} (g : Die → α) (hs : ∀ (d : Die) x, g { d with sbq := x } = g d) : g w = g (s.d.fallbackBegun i e l) := by
        rw [hw]
        exact Die.fallbackRuns_keeps g hs hc
      refine ⟨s.onD (fun _ => w), runs hstart, ?_, ?_, keeps Die.mem (fun _ _ => rfl), keeps Die.regs (fun _ _ => rfl), keeps Die.queues (fun _ _ => rfl), rfl⟩
      · exact (keeps (Die.rt · i e) (fun _ _ => rfl)).trans (Die.fallbackBegun_rt l)
      · exact (congrArg Isl.fbq (keeps (Die.island · i) (fun _ _ => rfl))).trans (Die.fallbackBegun_queue l)
    case waits =>
      rw [hb, hr, ha, if_neg Bool.false_ne_true, if_neg Bool.false_ne_true, if_pos rfl] at hstart
      exact runs hstart
    case fails =>
      rw [Die.fallbackBusy_mono ha, hr, ha, if_neg Bool.false_ne_true, if_neg Bool.false_ne_true, if_neg Bool.false_ne_true] at hstart
      exact runs hstart

end Sys2Proof
end

section
/-!
PROOFS. The Skim: contributions, collection, notices and the commands of its page (09 R268-R282, 10 R313).
-/

namespace Sys2Proof.Machine

variable {d : Die} {i j : Nat} {m : SbMsg} {l : List SbMsg}

theorem Die.ctrOf_setCtr (p c q e : Nat) (v : DWord) : (d.setCtr p c v).ctrOf q e = if ckey q e = ckey p c then v else d.ctrOf q e := sget_sset ..

/-- The node of a tile island lies in it. -/
theorem islOf_islNode : islOf (islNode i) = i := by
  unfold islOf islNode coreAt cx cy
  omega

/-! ## Adders -/

/-- The adder of an island after a contribution. -/
theorem Die.acceptPart_sadd (k : Nat) (v : Word) (nf : Bool) (p : Nat) (r : DescRef) (x : Nat) :
    sget (d.acceptPart i k v nf p r).sadd {} x = if x = i * 64 + k then
      { e := (sget d.sadd {} x).e.add false (f32 v), cnt := (sget d.sadd {} x).cnt + 1,
        poisoned := (sget d.sadd {} x).poisoned + p, nonfin := (sget d.sadd {} x).nonfin + b2n nf } else sget d.sadd {} x := by
  have hsadd : (d.acceptPart i k v nf p r).sadd = supd d.sadd {} (i * 64 + k) (fun a =>
      { e := a.e.add false (f32 v), cnt := a.cnt + 1, poisoned := a.poisoned + p, nonfin := a.nonfin + b2n nf }) := by
    unfold Die.acceptPart Die.settle Die.updQueue Die.setQueue
    split <;> rfl
  rw [hsadd, supd, sget_sset]
  split
  next h => rw [h]
  next => rfl

theorem Die.acceptPart_keeps {α : Type} (g : Die → α) (hs : ∀ (d : Die) x, g { d with sadd := x } = g d)
    (hq : ∀ (d : Die) qs cs, g { d with queues := qs, cores := cs } = g d) (k : Nat) (v : Word) (nf : Bool) (p : Nat) (r : DescRef) :
    g (d.acceptPart i k v nf p r) = g d := by
  unfold Die.acceptPart Die.settle Die.updQueue Die.setQueue
  split
  · exact (hq _ _ _).trans (hs d _)
  · exact (hq _ _ _).trans (hs d _)

/-- Entries taken out of a store read as the default again. -/
theorem sget_foldl_serase {β : Type} {z : β} (l : List Nat) (f : Nat → Nat) (m : Store β) (x : Nat) :
    sget (l.foldl (fun m k => serase m (f k)) m) z x = if ∃ k ∈ l, x = f k then z else sget m z x := by
  induction l generalizing m with
  | nil => simp
  | cons k t ih =>
    rw [List.foldl_cons, ih, sget_serase]
    simp only [List.exists_mem_cons_iff]
    by_cases h : ∃ k ∈ t, x = f k
    · rw [if_pos h, if_pos (.inr h)]
    · rw [if_neg h]
      by_cases hk : x = f k
      · rw [if_pos hk, if_pos (.inl hk)]
      · rw [if_neg hk, if_neg (fun h' => h'.elim hk h)]

/-- What an island answers to a collect message. -/
def Die.collectSums (d : Die) (i j : Nat) : List (Nat × WideElt × Nat × Nat × Nat) :=
  (d.jobSlots j).map (fun k => (k, (sget d.sadd {} (i * 64 + k)).e, (sget d.sadd {} (i * 64 + k)).cnt,
    (sget d.sadd {} (i * 64 + k)).poisoned, (sget d.sadd {} (i * 64 + k)).nonfin))

/-- An island's adders without those of a job. -/
def Die.collectRest (d : Die) (i j : Nat) : Die := { d with sadd := (d.jobSlots j).foldl (fun m k => serase m (i * 64 + k)) d.sadd }

theorem Die.islandCollect_eq : d.islandCollect i j = (d.collectRest i j).send (islNode i) dkNode (.reply j (d.collectSums i j)) := rfl

/-- A reply stands at the end of the queue of its own node. -/
def Die.repliesTo (d : Die) (k j : Nat) (sums : List (Nat × WideElt × Nat × Nat × Nat)) (n : Nat) : Die :=
  { d with sbq := pushAt d.sbq (k * 6 + 4) { dst := dkNode, src := k, body := .reply j sums, s := n } }

theorem Die.send_reply (j : Nat) (sums : List (Nat × WideElt × Nat × Nat × Nat)) :
    d.send (islNode i) dkNode (.reply j sums) = d.repliesTo (islNode i) j sums (d.seqNo i) := by
  have h : d.send (islNode i) dkNode (.reply j sums) = d.repliesTo (islNode i) j sums (d.seqNo (islOf (islNode i))) := rfl
  rw [h, islOf_islNode]

/-- The message an island's adder or its collector takes, and what it does. -/
def Die.skimContribution (d : Die) (i : Nat) : Die :=
  match d.takeArr (islNode i) (fun m => match m.body with | .skimPart _ _ _ _ _ => true | _ => false) with
  | none => d
  | some (m, d) => match m.body with
    | .skimPart k v nf n r => (d.hear i m.s).acceptPart i k v nf n r
    | _ => d

/-- COLLECT at an island. -/
def Die.skimCollect (d : Die) (i : Nat) : Die :=
  match d.takeArr (islNode i) (fun m => match m.body with | .collect _ => true | _ => false) with
  | none => d
  | some (m, d) => match m.body with
    | .collect j => (d.hear i m.s).islandCollect i j
    | _ => d

/-- SCREED_NOTICE. -/
def Die.screedNotice (d : Die) : Die :=
  match d.takeArr dkNode (fun m => match m.body with | .notice _ _ => true | _ => false) with
  | none => d
  | some (m, d) => match m.body with
    | .notice j _ =>
      let d := d.hear 89 m.s
      Die.takeArrivals (if (d.skimJ j).st = 1 then d.updSkim j (fun x => { x with notices := x.notices + 1 }) else d.count pgSkim 3)
    | _ => d

/-- The first message at a node has been taken and heard. -/
def Die.heard (d : Die) (n k : Nat) (m : SbMsg) (l : List SbMsg) : Die := Die.hear { d with sbArr := sset d.sbArr [] n l } k m.s

theorem Die.heard_keeps {α : Type} (g : Die → α) (hg : ∀ (d : Die) x y, g { d with sbArr := x, trS := y } = g d) (n k : Nat) :
    g (d.heard n k m l) = g d := hg d _ _

theorem Die.heard_sbArr (n k : Nat) : sget (d.heard n k m l).sbArr [] n = l := sget_sset_same ..

section
variable {n : Nat} (h : sget d.sbArr [] (islNode i) = m :: l)
include h

theorem Die.skimContribution_first {k v nf p r} (hb : m.body = .skimPart k v nf p r) :
    d.skimContribution i = (d.heard (islNode i) i m l).acceptPart i k v nf p r := by
  unfold Die.skimContribution
  rw [Die.takeArr_first h (by rw [hb])]
  dsimp only
  rw [hb]
  rfl

theorem Die.skimCollect_first (hb : m.body = .collect j) : d.skimCollect i = (d.heard (islNode i) i m l).islandCollect i j := by
  unfold Die.skimCollect
  rw [Die.takeArr_first h (by rw [hb])]
  dsimp only
  rw [hb]
  rfl

end

theorem Die.screedNotice_first {n : Nat} (h : sget d.sbArr [] dkNode = m :: l) (hb : m.body = .notice j n) : d.screedNotice =
    Die.takeArrivals (if (d.skimJ j).st = 1 then (d.heard dkNode 89 m l).updSkim j (fun x => { x with notices := x.notices + 1 })
      else (d.heard dkNode 89 m l).count pgSkim 3) := by
  unfold Die.screedNotice
  rw [Die.takeArr_first h (by rw [hb])]
  dsimp only
  rw [hb]
  rfl

/-! ## Commands of the SKIM page -/

/-- The Skim of a job after ENABLE. -/
def Die.skimFresh (d : Die) (j : Nat) : SkimJob :=
  { (d.skimJ j).accumulate with step := BitVec.ofNat 64 ((d.skimW j 14).toNat * 2 ^ 32 + (d.skimW j 13).toNat), inbox := [] }

/-- The three barriers of a job's Skim differ. -/
def Die.skimDistinct (d : Die) (j : Nat) : Prop :=
  fld (d.skimW j 0) 5 0 ≠ fld (d.skimW j 0) 11 6 ∧ fld (d.skimW j 0) 5 0 ≠ fld (d.skimW j 0) 17 12 ∧ fld (d.skimW j 0) 11 6 ≠ fld (d.skimW j 0) 17 12

theorem Die.skimEnable_off (h : (d.skimJ j).st = 0) (hd : d.skimDistinct j) :
    d.skimEnable j = ((d.updSkim j (fun _ => d.skimFresh j)).setCtr pgSkim (0x120 + j) 0).setCtr pgSkim (0x140 + j) 0 := by
  obtain ⟨h1, h2, h3⟩ := hd
  unfold Die.skimEnable
  dsimp only
  rw [if_neg (by
    rintro (h' | h' | h' | h')
    · exact h' h
    · exact h1 h'
    · exact h2 h'
    · exact h3 h')]
  rfl

theorem Die.skimEnable_ignored (h : (d.skimJ j).st ≠ 0 ∨ ¬ d.skimDistinct j) : d.skimEnable j = d.count pgSkim 7 := by
  refine if_pos ?_
  obtain h | h := h
  · exact .inl h
  · unfold Die.skimDistinct at h
    by_cases h1 : fld (d.skimW j 0) 5 0 = fld (d.skimW j 0) 11 6
    · exact .inr (.inl h1)
    · by_cases h2 : fld (d.skimW j 0) 5 0 = fld (d.skimW j 0) 17 12
      · exact .inr (.inr (.inl h2))
      · by_cases h3 : fld (d.skimW j 0) 11 6 = fld (d.skimW j 0) 17 12
        · exact .inr (.inr (.inr h3))
        · exact absurd ⟨h1, h2, h3⟩ h

/-- A job leaves its engine and its Skim goes OFF. -/
def Die.skimOff (d : Die) (j : Nat) : Die := (d.updSkim j (fun x => { x.accumulate with st := 0, inbox := [] })).skimEnterAll

/-- A job's exchange is no longer in its port engine. -/
def Die.skimOut (d : Die) (c j : Nat) : Die := d.updPort c (fun x => { x with skims := x.skims.filter (fun i => decide (i ≠ j)) })

theorem Die.skimDisable_outside (h : (d.skimJ j).st ≠ 3) : d.skimDisable j = d.skimOff j := by
  unfold Die.skimDisable
  dsimp only
  rw [if_neg h]
  rfl

/-- The record with which a member leaves. -/
def Die.skimLast' (d : Die) (j : Nat) : Frame := d.skimFrame j (fld (d.commW (d.skimComm j) 1) 29 16) false true
  ((d.jobSlots j).map (fun k => (k, ({} : WideElt)))) [0, 0, 0, 0, 1]

theorem Die.skimDisable_member (h : (d.skimJ j).st = 3) (hr : fld (d.commW (d.skimComm j) 1) 13 0 ≠ fld (d.commW (d.skimComm j) 1) 29 16) :
    d.skimDisable j = ((d.sendRouted (d.skimComm j % 16) (d.skimLast' j) false).skimOut (d.skimComm j % 16) j).skimOff j := by
  unfold Die.skimDisable
  dsimp only
  rw [if_pos h, if_neg hr]
  rfl

theorem Die.skimDisable_root (h : (d.skimJ j).st = 3) (hr : fld (d.commW (d.skimComm j) 1) 13 0 = fld (d.commW (d.skimComm j) 1) 29 16) :
    d.skimDisable j = ((d.skimSendAll j 1).1.skimOut (d.skimComm j % 16) j).skimOff j := by
  unfold Die.skimDisable
  dsimp only
  rw [if_pos h, if_pos hr]
  rfl

end Sys2Proof.Machine

namespace Sys2Proof
open Machine

/-- Settles O48: each message by what it adds or answers, each command by the state of the job's Skim. -/
theorem skimCollection : Obligations.skim_collection := by
  unfold Obligations.skim_collection
  refine ⟨fun s m l => ⟨fun i hl hm => ⟨fun k v nf p r hb => ?part, fun j n hb => ?collect⟩, fun j n hl hm hb => ?notice⟩, fun s ini j had => ?commands⟩
  case part =>
    obtain ⟨u, hu⟩ : ∃ u : Die, u = s.d.heard (islNode i) i m l := ⟨_, rfl⟩
    obtain ⟨w, hw⟩ : ∃ w : Die, w = u.acceptPart i k v nf p r := ⟨_, rfl⟩
    have hfirst : s.d.skimContribution i = w := by rw [Die.skimContribution_first hm hb, hw, hu]
    have hus : u.sadd = s.d.sadd := by rw [hu]; exact Die.heard_keeps Die.sadd (fun _ _ _ => rfl) _ _
    have keeps {α : Type} (g : Die → α) (hs : ∀ (d : Die) x, g { d with sadd := x } = g d)
        (hq : ∀ (d : Die) qs cs, g { d with queues := qs, cores := cs } = g d) : g w = g u := by
      rw [hw, Die.acceptPart_keeps g hs hq]
    refine ⟨s.onD (fun _ => w), (exec_at_live (f := fun d => d.skimContribution i) rfl hl).trans (State.next_onD_congr (g := fun _ => w) hfirst),
      fun x => ?_, ?_, ?_, ?_, ?_, rfl⟩
    · show sget w.sadd {} x = _
      rw [hw, Die.acceptPart_sadd, hus]
    · show sget w.sbArr [] (islNode i) = l
      rw [keeps Die.sbArr (fun _ _ => rfl) (fun _ _ _ => rfl), hu, Die.heard_sbArr]
    · exact (keeps Die.mem (fun _ _ => rfl) (fun _ _ _ => rfl)).trans (by rw [hu]; exact Die.heard_keeps Die.mem (fun _ _ _ => rfl) _ _)
    · exact (keeps Die.regs (fun _ _ => rfl) (fun _ _ _ => rfl)).trans (by rw [hu]; exact Die.heard_keeps Die.regs (fun _ _ _ => rfl) _ _)
    · exact (keeps Die.skim (fun _ _ => rfl) (fun _ _ _ => rfl)).trans (by rw [hu]; exact Die.heard_keeps Die.skim (fun _ _ _ => rfl) _ _)
  case collect =>
    intro sums hn
    obtain ⟨u, hu⟩ : ∃ u : Die, u = s.d.heard (islNode i) i m l := ⟨_, rfl⟩
    have heard {α : Type} (g : Die → α) (hg : ∀ (d : Die) x y, g { d with sbArr := x, trS := y } = g d) : g u = g s.d := by
      rw [hu]
      exact Die.heard_keeps g hg _ _
    have hsums : u.collectSums i j = sums := heard (Die.collectSums · i j) (fun _ _ _ => rfl)
    have hslots : u.jobSlots j = s.d.jobSlots j := heard (Die.jobSlots · j) (fun _ _ _ => rfl)
    have hseq : u.seqNo i = n := by
      rw [hn, hu]
      exact sget_sset_same ..
    obtain ⟨w, hw⟩ : ∃ w : Die, w = (u.collectRest i j).repliesTo (islNode i) j sums n := ⟨_, rfl⟩
    have hfirst : s.d.skimCollect i = w := by
      rw [Die.skimCollect_first hm hb, ← hu, Die.islandCollect_eq, hsums, Die.send_reply, hw, ← hseq]
      rfl
    refine ⟨s.onD (fun _ => w), (exec_at_live (f := fun d => d.skimCollect i) rfl hl).trans (State.next_onD_congr (g := fun _ => w) hfirst),
      fun x => ?_, ?_, ?_, ?_, ?_, ?_, rfl⟩
    · show sget w.sadd {} x = _
      rw [hw]
      refine (sget_foldl_serase (u.jobSlots j) (fun k => i.val * 64 + k) u.sadd x).trans ?_
      rw [hslots, heard Die.sadd (fun _ _ _ => rfl)]
    · show sget w.sbq [] (islNode i * 6 + 4) = _
      rw [hw, ← heard Die.sbq (fun _ _ _ => rfl)]
      exact sget_sset_same ..
    · show sget w.sbArr [] (islNode i) = l
      rw [hw]
      show sget u.sbArr [] (islNode i) = l
      rw [hu, Die.heard_sbArr]
    · show w.mem = _
      rw [hw, ← heard Die.mem (fun _ _ _ => rfl)]
      rfl
    · show w.regs = _
      rw [hw, ← heard Die.regs (fun _ _ _ => rfl)]
      rfl
    · show w.skim = _
      rw [hw, ← heard Die.skim (fun _ _ _ => rfl)]
      rfl
  case notice =>
    have hex := exec_at_live (s := s) (c := .screedNotice) (f := fun d => d.screedNotice) rfl hl
    have hfirst := Die.screedNotice_first hm hb
    refine ⟨fun h => hex.trans (State.next_onD_congr ?_), fun h => hex.trans (State.next_onD_congr ?_)⟩
    · rw [if_pos h] at hfirst
      exact hfirst
    · rw [if_neg h] at hfirst
      exact hfirst
  case commands =>
    have hen := exec_cplD_served (s := s) (c := .skimEnable ini j) (f := fun d => d.skimEnable j) rfl had
    have hdis := exec_cplD_served (s := s) (c := .skimDisable ini j) (f := fun d => d.skimDisable j) rfl had
    have hforce := exec_cplD_served (s := s) (c := .forceSkip ini j) (f := fun d => d.forceSkip j) rfl had
    have keeps {α : Type} (g : Die → α) (h : ∀ (d : Die) m c x r, g { d with trS := m, carb := c, ctr := x, resp := r } = g d) :=
      s.reached_keeps ini pgSkim g h
    obtain ⟨u, hu⟩ : ∃ u, u = s.reached ini pgSkim := ⟨_, rfl⟩
    rw [← hu] at keeps hen hdis hforce ⊢
    have hjob (k : Nat) : u.d.skimJ k = s.d.skimJ k := keeps (Die.skimJ · k) (fun _ _ _ _ _ => rfl)
    have hdist : u.d.skimDistinct j = s.d.skimDistinct j := keeps (Die.skimDistinct · j) (fun _ _ _ _ _ => rfl)
    have hcomm : u.d.skimComm j = s.d.skimComm j := keeps (Die.skimComm · j) (fun _ _ _ _ _ => rfl)
    have hcommW (a b : Nat) : u.d.commW a b = s.d.commW a b := keeps (Die.commW · a b) (fun _ _ _ _ _ => rfl)
    refine ⟨fun h hd => ?enable, fun h => ?ignored, fun h => ?outside, fun h hr => ?member, fun h hr => ?root, fun h1 h3 h => ?forces, fun h1 h3 h => ?sent,
      fun h => ?late⟩
    case enable =>
      obtain ⟨w, hw⟩ : ∃ w : Die, w = ((u.d.updSkim j (fun _ => u.d.skimFresh j)).setCtr pgSkim (0x120 + j) 0).setCtr pgSkim (0x140 + j) 0 := ⟨_, rfl⟩
      have hoff : u.d.skimEnable j = w := by
        rw [hw]
        exact Die.skimEnable_off (by rw [hjob]; exact h) (by rw [hdist]; exact hd)
      have hskim (k : Nat) : w.skimJ k = if k = j.val then u.d.skimFresh j else s.d.skimJ k := by
        have hset : w.skimJ k = (u.d.updSkim j (fun _ => u.d.skimFresh j)).skimJ k := by rw [hw]; rfl
        rw [hset, Die.skimJ_updSkim, hjob]
      have hj := j.isLt
      refine ⟨u.onD (fun _ => w), hen.trans (State.next_onD_congr (g := fun _ => w) hoff), ?_, fun k hk => ?_, ?_, ?_, ?_, ?_, ?_, rfl⟩
      · refine (hskim j).trans ((if_pos rfl).trans ?_)
        exact keeps (Die.skimFresh · j) (fun _ _ _ _ _ => rfl)
      · exact (hskim k).trans (if_neg hk)
      · show w.ctrOf pgSkim (0x120 + j) = 0
        rw [hw, Die.ctrOf_setCtr, if_neg (ckey_ne (by omega) (by omega) (.inr (by omega))), Die.ctrOf_setCtr, if_pos rfl]
      · show w.ctrOf pgSkim (0x140 + j) = 0
        rw [hw, Die.ctrOf_setCtr, if_pos rfl]
      · show w.mem = _
        rw [hw, ← keeps Die.mem (fun _ _ _ _ _ => rfl)]
        rfl
      · show w.regs = _
        rw [hw, ← keeps Die.regs (fun _ _ _ _ _ => rfl)]
        rfl
      · show w.sadd = _
        rw [hw, ← keeps Die.sadd (fun _ _ _ _ _ => rfl)]
        rfl
    case ignored => exact hen.trans (State.next_onD_congr (Die.skimEnable_ignored (by rw [hjob, hdist]; exact h)))
    case outside => exact hdis.trans (State.next_onD_congr (Die.skimDisable_outside (by rw [hjob]; exact h)))
    case member => exact hdis.trans (State.next_onD_congr (Die.skimDisable_member (by rw [hjob]; exact h) (by rw [hcomm, hcommW]; exact hr)))
    case root => exact hdis.trans (State.next_onD_congr (Die.skimDisable_root (by rw [hjob]; exact h) (by rw [hcomm, hcommW]; exact hr)))
    all_goals
      have hst : u.d.forceSkip j = if 1 ≤ (s.d.skimJ j).st ∧ (s.d.skimJ j).st ≤ 3 then
          (if (s.d.skimJ j).sentRec then u.d else u.d.updSkim j (fun x => { x with forced := x.forced + 1 })) else u.d.count pgSkim 7 := by
        rw [← hjob]
        rfl
    case forces =>
      rw [if_pos ⟨h1, h3⟩, h, if_neg Bool.false_ne_true] at hst
      exact hforce.trans (State.next_onD_congr hst)
    case sent =>
      rw [if_pos ⟨h1, h3⟩, h, if_pos rfl] at hst
      exact hforce.trans (State.next_onD_congr (g := id) hst)
    case late =>
      rw [if_neg (by omega)] at hst
      exact hforce.trans (State.next_onD_congr hst)

end Sys2Proof
end

section
/-!
PROOFS. The links of a port: bring-up, codewords, and frames of the link layer (10 R288-R294, 12 R365).
-/

namespace Sys2Proof.Machine

variable {d e : Die} {p : Nat} {f : Frame}

/-! ## A commit of the port page -/

/-- The limits a port page is about to take exceed the buffer. -/
def Die.overLimit (d : Die) (pg : Nat) : Prop :=
  128 < fld (d.shadow pg 0x108) 31 24 + fld (d.shadow pg 0x108) 23 16 + fld (d.shadow pg 0x108) 15 8 + fld (d.shadow pg 0x108) 7 0

theorem Die.portCommit_over (h : d.overLimit (pgPort p)) : d.portCommit p = (d, true) := if_pos h

/-- The link's state agrees with what the committed page asks of it. -/
def Die.linkTurns (d : Die) (p : Nat) : Prop :=
  (bit ((d.commitPage (pgPort p)).reg (pgPort p) 0x104) 0 = true ∧ (d.port p).link = 5) ∨
    (bit ((d.commitPage (pgPort p)).reg (pgPort p) 0x104) 0 = false ∧ (d.port p).link ≠ 5)

theorem Die.portCommit_turns (h : ¬ d.overLimit (pgPort p)) (ht : d.linkTurns p) :
    d.portCommit p = (((d.commitPage (pgPort p)).restart p).electBest, false) := by
  obtain ⟨c, hc⟩ : ∃ c, c = d.commitPage (pgPort p) := ⟨_, rfl⟩
  have hport : (d.port p).link = (c.port p).link := by rw [hc]; rfl
  unfold Die.linkTurns at ht
  rw [← hc, hport] at ht
  unfold Die.portCommit
  dsimp only
  rw [show (if 128 < _ then _ else _) = _ from if_neg h, ← hc]
  refine if_pos ?_
  rwa [Bool.not_eq_true]

theorem Die.portCommit_stays (h : ¬ d.overLimit (pgPort p)) (ht : ¬ d.linkTurns p) : d.portCommit p = (d.commitPage (pgPort p), false) := by
  obtain ⟨c, hc⟩ : ∃ c, c = d.commitPage (pgPort p) := ⟨_, rfl⟩
  have hport : (d.port p).link = (c.port p).link := by rw [hc]; rfl
  unfold Die.linkTurns at ht
  rw [← hc, hport] at ht
  unfold Die.portCommit
  dsimp only
  rw [show (if 128 < _ then _ else _) = _ from if_neg h, ← hc]
  refine if_neg ?_
  rwa [Bool.not_eq_true]

/-- What the commit of the port page turns on stays the same in two dies of the same registers and port. -/
theorem Die.linkTurns_congr (hs : ∀ o, e.shadow (pgPort p) o = d.shadow (pgPort p) o) (hr : ∀ o, e.reg (pgPort p) o = d.reg (pgPort p) o)
    (hp : e.port p = d.port p) : e.linkTurns p = d.linkTurns p := by
  unfold Die.linkTurns
  rw [Die.reg_commitPage _ _ (by decide), Die.reg_commitPage _ _ (by decide), hs, hr, hp]

/-! ## Errors of a port -/

theorem Die.cpErr_keeps {α : Type} (g : Die → α) (ht : ∀ (d : Die) c f n r t, g { d with ctr := c, free := f, trS := n, trRec := r, trc := t } = g d)
    (b : Nat) (hp : g (d.updPort p (fun x => { x with err := x.err ||| 2 ^ b })) = g d) : g (d.cpErr p b) = g d :=
  (Die.trace_keeps g ht _ _ _).trans hp

/-- The state of a port's link, its received codewords and its count of locks. -/
def Port.lanes (x : Port) : Nat × List RxCw := (x.link, x.rxCw)

theorem Die.cpErr_lanes (b : Nat) : ((d.cpErr p b).port p).lanes = (d.port p).lanes := by
  refine Die.cpErr_keeps (fun d => (Die.port d p).lanes) (fun _ _ _ _ _ _ => rfl) b ?_
  rw [Die.port_updPort, if_pos rfl]
  rfl

/-! ## Codewords -/

/-- The codewords a port keeps after another one. -/
def Port.keptWith (x : Port) (c : RxCw) : List RxCw :=
  x.rxCw.filter (fun y => !(decide (y.cw.lane = c.cw.lane) && decide (y.cw.round = c.cw.round))) ++ [c]

/-- A codeword of a round that not every lane has brought waits. -/
theorem Die.takeCodeword_waits {c : RxCw} (h : (((d.port p).keptWith c).filter (fun y => decide (y.cw.round = c.cw.round))).length < 8) :
    d.takeCodeword p c = d.updPort p (fun x => { x with rxCw := (d.port p).keptWith c }) := by
  obtain ⟨u, hu⟩ : ∃ u : Die, u = d.updPort p (fun x => { x with rxCw := x.keptWith c }) := ⟨_, rfl⟩
  have hround : (u.port p).ofRound c.cw.round = ((d.port p).keptWith c).filter (fun y => decide (y.cw.round = c.cw.round)) := by
    rw [hu, Die.port_updPort, if_pos rfl]
    rfl
  have htake : d.takeCodeword p c = if ((u.port p).ofRound c.cw.round).length < 8 then u else d.takeCodeword p c := by
    unfold Die.takeCodeword
    dsimp only
    rw [show d.updPort p (fun x => { x with rxCw := x.rxCw.filter (fun y => !(decide (y.cw.lane = c.cw.lane) && decide (y.cw.round = c.cw.round))) ++ [c] }) = u
      from hu.symm]
    split <;> rfl
  rw [htake, hround, if_pos h, hu]
  rfl

/-- A codeword is counted by its errors. -/
def Die.codewordCounted (d : Die) (p n : Nat) : Die := if n ≤ 15 then d.count (pgPort p) 3 n else (d.count (pgPort p) 4).cpErr p 2

theorem Die.codewordCounted_lanes (n : Nat) : ((d.codewordCounted p n).port p).lanes = (d.port p).lanes := by
  unfold Die.codewordCounted
  split
  · rfl
  · rw [Die.cpErr_lanes]
    rfl

/-- CODEWORD at a port. -/
def Die.codeword (d : Die) (p : Nat) (c : Codeword) (n : Nat) : Die :=
  if (d.port p).link ≠ 2 ∧ (d.port p).link ≠ 3 ∧ (d.port p).link ≠ 4 then d
  else if (d.port p).link = 2 then (d.codewordCounted p n).updPort p (fun x => x.lockCount c.lane (decide (n ≤ 15)))
  else (d.codewordCounted p n).takeCodeword p { cw := c, lost := decide (15 < n) }

theorem exec_codeword (s : State) (p : PortNo) (c : Codeword) (bad : List (Fin 544 × BitVec 10)) :
    exec (.codeword p c bad) s = s.at_ (72 + p) (fun d => d.codeword p c (symbolErrors bad)) := rfl

/-! ## Frames of the link layer -/

/-- The oldest frame that came in is taken up and counted. -/
def Die.frameTaken (d : Die) (p : Nat) (f : Frame) : Die :=
  (d.updPort p (fun x => { x with inFrames := x.inFrames.drop 1 })).count (pgPort p) 2 f.units

theorem Frame.kind_hello (h : f.kind = some (3, 0)) : f.ty = 3 := by
  unfold Frame.kind at h
  dsimp only at h
  split at h
  · cases h
  · split at h
    · exact congrArg Prod.fst (Option.some.inj h)
    · split at h
      · cases h
      · split at h
        · cases h
        · split at h <;> cases h

theorem Die.wakeEvent_awake (h1 : d.pw.asleep = false) (h2 : d.pw.sleepBusy = false) (b : Nat) : d.wakeEvent b = d := by
  unfold Die.wakeEvent
  rw [h1, h2]
  split <;> rfl

/-- A frame that its port takes up while the module is awake goes through the link layer. -/
theorem Die.frameIn_taken {k : Nat × Nat} (hl : (d.port p).link = 4 ∨ ((d.port p).link = 3 ∧ k.1 = 3)) (hk : f.kind = some k)
    (hn : d.nextIn p f = true) (hs : d.pw.asleep = false) (hw : d.wakesOn f = false ∨ d.pw.sleepBusy = false) (act : Die → Die) :
    d.frameIn p f k act =
      if ((d.updPort p (fun x => { x with inFrames := x.inFrames.drop 1 })).rx p f).2 then
        (act ((d.updPort p (fun x => { x with inFrames := x.inFrames.drop 1 })).rx p f).1).fabSettle
      else ((d.updPort p (fun x => { x with inFrames := x.inFrames.drop 1 })).rx p f).1 := by
  obtain ⟨u, hu⟩ : ∃ u : Die, u = d.updPort p (fun x => { x with inFrames := x.inFrames.drop 1 }) := ⟨_, rfl⟩
  have hus : u.pw = d.pw := by rw [hu]; rfl
  have huw : u.wakesOn f = d.wakesOn f := by rw [hu]; rfl
  have hwake : (if u.wakesOn f then u.wakeEvent 2 else u) = u := by
    rw [huw]
    obtain hw | hw := hw
    · rw [hw, if_neg Bool.false_ne_true]
    · rw [Die.wakeEvent_awake (by rw [hus, hs]) (by rw [hus, hw]), ite_self]
  unfold Die.frameIn
  dsimp only
  rw [if_neg (by
    rintro (⟨h, h'⟩ | ⟨-, -, h⟩ | h)
    · exact hl.elim h h'
    · exact h hk
    · rw [hn] at h
      cases h), ← hu, hwake, hus, hs, if_neg Bool.false_ne_true]

/-- A good frame that carries no sequence number is accepted. -/
theorem Die.rx_plain (hh : f.hOk = true) (hp : f.pOk = true) (hk : f.kind.isSome = true) (hs : f.sequenced = false) :
    d.rx p f = (d.count (pgPort p) 2 f.units, true) := by
  have hnone : f.kind ≠ none := fun h => by
    rw [h] at hk
    cases hk
  unfold Die.rx
  dsimp only
  rw [hh, if_neg (by decide), if_neg hnone, hs, if_pos (by decide), hp, if_pos rfl]

end Sys2Proof.Machine

namespace Sys2Proof
open Machine

/-- Settles O49: each event by the state of the link it meets. -/
theorem portLinks : Obligations.port_links := by
  unfold Obligations.port_links
  intro s p pg x
  refine ⟨fun ini had => ?commit, fun hl => ⟨⟨fun h => ?trained, fun h => ?untrained⟩, fun skew => ⟨fun h hk => ?locked, fun h hk => ?skewed, fun h => ?unlocked⟩,
    fun c bad => ?codeword, fun lane => ?lost, ⟨fun h => ?silent, fun h => ?down⟩, fun f hn => ?hello, ⟨fun h => ?greets, fun h => ?quiet⟩⟩⟩
  case commit =>
    intro v c en r ends
    have hex := exec_cplD_served (s := s) (c := .linkEnable ini p) (f := fun d =>
      (d.portCommit p).1.updHdr (pgPort p) (fun h => { h with refused := (d.portCommit p).2 })) rfl had
    obtain ⟨u, hu⟩ : ∃ u, u = r := ⟨_, rfl⟩
    have keeps {α : Type} (g : Die → α) (h : ∀ (d : Die) m c x r, g { d with trS := m, carb := c, ctr := x, resp := r } = g d) : g u.d = g s.d := by
      rw [hu]
      exact s.reached_keeps ini pg g h
    have hshadow (o : Nat) : u.d.shadow pg o = s.d.shadow pg o := keeps (Die.shadow · pg o) (fun _ _ _ _ _ => rfl)
    have hturn : u.d.linkTurns p = s.d.linkTurns p := Die.linkTurns_congr hshadow (fun o => keeps (Die.reg · pg o) (fun _ _ _ _ _ => rfl))
      (keeps (Die.port · p) (fun _ _ _ _ _ => rfl))
    have hover : u.d.overLimit pg = s.d.overLimit pg := keeps (Die.overLimit · pg) (fun _ _ _ _ _ => rfl)
    have commits (f : Die → Die) (no : Bool) (h : u.d.portCommit p = (f u.d, no)) : ends f no := by
      refine hex.trans ?_
      rw [show s.reached ini (pgPort p) = u from hu.symm, show r = u from hu.symm]
      refine State.next_onD_congr ?_
      rw [h]
    refine ⟨fun h => commits (fun d => d) true (Die.portCommit_over (by rw [hover]; exact h)), fun h => ⟨fun ht => commits _ false ?_, fun ht => commits _ false ?_⟩⟩
    · exact Die.portCommit_turns (by rw [hover]; exact Nat.not_lt.2 h) (by rw [hturn]; exact ht)
    · refine Die.portCommit_stays (by rw [hover]; exact Nat.not_lt.2 h) ?_
      rw [hturn]
      rintro (⟨h1, h2⟩ | ⟨h1, h2⟩)
      · obtain ⟨-, h4⟩ | ⟨h3, -⟩ := ht
        · exact h4 h2
        · exact Bool.false_ne_true (h3.symm.trans h1)
      · obtain ⟨h3, -⟩ | ⟨-, h4⟩ := ht
        · exact Bool.false_ne_true (h1.symm.trans h3)
        · exact h2 h4
  case trained =>
    exact (exec_at_live (f := fun d => if (d.port p).link = 1 then d.updPort p (fun x => { x with link := 2, locks := 0 }) else d) rfl hl).trans
      (State.next_onD_congr (if_pos h))
  case untrained =>
    exact (exec_at_live (f := fun d => if (d.port p).link = 1 then d.updPort p (fun x => { x with link := 2, locks := 0 }) else d) rfl hl).trans
      (State.next_onD_congr (g := id) (if_neg h))
  case locked =>
    refine (exec_at_live (f := fun d => if (d.port p).link ≠ 2 then d else if 16 < skew then (d.cpErr p 5).restart p
      else d.updPort p (fun x => { x with link := 3, locks := 255, rxCw := [], asm := none })) rfl hl).trans (State.next_onD_congr ?_)
    rw [if_neg (fun h' => h' h), if_neg (by omega)]
  case skewed =>
    refine (exec_at_live (f := fun d => if (d.port p).link ≠ 2 then d else if 16 < skew then (d.cpErr p 5).restart p
      else d.updPort p (fun x => { x with link := 3, locks := 255, rxCw := [], asm := none })) rfl hl).trans (State.next_onD_congr ?_)
    rw [if_neg (fun h' => h' h), if_pos hk]
  case unlocked =>
    exact (exec_at_live (f := fun d => if (d.port p).link ≠ 2 then d else if 16 < skew then (d.cpErr p 5).restart p
      else d.updPort p (fun x => { x with link := 3, locks := 255, rxCw := [], asm := none })) rfl hl).trans (State.next_onD_congr (g := id) (if_pos h))
  case codeword =>
    intro n counted kept
    have hex := (exec_codeword s p c bad).trans (State.at_live hl)
    have hlanes : ((s.d.codewordCounted p n).port p).lanes = x.lanes := Die.codewordCounted_lanes n
    refine ⟨fun h => hex.trans (State.next_onD_congr ?_), fun h => ?_, fun h => hex.trans (State.next_onD_congr (g := id) (if_pos ?_))⟩
    · unfold Die.codeword
      rw [if_neg (fun h' => h'.1 h), if_pos h]
      rfl
    · have htake : s.d.codeword p c n = (s.d.codewordCounted p n).takeCodeword p { cw := c, lost := decide (15 < n) } := by
        unfold Die.codeword
        rw [if_neg (fun h' => h.elim h'.2.1 h'.2.2), if_neg (by
          obtain h | h := h <;> rw [show (s.d.port p).link = _ from h] <;> decide)]
      refine ⟨hex.trans (State.next_onD_congr htake), fun hlen => hex.trans (State.next_onD_congr (htake.trans ?_))⟩
      have hkept : ((s.d.codewordCounted p n).port p).keptWith { cw := c, lost := decide (15 < n) } = kept := by
        unfold Port.keptWith
        rw [show ((s.d.codewordCounted p n).port p).rxCw = x.rxCw from congrArg Prod.snd hlanes]
      rw [Die.takeCodeword_waits (by rw [hkept]; exact hlen), hkept]
      rfl
    · obtain h | h | h := h <;> rw [show (s.d.port p).link = _ from h] <;> decide
  case lost =>
    intro lost
    have hex := exec_at_live (s := s) (c := .codewordLockLoss p lane) (f := fun d =>
      if (d.port p).link = 4 then ((lost d).linkDown p none).fabSettle else if (d.port p).link = 2 ∨ (d.port p).link = 3 then (lost d).restart p else lost d) rfl hl
    refine ⟨fun h => hex.trans (State.next_onD_congr ?_), fun h => hex.trans (State.next_onD_congr (if_pos h))⟩
    rw [if_neg (by obtain h | h := h <;> rw [show (s.d.port p).link = _ from h] <;> decide), if_pos h]
  case silent =>
    exact (exec_at_live (f := fun d => if d.up p then (d.linkDown p (some 4)).fabSettle else d) rfl hl).trans
      (State.next_onD_congr (if_pos (decide_eq_true h)))
  case down =>
    refine (exec_at_live (f := fun d => if d.up p then (d.linkDown p (some 4)).fabSettle else d) rfl hl).trans
      (State.next_onD_congr (g := id) (if_neg ?_))
    exact fun h' => h (of_decide_eq_true h')
  case hello =>
    intro got hlink hs hh hk hp
    have hty := Frame.kind_hello hk
    have hplain : f.sequenced = false := by
      unfold Frame.sequenced
      rw [hty]
      rfl
    have hwake : s.d.wakesOn f = false := by
      unfold Die.wakesOn
      rw [hty]
      simp
    have hin : s.d.frameIn p f (3, 0) (fun d => d.takeHello p f) = (got.takeHello p f).fabSettle := by
      rw [Die.frameIn_taken (hlink.symm.imp_right (fun h => ⟨h, rfl⟩)) hk hn hs (.inl hwake), Die.rx_plain hh hp (by rw [hk]; rfl) hplain]
      exact if_pos rfl
    have hex := exec_at_live (s := s) (c := .hello p f) (f := fun d => d.frameIn p f (3, 0) (fun d => d.takeHello p f)) rfl hl
    refine ⟨fun h => hex.trans (State.next_onD_congr (hin.trans ?_)), fun h => hex.trans (State.next_onD_congr (hin.trans ?_))⟩
    · exact congrArg Die.fabSettle (if_pos h)
    · have hser : ((got.meet p f false)).part = s.d.part := rfl
      have hmeet : got.takeHello p f = ((got.meet p f false).updPort p
          (fun x => { x with greeted := true, heard := x.heard || decide (f.dw 6 = s.d.part.serial) })).comeUp p := by
        unfold Die.takeHello
        dsimp only
        rw [show (if f.dw 3 = got.part.serial then _ else _) = _ from if_neg h, hser]
      rw [hmeet]
  case greets =>
    refine (exec_at_live (f := fun d => if (d.port p).link ≠ 3 then d else
      ((d.emit p (d.greeting p 3 (if (d.port p).greeted then 2 else 0))).updPort p (fun x => { x with ackSent := x.ackSent || (d.port p).greeted })).comeUp p)
      rfl hl).trans (State.next_onD_congr ?_)
    exact if_neg (fun h' => h' h)
  case quiet =>
    exact (exec_at_live (f := fun d => if (d.port p).link ≠ 3 then d else
      ((d.emit p (d.greeting p 3 (if (d.port p).greeted then 2 else 0))).updPort p (fun x => { x with ackSent := x.ackSent || (d.port p).greeted })).comeUp p)
      rfl hl).trans (State.next_onD_congr (g := id) (if_pos h))

end Sys2Proof
end

section
/-!
PROOFS. Frames that an UP link takes up while the module is awake (10 R291-R304).
-/

namespace Sys2Proof.Machine

variable {d : Die} {p : Nat} {f : Frame} {k : Nat × Nat}

theorem Frame.ty_of_kind (h : f.kind = some k) : f.ty = k.1 := by
  unfold Frame.kind at h
  dsimp only at h
  split at h
  next hc => rw [← Option.some.inj h]; exact hc.1
  next =>
    split at h
    next => rw [← Option.some.inj h]
    next =>
      split at h
      next hc => rw [← Option.some.inj h]; exact hc.1
      next =>
        split at h
        next hc => rw [← Option.some.inj h]; exact hc.1
        next =>
          split at h
          next hc => rw [← Option.some.inj h]; exact hc.1
          next => cases h

theorem Frame.sequenced_of_kind (h : f.kind = some k) (ht : k.1 = 1 ∨ k.1 = 4 ∨ k.1 = 5 ∨ k.1 = 7) : f.sequenced = true := by
  unfold Frame.sequenced
  rw [Frame.ty_of_kind h]
  obtain h | h | h | h := ht <;> rw [h] <;> decide

theorem Frame.unsequenced_of_kind (h : f.kind = some k) (ht : k.1 = 2 ∨ k.1 = 3 ∨ k.1 = 6) : f.sequenced = false := by
  unfold Frame.sequenced
  rw [Frame.ty_of_kind h]
  obtain h | h | h := ht <;> rw [h] <;> decide

/-! ## The sequence of a port -/

/-- Port `p` expects the frame after the one it has accepted. -/
def Die.expectNext (d : Die) (p : Nat) : Die := d.updPort p (fun x => { x with rseq := (x.rseq + 1) % 65536, nakSent := false })

/-- An accepted frame gives its units back, unless it goes on through another port. -/
def Die.accepted (d : Die) (p : Nat) (f : Frame) : Die := if d.transits f then d else d.freeUnits p f.vc f.units

theorem Die.freeUnits_fab (v n : Nat) : (d.freeUnits p v n).fab = d.fab := by
  unfold Die.freeUnits
  split <;> rfl

theorem Die.accepted_fab : (d.accepted p f).fab = d.fab := by
  unfold Die.accepted
  split
  · rfl
  · exact Die.freeUnits_fab _ _

/-- A good sequenced frame is accepted if it is the one expected, and is a gap if it is another. -/
theorem Die.rx_sequenced (hh : f.hOk = true) (hp : f.pOk = true) (hk : f.kind.isSome = true) (hs : f.sequenced = true) :
    d.rx p f = if f.lseq = (d.port p).rseq then (((d.count (pgPort p) 2 f.units).expectNext p).accepted p f, true)
      else ((d.count (pgPort p) 2 f.units).gap p, false) := by
  have hnone : f.kind ≠ none := fun h => by
    rw [h] at hk
    cases hk
  unfold Die.rx
  dsimp only
  rw [hh, if_neg (by decide), if_neg hnone, hs, if_neg (by decide), hp, if_neg (by decide)]
  rfl

section Taken
variable (hl : (d.port p).link = 4) (hs : d.pw.asleep = false) (hb : d.pw.sleepBusy = false) (hh : f.hOk = true) (hp : f.pOk = true)
  (hn : d.nextIn p f = true) (hk : f.kind = some k)
include hl hs hb hh hp hn hk

/-- A frame without a sequence number is taken in. -/
theorem Die.frameIn_plain (ht : k.1 = 2 ∨ k.1 = 3 ∨ k.1 = 6) (act : Die → Die) : d.frameIn p f k act = (act (d.frameTaken p f)).fabSettle := by
  rw [Die.frameIn_taken (.inl hl) hk hn hs (.inr hb), Die.rx_plain hh hp (by rw [hk]; rfl) (Frame.unsequenced_of_kind hk ht)]
  exact if_pos rfl

theorem Die.frameIn_sequenced (ht : k.1 = 1 ∨ k.1 = 4 ∨ k.1 = 5 ∨ k.1 = 7) (act : Die → Die) :
    d.frameIn p f k act = if f.lseq = (d.port p).rseq then (act (((d.frameTaken p f).expectNext p).accepted p f)).fabSettle
      else (d.frameTaken p f).gap p := by
  obtain ⟨u, hu⟩ : ∃ u : Die, u = d.updPort p (fun x => { x with inFrames := x.inFrames.drop 1 }) := ⟨_, rfl⟩
  have hseq : (u.port p).rseq = (d.port p).rseq := by
    rw [hu, Die.port_updPort, if_pos rfl]
  have htaken : d.frameTaken p f = u.count (pgPort p) 2 f.units := by rw [hu]; rfl
  rw [Die.frameIn_taken (.inl hl) hk hn hs (.inr hb), ← hu, Die.rx_sequenced hh hp (by rw [hk]; rfl) (Frame.sequenced_of_kind hk ht), hseq, htaken]
  split
  · exact if_pos rfl
  · exact if_neg Bool.false_ne_true

end Taken

/-! ## The path of a source-routed frame -/

theorem Die.sourced_on (h : fld (f.w 3) 21 16 < fld (f.w 3) 27 22) : d.sourced p f = d.sourceRoute p f := if_pos h

theorem Die.sourced_end (h : ¬ fld (f.w 3) 21 16 < fld (f.w 3) 27 22) : d.sourced p f = d.takeAddr (some p) f := if_neg h

end Sys2Proof.Machine

namespace Sys2Proof
open Machine

/-- Settles O50: the link layer accepts the frame, then its epoch, destination and path say where it goes. -/
theorem fabricFrames : Obligations.fabric_frames := by
  unfold Obligations.fabric_frames
  intro s p f hl hup hs hb hh hp hn got next took ends routed pathed
  have hex (c : Instr) (k : Nat × Nat) (act : Die → Die) (h : exec c s = s.at_ (72 + p) (fun d => d.frameIn p f k act)) :
      exec c s = .next (s.onD (fun d => d.frameIn p f k act)) := h.trans (State.at_live hl)
  have htook : ((s.d.frameTaken p f).expectNext p).accepted p f = took := rfl
  have hfab : took.fab = s.d.fab := (htook ▸ Die.accepted_fab : took.fab = ((s.d.frameTaken p f).expectNext p).fab)
  have plain (c : Instr) (k : Nat × Nat) (act : Die → Die) (ht : k.1 = 2 ∨ k.1 = 3 ∨ k.1 = 6)
      (h : exec c s = s.at_ (72 + p) (fun d => d.frameIn p f k act)) (hk : f.kind = some k) : ends c (act got) :=
    (hex c k act h).trans (State.next_onD_congr (Die.frameIn_plain hup hs hb hh hp hn hk ht act))
  have goes (c : Instr) (k : Nat × Nat) (act : Die → Die) (ht : k.1 = 1 ∨ k.1 = 4 ∨ k.1 = 5 ∨ k.1 = 7)
      (h : exec c s = s.at_ (72 + p) (fun d => d.frameIn p f k act)) (hk : f.kind = some k) (hq : f.lseq = (s.d.port p).rseq)
      {e : Die} (he : act took = e) : ends c e := by
    refine (hex c k act h).trans (State.next_onD_congr ?_)
    rw [Die.frameIn_sequenced hup hs hb hh hp hn hk ht act, if_pos hq, htook, he]
  have byRoute (c : Instr) (k : Nat × Nat) (act : Die → Die) (ht : k.1 = 1 ∨ k.1 = 4 ∨ k.1 = 5 ∨ k.1 = 7)
      (h : exec c s = s.at_ (72 + p) (fun d => d.frameIn p f k (fun d => d.routed p f act))) : routed c k act := by
    intro hk hq
    have route {e : Die} (he : took.routed p f act = e) : ends c e := goes c k (fun d => d.routed p f act) ht h hk hq he
    have hroute : took.routed p f act = if f.epoch ≠ s.d.fab.epoch then took.count (pgPort p) 8
        else if f.dst = s.d.fab.addr then act took
        else if f.ttl ≤ 1 then took.count (pgPort p) 7
        else took.sendRouted p ((f.setW 2 (setFld (f.w 2) 15 8 (f.ttl - 1))).seal) true := by
      unfold Die.routed
      rw [hfab]
    refine ⟨fun h1 => route ?_, fun h1 h2 => route ?_, fun h1 h2 h3 => route ?_, fun h1 h2 h3 => route ?_⟩
    · rw [hroute, if_pos h1]
    · rw [hroute, if_neg (not_not_intro h1), if_pos h2]
    · rw [hroute, if_neg (not_not_intro h1), if_neg h2, if_pos h3]
    · rw [hroute, if_neg (not_not_intro h1), if_neg h2, if_neg (by omega)]
  have byPath (c : Instr) (k : Nat × Nat) (ht : k.1 = 1 ∨ k.1 = 4 ∨ k.1 = 5 ∨ k.1 = 7)
      (h : exec c s = s.at_ (72 + p) (fun d => d.frameIn p f k (fun d => d.sourced p f))) : pathed c k := by
    intro hk
    have path (hq : f.lseq = (s.d.port p).rseq) {e : Die} (he : took.sourced p f = e) : ends c e := goes c k (fun d => d.sourced p f) ht h hk hq he
    have gap (hq : f.lseq ≠ (s.d.port p).rseq) : s.d.frameIn p f k (fun d => d.sourced p f) = got.gap p := by
      rw [Die.frameIn_sequenced hup hs hb hh hp hn hk ht, if_neg hq, show s.d.frameTaken p f = got from rfl]
    refine ⟨fun hq hlt => ?on, fun hq hle => ?atEnd, fun hq => ?lost⟩
    case on => exact path hq (Die.sourced_on hlt)
    case atEnd => exact path hq (Die.sourced_end (Nat.not_lt.2 hle))
    case lost => exact (hex c k (fun d => d.sourced p f) h).trans (State.next_onD_congr (g := fun _ => got.gap p) (gap hq))
  exact ⟨plain (.heartbeat p f) (6, 0) (fun d => d.meet p f (bit (f.w 5) 26)) (by decide) rfl,
    plain (.credit p f) (2, 0) (fun d => d.takeCredit p f) (by decide) rfl,
    byRoute (.dataSheet p f) (1, 0) (fun d => d.takeSheet p f) (by decide) rfl, byRoute (.dataSkim p f) (1, 1) (fun d => d.takeSkim f) (by decide) rfl,
    byRoute (.dataHost p f) (1, 2) (fun d => d.toRing f) (by decide) rfl, byRoute (.fabGrant p f) (7, 0) (fun d => d.takeColl f) (by decide) rfl,
    byRoute (.final p f) (7, 1) (fun d => d.takeColl f) (by decide) rfl, byRoute (.repeatStream p f) (7, 2) (fun d => d.takeColl f) (by decide) rfl,
    byRoute (.collAbort p f) (7, 3) (fun d => d.takeColl f) (by decide) rfl, byPath (.query p f) (4, 0) (by decide) rfl,
    byPath (.report p f) (4, 1) (by decide) rfl, byPath (.assign p f) (4, 2) (by decide) rfl, byPath (.addrAck p f) (4, 3) (by decide) rfl,
    byPath (.fence p f) (4, 4) (by decide) rfl, byPath (.linkEvent p f) (4, 5) (by decide) rfl, byPath (.routeWrite p f) (5, 0) (by decide) rfl,
    byPath (.routeCommit p f) (5, 1) (by decide) rfl, byPath (.routeSync p f) (5, 2) (by decide) rfl⟩

end Sys2Proof
end

section
/-!
PROOFS. Address and route frames at their end, the heartbeats, and the transmit ring (10 R297-R304, R312-R316).
-/

namespace Sys2Proof.Machine

variable {d e : Die} {f : Frame} {es : List BurstErr}

/-! ## Frames taken at their end -/

theorem Die.takeAddr_query {p : Option Nat} (ht : f.ty = 4) (h : f.sub = 0) :
    d.takeAddr p f = (d.answer p f 1 d.reportBytes).ackFrame p f true := by
  unfold Die.takeAddr
  rw [if_pos ht, h]
  rfl

theorem Die.takeAddr_assign {p : Option Nat} (ht : f.ty = 4) (h : f.sub = 2) :
    d.takeAddr p f = if d.assignOk f then (d.assign f).ackFrame p f true else d.ackFrame p f false := by
  unfold Die.takeAddr
  rw [if_pos ht, h]
  rfl

theorem Die.takeAddr_fence {p : Option Nat} (ht : f.ty = 4) (h : f.sub = 4) :
    d.takeAddr p f = if d.fromCoord f then (d.setFence (word (f.be 0 4)) (word (f.be 4 4))).ackFrame p f true else d.ackFrame p f false := by
  unfold Die.takeAddr
  rw [if_pos ht, h]
  rfl

theorem Die.takeAddr_told {p : Option Nat} (ht : f.ty = 4) (h : f.sub = 1 ∨ f.sub = 3 ∨ f.sub = 5) : d.takeAddr p f = d.toRing f := by
  unfold Die.takeAddr
  rw [if_pos ht]
  obtain h | h | h := h <;> rw [h] <;> rfl

theorem Die.takeAddr_stranger {p : Option Nat} (ht : f.ty = 5) (h : d.fromCoord f = false) : d.takeAddr p f = d.ackFrame p f false := by
  unfold Die.takeAddr
  rw [ht, if_neg (by decide), h, if_neg Bool.false_ne_true]

/-- What a ROUTE frame of the coordinator does to the banks. -/
def Die.routeTaken (d : Die) (f : Frame) : Die :=
  if f.sub = 0 then d.routeWrite f
  else if f.sub = 1 then d.updFab (fun x => { x with route := d.fab.shadow, shadow := d.fab.route })
  else d.updFab (fun x => { x with shadow := d.fab.route })

theorem Die.takeAddr_route {p : Option Nat} (ht : f.ty = 5) (h : d.fromCoord f = true) (hs : f.sub = 0 ∨ f.sub = 1 ∨ f.sub = 2) :
    d.takeAddr p f = (d.routeTaken f).ackFrame p f true := by
  unfold Die.takeAddr Die.routeTaken
  rw [ht, if_neg (by decide), h, if_pos rfl]
  obtain h | h | h := hs <;> rw [h] <;> rfl

/-! ## Heartbeats -/

theorem Die.emit_keeps {α : Type} (g : Die → α) (h : ∀ (d : Die) x c, g { d with ports := x, ctr := c } = g d) (p : Nat) (f : Frame) :
    g (d.emit p f) = g d := h d _ _

theorem Die.port_emit (p : Nat) (f : Frame) (q : Nat) :
    (d.emit p f).port q = if q = p then { d.port p with wire := f :: (d.port p).wire } else d.port q :=
  Die.port_updPort d p q (fun x => { x with wire := f :: x.wire })

/-- A heartbeat leaves port `p`, if its link is UP and it runs. -/
def Die.beat (d : Die) (p : Nat) : Die := if d.up p ∧ d.live (72 + p) then d.emit p (d.greeting p 6 (b2n d.pw.asleep)) else d

/-- Part of the die that a heartbeat leaves: all but the ports and the counters. -/
theorem Die.beat_keeps {α : Type} (g : Die → α) (h : ∀ (d : Die) x c, g { d with ports := x, ctr := c } = g d) (p : Nat) : g (d.beat p) = g d := by
  unfold Die.beat
  split
  · exact Die.emit_keeps g h ..
  · rfl

theorem Die.port_beat_other {p q : Nat} (h : q ≠ p) : (d.beat p).port q = d.port q := by
  unfold Die.beat
  split
  · exact (Die.port_emit ..).trans (if_neg h)
  · rfl

theorem Die.port_beat_same {p : Nat} : (d.beat p).port p =
    if d.up p ∧ d.live (72 + p) then { d.port p with wire := d.greeting p 6 (b2n d.pw.asleep) :: (d.port p).wire } else d.port p := by
  unfold Die.beat
  split
  · exact (Die.port_emit ..).trans (if_pos rfl)
  · rfl

theorem Die.greeting_congr {p : Nat} (h1 : e.part = d.part) (h2 : e.fab = d.fab) (h3 : e.port p = d.port p) (ty n : Nat) :
    e.greeting p ty n = d.greeting p ty n := by
  unfold Die.greeting Die.mkFrame
  rw [h1, h2, h3]

/-- A round of heartbeats: each port that is UP and runs sends one. -/
theorem Die.port_beats (l : List Nat) (hl : l.Nodup) (d : Die) (q : Nat) : (l.foldl Die.beat d).port q =
    if q ∈ l ∧ d.up q = true ∧ d.live (72 + q) = true then { d.port q with wire := d.greeting q 6 (b2n d.pw.asleep) :: (d.port q).wire } else d.port q := by
  induction l generalizing d with
  | nil => exact (if_neg (fun h => List.not_mem_nil h.1)).symm
  | cons a t ih =>
    obtain ⟨hat, ht⟩ := List.nodup_cons.1 hl
    rw [List.foldl_cons, ih ht]
    by_cases hqa : q = a
    · subst hqa
      rw [if_neg (fun h => hat h.1), Die.port_beat_same]
      exact if_congr ⟨fun h => ⟨List.mem_cons_self, h⟩, fun h => h.2⟩ rfl rfl
    · have hport := Die.port_beat_other (d := d) hqa
      have hup : (d.beat a).up q = d.up q := congrArg (fun x : Port => decide (x.link = 4)) hport
      have hlive : (d.beat a).live (72 + q) = d.live (72 + q) := Die.beat_keeps (Die.live · (72 + q)) (fun _ _ _ => rfl) a
      have hpw : (d.beat a).pw = d.pw := Die.beat_keeps Die.pw (fun _ _ _ => rfl) a
      rw [hup, hlive, hport, hpw, Die.greeting_congr (Die.beat_keeps Die.part (fun _ _ _ => rfl) a) (Die.beat_keeps Die.fab (fun _ _ _ => rfl) a) hport]
      exact if_congr (and_congr_left (fun _ => by rw [List.mem_cons, or_iff_right hqa])) rfl rfl

theorem Die.beats_keeps {α : Type} (g : Die → α) (h : ∀ (d : Die) x c, g { d with ports := x, ctr := c } = g d) (l : List Nat) :
    g (l.foldl Die.beat d) = g d := foldl_keeps g (fun d p => Die.beat_keeps (d := d) g h p) l d

/-! ## The transmit ring -/

theorem Frame.setW_first {i : Nat} (v : Word) (h : i ≠ 0) : (f.setW i v).w 0 = f.w 0 := by
  unfold Frame.setW Frame.w
  simp [h.symm]

theorem Frame.seal_ty : f.seal.ty = f.ty := by
  unfold Frame.ty Frame.seal
  rw [Frame.setW_first _ (by decide), Frame.setW_first _ (by decide)]

/-- Frames that wait between the head and the tail of the transmit ring, in units. -/
def Die.txWaits (d : Die) : Nat := (fld (d.reg pgFab 0x124) 13 0 + 16384 - d.fab.txHead) % 16384

theorem Die.drainTx_none (h : d.txWaits = 0) (n : Nat) : d.drainTx es n = d := by
  cases n with
  | zero => rfl
  | succ n =>
    unfold Die.drainTx
    exact if_pos h

/-- The header words in 64 bytes of the ring. -/
def ringHeader (bs : List Byte) : List Word := (List.range 16).map (fun i => word (beNat ((bs.drop (4 * i)).take 4)))

theorem Die.txUnits_none (u : Nat) : d.txUnits u 0 es = (d, []) := rfl

/-- Units of the payload that the header at the head of the ring names. -/
def Die.txLen (d : Die) (es : List BurstErr) : Nat := fld ((ringHeader (d.txUnits d.fab.txHead 1 es).2).getD 0 0) 22 16

/-- The payload of the frame at the head of the ring, read behind its header. -/
def Die.txPayload (d : Die) (es : List BurstErr) : Die × List Byte := (d.txUnits d.fab.txHead 1 es).1.txUnits (d.fab.txHead + 1) (d.txLen es) es

/-- The transmit ring starts at unit `h`. -/
def Die.headTo (d : Die) (h : Nat) : Die := d.updFab (fun x => { x with txHead := h })

/-- The frame at the head, with `k` units of payload `x`, is handed on, and then at most `n` more. -/
def Die.handOn (d : Die) (es : List BurstErr) (k : Nat) (x : Die × List Byte) (n : Nat) : Die :=
  ((x.1.headTo ((d.fab.txHead + 1 + k) % 16384)).ringFrame { hdr := ringHeader (d.txUnits d.fab.txHead 1 es).2, pay := x.2 }).drainTx es n

theorem Die.drainTx_succ (n : Nat) : d.drainTx es (n + 1) =
    if d.txWaits = 0 then d
    else if d.txWaits < 1 + d.txLen es then (d.txUnits d.fab.txHead 1 es).1
    else d.handOn es (d.txLen es) (d.txPayload es) n := rfl

theorem Die.txPayload_none (hk : d.txLen es = 0) : d.txPayload es = ((d.txUnits d.fab.txHead 1 es).1, []) := by
  unfold Die.txPayload
  rw [hk, Die.txUnits_none]

theorem Die.handOn_none (n : Nat) (x : Die × List Byte) : d.handOn es 0 x n = ((x.1.headTo ((d.fab.txHead + 1) % 16384)).ringFrame
    { hdr := ringHeader (d.txUnits d.fab.txHead 1 es).2, pay := x.2 }).drainTx es n := rfl

/-- A frame of the header alone that is in the ring whole is handed on, and the ring goes on behind it. -/
theorem Die.drainTx_header (n : Nat) (h : d.txWaits = 1) (hk : d.txLen es = 0) :
    d.drainTx es (n + 1) = (((d.txUnits d.fab.txHead 1 es).1.headTo ((d.fab.txHead + 1) % 16384)).ringFrame
      { hdr := ringHeader (d.txUnits d.fab.txHead 1 es).2, pay := [] }).drainTx es n := by
  obtain ⟨b, hb⟩ : ∃ b, b = (d.txUnits d.fab.txHead 1 es).1 := ⟨_, rfl⟩
  rw [Die.drainTx_succ, if_neg (by rw [h]; decide), if_neg (by rw [h, hk]; decide), Die.txPayload_none hk, hk, ← hb, Die.handOn_none]

theorem Die.ringFrame_skipped (h1 : f.ty ≠ 1) (h4 : f.ty ≠ 4) (h5 : f.ty ≠ 5) : d.ringFrame f = d.count pgFab 7 := by
  have h1 : f.seal.ty ≠ 1 := by rwa [Frame.seal_ty]
  have h4 : f.seal.ty ≠ 4 := by rwa [Frame.seal_ty]
  have h5 : f.seal.ty ≠ 5 := by rwa [Frame.seal_ty]
  unfold Die.ringFrame
  exact (if_neg (fun h => h1 h.1)).trans (if_neg (fun h => h.elim h4 h5))

/-- The die of a pair that is made of another pair's die. -/
theorem Die.StkOnly.pair {β γ : Type} {x : Die × β} (h : Die.StkOnly d x.1) (y : γ) : Die.StkOnly d (x.1, y).1 := h

theorem Die.txUnits_stkOnly (u n : Nat) : Die.StkOnly d (d.txUnits u n es).1 := by
  unfold Die.txUnits
  exact Die.StkOnly.foldl (fun a i => Die.StkOnly.pair (.stackGet a.1 _ _ _ _) _) _ (d, [])

theorem fld_tail_word {n : Nat} (hn : n < 16384) : fld (word n) 13 0 = n := by
  simp only [fld, word, BitVec.toNat_ofNat, Nat.shiftRight_zero]
  omega

theorem fld_tail_lt (v : Word) : fld v 13 0 < 16384 := Nat.mod_lt _ (by decide)

theorem tail_reached {t h : Nat} (hw : (t + 16384 - h) % 16384 = 1) :
    (t + 16384 - (h + 1) % 16384) % 16384 = 0 := by omega

/-- With one unit in the ring, none is left behind it. -/
theorem Die.txWaits_headTo (hr : e.reg pgFab 0x124 = d.reg pgFab 0x124) (h : d.txWaits = 1) :
    ((e.headTo ((d.fab.txHead + 1) % 16384)).count pgFab 7).txWaits = 0 := by
  unfold Die.txWaits at h ⊢
  rw [show ((e.headTo ((d.fab.txHead + 1) % 16384)).count pgFab 7).reg pgFab 0x124 = d.reg pgFab 0x124 from hr,
    show ((e.headTo ((d.fab.txHead + 1) % 16384)).count pgFab 7).fab.txHead = (d.fab.txHead + 1) % 16384 from rfl]
  exact tail_reached h

/-- The unit at the head, of a type the ring does not accept and alone in the ring, is skipped and counted. -/
theorem Die.drainTx_skips (n : Nat) (h : d.txWaits = 1) (hk : d.txLen es = 0) {bs : List Byte} (hbs : (d.txUnits d.fab.txHead 1 es).2 = bs)
    (h1 : fld ((ringHeader bs).getD 0 0) 31 28 ≠ 1) (h4 : fld ((ringHeader bs).getD 0 0) 31 28 ≠ 4) (h5 : fld ((ringHeader bs).getD 0 0) 31 28 ≠ 5) :
    d.drainTx es (n + 1) = ((d.txUnits d.fab.txHead 1 es).1.headTo ((d.fab.txHead + 1) % 16384)).count pgFab 7 := by
  have hkeeps : (d.txUnits d.fab.txHead 1 es).1.reg pgFab 0x124 = d.reg pgFab 0x124 :=
    (Die.txUnits_stkOnly (d := d) (es := es) d.fab.txHead 1).keeps (Die.reg · pgFab 0x124) (fun _ _ _ _ _ _ _ => rfl)
  obtain ⟨b, hb⟩ : ∃ b, b = (d.txUnits d.fab.txHead 1 es).1 := ⟨_, rfl⟩
  rw [← hb] at hkeeps ⊢
  rw [Die.drainTx_header n h hk, ← hb, hbs, Die.ringFrame_skipped (f := { hdr := ringHeader bs, pay := [] }) h1 h4 h5, Die.drainTx_none (Die.txWaits_headTo hkeeps h)]

theorem Die.writeTxTail_eq (v : Word) : d.writeTxTail v es = ((d.setReg pgFab 0x124 (word (fld v 13 0))).drainTx es 16384).fabSettle := by
  delta Die.writeTxTail
  exact Eq.refl _

end Sys2Proof.Machine

namespace Sys2Proof
open Machine

/-- Settles O51: each frame at its end, each timer, and the ring's tail. -/
theorem fabricManagement : Obligations.fabric_management := by
  unfold Obligations.fabric_management
  refine ⟨fun d p f ht => ⟨Die.takeAddr_query ht, Die.takeAddr_told ht, fun h ho => ?_, fun h ho => ?_, fun h ho => ?_, fun h ho => ?_⟩,
    fun d p f ht => ⟨Die.takeAddr_stranger ht, fun hc => ⟨fun h => ?_, fun h => ?_, fun h => ?_⟩⟩,
    fun s => ⟨fun hl h1 h2 => ?coordinator, ?beats, fun p hl => ⟨fun hu hs => ?credit, fun h => ?noLimit, fun h hs => ?timeout⟩, fun ini v es had => ?ring⟩⟩
  · rw [Die.takeAddr_assign ht h, ho, if_pos rfl]
  · rw [Die.takeAddr_assign ht h, ho, if_neg Bool.false_ne_true]
  · rw [Die.takeAddr_fence ht h, ho, if_pos rfl]
  · rw [Die.takeAddr_fence ht h, ho, if_neg Bool.false_ne_true]
  · rw [Die.takeAddr_route ht hc (.inl h), Die.routeTaken, if_pos h]
  · rw [Die.takeAddr_route ht hc (.inr (.inl h)), Die.routeTaken, h, if_neg (by decide), if_pos rfl]
  · rw [Die.takeAddr_route ht hc (.inr (.inr h)), Die.routeTaken, h, if_neg (by decide), if_neg (by decide)]
  case coordinator =>
    exact (exec_at_live (f := fun d => if d.fab.best.1 = d.part.serial.toNat ∧ d.fab.coord = false then
      d.updFab (fun x => { x with coord := true, event := x.event ||| 1 }) else d) rfl hl).trans (State.next_onD_congr (if_pos ⟨h1, h2⟩))
  case beats =>
    obtain ⟨e, he⟩ : ∃ e : Die, e = (List.range 16).foldl Die.beat s.d := ⟨_, rfl⟩
    have hport (q : Nat) := Die.port_beats (List.range 16) List.nodup_range s.d q
    rw [← he] at hport
    have keeps {α : Type} (g : Die → α) (h : ∀ (d : Die) x c, g { d with ports := x, ctr := c } = g d) : g e = g s.d := by
      rw [he]
      exact Die.beats_keeps g h _
    refine ⟨s.onD (fun _ => e), ?_, fun p hp hu hl => ?_, fun p hq => ?_, keeps Die.mem (fun _ _ _ => rfl), keeps Die.regs (fun _ _ _ => rfl),
      keeps Die.fab (fun _ _ _ => rfl), rfl⟩
    · rw [he]
      rfl
    · refine (congrArg Port.wire (hport p)).trans ?_
      rw [if_pos ⟨List.mem_range.2 hp, hu, hl⟩]
    · refine (hport p).trans (if_neg ?_)
      rintro ⟨hp, hu, hl⟩
      obtain h | h | h := hq
      · exact absurd (List.mem_range.1 hp) (Nat.not_lt.2 h)
      · exact Bool.false_ne_true (h.symm.trans hu)
      · exact Bool.false_ne_true (h.symm.trans hl)
  case credit =>
    refine (exec_at_live (f := fun d => if d.up p ∧ !d.pw.asleep then d.sendCredit p false else d) rfl hl).trans (State.next_onD_congr (if_pos ⟨hu, ?_⟩))
    rw [hs]
    rfl
  case noLimit =>
    exact (exec_at_live (f := fun d => if d.reg pgFab 0x138 = 0 ∨ d.pw.asleep then d else (d.collFail p 0x14 false).fabSettle) rfl hl).trans
      (State.next_onD_congr (g := id) (if_pos (.inl h)))
  case timeout =>
    refine (exec_at_live (f := fun d => if d.reg pgFab 0x138 = 0 ∨ d.pw.asleep then d else (d.collFail p 0x14 false).fabSettle) rfl hl).trans
      (State.next_onD_congr (if_neg ?_))
    rintro (h' | h')
    · exact h h'
    · exact Bool.false_ne_true (hs.symm.trans h')
  case ring =>
    intro r h set b hdr
    have hex : exec (.txTail ini v es) s = .next (r.onD (fun _ => (set.drainTx es 16384).fabSettle)) :=
      (exec_cplD_served (f := fun d => d.writeTxTail v es) rfl had).trans (State.next_onD_congr (Die.writeTxTail_eq v))
    have hhead : set.fab.txHead = h := congrArg Fab.txHead (s.reached_keeps ini pgFab Die.fab (fun _ _ _ _ _ => rfl))
    have htail : fld (set.reg pgFab 0x124) 13 0 = fld v 13 0 := by
      rw [show set.reg pgFab 0x124 = word (fld v 13 0) from Die.reg_setReg_same _, fld_tail_word (fld_tail_lt v)]
    have hwaits : set.txWaits = (fld v 13 0 + 16384 - h) % 16384 := by
      unfold Die.txWaits
      rw [hhead, htail]
    have ends {e : Die} (he : set.drainTx es 16384 = e) : exec (.txTail ini v es) s = .next (r.onD (fun _ => e.fabSettle)) := by
      rw [hex, he]
    refine ⟨hex, fun hv => ends (Die.drainTx_none ?_ _), fun hh hv hk h1 h4 h5 => ends ?_⟩
    · rw [hwaits, hv, Nat.add_sub_cancel_left]
    · have hone : set.txWaits = 1 := by
        rw [hwaits, hv]
        omega
      have hskips := Die.drainTx_skips (d := set) (es := es) 16383 hone (by rw [Die.txLen, hhead]; exact hk) rfl
        (by rw [hhead]; exact h1) (by rw [hhead]; exact h4) (by rw [hhead]; exact h5)
      rw [hhead] at hskips
      exact hskips

end Sys2Proof
end

section
/-!
PROOFS. The securing controller's configuration words, slots and records (11 R329-R335).
-/

namespace Sys2Proof.Machine

variable {d e : Die} {j n : Nat}

/-! ## Configuration words -/

theorem Die.flW_setFlW (j w v : Nat) (x : Word) : (d.setFlW j w x).flW j v = if v = w then x else d.flW j v := by
  unfold Die.flW Die.setFlW
  dsimp only
  split
  next h =>
    subst h
    exact sget_sset_same ..
  next h => exact sget_sset_other _ _ _ _ (fun h' => h (Nat.add_left_cancel h'))

theorem fld_setFld_low (x : Word) (v : Nat) : fld (setFld x 3 0 v) 3 0 = v % 16 := by
  have hx := x.isLt
  simp only [fld, setFld, BitVec.toNat_ofNat, Nat.shiftRight_zero, Nat.shiftLeft_zero]
  omega

theorem Die.flPhase_setPhase (j p : Nat) : (d.setPhase j p).flPhase j = p % 16 := by
  unfold Die.flPhase Die.setPhase
  rw [Die.flW_setFlW, if_pos rfl, fld_setFld_low]

theorem Die.flVersion_setPhase (j p : Nat) : (d.setPhase j p).flVersion j = d.flVersion j := by
  unfold Die.flVersion Die.setPhase
  rw [Die.flW_setFlW, if_neg (by decide)]

theorem fld_version_word {v : Nat} (h : v < 65536) : fld (packW [(0, v)]) 15 0 = v := by
  simp only [fld, packW, pack, word, BitVec.toNat_ofNat, Nat.shiftRight_zero, Nat.shiftLeft_zero]
  omega

theorem Die.flVersion_set {v : Nat} (h : v < 65536) : (d.setFlW j 9 (packW [(0, v)])).flVersion j = v := by
  unfold Die.flVersion
  rw [Die.flW_setFlW, if_pos rfl, fld_version_word h]

/-! ## The header of a slot -/

theorem sgetList_ssetList_head (m : Store Byte) (k : Nat) (vs : List Byte) {c : Nat} (h : c ≤ vs.length) :
    sgetList (ssetList m 0 k vs) 0 k c = vs.take c := by
  refine List.ext_getElem (by simp [sgetList, h]) (fun i hi hi' => ?_)
  have hc : i < c := by simpa [sgetList] using hi
  simp only [sgetList, List.getElem_map, List.getElem_range, List.getElem_take]
  rw [sget_ssetList, if_pos (by omega), Nat.add_sub_cancel_left, List.getD_eq_getElem _ _ (by omega)]

theorem word_leNat_leBytes (v : Word) : word (leNat (leBytes 4 v.toNat)) = v := by
  rw [leNat_leBytes, Nat.mod_eq_of_lt v.isLt, word, BitVec.ofNat_toNat, BitVec.setWidth_eq]

/-- The bytes of header words 0 to 62. -/
def headerBytes (ws : List Word) : List Byte := (List.range 63).flatMap (fun i => leBytes 4 (ws.getD i 0).toNat)

theorem headerBytes_first (ws : List Word) (t : List Byte) : (headerBytes ws ++ t).take 4 = leBytes 4 (ws.getD 0 0).toNat := by
  unfold headerBytes
  rw [List.range_succ_eq_map, List.flatMap_cons, List.append_assoc, List.take_append_of_le_length (by rw [length_leBytes]),
    List.take_of_length_le (by rw [length_leBytes])]

theorem length_headerBytes (ws : List Word) : (headerBytes ws).length = 252 := by
  unfold headerBytes
  simp [List.length_flatMap]

theorem Die.slotState_writeHeader (ws : List Word) : (d.writeHeader j n ws).slotState j n = fld (ws.getD 0 0) 15 8 := by
  have hflash : (d.writeHeader j n ws).flash = ssetList (sclear d.flash (d.slotAddr j n) 65536) 0 (d.slotAddr j n)
      (headerBytes ws ++ leBytes 4 (crc32 (headerBytes ws)).toNat) := by
    unfold Die.writeHeader Die.flashWrite headerBytes
    dsimp only
  have haddr : (d.writeHeader j n ws).slotAddr j n = d.slotAddr j n := rfl
  unfold Die.slotState Die.slotW Die.flashBytes
  rw [haddr, Nat.mul_zero, Nat.add_zero, hflash, sgetList_ssetList_head _ _ _ (by rw [List.length_append, length_headerBytes]; omega),
    headerBytes_first, word_leNat_leBytes]

/-- Where a slot lies and what its header says do not depend on the words of the record of the version. -/
theorem Die.slotState_setFlW {w : Nat} (x : Word) (h : w = 9 ∨ w = 10) (n : Nat) : (d.setFlW j w x).slotState j n = d.slotState j n := by
  have hw (v : Nat) (hv : v = 2 ∨ v = 12 ∨ v = 13) : (d.setFlW j w x).flW j v = d.flW j v := by
    rw [Die.flW_setFlW, if_neg (by omega)]
  unfold Die.slotState Die.slotW Die.flashBytes Die.slotAddr Die.slotUnits Die.flP
  rw [hw 2 (.inl rfl), hw 12 (.inr (.inl rfl)), hw 13 (.inr (.inr rfl))]
  rfl

theorem Die.newHeader_state (hj : j < 32) (v : Nat) : fld ((d.newHeader j v).getD 0 0) 15 8 = 1 := by
  have hr : d.flRank j < 8 := Nat.mod_lt _ (by decide)
  have hword : (d.newHeader j v).getD 0 0 = packW [(16, 1), (8, 1), (5, d.flRank j), (0, j)] := by
    unfold Die.newHeader
    simp only [List.append_assoc, List.cons_append, List.getD_cons_zero]
  rw [hword]
  simp only [fld, packW, pack, word, BitVec.toNat_ofNat, Nat.shiftRight_eq_div_pow, Nat.shiftLeft_eq]
  omega

/-! ## What each step of the controller leaves -/

theorem Die.setFlW_sg (w : Nat) (x : Word) : (d.setFlW j w x).sg = d.sg := rfl

theorem Die.writeHeader_keeps {α : Type} (g : Die → α) (h : ∀ (d : Die) f, g { d with flash := f } = g d) (ws : List Word) :
    g (d.writeHeader j n ws) = g d := h d _

theorem Die.setSlotState_keeps {α : Type} (g : Die → α) (h : ∀ (d : Die) f, g { d with flash := f } = g d) (st : Nat) :
    g (d.setSlotState j n st) = g d := h d _

theorem Die.sgEnd_keeps {α : Type} (g : Die → α) (h : ∀ (d : Die) p x, g { d with ports := p, sg := x } = g d) (r : Nat) : g (d.sgEnd r) = g d :=
  (h ((List.range 16).foldl Die.sgCancel d) ((List.range 16).foldl Die.sgCancel d).ports _).trans
    (foldl_keeps g (fun d p => h d (d.sgCancel p).ports d.sg) (List.range 16) d)

theorem Die.noteChanged_keeps {α : Type} (g : Die → α) (h : ∀ (d : Die) x, g { d with changed := x } = g d) (p : Nat) (b : Bool) :
    g (d.noteChanged j p b) = g d := by
  unfold Die.noteChanged
  split
  · rfl
  · exact h d _

theorem Die.undoDelta_keeps {α : Type} (g : Die → α) (h : ∀ (d : Die) c x, g { d with changed := c, sg := x } = g d) : g (d.undoDelta j) = g d := by
  unfold Die.undoDelta
  exact (h _ _ _).trans (foldl_keeps g (fun d (x : Nat × Nat) => Die.noteChanged_keeps g (fun d c => h d c d.sg) x.2 true) _ d)

theorem Die.pruneSlots_keeps {α : Type} (g : Die → α) (h : ∀ (d : Die) f, g { d with flash := f } = g d) (m : Nat) (d : Die) :
    g (d.pruneSlots j m) = g d := by
  induction m generalizing d with
  | zero => rfl
  | succ m ih =>
    unfold Die.pruneSlots
    dsimp only
    split
    · rfl
    · split
      · rfl
      · exact (ih _).trans (Die.setSlotState_keeps g h 0)

/-- A slot, if there is one, takes a state. -/
def Die.turnSlot (d : Die) (j : Nat) (o : Option Nat) (st : Nat) : Die :=
  match o with
  | none => d
  | some k => d.setSlotState j k st

/-- The slots of the version before and of the new version take their states. -/
def Die.turnSlots (d : Die) (j old : Nat) : Die := (d.turnSlot j (d.slotOf j (d.flVersion j)) old).turnSlot j (d.newSlot j) 3

theorem Die.turnSlot_keeps {α : Type} (g : Die → α) (h : ∀ (d : Die) f, g { d with flash := f } = g d) (o : Option Nat) (st : Nat) (d : Die) :
    g (d.turnSlot j o st) = g d := by
  cases o with
  | none => rfl
  | some k => exact Die.setSlotState_keeps g h st

theorem Die.turnSlots_keeps {α : Type} (g : Die → α) (h : ∀ (d : Die) f, g { d with flash := f } = g d) (old : Nat) : g (d.turnSlots j old) = g d :=
  (Die.turnSlot_keeps g h _ 3 _).trans (Die.turnSlot_keeps g h _ old d)

theorem Die.makeCurrent_eq (old : Nat) : d.makeCurrent j old =
    (((d.turnSlots j old).setFlW j 9 (packW [(0, fld (d.flW j 10) 31 16)])).setPhase j 0).updSg
      (fun g => { g with delta := g.delta.filter (fun x => decide (x.1 ≠ j)) }) := rfl

theorem Die.makeCurrent_keeps {α : Type} (g : Die → α) (h : ∀ (d : Die) f c x, g { d with flash := f, flCfg := c, sg := x } = g d) (old : Nat) :
    g (d.makeCurrent j old) = g d := by
  rw [Die.makeCurrent_eq]
  have hcfg (e : Die) (w : Nat) (x : Word) : g (e.setFlW j w x) = g e := h e e.flash _ e.sg
  have hsg (e : Die) (f : Sg → Sg) : g (e.updSg f) = g e := h e e.flash e.flCfg _
  rw [hsg, Die.setPhase, hcfg, hcfg]
  exact Die.turnSlots_keeps g (fun d f => h d f d.flCfg d.sg) old

theorem Die.makeCurrent_phase (old : Nat) : (d.makeCurrent j old).flPhase j = 0 := by
  rw [Die.makeCurrent_eq]
  exact Die.flPhase_setPhase j 0

theorem Die.makeCurrent_version (old : Nat) : (d.makeCurrent j old).flVersion j = fld (d.flW j 10) 31 16 := by
  rw [Die.makeCurrent_eq]
  refine (Die.flVersion_setPhase j 0).trans (Die.flVersion_set ?_)
  exact Nat.mod_lt _ (by decide)

end Sys2Proof.Machine
end

section
/-!
PROOFS. The commands and the ends of the securing controller (11 R329-R333).
-/

namespace Sys2Proof.Machine

variable {d e : Die} {j n : Nat} {es : List BurstErr}

/-! ## A write of the command register -/

/-- What a command of the controller does when none runs. -/
def Die.sgRun (d : Die) (op j : Nat) : Die :=
  match op with
  | 1 => d.sgCapture j
  | 2 => d.sgFold j 0
  | 3 => d.sgFold j 1
  | 4 => if d.flPhase j = 3 then d.sgBegin 4 j else d.sgRefuse 4 1
  | 5 => d.sgBegin 5 j
  | 6 => d.sgServe j
  | 7 => d.sgFill j
  | 8 => d.sgRebuild j
  | 9 => d.sgRestore j
  | 10 => d.sgResume j
  | 11 => d.updSg (fun s => { s with donePend := false })
  | _ => d

theorem Die.sgCmd_idle (h : d.sg.busy = false) (op : Nat) : d.sgCmd op j = d.sgRun op j := if_neg (by rw [h]; decide)

theorem Die.sgCmd_busy (h : d.sg.busy = true) (op : Nat) : d.sgCmd op j = d.refuse := if_pos h

/-- A command that ends at once leaves nothing to move. -/
theorem Die.sgMove_idle (h : d.sg.busy = false) (x : Option (List BurstErr)) : d.sgMove x = d :=
  if_neg (fun h' => Bool.false_ne_true (h.symm.trans h'.1))

/-! ## CAPTURE begins -/

/-- The version in progress is named, and its slot marked as being written. -/
def Die.captureBegun (d : Die) (j n : Nat) : Die :=
  let v := (d.flVersion j + 1) % 65536
  let d := (d.sgBegin 1 j).updSg (fun s => { s with slot := n, version := v })
  let d := d.writeHeader j n (d.newHeader j v)
  d.setFlW j 10 (setFld (d.flW j 10) 31 16 v)

/-- A dirty resident page asks for its write-back. -/
def Die.captureAsk (d : Die) (j s : Nat) : Die :=
  match d.objKey j (fld (d.flW j 1) 22 0 + s) with
  | none => d
  | some k => match d.obj k with
    | none => d
    | some o => if o.st = .resident ∧ o.dirty ∧ d.requested k = false then
        (d.updObj k (fun o => { o with rewritten := false })).request .writeback k o j
      else d

theorem Die.Paged.captureAsk (d : Die) (j s : Nat) : Die.Paged d (d.captureAsk j s) := by
  unfold Die.captureAsk
  split
  · exact .refl d
  · split
    · exact .refl d
    · exact .ite ((Die.Paged.updObj ..).trans (.request ..)) (.refl d)

/-- CAPTURE on a slot: what it has begun, and its requests. -/
def Die.captured (d : Die) (j n : Nat) : Die :=
  (List.range ((d.captureBegun j n).flP j)).foldl (fun d s => d.captureAsk j s) (d.captureBegun j n)

theorem Die.sgCapture_refused (h : d.flPhase j ≠ 0 ∨ d.sg.due.toNat.testBit j = false) : d.sgCapture j = d.sgRefuse 1 1 := if_pos h

theorem Die.sgCapture_full (h : d.flPhase j = 0) (hd : d.sg.due.toNat.testBit j = true) (hn : d.freeSlot j = none) : d.sgCapture j = d.sgRefuse 1 9 := by
  unfold Die.sgCapture
  rw [if_neg (by rw [hd]; rintro (h' | h'); exacts [h' h, Bool.false_ne_true h'.symm]), hn]

theorem Die.sgCapture_begins (h : d.flPhase j = 0) (hd : d.sg.due.toNat.testBit j = true) (hn : d.freeSlot j = some n) :
    d.sgCapture j = d.captured j n := by
  unfold Die.sgCapture
  rw [if_neg (by rw [hd]; rintro (h' | h'); exacts [h' h, Bool.false_ne_true h'.symm]), hn]
  rfl

theorem Die.captured_paged : Die.Paged (d.captureBegun j n) (d.captured j n) := Die.Paged.foldl (fun d s => .captureAsk d j s) _ _

theorem Die.captureBegun_state (hj : j < 32) : (d.captureBegun j n).slotState j n = 1 := by
  unfold Die.captureBegun
  dsimp only
  rw [Die.slotState_setFlW _ (.inr rfl), Die.slotState_writeHeader, Die.newHeader_state hj]

/-- The controller's record as a CAPTURE begins. -/
def Die.captureSg (d : Die) (j n : Nat) : Sg := { (d.sgBegin 1 j).sg with slot := n, version := (d.flVersion j + 1) % 65536 }

theorem Die.captureBegun_keeps {α : Type} (g : Die → α) (h : ∀ (d : Die) f c x, g { d with flash := f, flCfg := c, sg := x } = g d) :
    g (d.captureBegun j n) = g d := by
  have hcfg (e : Die) (w : Nat) (x : Word) : g (e.setFlW j w x) = g e := h e e.flash _ e.sg
  have hsg (e : Die) (f : Sg → Sg) : g (e.updSg f) = g e := h e e.flash e.flCfg _
  unfold Die.captureBegun
  dsimp only
  rw [hcfg, Die.writeHeader_keeps g (fun d f => h d f d.flCfg d.sg), hsg, Die.sgBegin, hsg]

theorem Die.captureBegun_sg : (d.captureBegun j n).sg = d.captureSg j n := by
  unfold Die.captureBegun
  dsimp only
  rw [Die.setFlW_sg, Die.writeHeader_keeps Die.sg (fun _ _ => rfl)]
  rfl

/-! ## The folds begin -/

theorem Die.sgFold_refused {p : Nat} (h : d.flPhase j ≠ p + 1) : d.sgFold j p = d.sgRefuse (2 + p) 1 := if_pos h

theorem Die.sgFold_begins {p : Nat} (h : d.flPhase j = p + 1) : d.sgFold j p = (d.sgBegin (2 + p) j).updSg (fun g => { g with
    sends := (List.range (d.flP j)).map (fun s => (d.commOut j ((s + p) % 8), s, 4 + p))
    recvs := (d.heldStripes j p).flatMap (fun s => (List.range 8).map (fun i => (d.commIn j i, s, p, i)))
    version := fld (d.flW j 10) 31 16 }) := if_neg (fun h' => h' h)

/-! ## SG_OPERATION_END -/

/-- What an operation does when it has no page left to send or receive. -/
def Die.sgGoesOn (d : Die) (es : List BurstErr) (op j : Nat) : Die :=
  match op with
  | 1 =>
    if d.captureWaits j ∨ (d.sg.index < d.flP j ∧ !d.protClear j d.sg.index) then d
    else if d.sg.index < d.flP j then d.capturePage j d.sg.index es
    else d.endCapture j
  | 2 => ((d.setPhase j 2).clearDue j).sgEnd 0
  | 3 => (d.setPhase j 3).sgEnd 0
  | 4 => d.endCommit j
  | 5 => d.endAbandon j
  | 7 => d.endFill j
  | 9 => if d.sg.index < d.flP j then d.restorePage j d.sg.index else d.endRestore j
  | 10 => d.endResume j
  | _ => d.sgEnd 0

theorem Die.sgSend_nothing (h : d.sg.sends = []) (x : Option (List BurstErr)) : d.sgSend x = d := by
  unfold Die.sgSend
  dsimp only
  rw [h]

theorem Die.sgRecv_nothing (h : d.sg.recvs = []) (x : Option (List BurstErr)) : d.sgRecv x = d := by
  unfold Die.sgRecv
  dsimp only
  rw [h]

theorem Die.sgMove_nothing (hs : d.sg.sends = []) (hr : d.sg.recvs = []) (x : Option (List BurstErr)) : d.sgMove x = d := by
  unfold Die.sgMove
  rw [Die.sgSend_nothing hs, Die.sgRecv_nothing hr, Die.sgSend_nothing hs, Die.sgRecv_nothing hr, ite_self]

theorem Die.sgFinish_idle (h : d.sg.busy = false) : d.sgFinish es = d := if_pos (.inl (by rw [h]; rfl))

theorem Die.sgFinish_goesOn (hb : d.sg.busy = true) (hs : d.sg.sends = []) (hr : d.sg.recvs = []) :
    d.sgFinish es = d.sgGoesOn es d.sg.op d.sg.job :=
  if_neg (by
    rw [hb, hs, hr]
    rintro (h | h | h)
    · exact Bool.false_ne_true h
    · exact h rfl
    · exact h rfl)

/-- SG_OPERATION_END: the operation moves on by a page, or ends. -/
def Die.operationEnd (d : Die) (es : List BurstErr) : Die := (d.sgMove (some es)).sgFinish es

theorem Die.operationEnd_idle (h : d.sg.busy = false) : d.operationEnd es = d := by
  unfold Die.operationEnd
  rw [Die.sgMove_idle h, Die.sgFinish_idle h]

theorem Die.operationEnd_goesOn (hb : d.sg.busy = true) (hs : d.sg.sends = []) (hr : d.sg.recvs = []) :
    d.operationEnd es = d.sgGoesOn es d.sg.op d.sg.job := by
  unfold Die.operationEnd
  rw [Die.sgMove_nothing hs hr, Die.sgFinish_goesOn hb hs hr]

/-- The controller ends with a result and a phase; memory and registers are what they were. -/
def Die.EndsWith (d e : Die) (result phase j : Nat) : Prop :=
  e.sg.busy = false ∧ e.sg.donePend = true ∧ e.sg.result = result ∧ e.flPhase j = phase ∧ e.mem = d.mem ∧ e.regs = d.regs

theorem Die.sgEnd_endsWith {r p : Nat} (hp : e.flPhase j = p) (hm : e.mem = d.mem) (hr : e.regs = d.regs) : d.EndsWith (e.sgEnd r) r p j :=
  ⟨rfl, rfl, rfl, (Die.sgEnd_keeps (Die.flPhase · j) (fun _ _ _ => rfl) r).trans hp, (Die.sgEnd_keeps Die.mem (fun _ _ _ => rfl) r).trans hm,
    (Die.sgEnd_keeps Die.regs (fun _ _ _ => rfl) r).trans hr⟩

theorem Die.sgEnd_version {v : Nat} (h : e.flVersion j = v) (r : Nat) : (e.sgEnd r).flVersion j = v :=
  (Die.sgEnd_keeps (Die.flVersion · j) (fun _ _ _ => rfl) r).trans h

theorem Die.sgEnd_due (r : Nat) : (d.sgEnd r).sg.due = d.sg.due := foldl_keeps (fun d : Die => d.sg.due) (fun _ _ => rfl) (List.range 16) d

theorem Die.clearDue_bit (hj : j < 32) : (d.clearDue j).sg.due.toNat.testBit j = false := by
  show (d.sg.due &&& ~~~(BitVec.ofNat 32 (2 ^ j))).toNat.testBit j = false
  rw [BitVec.testBit_toNat, BitVec.getLsbD_and, BitVec.getLsbD_not, BitVec.getLsbD_ofNat, Nat.testBit_two_pow_self]
  simp [hj]

/-! ## Each end -/

theorem Die.endCapture_ends : d.EndsWith (d.endCapture j) 0 1 j := by
  have hmem := Die.setSlotState_keeps (d := d) (j := j) (n := d.sg.slot) Die.mem (fun _ _ => rfl) 2
  have hregs := Die.setSlotState_keeps (d := d) (j := j) (n := d.sg.slot) Die.regs (fun _ _ => rfl) 2
  unfold Die.endCapture
  generalize d.setSlotState j d.sg.slot 2 = e at *
  exact Die.sgEnd_endsWith (Die.flPhase_setPhase j 1) hmem hregs

theorem Die.endFold0_ends : d.EndsWith (((d.setPhase j 2).clearDue j).sgEnd 0) 0 2 j := Die.sgEnd_endsWith (Die.flPhase_setPhase j 2) rfl rfl

theorem Die.endFold1_ends : d.EndsWith ((d.setPhase j 3).sgEnd 0) 0 3 j := Die.sgEnd_endsWith (Die.flPhase_setPhase j 3) rfl rfl

/-- COMMIT's slots, before it is counted and ends. -/
def Die.committed (d : Die) (j : Nat) (keep : Bool) : Die :=
  let d := d.makeCurrent j (if keep then 4 else 0)
  if keep then d.pruneSlots j 256 else d

theorem Die.committed_keeps {α : Type} (g : Die → α) (h : ∀ (d : Die) f, g { d with flash := f } = g d) (keep : Bool) :
    g (d.committed j keep) = g (d.makeCurrent j (if keep then 4 else 0)) := by
  unfold Die.committed
  split
  · exact Die.pruneSlots_keeps g h _ _
  · rfl

/-- The version before is to be retained. -/
def Die.retains (d : Die) (j : Nat) : Bool := decide (fld (d.flW j 8) 23 16 ≠ 0) && decide (d.flVersion j % fld (d.flW j 8) 23 16 = 0)

theorem Die.endCommit_eq : d.endCommit j = ((d.committed j (d.retains j)).count pgFlash 1).sgEnd 0 := by
  delta Die.endCommit Die.committed Die.retains
  exact Eq.refl _

theorem Die.endCommit_ends : d.EndsWith (d.endCommit j) 0 0 j ∧ (d.endCommit j).flVersion j = fld (d.flW j 10) 31 16 := by
  rw [Die.endCommit_eq]
  generalize d.retains j = keep
  have hphase := (Die.committed_keeps (d := d) (Die.flPhase · j) (fun _ _ => rfl) keep).trans (Die.makeCurrent_phase _)
  have hversion := (Die.committed_keeps (d := d) (Die.flVersion · j) (fun _ _ => rfl) keep).trans (Die.makeCurrent_version _)
  have hmem := (Die.committed_keeps (d := d) (j := j) Die.mem (fun _ _ => rfl) keep).trans (Die.makeCurrent_keeps Die.mem (fun _ _ _ _ => rfl) _)
  have hregs := (Die.committed_keeps (d := d) (j := j) Die.regs (fun _ _ => rfl) keep).trans (Die.makeCurrent_keeps Die.regs (fun _ _ _ _ => rfl) _)
  generalize d.committed j keep = e at *
  exact ⟨Die.sgEnd_endsWith hphase hmem hregs, Die.sgEnd_version hversion 0⟩

/-- The slot that an abandoned version holds. -/
def Die.abandonedSlot (d : Die) (j v : Nat) : Option Nat :=
  (d.slotsOf j).find? (fun k => decide (1 ≤ d.slotState j k ∧ d.slotState j k ≤ 2) && decide (fld (d.slotW j k 3) 15 0 = v))

/-- ABANDON's versions and slots, before it is counted and ends. -/
def Die.abandoned (d : Die) (j v : Nat) : Die :=
  if 2 ≤ d.flPhase j then d.makeCurrent j 4 else (d.undoDelta j).turnSlot j ((d.undoDelta j).abandonedSlot j v) 0

theorem Die.endAbandon_eq : d.endAbandon j =
    ((((d.abandoned j (fld (d.flW j 10) 31 16)).setPhase j 0).count pgFlash 2).sgLog 3 j (fld (d.flW j 10) 31 16) 0).sgEnd 0 := rfl

theorem Die.abandoned_keeps {α : Type} (g : Die → α) (h : ∀ (d : Die) f c x y, g { d with flash := f, flCfg := c, changed := x, sg := y } = g d) (v : Nat) :
    g (d.abandoned j v) = g d := by
  unfold Die.abandoned
  split
  · exact Die.makeCurrent_keeps g (fun d f c y => h d f c d.changed y) 4
  · exact (Die.turnSlot_keeps g (fun d f => h d f d.flCfg d.changed d.sg) _ 0 _).trans (Die.undoDelta_keeps g (fun d x y => h d d.flash d.flCfg x y))

theorem Die.abandoned_version (v : Nat) :
    (d.abandoned j v).flVersion j = if 2 ≤ d.flPhase j then fld (d.flW j 10) 31 16 else d.flVersion j := by
  unfold Die.abandoned
  split
  · exact Die.makeCurrent_version 4
  · exact (Die.turnSlot_keeps (Die.flVersion · j) (fun _ _ => rfl) _ 0 _).trans (Die.undoDelta_keeps (Die.flVersion · j) (fun _ _ _ => rfl))

theorem Die.endAbandon_ends : d.EndsWith (d.endAbandon j) 0 0 j ∧
    (d.endAbandon j).flVersion j = if 2 ≤ d.flPhase j then fld (d.flW j 10) 31 16 else d.flVersion j := by
  rw [Die.endAbandon_eq]
  generalize hv : fld (d.flW j 10) 31 16 = v
  have hversion := Die.abandoned_version (d := d) (j := j) v
  have hmem := Die.abandoned_keeps (d := d) (j := j) Die.mem (fun _ _ _ _ _ => rfl) v
  have hregs := Die.abandoned_keeps (d := d) (j := j) Die.regs (fun _ _ _ _ _ => rfl) v
  rw [hv] at hversion
  generalize d.abandoned j v = e at *
  have hlog {α : Type} (g : Die → α) (h : ∀ (d : Die) c f l x, g { d with ctr := c, free := f, flLog := l, sg := x } = g d) (e : Die) :
      g ((e.count pgFlash 2).sgLog 3 j v 0) = g e := h e _ _ _ _
  refine ⟨Die.sgEnd_endsWith ?_ ?_ ?_, Die.sgEnd_version ?_ 0⟩
  · exact (hlog (Die.flPhase · j) (fun _ _ _ _ _ => rfl) _).trans (Die.flPhase_setPhase j 0)
  · exact (hlog Die.mem (fun _ _ _ _ _ => rfl) _).trans hmem
  · exact (hlog Die.regs (fun _ _ _ _ _ => rfl) _).trans hregs
  · exact ((hlog (Die.flVersion · j) (fun _ _ _ _ _ => rfl) _).trans (Die.flVersion_setPhase j 0)).trans hversion

/-! ## A page of CAPTURE -/

theorem Die.capturePage_poisoned {s : Nat} (h : d.protPoisoned j s = true) : d.EndsWith (d.capturePage j s es) 2 (d.flPhase j) j := by
  have hend : d.capturePage j s es = ((d.undoDelta j).setSlotState j d.sg.slot 0).sgEnd 2 := if_pos h
  have keeps {α : Type} (g : Die → α) (h : ∀ (d : Die) f x y, g { d with flash := f, changed := x, sg := y } = g d) :
      g ((d.undoDelta j).setSlotState j d.sg.slot 0) = g d :=
    (Die.setSlotState_keeps g (fun d f => h d f d.changed d.sg) 0).trans (Die.undoDelta_keeps g (fun d x y => h d d.flash x y))
  rw [hend]
  exact Die.sgEnd_endsWith (keeps (Die.flPhase · j) (fun _ _ _ _ => rfl)) (keeps Die.mem (fun _ _ _ _ => rfl)) (keeps Die.regs (fun _ _ _ _ => rfl))

end Sys2Proof.Machine
end

section
/-!
PROOFS. The page that a CAPTURE copies, and the phases of securing (11 Table 11-2, R329-R333).
-/

namespace Sys2Proof.Machine

variable {d e : Die} {j n p : Nat} {es : List BurstErr}

/-! ## Reading a protected page -/

/-- One sheet of a protected page is read behind those before it. -/
def Die.protOne (j p : Nat) (es : List BurstErr) (acc : Die × List Byte) (t : Nat) : Die × List Byte :=
  match acc.1.protAddr j p t with
  | none => (acc.1, acc.2 ++ List.replicate 4096 0)
  | some a => ((acc.1.stackGet false a 4224 es).1, acc.2 ++ (acc.1.stackGet false a 4224 es).2.1.take 4096)

theorem Die.protRead_eq : d.protRead j p es = (List.range 16).foldl (Die.protOne j p es) (d, []) := rfl

theorem Die.protOne_stkOnly (acc : Die × List Byte) (t : Nat) : Die.StkOnly acc.1 (Die.protOne j p es acc t).1 := by
  unfold Die.protOne
  split
  · exact Die.StkOnly.refl _
  · exact Die.StkOnly.pair (.stackGet acc.1 _ _ _ _) _

theorem Die.mem_of_pair {β γ : Type} {x : Die × β} (h : x.1.mem = d.mem) (y : γ) : (x.1, y).1.mem = d.mem := h

theorem Die.protOne_mem (acc : Die × List Byte) (t : Nat) : (Die.protOne j p es acc t).1.mem = acc.1.mem := by
  unfold Die.protOne
  split
  · rfl
  · exact Die.mem_of_pair (Die.stackGet_mem ..) _

theorem Die.protRead_stkOnly : Die.StkOnly d (d.protRead j p es).1 := by
  rw [Die.protRead_eq]
  exact Die.StkOnly.foldl Die.protOne_stkOnly _ (d, [])

theorem Die.protRead_mem : (d.protRead j p es).1.mem = d.mem := by
  rw [Die.protRead_eq]
  exact foldl_keeps (fun acc : Die × List Byte => acc.1.mem) Die.protOne_mem _ (d, [])

/-! ## The page is copied -/

theorem Die.protChanged_noteChanged : (d.noteChanged j p false).protChanged j p = false := by
  have hbit : (d.noteChanged j p false).changedBit j p = d.changedBit j p := Die.noteChanged_keeps (Die.changedBit · j p) (fun _ _ => rfl) p false
  unfold Die.protChanged
  rw [hbit]
  unfold Die.noteChanged
  cases d.changedBit j p with
  | none => rfl
  | some b => exact sget_sset_same d.changed false false b

/-- The page is in its slot, and counts as unchanged. -/
def Die.pageCopied (d : Die) (j p : Nat) (es : List BurstErr) : Die :=
  ((d.protRead j p es).1.slotWrite j d.sg.slot p (d.protRead j p es).2).noteChanged j p false

/-- The version before has no slot, or the page differs from it. -/
def Die.pageMoved (d : Die) (j p : Nat) : Bool := (d.slotOf j (d.flVersion j)).isNone || d.protChanged j p

theorem Die.capturePage_clean (h : d.protPoisoned j p = false) : d.capturePage j p es = (d.pageCopied j p es).updSg (fun g =>
    { g with index := p + 1, delta := if d.pageMoved j p then g.delta ++ [(j, p)] else g.delta }) :=
  if_neg (fun h' => Bool.false_ne_true (h.symm.trans h'))

theorem Die.slotWrite_keeps {α : Type} (g : Die → α) (h : ∀ (d : Die) f, g { d with flash := f } = g d) (bs : List Byte) :
    g (d.slotWrite j n p bs) = g d := by
  unfold Die.slotWrite Die.flashWrite
  exact (h _ _).trans (h d _)

theorem Die.pageCopied_keeps {α : Type} (g : Die → α) (h : ∀ (d : Die) k c r f x y, g { d with stk := k, ctr := c, resp := r, free := f, changed := x, flash := y } = g d) :
    g (d.pageCopied j p es) = g d := by
  have hread := Die.protRead_stkOnly.keeps_mem Die.protRead_mem (d := d) (e := (d.protRead j p es).1) g (fun d x k c r f => h d k c r f x d.flash)
  unfold Die.pageCopied
  generalize d.protRead j p es = x at hread ⊢
  refine (Die.noteChanged_keeps g (fun d x => h d d.stk d.ctr d.resp d.free x d.flash) p false).trans (Eq.trans ?_ hread)
  exact Die.slotWrite_keeps g (fun d y => h d d.stk d.ctr d.resp d.free d.changed y) x.2

end Sys2Proof.Machine

namespace Sys2Proof
open Machine

/-- Settles O52: each command by its phase, and the end of each operation. -/
theorem securing : Obligations.securing := by
  unfold Obligations.securing
  refine fun s j => ⟨fun ini had => ?commands, fun es hl => ⟨fun hb => ?idle, fun hb hj hs hr => ?running⟩⟩
  case commands =>
    intro r due atOnce v
    have keeps {α : Type} (g : Die → α) (h : ∀ (d : Die) m c x r, g { d with trS := m, carb := c, ctr := x, resp := r } = g d) : g r.d = g s.d :=
      s.reached_keeps ini pgFlash g h
    have hbusy : r.d.sg.busy = s.d.sg.busy := keeps (fun d => d.sg.busy) (fun _ _ _ _ _ => rfl)
    have hphase : r.d.flPhase j = s.d.flPhase j := keeps (Die.flPhase · j) (fun _ _ _ _ _ => rfl)
    have hdue : r.d.sg.due.toNat.testBit j = due := keeps (fun d => d.sg.due.toNat.testBit j) (fun _ _ _ _ _ => rfl)
    have hslot : r.d.freeSlot j = s.d.freeSlot j := keeps (Die.freeSlot · j) (fun _ _ _ _ _ => rfl)
    have hex (c : Instr) (op : Nat) (h : exec c s = s.cplD ini pgFlash 0x10C (fun d => d.sgCmd op j)) : exec c s = .next (r.onD (fun d => d.sgCmd op j)) :=
      exec_cplD_served (f := fun d => d.sgCmd op j) h had
    refine ⟨fun hb c hc => ?_, fun hb => ?_⟩
    · have bounce (c : Instr) (op : Nat) (h : exec c s = s.cplD ini pgFlash 0x10C (fun d => d.sgCmd op j)) : exec c s = .next (s.bounced ini pgFlash) :=
        (hex c op h).trans (State.next_onD_congr (g := Die.refuse) (Die.sgCmd_busy (by rw [hbusy, hb]) op))
      obtain rfl | rfl | rfl | rfl | rfl : c = .capture ini j ∨ c = .sgCommit ini j ∨ c = .abandon ini j ∨ c = .restore ini j ∨ c = .sgResume ini j := by
        simpa using hc
      exacts [bounce _ 1 rfl, bounce _ 4 rfl, bounce _ 5 rfl, bounce _ 9 rfl, bounce _ 10 rfl]
    · have hidle : r.d.sg.busy = false := by rw [hbusy, hb]
      have runs (c : Instr) (op : Nat) {f : Die → Die} (h : exec c s = s.cplD ini pgFlash 0x10C (fun d => d.sgCmd op j)) (hf : r.d.sgRun op j = f r.d) :
          exec c s = .next (r.onD f) :=
        (hex c op h).trans (State.next_onD_congr ((Die.sgCmd_idle hidle op).trans hf))
      have folds (p : Nat) (h : s.d.flPhase j ≠ p + 1) : (r.d.sgFold j p).sgStep = r.d.sgRefuse (2 + p) 1 := by
        rw [Die.sgFold_refused (by rw [hphase]; exact h)]
        exact Die.sgMove_idle (d := r.d.sgRefuse (2 + p) 1) hidle none
      have foldEx (c : Instr) (op : Nat) {f : Die → Die} (h : exec c s = s.cplD ini pgFlash 0x10C (fun d => (d.sgCmd op j).sgStep))
          (hf : (r.d.sgRun op j).sgStep = f r.d) : exec c s = .next (r.onD f) := by
        refine (exec_cplD_served (f := fun d => (d.sgCmd op j).sgStep) h had).trans (State.next_onD_congr ?_)
        rw [Die.sgCmd_idle hidle]
        exact hf
      refine ⟨fun h => ?outOfPhase, fun h0 hd hn => ?full, fun n h0 hd hn => ?begins, fun h => ?late0, fun h => ?late1, fun p hp h => ?fold,
        fun h => ?commit, fun h => ?lateCommit, ?abandon⟩
      case outOfPhase => exact runs _ 1 rfl (Die.sgCapture_refused (by rw [hphase, hdue]; exact h))
      case full => exact runs _ 1 rfl (Die.sgCapture_full (by rw [hphase, h0]) (by rw [hdue, hd]) (by rw [hslot, hn]))
      case begins =>
        have hbegun : r.d.sgRun 1 j = r.d.captured j n := Die.sgCapture_begins (by rw [hphase, h0]) (by rw [hdue, hd]) (by rw [hslot, hn])
        have hpaged : Die.Paged (r.d.captureBegun j n) (r.d.captured j n) := Die.captured_paged
        have hsg : (r.d.captured j n).sg = r.d.captureSg j n :=
          (hpaged.keeps (g := Die.sg) (fun _ _ _ _ _ _ _ _ _ => rfl)).trans Die.captureBegun_sg
        have hversion : (r.d.flVersion j + 1) % 65536 = (s.d.flVersion j + 1) % 65536 := keeps (fun d => (d.flVersion j + 1) % 65536) (fun _ _ _ _ _ => rfl)
        have hstate : (r.d.captured j n).slotState j n = 1 :=
          (hpaged.keeps (g := (Die.slotState · j n)) (fun _ _ _ _ _ _ _ _ _ => rfl)).trans (Die.captureBegun_state j.isLt)
        have hmem : (r.d.captured j n).mem = s.d.mem :=
          ((hpaged.keeps (g := Die.mem) (fun _ _ _ _ _ _ _ _ _ => rfl)).trans (Die.captureBegun_keeps Die.mem (fun _ _ _ _ => rfl))).trans
            (keeps Die.mem (fun _ _ _ _ _ => rfl))
        have hregs : (r.d.captured j n).regs = s.d.regs :=
          ((hpaged.keeps (g := Die.regs) (fun _ _ _ _ _ _ _ _ _ => rfl)).trans (Die.captureBegun_keeps Die.regs (fun _ _ _ _ => rfl))).trans
            (keeps Die.regs (fun _ _ _ _ _ => rfl))
        generalize r.d.captured j n = e at *
        refine ⟨r.onD (fun _ => e), runs _ 1 rfl hbegun, ?_, ?_, ?_, ?_, ?_, hstate, hmem, hregs, rfl⟩
        · exact congrArg Sg.busy hsg
        · exact congrArg Sg.op hsg
        · exact congrArg Sg.job hsg
        · exact congrArg Sg.slot hsg
        · exact (congrArg Sg.version hsg).trans hversion
      case late0 => exact foldEx _ 2 rfl (folds 0 h)
      case late1 => exact foldEx _ 3 rfl (folds 1 h)
      case fold =>
        have hv : fld (r.d.flW j 10) 31 16 = v := keeps (fun d => fld (d.flW j 10) 31 16) (fun _ _ _ _ _ => rfl)
        have hfold := congrArg Die.sgStep (Die.sgFold_begins (d := r.d) (j := j) (p := p) (by rw [hphase, h]))
        rw [hv] at hfold
        obtain rfl | rfl : p = 0 ∨ p = 1 := by omega
        · exact foldEx _ 2 rfl hfold
        · exact foldEx _ 3 rfl hfold
      case abandon => exact runs (.abandon ini j) 5 (f := fun d => d.sgBegin 5 j) rfl rfl
      case commit => exact runs _ 4 rfl (if_pos (by rw [hphase, h]))
      case lateCommit => exact runs _ 4 rfl (if_neg (by rw [hphase]; exact h))
  case idle =>
    exact (exec_at_live (f := fun d => d.operationEnd es) rfl hl).trans (State.next_onD_congr (g := id) (Die.operationEnd_idle hb))
  case running =>
    intro i done
    have hex {op : Nat} {e : Die} (hop : s.d.sg.op = op) (h : s.d.sgGoesOn es op j = e) : exec (.sgOperationEnd es) s = .next (s.onD (fun _ => e)) := by
      refine (exec_at_live (f := fun d => d.operationEnd es) rfl hl).trans (State.next_onD_congr ?_)
      rw [Die.operationEnd_goesOn hb hs hr, hop, hj, h]
    have ends {op phase : Nat} {e : Die} (hop : s.d.sg.op = op) (h : s.d.sgGoesOn es op j = e) (he : s.d.EndsWith e 0 phase j) :
        done (s.onD (fun _ => e)) phase := by
      obtain ⟨h1, h2, h3, h4, h5, h6⟩ := he
      exact ⟨hex hop h, h1, h2, h3, h4, h5, h6, rfl⟩
    have hpage (hw : s.d.captureWaits j = false) (hi : i < s.d.flP j) (hc : s.d.protClear j i = true) : s.d.sgGoesOn es 1 j = s.d.capturePage j i es :=
      (if_neg (by
        rw [hw]
        rintro (h | ⟨-, h⟩)
        · exact Bool.false_ne_true h
        · rw [show s.d.protClear j s.d.sg.index = true from hc] at h
          exact Bool.false_ne_true h)).trans (if_pos hi)
    refine ⟨fun hop hw => ?waits, fun hop hw hi hc hp => ?poisoned, fun hop hw hi hc hp => ?copies, fun hop hw hi => ?captured,
      fun hop => ?fold0, fun hop => ⟨_, ends hop rfl Die.endFold1_ends⟩, fun hop => ?commits, fun hop => ?abandons⟩
    case waits => exact (hex (e := s.d) hop (if_pos (.inl hw))).trans rfl
    case poisoned =>
      obtain ⟨h1, h2, h3, h4, h5, -⟩ := Die.capturePage_poisoned (es := es) hp
      exact ⟨_, hex hop (hpage hw hi hc), h1, h2, h3, h4, h5, rfl⟩
    case copies =>
      have hclean := hex hop ((hpage hw hi hc).trans (Die.capturePage_clean (es := es) hp))
      have keeps {α : Type} (g : Die → α) (h : ∀ (d : Die) k c r f x y, g { d with stk := k, ctr := c, resp := r, free := f, changed := x, flash := y } = g d) :
        g (s.d.pageCopied j i es) = g s.d := Die.pageCopied_keeps g h
      have hbusy := keeps (fun d => d.sg.busy) (fun _ _ _ _ _ _ _ => rfl)
      have hmem := keeps Die.mem (fun _ _ _ _ _ _ _ => rfl)
      have hregs := keeps Die.regs (fun _ _ _ _ _ _ _ => rfl)
      have hchanged : (s.d.pageCopied j i es).protChanged j i = false := Die.protChanged_noteChanged
      generalize s.d.pageCopied j i es = e at *
      exact ⟨_, hclean, hbusy.trans hb, rfl, hchanged, hmem, hregs, rfl⟩
    case captured =>
      refine ⟨_, ends (e := s.d.endCapture j) hop ((if_neg ?_).trans (if_neg (Nat.not_lt.2 hi))) Die.endCapture_ends⟩
      rw [hw]
      rintro (h | ⟨h, -⟩)
      · exact Bool.false_ne_true h
      · exact absurd h (Nat.not_lt.2 hi)
    case fold0 =>
      refine ⟨_, ends hop rfl Die.endFold0_ends, ?_⟩
      show (((s.d.setPhase j 2).clearDue j).sgEnd 0).sg.due.toNat.testBit j = false
      rw [Die.sgEnd_due, Die.clearDue_bit j.isLt]
    case commits => exact ⟨_, ends hop rfl Die.endCommit_ends.1, Die.endCommit_ends.2⟩
    case abandons => exact ⟨_, ends hop rfl Die.endAbandon_ends.1, Die.endAbandon_ends.2⟩

end Sys2Proof
end

section
/-!
PROOFS. A walk that zeroes ranges of stack memory, where the stack accepts the write (11 R332, 08 R242, R250).
-/

namespace Sys2Proof.Machine

variable {d e f u : Die} {j n p : Nat}

/-! ## What writes leave of the service of the stacks -/

/-- The stacks accept the same accesses: the same ranges are open, pinned, and waited for. -/
def Die.SameService (d e : Die) : Prop :=
  (∀ a n, e.rangeOpen a n = d.rangeOpen a n) ∧ (∀ a n, e.pinOverlap a n = d.pinOverlap a n) ∧ ∀ s b, e.burstBusy s b = d.burstBusy s b

theorem Die.SameService.refl (d : Die) : Die.SameService d d := ⟨fun _ _ => rfl, fun _ _ => rfl, fun _ _ => rfl⟩

theorem Die.SameService.trans (h : Die.SameService d e) (h' : Die.SameService e f) : Die.SameService d f :=
  ⟨fun a n => (h'.1 a n).trans (h.1 a n), fun a n => (h'.2.1 a n).trans (h.2.1 a n), fun s b => (h'.2.2 s b).trans (h.2.2 s b)⟩

theorem Die.SameService.of_served (h : Die.Served d e) : Die.SameService d e := ⟨h.rangeOpen, h.pinOverlap, h.burstBusy⟩

theorem Die.SameService.orderClear (h : Die.SameService d e) (a n : Nat) : e.orderClear a n = d.orderClear a n := by
  unfold Die.orderClear
  simp only [h.2.2]

/-- An access that waits behind another of its burst. -/
theorem Die.SameService.queueBurst {s : Nat} {r : Retry} (hb : d.burstBusy s r.burst = true) : Die.SameService d (d.queueBurst s r) := by
  have hstack (t : Nat) : (d.queueBurst s r).stack t = if t = s then { d.stack s with retries := (d.stack s).retries ++ [r] } else d.stack t := by
    unfold Die.queueBurst
    rw [Die.stack_updStk]
  have hclosed (t : Nat) : (d.queueBurst s r).stackClosed t = d.stackClosed t := by
    unfold Die.stackClosed
    rw [hstack]
    split
    next h =>
      subst h
      rfl
    next => rfl
  refine ⟨fun a n => ?_, fun a n => rfl, fun t b => ?_⟩
  · unfold Die.rangeOpen
    rw [hclosed, hclosed]
  · unfold Die.burstBusy at hb ⊢
    rw [hstack]
    split
    next h =>
      subst h
      rw [List.any_append]
      by_cases hr : r.burst = b
      · rw [← hr, hb]
        rfl
      · simp [hr]
    next => rfl

/-! ## Zeroes written -/

/-- `e` is `d` with zeros stored at some of the addresses in `P`. -/
def Die.Zeroes (P : Nat → Prop) (d e : Die) : Prop :=
  Die.StkOnly d e ∧ Die.SameService d e ∧ ∀ x, e.byte x = d.byte x ∨ (P x ∧ e.byte x = 0)

namespace Die.Zeroes

variable {P Q : Nat → Prop}

theorem refl (d : Die) : Die.Zeroes P d d := ⟨.refl d, .refl d, fun _ => .inl rfl⟩

theorem trans (h : Die.Zeroes P d e) (h' : Die.Zeroes P e f) : Die.Zeroes P d f := by
  obtain ⟨hk, hs, hb⟩ := h
  obtain ⟨hk', hs', hb'⟩ := h'
  refine ⟨hk.trans hk', hs.trans hs', fun x => ?_⟩
  obtain h | h := hb' x
  · rw [h]
    exact hb x
  · exact .inr h

theorem mono (h : Die.Zeroes P d e) (hPQ : ∀ x, P x → Q x) : Die.Zeroes Q d e :=
  ⟨h.1, h.2.1, fun x => (h.2.2 x).imp_right (fun hx => ⟨hPQ x hx.1, hx.2⟩)⟩

/-- A zero stays a zero. -/
theorem stays (h : Die.Zeroes P d e) {x : Nat} (hx : d.byte x = 0) : e.byte x = 0 := by
  obtain h | h := h.2.2 x
  · rw [h, hx]
  · exact h.2

theorem foldl {β : Type} {g : Die → β → Die} (h : ∀ d b, Die.Zeroes P d (g d b)) (l : List β) (d : Die) : Die.Zeroes P d (l.foldl g d) := by
  induction l generalizing d with
  | nil => exact refl d
  | cons b t ih => exact (h d b).trans (ih _)

end Die.Zeroes

/-- The addresses of a range. -/
def inRange (a n x : Nat) : Prop := a ≤ x ∧ x < a + n

theorem getD_zeros (n i : Nat) : (List.replicate n (0 : Byte)).getD i 0 = 0 := by
  rw [List.getD_eq_getElem?_getD, List.getElem?_replicate]
  split <;> rfl

/-- Zeros for a part of a burst are stored, refused, or wait. -/
theorem Die.Zeroes.putPiece (d : Die) {a n : Nat} (h : a % 64 + n ≤ 64) : Die.Zeroes (inRange a n) d (d.putPiece a (List.replicate n 0)).1 := by
  obtain ⟨bs, hbs⟩ : ∃ bs : List Byte, bs = List.replicate n 0 := ⟨_, rfl⟩
  have hlen : bs.length = n := by rw [hbs, List.length_replicate]
  have hkeep : Die.StkOnly d (d.putPiece a bs).1 := .putPiece ..
  rw [← hbs]
  cases ho : d.rangeOpen a bs.length with
  | false =>
    have hput : (d.putPiece a bs).1 = d := by
      unfold Die.putPiece
      rw [ho]
      rfl
    rw [hput]
    exact .refl d
  | true =>
    cases hp : d.pinOverlap a bs.length with
    | some c =>
      have hput : (d.putPiece a bs).1 = d.pinRefused c a := by
        unfold Die.putPiece
        rw [ho, hp]
        rfl
      rw [hput]
      exact ⟨.pinRefused .., ⟨fun _ _ => rfl, fun _ _ => rfl, fun _ _ => rfl⟩, fun _ => .inl rfl⟩
    | none =>
      cases hb : d.burstBusy (a / 2 ^ 36) (a % 2 ^ 36 / 64) with
      | false =>
        obtain ⟨-, hs, hbytes⟩ := Die.putPiece_spec ho hp hb (by rw [hlen]; exact h)
        refine ⟨hkeep, .of_served hs, fun x => ?_⟩
        rw [hbytes, hlen, hbs, getD_zeros]
        split
        next hx => exact .inr ⟨hx, rfl⟩
        next => exact .inl rfl
      | true =>
        obtain ⟨q, hq, hput⟩ : ∃ q : Retry, q.burst = a % 2 ^ 36 / 64 ∧ (d.putPiece a bs).1 = d.queueBurst (a / 2 ^ 36) q := by
          unfold Die.putPiece Die.arrive
          rw [ho, hp]
          dsimp only
          rw [hb, if_neg (by decide), if_pos rfl]
          exact ⟨_, rfl, rfl⟩
        rw [hput] at hkeep ⊢
        exact ⟨hkeep, .queueBurst (by rw [hq, hb]), fun _ => .inl rfl⟩

/-- A write of zeros stores nothing but zeros, in its range. -/
theorem Die.Zeroes.stackPut (d : Die) (a n : Nat) : Die.Zeroes (inRange a n) d (d.stackPut a (List.replicate n 0)).1 := by
  have hput : d.stackPut a (List.replicate n 0) = (burstsOf a n).foldl (Die.putOne a (List.replicate n 0)) (d, true) := by
    unfold Die.stackPut
    rw [List.length_replicate]
    rfl
  have hburst (b : Nat) (hb : b ∈ burstsOf a n) : b % 64 = 0 ∧ a < b + 64 := by
    unfold burstsOf at hb
    split at hb
    · cases hb
    · obtain ⟨i, -, rfl⟩ := List.mem_map.1 hb
      omega
  have one (x : Die × Bool) (b : Nat) (hb : b % 64 = 0 ∧ a < b + 64) :
      Die.Zeroes (inRange a n) x.1 (Die.putOne a (List.replicate n 0) x b).1 := by
    obtain ⟨lo, hlo⟩ : ∃ lo, lo = max a b := ⟨_, rfl⟩
    have hpiece : ((List.replicate n (0 : Byte)).drop (lo - a)).take (b + 64 - lo) = List.replicate (min (b + 64 - lo) (n - (lo - a))) 0 := by
      rw [List.drop_replicate, List.take_replicate]
    have hone : (Die.putOne a (List.replicate n 0) x b).1 = (x.1.putPiece lo (List.replicate (min (b + 64 - lo) (n - (lo - a))) 0)).1 := by
      rw [← hpiece, hlo]
      rfl
    rw [hone]
    refine (Die.Zeroes.putPiece x.1 (by omega)).mono (fun y hy => ?_)
    unfold inRange at hy ⊢
    omega
  have go (l : List Nat) (hl : ∀ b ∈ l, b % 64 = 0 ∧ a < b + 64) (x : Die × Bool) :
      Die.Zeroes (inRange a n) x.1 (l.foldl (Die.putOne a (List.replicate n 0)) x).1 := by
    induction l generalizing x with
    | nil => exact .refl _
    | cons b t ih =>
      exact (one x b (hl b List.mem_cons_self)).trans (ih (fun c hc => hl c (List.mem_cons_of_mem _ hc)) _)
  rw [hput]
  exact go _ hburst (d, true)

/-! ## The pieces of a holder -/

/-- Piece `p` of a stripe, of `n` bytes, is set to zero. -/
def Die.zeroPiece (j n p : Nat) (d : Die) (s : Nat) : Die := (d.stackPut (d.pieceAddr j s p) (List.replicate n 0)).1

/-- The addresses of the held pieces of the shards in `l`. -/
def Die.pieceRange (d : Die) (j n : Nat) (l : List Nat) (x : Nat) : Prop :=
  ∃ p ∈ l, ∃ k ∈ d.heldStripes j p, inRange (d.pieceAddr j k p) n x

/-- The held pieces of the shards in `l` are set to zero. -/
def Die.zeroHeld (d : Die) (j n : Nat) (l : List Nat) : Die := l.foldl (fun d p => (d.heldStripes j p).foldl (Die.zeroPiece j n p) d) d

theorem Die.zeroPieces_zeroes {P : Nat → Prop} (hu : Die.StkOnly u d) (l : List Nat) (hl : ∀ k ∈ l, ∀ x, inRange (u.pieceAddr j k p) n x → P x) :
    Die.Zeroes P d (l.foldl (Die.zeroPiece j n p) d) := by
  induction l generalizing d with
  | nil => exact .refl d
  | cons k t ih =>
    have haddr : d.pieceAddr j k p = u.pieceAddr j k p := hu.keeps (Die.pieceAddr · j k p) (fun _ _ _ _ _ _ _ => rfl)
    have hone : Die.Zeroes P d (Die.zeroPiece j n p d k) :=
      (Die.Zeroes.stackPut d (d.pieceAddr j k p) n).mono (fun x hx => hl k List.mem_cons_self x (by rw [← haddr]; exact hx))
    exact hone.trans (ih (hu.trans hone.1) (fun k hk => hl k (List.mem_cons_of_mem _ hk)))

/-- A write of zeros that the stack accepts. -/
theorem Die.zeroPiece_zero {k x : Nat} (hs : Die.SameService u d) (ha : d.pieceAddr j k p = u.pieceAddr j k p) (hn : n ≤ 2 ^ 36)
    (ho : u.rangeOpen (u.pieceAddr j k p) n = true) (hp : u.pinOverlap (u.pieceAddr j k p) n = none)
    (hc : u.orderClear (u.pieceAddr j k p) n = true) (hx : inRange (u.pieceAddr j k p) n x) : (Die.zeroPiece j n p d k).byte x = 0 := by
  obtain ⟨a, haa⟩ : ∃ a, a = u.pieceAddr j k p := ⟨_, rfl⟩
  obtain ⟨bs, hbs⟩ : ∃ bs : List Byte, bs = List.replicate n 0 := ⟨_, rfl⟩
  have hlen : bs.length = n := by rw [hbs, List.length_replicate]
  rw [← haa] at ho hp hc hx ha
  unfold Die.zeroPiece
  obtain ⟨-, -, hb⟩ := Die.stackPut_spec (d := d) (a := a) (bs := bs) (by rw [hlen]; exact hn) (by rw [hlen, hs.1, ho]) (by rw [hlen, hs.2.1, hp])
    (by rw [hlen, hs.orderClear, hc])
  rw [ha, ← hbs, hb, hlen, if_pos (show a ≤ x ∧ x < a + n from hx), hbs, getD_zeros]

section Walk
variable {k x : Nat} (hn : n ≤ 2 ^ 36) (ho : u.rangeOpen (u.pieceAddr j k p) n = true) (hp : u.pinOverlap (u.pieceAddr j k p) n = none)
  (hc : u.orderClear (u.pieceAddr j k p) n = true) (hx : inRange (u.pieceAddr j k p) n x)
include hn ho hp hc hx

theorem Die.zeroPieces_zero (hu : Die.StkOnly u d) (hs : Die.SameService u d) (l : List Nat) (hk : k ∈ l) :
    (l.foldl (Die.zeroPiece j n p) d).byte x = 0 := by
  induction l generalizing d with
  | nil => cases hk
  | cons c t ih =>
    have hone : Die.Zeroes (fun _ => True) d (Die.zeroPiece j n p d c) := (Die.Zeroes.stackPut ..).mono (fun _ _ => trivial)
    obtain rfl | hk := List.mem_cons.1 hk
    · have haddr : d.pieceAddr j k p = u.pieceAddr j k p := hu.keeps (Die.pieceAddr · j k p) (fun _ _ _ _ _ _ _ => rfl)
      exact (Die.zeroPieces_zeroes (P := fun _ => True) (hu.trans hone.1) t (fun _ _ _ _ => trivial)).stays
        (Die.zeroPiece_zero hs haddr hn ho hp hc hx)
    · exact ih (hu.trans hone.1) (hs.trans hone.2.1) hk

theorem Die.zeroHeld_zero (hu : Die.StkOnly u d) (hs : Die.SameService u d) (l : List Nat) (hl : p ∈ l) (hk : k ∈ u.heldStripes j p) :
    (d.zeroHeld j n l).byte x = 0 := by
  induction l generalizing d with
  | nil => cases hl
  | cons q t ih =>
    obtain ⟨e, he⟩ : ∃ e : Die, e = (d.heldStripes j q).foldl (Die.zeroPiece j n q) d := ⟨_, rfl⟩
    have hone : Die.Zeroes (fun _ => True) d e := by
      rw [he]
      exact Die.zeroPieces_zeroes hu _ (fun _ _ _ _ => trivial)
    have hwalk : d.zeroHeld j n (q :: t) = e.zeroHeld j n t := by
      rw [he]
      rfl
    rw [hwalk]
    obtain rfl | hl := List.mem_cons.1 hl
    · have hheld : d.heldStripes j p = u.heldStripes j p := hu.keeps (Die.heldStripes · j p) (fun _ _ _ _ _ _ _ => rfl)
      have hzero : e.byte x = 0 := by
        rw [he]
        exact Die.zeroPieces_zero hn ho hp hc hx hu hs _ (by rw [hheld]; exact hk)
      have hrest : Die.Zeroes (fun _ => True) e (e.zeroHeld j n t) :=
        Die.Zeroes.foldl (fun d q => Die.zeroPieces_zeroes (.refl d) _ (fun _ _ _ _ => trivial)) t e
      exact hrest.stays hzero
    · exact ih (hu.trans hone.1) (hs.trans hone.2.1) hl

end Walk

theorem Die.zeroHeld_zeroes (hu : Die.StkOnly u d) (l m : List Nat) (hl : ∀ p ∈ l, p ∈ m) :
    Die.Zeroes (u.pieceRange j n m) d (d.zeroHeld j n l) := by
  induction l generalizing d with
  | nil => exact .refl d
  | cons q t ih =>
    have hheld : d.heldStripes j q = u.heldStripes j q := hu.keeps (Die.heldStripes · j q) (fun _ _ _ _ _ _ _ => rfl)
    have hone : Die.Zeroes (u.pieceRange j n m) d ((d.heldStripes j q).foldl (Die.zeroPiece j n q) d) :=
      Die.zeroPieces_zeroes hu _ (fun k hk x hx => ⟨q, hl q List.mem_cons_self, k, by rw [← hheld]; exact hk, hx⟩)
    exact hone.trans (ih (hu.trans hone.1) (fun p hp => hl p (List.mem_cons_of_mem _ hp)))

end Sys2Proof.Machine
end

section
/-!
PROOFS. Serving, filling, rebuilding, restoring, resuming, and the flash (11 R332-R343).
-/

namespace Sys2Proof.Machine

variable {d e : Die} {j n : Nat} {es : List BurstErr}

/-! ## Commands of the controller when none runs -/

theorem exec_sgCmd {s : State} {ini op : Nat} {c : Instr} (h : exec c s = s.cplD ini pgFlash 0x10C (fun d => d.sgCmd op j))
    (had : s.admits ini pgFlash 0x10C = true) (hb : s.d.sg.busy = false) {f : Die → Die}
    (hf : (s.reached ini pgFlash).d.sgRun op j = f (s.reached ini pgFlash).d) : exec c s = .next ((s.reached ini pgFlash).onD f) :=
  (exec_cplD_served (f := fun d => d.sgCmd op j) h had).trans (State.next_onD_congr ((Die.sgCmd_idle
    ((s.reached_keeps ini pgFlash (fun d => d.sg.busy) (fun _ _ _ _ _ => rfl)).trans hb) op).trans hf))

theorem exec_sgCmd_step {s : State} {ini op : Nat} {c : Instr} (h : exec c s = s.cplD ini pgFlash 0x10C (fun d => (d.sgCmd op j).sgStep))
    (had : s.admits ini pgFlash 0x10C = true) (hb : s.d.sg.busy = false) {f : Die → Die}
    (hf : ((s.reached ini pgFlash).d.sgRun op j).sgStep = f (s.reached ini pgFlash).d) : exec c s = .next ((s.reached ini pgFlash).onD f) :=
  (exec_cplD_served (f := fun d => (d.sgCmd op j).sgStep) h had).trans (State.next_onD_congr ((congrArg Die.sgStep (Die.sgCmd_idle
    ((s.reached_keeps ini pgFlash (fun d => d.sg.busy) (fun _ _ _ _ _ => rfl)).trans hb) op)).trans hf))

theorem Die.sgStep_refused (hb : d.sg.busy = false) (op res : Nat) : (d.sgRefuse op res).sgStep = d.sgRefuse op res :=
  Die.sgMove_idle (d := d.sgRefuse op res) hb none

/-! ## SERVE -/

/-- The stripes that a SERVE sends. -/
def Die.servedStripes (d : Die) (j : Nat) : List Nat :=
  (List.range (d.flP j)).filter (fun k => decide (fld (d.reg pgFlash 0x114) 22 0 ≤ k) && decide (k ≤ fld (d.reg pgFlash 0x118) 22 0))

theorem Die.sgServe_member (h : bit (d.reg pgFlash 0x110) 5 = false) : d.sgServe j = (d.sgBegin 6 j).updSg (fun g => { g with
    sends := (d.servedStripes j).map (fun k => (fld (d.reg pgFlash 0x11C) 11 0, k, 2)), index := fld (d.reg pgFlash 0x114) 22 0 }) := by
  have hh : (d.sgBegin 6 j).sg.holder = false := h
  unfold Die.sgServe
  dsimp only
  rw [hh]
  simp only [Bool.false_eq_true, if_false]
  rw [← List.map_eq_flatMap]
  rfl

/-! ## FILL -/

/-- The pieces that a command's argument selects. -/
def Die.namedPieces (d : Die) : List Nat := [0, 1].filter (fun p => (fld (d.reg pgFlash 0x110) 7 6).testBit p)

theorem Die.sgFill_refused (h : (eraseList (fld (d.reg pgFlash 0x110) 15 8)).contains (d.flRank j) = false ∨
    d.namedPieces.length < (eraseList (fld (d.reg pgFlash 0x110) 15 8)).length) : d.sgFill j = d.sgRefuse 7 8 :=
  if_pos (h.imp_left (fun h => by rw [h]; rfl))

section Fill
variable (h : (eraseList (fld (d.reg pgFlash 0x110) 15 8)).contains (d.flRank j) = true)
  (hl : (eraseList (fld (d.reg pgFlash 0x110) 15 8)).length ≤ d.namedPieces.length)
include h hl

theorem Die.sgFill_full (hn : d.fillSlot j (fld (d.reg pgFlash 0x110) 31 16) = none) : d.sgFill j = d.sgRefuse 7 9 := by
  unfold Die.sgFill
  dsimp only
  rw [if_neg (by rw [h]; rintro (h' | h'); exacts [Bool.false_ne_true h', absurd h' (Nat.not_lt.2 hl)]), hn]

/-- The slot of a FILL is marked as being written. -/
theorem Die.sgFill_begins (hn : d.fillSlot j (fld (d.reg pgFlash 0x110) 31 16) = some n) :
    ∃ l, d.sgFill j = ((d.sgBegin 7 j).writeHeader j n ((d.sgBegin 7 j).newHeader j (fld (d.reg pgFlash 0x110) 31 16))).updSg
      (fun g => { g with recvs := l, slot := n, index := fld (d.reg pgFlash 0x114) 22 0 }) := by
  unfold Die.sgFill
  dsimp only
  rw [if_neg (by rw [h]; rintro (h' | h'); exacts [Bool.false_ne_true h', absurd h' (Nat.not_lt.2 hl)]), hn]
  exact ⟨_, rfl⟩

end Fill

/-! ## REBUILD -/

theorem Die.sgRebuild_eq : ∃ l, d.sgRebuild j = ((d.sgBegin 8 j).zeroHeld j 65536 d.namedPieces).updSg (fun g => { g with recvs := l }) := by
  delta Die.sgRebuild Die.zeroHeld Die.zeroPiece
  exact ⟨_, Eq.refl _⟩

/-! ## RESTORE and RESUME -/

/-- A protected page is in the Vat. -/
def Die.pageInVat (d : Die) (j p : Nat) : Bool :=
  match d.objKey j (fld (d.flW j 1) 22 0 + p) with
  | none => false
  | some k => match d.obj k with
    | some o => decide (o.st ≠ .absent)
    | none => false

/-- RESTORE from a slot. -/
def Die.restoreFrom (d : Die) (j : Nat) (o : Option Nat) : Die :=
  match o with
  | none => d.sgRefuse 9 6
  | some n => if d.slotOk j n then (d.sgBegin 9 j).updSg (fun s => { s with slot := n }) else (d.flashCrc j 0).sgRefuse 9 3

theorem Die.sgRestore_eq : d.sgRestore j =
    if d.jobPlaced j then d.sgRefuse 9 1
    else if (List.range (d.flP j)).any (d.pageInVat j) then d.sgRefuse 9 5
    else d.restoreFrom j (d.slotOf j (fld (d.reg pgFlash 0x110) 31 16)) := rfl

theorem Die.pageInVat_absent (h : ∀ o ∈ d.objs, ∀ x, o.2 = some x → x.st = .absent) (p : Nat) : d.pageInVat j p = false := by
  unfold Die.pageInVat
  split
  · rfl
  · split
    next k _ _ o ho =>
      have hmem : (k, some o) ∈ d.objs := mem_of_sget ho (by intro h'; cases h')
      exact decide_eq_false (not_not_intro (h _ hmem o rfl))
    · rfl

theorem Die.sgRestore_from (hp : d.jobPlaced j = false) (h : ∀ o ∈ d.objs, ∀ x, o.2 = some x → x.st = .absent) :
    d.sgRestore j = d.restoreFrom j (d.slotOf j (fld (d.reg pgFlash 0x110) 31 16)) := by
  have hnone : ¬ (List.range (d.flP j)).any (d.pageInVat j) = true := by
    rw [List.any_eq_true]
    rintro ⟨p, -, hv⟩
    rw [Die.pageInVat_absent h] at hv
    cases hv
  rw [Die.sgRestore_eq, hp, if_neg Bool.false_ne_true, if_neg hnone]

/-! ## The flash -/

theorem Die.flashMedia_log {α : Type} (g : Die → α) (h : ∀ (d : Die) f l x, g { d with free := f, flLog := l, sg := x } = g d) (kind v w : Nat) :
    g ((d.updSg (fun s => { s with err := s.err ||| 1 })).sgLog kind j v w) = g d := h d _ _ _

/-- The media failure is recorded. -/
def Die.mediaLogged (d : Die) : Die := (d.updSg (fun s => { s with err := s.err ||| 1 })).sgLog 6 d.sg.job d.sg.version d.sg.index

theorem Die.mediaLogged_keeps {α : Type} (g : Die → α) (h : ∀ (d : Die) f l x, g { d with free := f, flLog := l, sg := x } = g d) :
    g d.mediaLogged = g d := Die.flashMedia_log g h ..

theorem Die.mediaLogged_err : d.mediaLogged.sg.err = d.sg.err ||| 1 := rfl

theorem Die.flashMedia_xfer (h : d.sg.xfer.isSome = true) : d.flashMedia true = d.mediaLogged.updSg (fun s => { s with xfer := none }) := by
  unfold Die.flashMedia
  dsimp only
  rw [if_pos rfl, h, if_pos rfl]
  rfl

theorem Die.flashMedia_none (h : d.sg.xfer = none) : d.flashMedia true = d := by
  unfold Die.flashMedia
  dsimp only
  rw [if_pos rfl, h, if_neg (by decide)]

theorem Die.flashMedia_op (hb : d.sg.busy = true) (ho : d.sg.op ∈ [2, 3, 6, 7, 8, 9, 10]) : d.flashMedia false = d.mediaLogged.sgEnd 10 := by
  have hin : [1, 2, 3, 6, 7, 8, 9, 10].contains d.sg.op = true := List.contains_iff_mem.2 (List.mem_cons_of_mem _ ho)
  have hne : d.sg.op ≠ 1 := fun h => by
    rw [h] at ho
    exact absurd ho (by decide)
  unfold Die.flashMedia
  dsimp only
  rw [if_neg Bool.false_ne_true, if_pos ⟨hb, hin⟩, if_neg hne]
  rfl

theorem Die.sgEnd_err (r : Nat) : (d.sgEnd r).sg.err = d.sg.err := foldl_keeps (fun d : Die => d.sg.err) (fun _ _ => rfl) (List.range 16) d

/-! ## A transfer -/

/-- A transfer that is under way ends. -/
def Die.xferMade (d : Die) (toFlash : Bool) (a u n : Nat) (es : List BurstErr) : Die :=
  ((List.range n).foldl (fun d i => d.flUnit toFlash (a + i * 65536) (u + i) es) d).updSg (fun s => { s with xfer := none })

theorem Die.flXferDone_none (h : d.sg.xfer = none) : d.flXferDone es = d := by
  unfold Die.flXferDone
  rw [h]

theorem Die.flXferDone_eq {t : Bool} {a u : Nat} (h : d.sg.xfer = some (t, a, u, n)) :
    d.flXferDone es = if t ∧ !d.orderClear a (n * 65536) then d else d.xferMade t a u n es := by
  unfold Die.flXferDone
  rw [h]
  rfl

theorem Die.xferMade_one (t : Bool) (a u : Nat) : d.xferMade t a u 1 es = (d.flUnit t a u es).updSg (fun s => { s with xfer := none }) := by
  unfold Die.xferMade
  rw [List.range_one, List.foldl_cons, List.foldl_nil, Nat.zero_mul, Nat.add_zero, Nat.add_zero]

theorem Die.stackGet_clean {a : Nat} (h : d.rangeOpen a n = true) (host : Bool) :
    d.stackGet host a n [] = (d.readBursts (burstsOf a n), d.bytes a n, true) := by
  unfold Die.stackGet
  rw [h, if_pos rfl]
  rfl

/-- A unit of `n` bytes goes from stack memory to flash. -/
theorem Die.flashWrite_sget {a : Nat} {bs : List Byte} (x : Nat) :
    sget (d.flashWrite a bs).flash 0 x = if a ≤ x ∧ x < a + bs.length then bs.getD (x - a) 0 else sget d.flash 0 x := sget_ssetList ..

theorem Die.flashBytes_getD {a i : Nat} (hi : i < n) : (d.flashBytes a n).getD i 0 = sget d.flash 0 (a + i) := by
  simp [Die.flashBytes, sgetList, List.getD_eq_getElem?_getD, hi]

theorem Die.length_flashBytes (a n : Nat) : (d.flashBytes a n).length = n := by
  simp [Die.flashBytes, sgetList]

theorem Die.flUnit_toFlash {m : Nat} (u : Nat) (h : d.rangeOpen m 65536 = true) :
    d.flUnit true m u [] = (d.readBursts (burstsOf m 65536)).flashWrite (u * 65536) (d.bytes m 65536) := by
  unfold Die.flUnit
  rw [if_pos rfl, Die.stackGet_clean h]

theorem Die.flUnit_toStack (m u : Nat) : d.flUnit false m u es = (d.stackPut m (d.flashBytes (u * 65536) 65536)).1 := by
  unfold Die.flUnit
  rw [if_neg Bool.false_ne_true]

/-- A range of stack memory is copied to flash; memory and registers stay. -/
theorem Die.rangeToFlash (m b n : Nat) :
    (∀ x, sget ((d.readBursts (burstsOf m n)).flashWrite b (d.bytes m n)).flash 0 x =
      if b ≤ x ∧ x < b + n then d.byte (m + (x - b)) else sget d.flash 0 x) ∧
      ((d.readBursts (burstsOf m n)).flashWrite b (d.bytes m n)).mem = d.mem ∧
      ((d.readBursts (burstsOf m n)).flashWrite b (d.bytes m n)).regs = d.regs := by
  have hs : Die.Served d (d.readBursts (burstsOf m n)) := .readBursts d _
  have hm : (d.readBursts (burstsOf m n)).mem = d.mem := Die.readBursts_mem _
  generalize d.readBursts (burstsOf m n) = e at hs hm
  refine ⟨fun x => ?_, hm, hs.keeps Die.regs (fun _ _ _ _ _ _ => rfl)⟩
  rw [Die.flashWrite_sget, Die.length_bytes]
  split
  next hx => exact Die.getD_bytes (by omega)
  next => rw [hs.keeps Die.flash (fun _ _ _ _ _ _ => rfl)]

/-- A range of stack memory that accepts the write takes the bytes of a range of flash; flash and registers stay. -/
theorem Die.rangeToStack {m n : Nat} (b : Nat) (hn : n ≤ 2 ^ 36) (ho : d.rangeOpen m n = true) (hp : d.pinOverlap m n = none)
    (hc : d.orderClear m n = true) :
    (∀ x, (d.stackPut m (d.flashBytes b n)).1.byte x = if m ≤ x ∧ x < m + n then sget d.flash 0 (b + (x - m)) else d.byte x) ∧
      (d.stackPut m (d.flashBytes b n)).1.flash = d.flash ∧ (d.stackPut m (d.flashBytes b n)).1.regs = d.regs := by
  have hlen := Die.length_flashBytes (d := d) b n
  obtain ⟨-, hs, hb⟩ := Die.stackPut_spec (d := d) (a := m) (bs := d.flashBytes b n) (by rw [hlen]; exact hn) (by rw [hlen, ho]) (by rw [hlen, hp])
    (by rw [hlen, hc])
  refine ⟨fun x => ?_, hs.keeps Die.flash (fun _ _ _ _ _ _ => rfl), hs.keeps Die.regs (fun _ _ _ _ _ _ => rfl)⟩
  rw [hb, hlen]
  split
  next hx => exact Die.flashBytes_getD (by omega)
  next => rfl

/-! ## A transfer of one unit -/

theorem Die.unitToFlash {m : Nat} (u : Nat) (h : d.rangeOpen m 65536 = true) :
    (∀ x, sget (d.flUnit true m u []).flash 0 x = if u * 65536 ≤ x ∧ x < u * 65536 + 65536 then d.byte (m + (x - u * 65536)) else sget d.flash 0 x) ∧
      (d.flUnit true m u []).mem = d.mem ∧ (d.flUnit true m u []).regs = d.regs := by
  rw [Die.flUnit_toFlash u h]
  exact Die.rangeToFlash m (u * 65536) 65536

theorem Die.unitToStack {m : Nat} (u : Nat) (ho : d.rangeOpen m 65536 = true) (hp : d.pinOverlap m 65536 = none) (hc : d.orderClear m 65536 = true) :
    (∀ x, (d.flUnit false m u es).byte x = if m ≤ x ∧ x < m + 65536 then sget d.flash 0 (u * 65536 + (x - m)) else d.byte x) ∧
      (d.flUnit false m u es).flash = d.flash ∧ (d.flUnit false m u es).regs = d.regs := by
  rw [Die.flUnit_toStack]
  exact Die.rangeToStack (u * 65536) (by decide) ho hp hc

theorem Die.flXferDone_toFlash {m u : Nat} (h : d.sg.xfer = some (true, m, u, 1)) (hc : d.orderClear m 65536 = true) :
    d.flXferDone es = (d.flUnit true m u es).updSg (fun s => { s with xfer := none }) := by
  rw [Die.flXferDone_eq h, Nat.one_mul, hc, if_neg (fun h => Bool.false_ne_true h.2), Die.xferMade_one]

theorem Die.flXferDone_toStack {m u : Nat} (h : d.sg.xfer = some (false, m, u, 1)) :
    d.flXferDone es = (d.flUnit false m u es).updSg (fun s => { s with xfer := none }) := by
  rw [Die.flXferDone_eq h, if_neg (fun h => Bool.false_ne_true h.1), Die.xferMade_one]

end Sys2Proof.Machine
end

section
/-!
PROOFS. Recovery and the flash transfers (11 R332, R334-R343).
-/

namespace Sys2Proof.Machine

variable {d e : Die} {j : Nat} {es : List BurstErr}

/-- The held pieces that the stack accepts are zero after a REBUILD has begun, and no other byte has changed. -/
theorem Die.sgRebuild_ends : ∃ e : Die, d.sgRebuild j = e ∧ e.sg.busy = true ∧ e.sg.op = 8 ∧
    (∀ x, (∀ p k, p ∈ d.namedPieces → k ∈ d.heldStripes j p → x < d.pieceAddr j k p ∨ d.pieceAddr j k p + 65536 ≤ x) → e.byte x = d.byte x) ∧
    ∀ x p k, p ∈ d.namedPieces → k ∈ d.heldStripes j p → d.rangeOpen (d.pieceAddr j k p) 65536 = true →
      d.pinOverlap (d.pieceAddr j k p) 65536 = none → d.orderClear (d.pieceAddr j k p) 65536 = true →
      d.pieceAddr j k p ≤ x → x < d.pieceAddr j k p + 65536 → e.byte x = 0 := by
  obtain ⟨l, hl⟩ := Die.sgRebuild_eq (d := d) (j := j)
  have hmono : (65536 : Nat) ≤ 2 ^ 36 := by decide
  generalize (65536 : Nat) = n at hl hmono ⊢
  obtain ⟨u, hu⟩ : ∃ u : Die, u = d.sgBegin 8 j := ⟨_, rfl⟩
  have hbyte (x : Nat) : u.byte x = d.byte x := by rw [hu]; rfl
  have haddr (k p : Nat) : u.pieceAddr j k p = d.pieceAddr j k p := by rw [hu]; rfl
  have hheld (p : Nat) : u.heldStripes j p = d.heldStripes j p := by rw [hu]; rfl
  have hbusy : u.sg.busy = true := by rw [hu]; rfl
  have hop : u.sg.op = 8 := by rw [hu]; rfl
  have hopen (a n : Nat) : u.rangeOpen a n = d.rangeOpen a n := by rw [hu]; rfl
  have hpin (a n : Nat) : u.pinOverlap a n = d.pinOverlap a n := by rw [hu]; rfl
  have hclear (a n : Nat) : u.orderClear a n = d.orderClear a n := by rw [hu]; rfl
  rw [← hu] at hl
  have hz : Die.Zeroes (u.pieceRange j n d.namedPieces) u (u.zeroHeld j n d.namedPieces) :=
    Die.zeroHeld_zeroes (.refl u) d.namedPieces d.namedPieces (fun _ h => h)
  have hsg : (u.zeroHeld j n d.namedPieces).sg = u.sg := hz.1.keeps Die.sg (fun _ _ _ _ _ _ _ => rfl)
  have hzero (x p k : Nat) (hp : p ∈ d.namedPieces) (hk : k ∈ d.heldStripes j p) (ho : d.rangeOpen (d.pieceAddr j k p) n = true)
      (hn : d.pinOverlap (d.pieceAddr j k p) n = none) (hc : d.orderClear (d.pieceAddr j k p) n = true) (hx : inRange (d.pieceAddr j k p) n x) :
      (u.zeroHeld j n d.namedPieces).byte x = 0 :=
    Die.zeroHeld_zero (u := u) (p := p) (k := k) hmono (by rw [haddr, hopen, ho]) (by rw [haddr, hpin, hn]) (by rw [haddr, hclear, hc])
      (by rw [haddr]; exact hx) (.refl u) (.refl u) _ hp (by rw [hheld]; exact hk)
  have hold (x : Nat) (h : ∀ p k, p ∈ d.namedPieces → k ∈ d.heldStripes j p → x < d.pieceAddr j k p ∨ d.pieceAddr j k p + n ≤ x) :
      (u.zeroHeld j n d.namedPieces).byte x = d.byte x := by
    obtain hx | ⟨⟨p, hp, k, hk, hlo, hhi⟩, -⟩ := hz.2.2 x
    · rw [hx, hbyte]
    · rw [hheld] at hk
      rw [haddr] at hlo hhi
      have := h p k hp hk
      omega
  generalize u.zeroHeld j n d.namedPieces = w at hl hsg hzero hold
  refine ⟨_, hl, ?_, ?_, hold, fun x p k hp hk ho hn hc hlo hhi => hzero x p k hp hk ho hn hc ⟨hlo, hhi⟩⟩
  · exact (congrArg Sg.busy hsg).trans hbusy
  · exact (congrArg Sg.op hsg).trans hop

end Sys2Proof.Machine

namespace Sys2Proof
open Machine

/-- Settles O53: what each command begins, what each transfer copies, and what a media failure records. -/
theorem recoveryAndFlash : Obligations.recovery_and_flash := by
  unfold Obligations.recovery_and_flash
  refine fun s j => ⟨fun ini had hb => ?commands, fun ini v had hv hx hn => ?starts, fun hl => ⟨fun hx => ?none,
    fun m u n es hx hc => ?waits, fun m u hx ho hc => ?toFlash, fun m u es hx hm ho hp hc => ?toStack, fun hx => ?media, fun hbusy hop => ?mediaOp⟩⟩
  case commands =>
    intro r a last first comm range atOnce
    have keeps {α : Type} (g : Die → α) (h : ∀ (d : Die) m c x r, g { d with trS := m, carb := c, ctr := x, resp := r } = g d) : g r.d = g s.d :=
      s.reached_keeps ini pgFlash g h
    have hidle : r.d.sg.busy = false := (keeps (fun d => d.sg.busy) (fun _ _ _ _ _ => rfl)).trans hb
    have ha : r.d.reg pgFlash 0x110 = a := keeps (Die.reg · pgFlash 0x110) (fun _ _ _ _ _ => rfl)
    have hrank : r.d.flRank j = s.d.flRank j := keeps (Die.flRank · j) (fun _ _ _ _ _ => rfl)
    have hpieces : r.d.namedPieces = [0, 1].filter (fun p => (fld a 7 6).testBit p) := keeps Die.namedPieces (fun _ _ _ _ _ => rfl)
    have hslot (v : Nat) : r.d.slotOf j v = s.d.slotOf j v := keeps (Die.slotOf · j v) (fun _ _ _ _ _ => rfl)
    have hplaced : r.d.jobPlaced j = s.d.jobPlaced j := keeps (Die.jobPlaced · j) (fun _ _ _ _ _ => rfl)
    have hobjs : r.d.objs = s.d.objs := keeps Die.objs (fun _ _ _ _ _ => rfl)
    have hgen : r.d.skimGen = s.d.skimGen := keeps Die.skimGen (fun _ _ _ _ _ => rfl)
    have hskim : (r.d.skimJ j).st = (s.d.skimJ j).st := keeps (fun d => (d.skimJ j).st) (fun _ _ _ _ _ => rfl)
    have hmem : r.d.mem = s.d.mem := keeps Die.mem (fun _ _ _ _ _ => rfl)
    have fillRefused (h : (eraseList (fld a 15 8)).contains (s.d.flRank j) = false ∨
        ([0, 1].filter (fun p => (fld a 7 6).testBit p)).length < (eraseList (fld a 15 8)).length) : atOnce (.fill ini j) 7 8 := by
      refine exec_sgCmd_step (op := 7) rfl had hb ?_
      show (r.d.sgFill j).sgStep = r.d.sgRefuse 7 8
      rw [Die.sgFill_refused (by rw [ha, hrank, hpieces]; exact h), Die.sgStep_refused hidle]
    have restoreFrom (h : s.d.jobPlaced j = false) (habs : ∀ o ∈ s.d.objs, ∀ x, o.2 = some x → x.st = .absent) {o : Option Nat}
        (ho : s.d.slotOf j (fld a 31 16) = o) : r.d.sgRestore j = r.d.restoreFrom j o := by
      rw [Die.sgRestore_from (by rw [hplaced, h]) (by rw [hobjs]; exact habs), ha, hslot, ho]
    have resumeRefused (h : r.d.sgResume j = r.d.sgRefuse 10 1) : atOnce (.sgResume ini j) 10 1 := exec_sgCmd (op := 10) rfl had hb h
    refine ⟨fun h => ?serve, fun h => fillRefused (.inl h), fun h => fillRefused (.inr h), fun n hr hl hn => ?fills, fun hr hl hn => ?full, ?rebuild,
      fun h => ?placed, fun h habs => ⟨fun hv => ?unknown, fun n hv hbad => ?bad, fun n hv hok => ?restores⟩, fun h => ?skimOn, fun g hg h => ?genOn,
      fun h hg => ?resumes⟩
    case serve =>
      have hstripes : r.d.servedStripes j = range := keeps (Die.servedStripes · j) (fun _ _ _ _ _ => rfl)
      have hcomm : fld (r.d.reg pgFlash 0x11C) 11 0 = comm := keeps (fun d => fld (d.reg pgFlash 0x11C) 11 0) (fun _ _ _ _ _ => rfl)
      have hfirst : fld (r.d.reg pgFlash 0x114) 22 0 = first := keeps (fun d => fld (d.reg pgFlash 0x114) 22 0) (fun _ _ _ _ _ => rfl)
      have hserve := congrArg Die.sgStep (Die.sgServe_member (d := r.d) (j := j) (by rw [ha]; exact h))
      rw [hstripes, hcomm, hfirst] at hserve
      exact exec_sgCmd_step (op := 6) rfl had hb hserve
    case fills =>
      have hfill : r.d.fillSlot j (fld (r.d.reg pgFlash 0x110) 31 16) = some n := by
        rw [ha]
        exact (keeps (Die.fillSlot · j (fld a 31 16)) (fun _ _ _ _ _ => rfl)).trans hn
      obtain ⟨l, hbegins⟩ := Die.sgFill_begins (by rw [ha, hrank]; exact hr) (by rw [ha, hpieces]; exact hl) hfill
      have hfirst : fld (r.d.reg pgFlash 0x114) 22 0 = first := keeps (fun d => fld (d.reg pgFlash 0x114) 22 0) (fun _ _ _ _ _ => rfl)
      obtain ⟨h, hh⟩ : ∃ h, h = (r.d.sgBegin 7 j).newHeader j (fld (r.d.reg pgFlash 0x110) 31 16) := ⟨_, rfl⟩
      have hsg := Die.writeHeader_keeps (d := r.d.sgBegin 7 j) (j := j) (n := n) Die.sg (fun _ _ => rfl) h
      have hwmem := Die.writeHeader_keeps (d := r.d.sgBegin 7 j) (j := j) (n := n) Die.mem (fun _ _ => rfl) h
      have hstate : ((r.d.sgBegin 7 j).writeHeader j n h).slotState j n = 1 := by
        rw [Die.slotState_writeHeader, hh, Die.newHeader_state j.isLt]
      rw [← hh] at hbegins
      generalize (r.d.sgBegin 7 j).writeHeader j n h = w at hbegins hsg hwmem hstate
      exact ⟨_, exec_sgCmd_step (op := 7) rfl had hb (f := fun _ => Die.sgStep _) (congrArg Die.sgStep hbegins), congrArg Sg.busy hsg,
        congrArg Sg.op hsg, rfl, hfirst, hwmem.trans hmem, hstate⟩
    case full =>
      have hfill : r.d.fillSlot j (fld (r.d.reg pgFlash 0x110) 31 16) = none := by
        rw [ha]
        exact (keeps (Die.fillSlot · j (fld a 31 16)) (fun _ _ _ _ _ => rfl)).trans hn
      refine exec_sgCmd_step (op := 7) rfl had hb ?_
      show (r.d.sgFill j).sgStep = r.d.sgRefuse 7 9
      rw [Die.sgFill_full (by rw [ha, hrank]; exact hr) (by rw [ha, hpieces]; exact hl) hfill, Die.sgStep_refused hidle]
    case rebuild =>
      obtain ⟨e, he, h1, h2, h3, h4⟩ := Die.sgRebuild_ends (d := r.d) (j := j)
      have haddr (k p : Nat) : r.d.pieceAddr j k p = s.d.pieceAddr j k p := keeps (Die.pieceAddr · j k p) (fun _ _ _ _ _ => rfl)
      have hheld (p : Nat) : r.d.heldStripes j p = s.d.heldStripes j p := keeps (Die.heldStripes · j p) (fun _ _ _ _ _ => rfl)
      have hbyte (x : Nat) : r.d.byte x = s.d.byte x := keeps (Die.byte · x) (fun _ _ _ _ _ => rfl)
      have hopen (a n : Nat) : r.d.rangeOpen a n = s.d.rangeOpen a n := keeps (Die.rangeOpen · a n) (fun _ _ _ _ _ => rfl)
      have hpin (a n : Nat) : r.d.pinOverlap a n = s.d.pinOverlap a n := keeps (Die.pinOverlap · a n) (fun _ _ _ _ _ => rfl)
      have hclear (a n : Nat) : r.d.orderClear a n = s.d.orderClear a n := keeps (Die.orderClear · a n) (fun _ _ _ _ _ => rfl)
      have hnamed (p : Nat) : p ∈ r.d.namedPieces ↔ p < 2 ∧ (fld a 7 6).testBit p = true := by
        rw [hpieces, List.mem_filter, List.mem_cons, List.mem_singleton]
        exact and_congr_left (fun _ => by omega)
      refine ⟨e, exec_sgCmd_step (op := 8) rfl had hb (f := fun _ => e.sgStep) (congrArg Die.sgStep he), h1, h2, fun x hx => ?_,
        fun x p k hp ht hk ho hn hc hlo hhi => ?_⟩
      · rw [h3 x (fun p k hp hk => by
          rw [haddr]
          exact hx p k ((hnamed p).1 hp).1 ((hnamed p).1 hp).2 (by rw [← hheld]; exact hk)), hbyte]
      · exact h4 x p k ((hnamed p).2 ⟨hp, ht⟩) (by rw [hheld]; exact hk) (by rw [haddr, hopen, ho]) (by rw [haddr, hpin, hn])
          (by rw [haddr, hclear, hc]) (by rw [haddr]; exact hlo) (by rw [haddr]; exact hhi)
    case placed =>
      refine exec_sgCmd (op := 9) rfl had hb ?_
      show r.d.sgRestore j = r.d.sgRefuse 9 1
      rw [Die.sgRestore_eq, hplaced, h, if_pos rfl]
    case unknown => exact exec_sgCmd (op := 9) rfl had hb (restoreFrom h habs hv)
    case bad =>
      have hok : r.d.slotOk j n = false := (keeps (Die.slotOk · j n) (fun _ _ _ _ _ => rfl)).trans hbad
      exact exec_sgCmd (op := 9) rfl had hb ((restoreFrom h habs hv).trans (if_neg (by rw [hok]; exact Bool.false_ne_true)))
    case restores =>
      have hok : r.d.slotOk j n = true := (keeps (Die.slotOk · j n) (fun _ _ _ _ _ => rfl)).trans hok
      exact exec_sgCmd (op := 9) rfl had hb ((restoreFrom h habs hv).trans (if_pos hok))
    case skimOn => exact resumeRefused (if_pos (.inl (by rw [hskim]; exact h)))
    case genOn =>
      refine resumeRefused (if_pos (.inr (List.any_eq_true.2 ⟨g, List.mem_range.2 hg, ?_⟩)))
      rw [hgen]
      exact h
    case resumes =>
      refine exec_sgCmd (op := 10) rfl had hb (if_neg ?_)
      rw [hskim, hgen, List.any_eq_true]
      rintro (h' | ⟨g, hg', h'⟩)
      · exact h' h
      · exact Bool.false_ne_true ((hg g (List.mem_range.1 hg')).symm.trans h')
  case starts =>
    have keeps {α : Type} (g : Die → α) (h : ∀ (d : Die) m c x r, g { d with trS := m, carb := c, ctr := x, resp := r } = g d) :
      g (s.reached ini pgFlash).d = g s.d := s.reached_keeps ini pgFlash g h
    have hxfer : (s.reached ini pgFlash).d.sg.xfer = none := (keeps (fun d => d.sg.xfer) (fun _ _ _ _ _ => rfl)).trans hx
    have hreg (o : Nat) : (s.reached ini pgFlash).d.reg pgFlash o = s.d.reg pgFlash o := keeps (Die.reg · pgFlash o) (fun _ _ _ _ _ => rfl)
    refine (exec_cplD_served (f := fun d => d.flXfer v) rfl had).trans (State.next_onD_congr ?_)
    unfold Die.flXfer
    dsimp only
    rw [if_neg (by
      rw [hv, hxfer]
      rintro (h | h | h)
      · exact Bool.false_ne_true h.symm
      · exact Bool.false_ne_true h
      · exact hn h), hreg, hreg, hreg]
  case none =>
    refine ⟨fun es => ?_, ?_⟩
    · exact (exec_at_live (f := fun d => d.flXferDone es) rfl hl).trans (State.next_onD_congr (g := id) (Die.flXferDone_none hx))
    · exact (exec_at_live (f := fun d => d.flashMedia true) rfl hl).trans (State.next_onD_congr (g := id) (Die.flashMedia_none hx))
  case waits =>
    refine (exec_at_live (f := fun d => d.flXferDone es) rfl hl).trans (State.next_onD_congr (g := id) ?_)
    rw [Die.flXferDone_eq hx, hc, if_pos ⟨rfl, rfl⟩]
    rfl
  case toFlash =>
    obtain ⟨hf, hmem, hregs⟩ := Die.unitToFlash u ho
    have hdone := Die.flXferDone_toFlash (es := []) hx hc
    obtain ⟨e, he⟩ : ∃ e : Die, e = s.d.flUnit true m u [] := ⟨_, rfl⟩
    rw [← he] at hdone hf hmem hregs
    exact ⟨s.onD (fun _ => e.updSg (fun x => { x with xfer := none })), (exec_at_live (f := fun d => d.flXferDone []) rfl hl).trans
      (State.next_onD_congr hdone), rfl, hf, hmem, hregs, rfl⟩
  case toStack =>
    obtain ⟨hbytes, hflash, hregs⟩ := Die.unitToStack (es := es) u ho hp hc
    have hdone := Die.flXferDone_toStack (es := es) hx
    obtain ⟨e, he⟩ : ∃ e : Die, e = s.d.flUnit false m u es := ⟨_, rfl⟩
    rw [← he] at hdone hbytes hflash hregs
    exact ⟨s.onD (fun _ => e.updSg (fun x => { x with xfer := none })), (exec_at_live (f := fun d => d.flXferDone es) rfl hl).trans
      (State.next_onD_congr hdone), rfl, hbytes, hflash, hregs, rfl⟩
  case media =>
    obtain ⟨e, he⟩ : ∃ e : Die, e = s.d.mediaLogged := ⟨_, rfl⟩
    have keeps {α : Type} (g : Die → α) (h : ∀ (d : Die) f l x, g { d with free := f, flLog := l, sg := x } = g d) : g e = g s.d := by
      rw [he]
      exact Die.mediaLogged_keeps g h
    have herr : e.sg.err = s.d.sg.err ||| 1 := by rw [he, Die.mediaLogged_err]
    have hmedia := Die.flashMedia_xfer hx
    rw [← he] at hmedia
    exact ⟨s.onD (fun _ => e.updSg (fun x => { x with xfer := none })), (exec_at_live (f := fun d => d.flashMedia true) rfl hl).trans
      (State.next_onD_congr hmedia), rfl, herr, keeps Die.flash (fun _ _ _ _ => rfl), keeps Die.mem (fun _ _ _ _ => rfl),
      keeps Die.regs (fun _ _ _ _ => rfl), rfl⟩
  case mediaOp =>
    obtain ⟨e, he⟩ : ∃ e : Die, e = s.d.mediaLogged := ⟨_, rfl⟩
    have keeps {α : Type} (g : Die → α) (h : ∀ (d : Die) f l x, g { d with free := f, flLog := l, sg := x } = g d) : g e = g s.d := by
      rw [he]
      exact Die.mediaLogged_keeps g h
    have herr : e.sg.err = s.d.sg.err ||| 1 := by rw [he, Die.mediaLogged_err]
    have hmedia := Die.flashMedia_op hbusy hop
    rw [← he] at hmedia
    exact ⟨s.onD (fun _ => e.sgEnd 10), (exec_at_live (f := fun d => d.flashMedia false) rfl hl).trans (State.next_onD_congr hmedia), rfl, rfl,
      (Die.sgEnd_err 10).trans herr, (Die.sgEnd_keeps Die.flash (fun _ _ _ => rfl) 10).trans (keeps Die.flash (fun _ _ _ _ => rfl)),
      (Die.sgEnd_keeps Die.mem (fun _ _ _ => rfl) 10).trans (keeps Die.mem (fun _ _ _ _ => rfl)), rfl⟩

end Sys2Proof
end
